-- ==== Sys2Proof/Word.lean ====
section
/-! DEFINITION. The words of the machine: bytes and 64-bit register contents. -/

namespace Sys2Proof.Machine

/-- A byte. -/
abbrev Byte := BitVec 8

/-- A register's contents; a 32-bit register uses the low half (R4). -/
abbrev Word := BitVec 64

end Sys2Proof.Machine
end

