-- ==== Sys2Proof/Machine/Types.lean ====
section
/-! DEFINITION. The data of commands, of packets and of what the device sends: plain types, named as the manual names
the things. -/

namespace Sys2Proof.Machine

/-- Master identity (R12, R288). -/
abbrev Mid := Fin 4096

/-- MID of the Governor cores (R288). -/
def midGov : Nat := 0x023

/-- A byte string. -/
abbrev Bytes := List Byte

/-! ## Brake events -/

/-- What a Brake record carries beside its source (R362). -/
inductive Detail
  | unit
  | dropped (addr tag src dst cls tc : Nat)
  | unknown (addr tag src dst cls tc : Nat)
  | mcMiss (ports group : Nat)
  | access (addr mid : Nat) (write : Bool) (size : Nat)
  | poison (hla cause : Nat)
  | reset (src : Nat)
  | software (data : Nat)
  | lost
deriving DecidableEq, Repr

/-- An event on its way to Brake: source and detail. -/
structure Ev where
  src : Nat
  det : Detail
deriving DecidableEq, Repr

/-! ## Register access -/

/-- A holding register of one master (R5): its 32 bits, the register they belong to, and whether they are a captured
high half (true) or a written low half (false). -/
structure Hold where
  val : Nat
  addr : Nat
  captured : Bool
deriving DecidableEq, Repr

/-- A write on its way to a register: the writer, the bits it presents and which bits those are, and its size in bytes. -/
structure Wr where
  mid : Nat
  v : Word
  mask : Word
  size : Nat
deriving DecidableEq, Repr

/-- The blocks that have a lock bit (R8). -/
inductive LockBlk
  | img | swc | rte | coh | pool | hep | hop (e : Fin 16) | spd | mpu (m : Fin 29) | mgt | slc (n : Fin 32) | brk | fan
  | pmc | crp
deriving DecidableEq, Repr

/-! ## Flash -/

/-- A flash operation in progress: op 1 erase, 2 program, 3 read (R57). -/
structure FlashOp where
  op : Nat
  addr : Nat
  spd : Nat
  len : Nat
deriving DecidableEq, Repr

/-! ## Packets (R80, R111, R114) -/

/-- Message classes: those of the OFL header (R80), and CXL.cache, which OFL does not carry. -/
inductive Cls
  | ioReq | ioCpl | mReq | mRwD | sNdr | sDrs | biSnp | biRsp | mctp | cacheD2H | cacheH2D
deriving DecidableEq, Repr, Inhabited

/-- What a message asks or answers. -/
inductive Op
  -- CXL.io and PCIe requests: memory, configuration, messages, I/O, atomics
  | memRd | memWr | cfgRd | cfgWr | msg | ioRd | ioWr | atomic
  -- completions, without and with data
  | cpl | cplD
  -- CXL.mem M2S Req and RwD
  | mRd | mRdData | mInv | mInvNT | mSpecRd | mClnEvct | mWr | mWrPtl | biConflict
  -- CXL.mem S2M NDR and DRS
  | cmp | cmpS | cmpE | biConflictAck | memData
  -- back-invalidation
  | snpCur | snpData | snpInv | rspI | rspS | rspE
  -- CXL.cache and MCTP
  | cacheMsg | mctpMsg
deriving DecidableEq, Repr, Inhabited

/-- Where a packet entered the device, or the unit that made it. -/
inductive Src
  | port (p : Nat)
  | hop (e c : Nat)
  | bridge (k : Nat)
  | fn (f : Nat)
  | core (k : Nat)
  | pool (ch : Nat)
  | dir (slice : Nat)
  | none
deriving DecidableEq, Repr

/-- A packet. Fields that a message does not have are 0. -/
structure Pkt where
  cls : Cls
  op : Op
  /-- TC field of a TLP -/
  tc : Nat := 0
  tag : Nat := 0
  /-- address: host physical address, bus address, device address, or bus/device/function and register of configuration -/
  addr : Nat := 0
  /-- requester ID -/
  rid : Nat := 0
  ldid : Nat := 0xFFFF
  spid : Option Nat := none
  dpid : Option Nat := none
  /-- bytes of the packet in the buffer, header included -/
  len : Nat := 64
  data : Bytes := []
  poison : Bool := false
  /-- completion status: 0 successful, 1 Unsupported Request, 2 configuration request retry, 4 Completer Abort -/
  status : Nat := 0
  /-- congestion mark (R122) -/
  mark : Bool := false
  devload : Nat := 0
  /-- read re-issued after a link loss (R109) -/
  ri : Bool := false
  /-- MetaValue of CXL.mem: 0 invalid, 2 any, 3 shared -/
  mval : Nat := 0
  /-- where it entered -/
  src : Src := .none
  /-- buffer bank of each cell, once written -/
  banks : List Nat := []
  /-- VCS and window version under which it was translated (R167) -/
  win : Option (Nat × Nat) := none
  /-- binding on which the request was issued (R161) -/
  bind : Option Nat := none
  /-- class assigned at the Headrace (R114) -/
  qc : Nat := 0
  /-- Translated request (R164) -/
  trans : Bool := false
  /-- marked at the shutdown of its function (R243) -/
  dead : Bool := false
  /-- bytes that a read asks for -/
  rlen : Nat := 64
  /-- bytes of the line that a partial write carries -/
  be : BitVec 64 := BitVec.allOnes 64
deriving DecidableEq, Repr, Inhabited

/-- CLASS code of R80; CXL.cache has none and is not carried. -/
def Cls.code : Cls → Nat
  | .ioReq => 1 | .ioCpl => 2 | .mReq => 3 | .mRwD => 4 | .sNdr => 5 | .sDrs => 6 | .biSnp => 7 | .biRsp => 8
  | .mctp => 0x10 | .cacheD2H => 0 | .cacheH2D => 0

/-- The class of a CLASS code; none for a reserved code and for a pad. -/
def Cls.ofCode (n : Nat) : Option Cls :=
  if n = 1 then some .ioReq else if n = 2 then some .ioCpl else if n = 3 then some .mReq else if n = 4 then some .mRwD
  else if n = 5 then some .sNdr else if n = 6 then some .sDrs else if n = 7 then some .biSnp
  else if n = 8 then some .biRsp else if n = 0x10 then some .mctp else none

/-- Reads of R107. -/
def Pkt.isRead (p : Pkt) : Bool :=
  p.op == .mRd || p.op == .mRdData || p.op == .memRd || p.op == .cfgRd

/-- Requests of R107: M2S Req and RwD, CXL.io and PCIe requests. -/
def Pkt.isReq (p : Pkt) : Bool := p.cls == .ioReq || p.cls == .mReq || p.cls == .mRwD

/-- Posted CXL.io and PCIe requests. -/
def Pkt.posted (p : Pkt) : Bool := p.cls == .ioReq && (p.op == .memWr || p.op == .msg)

/-! ## OFL -/

/-- A payload flit held in the replay buffer (R85, R87). -/
structure HeldFlit where
  seq : Nat
  cmark : Nat
  slotStart : Nat
  payload : Bytes
deriving DecidableEq, Repr

/-- A message held by the sender: the flit that holds its last slot, once there is one (R107). -/
structure HeldMsg where
  pkt : Pkt
  last : Option Nat
deriving DecidableEq, Repr

/-- A message whose slots are arriving: channel, slots still to come, bytes so far, and whether it is delivered. -/
structure RxPart where
  vc : Nat
  left : Nat
  bytes : Bytes
  mark : Bool
deriving DecidableEq, Repr

/-- A lane command of a control flit (R94). -/
inductive Ctl
  | req (id set cause : Nat)
  | acc (id : Nat)
  | rej (id set cause : Nat)
  | ready (id : Nat)
deriving DecidableEq, Repr

/-- A lane request in progress (R98): of this end (mine) or of the partner, its set, cause, sends, whether an add has
been accepted, and which LANE_READYs have passed. -/
structure LaneChg where
  mine : Bool
  id : Nat
  set : Nat
  cause : Nat
  sends : Nat := 1
  accepted : Bool := false
  readySent : Bool := false
  readyGot : Bool := false
deriving DecidableEq, Repr

/-- What the partner and the lanes show while an OFL port trains (R95, R96). -/
structure OflPeer where
  serial : Nat
  port : Nat
  rate : Nat
  width : Nat
  good : Nat
  credits : List Nat
  /-- lanes on which this end detects a receiver -/
  detected : Nat
  /-- highest rate whose equalisation succeeds; 0 for none -/
  okRate : Nat
deriving DecidableEq, Repr

/-- What a PCIe/CXL partner and the lanes show while a port trains (R63 to R66). -/
structure PciePeer where
  rate : Nat
  width : Nat
  okRate : Nat
  cxl68 : Bool
  cxl256 : Bool
  flit : Bool
  l0p : Bool
  l11 : Bool
  bypass : Bool
  noEq : Bool
deriving DecidableEq, Repr

/-- Why a port waits before it enters Detect again. -/
inductive PortWait
  | none | retry | oflDown | failover | block | blockGroup | refclk
deriving DecidableEq, Repr

/-- Why an OFL lane is declared failed (R99). -/
inductive LaneCause | lock | check | correction
deriving DecidableEq, Repr

/-- LANE_CHECK: sent by this end, or received with the lanes that failed two or more of its four blocks. -/
inductive LaneCheck
  | send
  | recv (bad : BitVec 16)
deriving DecidableEq, Repr

/-! ## Millrace -/

/-- A packet presented to the Headrace: its ingress, the egress point where the requester's own unit has decoded it, and
the OFL credits (port, channel, number) that it holds (R92, R119). -/
structure Present where
  src : Src
  pkt : Pkt
  dst : Option Nat
  cred : Option (Nat × Nat × Nat)
deriving DecidableEq, Repr

/-- An entry of an egress queue: the packet, the multicast packet it is a copy of, and whether the copy has been lost and
is skipped at the head (R127). -/
structure QEnt where
  pkt : Pkt
  mc : Option Nat := none
  lost : Bool := false
deriving DecidableEq, Repr

/-- A multicast packet in the buffer: references held, ports that missed, group (R126, R128). -/
structure McPkt where
  id : Nat
  pkt : Pkt
  refs : Nat
  missed : Nat
  group : Nat
deriving DecidableEq, Repr

/-- A packet that the Leat writer has yet to copy to the chain of a queue (R136); mc as in QEnt. -/
structure Staged where
  queue : Nat
  pkt : Pkt
  mc : Option Nat
deriving DecidableEq, Repr

/-- What the Leat reader finds: an intact packet, one with an uncorrectable cell, or a bad page header (R140). -/
inductive LeatRead
  | ok
  /-- an uncorrectable cell at a pool byte offset -/
  | badCell (line : Nat)
  | badHeader
deriving DecidableEq, Repr

/-! ## Routing -/

/-- An initial binding of the image (R42) that has not been carried out yet. -/
structure InitBind where
  vcs : Nat
  vppb : Nat
  port : Nat
  ld : Nat
deriving DecidableEq, Repr

/-- A bind that waits for the device's answer to an LD allocation (R159): table entry, its contents, and whether the
command register waits for it. -/
structure BindOp where
  n : Nat
  entry : Word
  cmd : Bool
deriving DecidableEq, Repr

/-- An unbind in progress (R161): entry, whether the host has yet to act, the result code so far. -/
structure UnbindOp where
  n : Nat
  managed : Bool
  result : Nat
deriving DecidableEq, Repr

/-- A restore in progress (R172): port, whether commanded, and the flits (port, sequence number) that were held when it
began on the hops that its flows leave. -/
structure RestoreOp where
  port : Nat
  cmd : Bool
  held : List (Nat × Nat)
  /-- packets that were in the egress queues of those hops: (hop, source, tag) -/
  pkts : List (Nat × Src × Nat)
deriving DecidableEq, Repr

/-- An entry of the re-issue tracker (R109). -/
structure Tracked where
  src : Src
  tag : Nat
  answered : Bool
  port : Nat
deriving DecidableEq, Repr

/-- A request decoded towards a local downstream port or a binding and not completed yet: its binding where it has one,
the egress port, the request (R161). -/
structure Sent where
  bind : Option Nat
  port : Nat
  q : Pkt
deriving DecidableEq, Repr

/-- Advanced Error Reporting of a function or a switch port (R236, R237): status, mask and severity bits at the places of
PCI Express, the First Error Pointer and the header held. -/
structure Aer where
  unc : Nat := 0
  uncMask : Nat := 0x04400000
  uncSev : Nat := 0x00462030
  cor : Nat := 0
  corMask : Nat := 0x4000
  first : Option Nat := none
  hdr : Option Pkt := none
deriving DecidableEq, Repr

/-- A vPPB (R154 to R163, R238 to R241). Ranges are (first, last), empty where last < first. -/
structure VppbX where
  /-- Command: bit 1 Memory Space, bit 2 Bus Master Enable -/
  cmd : Nat := 0
  sec : Nat := 0
  sub : Nat := 0
  io : Nat × Nat := (1, 0)
  mem : Nat × Nat := (1, 0)
  pref : Nat × Nat := (1, 0)
  /-- ACS Control: bit 0 Source Validation, 2 P2P Request Redirect, 3 P2P Completion Redirect, 5 Egress Control,
  6 Direct Translated P2P -/
  acs : Nat := 0
  /-- ACS Egress Control vector: bit k blocks vPPB k -/
  egress : Nat := 0
  linkDisable : Bool := false
  busReset : Bool := false
  /-- Power Controller Control: off -/
  powerOff : Bool := false
  hotplug : Bool := false
  aspmL1 : Bool := false
  present : Bool := false
  linkUp : Bool := false
  presentChanged : Bool := false
  linkChanged : Bool := false
  attention : Bool := false
  powerFault : Bool := false
  aer : Aer := {}
  /-- DPC Trigger Enable: 0 disabled, 1 fatal, 2 fatal or non-fatal -/
  dpcEnable : Nat := 0
  /-- DPC Completion Control: Completer Abort -/
  dpcAbort : Bool := false
  contained : Bool := false
  /-- DPC Trigger Reason: 0 unmasked uncorrectable error, 3 software trigger; Error Source ID -/
  dpcReason : Nat := 0
  dpcSource : Nat := 0
deriving DecidableEq, Repr

/-- The upstream switch port of a VCS. -/
structure UspX where
  cmd : Nat := 0
  prim : Nat := 0
  sec : Nat := 0
  sub : Nat := 0
  io : Nat × Nat := (1, 0)
  mem : Nat × Nat := (1, 0)
  pref : Nat × Nat := (1, 0)
  aspmL1 : Bool := false
  aer : Aer := {}
  /-- decoders whose last commit was refused: Error Not Committed (R156) -/
  decErr : Nat := 0
deriving DecidableEq, Repr

/-- The latched window range of a VCS (R166): first entry, entries per half. -/
structure WinLatch where
  first : Nat := 0
  count : Nat := 0
deriving DecidableEq, Repr

/-- A committed decoder of a pool LD (R208). -/
structure LdDec where
  base : Nat
  size : Nat
  dpa : Nat
  lock : Bool
deriving DecidableEq, Repr

/-- What a host writes into an HDM decoder before it sets Commit (R146, R156); base and size in 256 MiB units. dpa is the
decoder's DPA base, for a pool LD. -/
structure DecSet where
  base : Nat
  size : Nat
  iw : Nat
  ig : Nat
  targets : List Nat
  lock : Bool
  dpa : Nat
deriving DecidableEq, Repr

/-- Whose decoder is committed. -/
inductive DecOwner
  | vcs (v : Fin 64)
  | pool (n : Fin 64)
deriving DecidableEq, Repr

/-- An entry of the extent table (R209). -/
structure Ext where
  state : Nat := 0
  shared : Bool := false
  owner : Nat := 0
  dpaIndex : Nat := 0
deriving DecidableEq, Repr

/-- Why a function is shut down (R242, R247). -/
inductive ShutCause | flr | bme | vf | bus | gone
deriving DecidableEq, Repr

/-- A host's read through a window that waits for the pool (R231): its number, bytes skipped at the start of the line, length,
requester ID, tag, traffic class and address of the host's request. -/
structure WinRd where
  id : Nat
  skip : Nat
  len : Nat
  rid : Nat
  tag : Nat
  tc : Nat
  addr : Nat
deriving DecidableEq, Repr

/-- A host-facing function (R225 to R252). -/
structure FnX where
  /-- Command: bit 1 Memory Space, bit 2 Bus Master Enable -/
  cmd : Nat := 0
  bar0 : Nat := 0
  bar2 : Nat := 0
  devCtl : Nat := 0x2810
  devCtl2 : Nat := 0
  d3 : Bool := false
  /-- MSI-X Message Control: bit 15 enable, bit 14 function mask -/
  msixCtl : Nat := 0
  /-- MSI-X table: 16-byte entries as numbers, exclusive or with the masked entry of reset -/
  msix : List (Nat × Nat) := []
  pba : Nat := 0
  /-- FN_IRQ -/
  irq : Nat := 0
  aer : Aer := {}
  /-- SR-IOV: VF Enable, NumVFs, VF BAR0, VF BAR2 (function 0) -/
  vfEnable : Bool := false
  numVfs : Nat := 0
  vfBar0 : Nat := 0
  vfBar2 : Nat := 0
  /-- tail last written by DOORBELL, by queue -/
  tails : List (Nat × Nat) := []
  /-- descriptors passed to the channel of a queue and not completed, by queue -/
  passed : List (Nat × Nat) := []
  /-- queue map: 64 * engine + channel + 1; 0 unmapped -/
  qmap : List (Nat × Nat) := []
  /-- held submissions in order: queue numbers -/
  held : List Nat := []
  /-- outstanding host reads: (tag, engine, channel) -/
  out : List (Nat × Nat × Nat) := []
  /-- tags reclaimed and not yet free for reuse -/
  reclaimed : List Nat := []
  /-- Memory Space Enable of the VFs (function 0) -/
  vfMse : Bool := false
  /-- reads through the window that wait for the pool -/
  winRds : List WinRd := []
  shut : Option ShutCause := none
  /-- a VF that has completed the shutdown of a cleared VF Enable: STATE shows idle (R247) -/
  vfIdle : Bool := false
  /-- a configuration change that took the function away while it shuts down -/
  freezing : Bool := false
  frozen : Bool := false
  incomplete : Bool := false
deriving DecidableEq, Repr

/-- What a module's SPD says (R202): type, device width, capacity as log2 GiB, ranks, data rates as a bitmap of
POOL_CFG.RATE codes, speed bin, and the activations that require refresh management (0 where not required). -/
structure Dimm where
  mrdimm : Bool
  x4 : Bool
  size : Nat
  ranks : Nat
  rates : Nat
  bin : Nat
  raaimt : Nat
deriving DecidableEq, Repr

/-- What the pool finds as it comes up (R204): the module in each slot (channel * 2 + slot), and the channels whose training
succeeds. -/
structure PoolFind where
  slots : List (Option Dimm)
  trained : BitVec 12
deriving DecidableEq, Repr

/-- What the check bits of a DRAM line show (R216 to R218). -/
inductive LineErr | ok | corrected | uncorrectable
deriving DecidableEq, Repr

/-- Rolling activation count of a bank, and the counts of its rows in the refresh window (R222). -/
structure BankAct where
  raa : Nat := 0
  rows : List (Nat × Nat) := []
  due : List Nat := []
deriving DecidableEq, Repr

/-! ## Directory (R181 to R201) -/

/-- A directory entry (R181): state 0 free, 1 S, 2 E, 3 DOUBT. -/
structure DirEnt where
  tag : Nat := 0
  state : Nat := 0
  ovf : Bool := false
  ptrs : List Nat := []
  age : Nat := 0
  range : Bool := false
deriving DecidableEq, Repr

/-- Why a line has a transaction: a request, an eviction, a flush, the sweep, or the removal of a host. -/
inductive TxnKind
  | req | evict | flush | sweep
  | remove (h : Nat)
deriving DecidableEq, Repr

/-- A request handed to a directory slice (R183): home line address, sharing group, packet. -/
structure DirReq where
  hla : Nat
  grp : Nat
  q : Pkt
deriving DecidableEq, Repr

/-- A transaction in progress on a line (R183). want: 0 I, 1 S, 2 E, 3 unchanged, 4 E if nobody remains, else S. phase: 0
snoops or data outstanding, 1 settled and waiting for the expander before its completion (R191), 2 completed and waiting for
the memory to take its writes. -/
structure Txn where
  id : Nat
  slice : Nat
  kind : TxnKind
  r : DirReq
  host : Option Nat := none
  want : Nat := 3
  /-- entry in the slice; none for an eviction, and for a request that has and needs no entry -/
  ent : Option Nat := none
  /-- the entry as it was found -/
  old : DirEnt := {}
  /-- snoops outstanding -/
  await : List (Nat × Op) := []
  /-- hosts that stay sharers; the host that stays E owner -/
  keep : List Nat := []
  owner : Option Nat := none
  needData : Bool := false
  /-- data from memory, and whether poisoned -/
  mem : Option (Bytes × Bool) := none
  /-- data that a snooped host wrote back: bytes, which of them, poisoned -/
  wb : Option (Bytes × BitVec 64 × Bool) := none
  /-- why the line is to be poisoned: 1 E line, 2 DOUBT line (R192) -/
  lost : Option Nat := none
  /-- writes that the memory has yet to accept -/
  acks : Nat := 0
  phase : Nat := 0
deriving DecidableEq, Repr

/-- A removal in progress (R193): host, whether commanded, lines still to be snooped or answered, lines poisoned. -/
structure Removal where
  host : Nat
  cmd : Bool
  lines : List Nat
  poisoned : Bool := false
deriving DecidableEq, Repr

/-- A flush in progress (R196): first extent, number, lines to go, lines poisoned. -/
structure FlushOp where
  base : Nat
  count : Nat
  lines : List Nat
  poisoned : Bool := false
deriving DecidableEq, Repr

/-- A rotation in progress (R200). -/
structure RotOp where
  logical : Nat
  src : Nat
  dst : Nat
deriving DecidableEq, Repr

/-! ## Scratchpad and MPUs (R279 to R301) -/

/-- What an access to internal memory does. -/
inductive AccOp | read | write | fetch | add | swap
deriving DecidableEq, Repr

/-- An access to the internal address map: at most 64 bytes of one row of the scratchpad. -/
structure Acc where
  mid : Mid
  priv : Bool
  op : AccOp
  addr : Nat
  len : Nat
  data : Bytes := []
deriving DecidableEq, Repr

/-- A row access of a Hopper engine that waits at port B of a bank: its number, engine and channel, and whether the bank had
accepted it before its port lost the bank (R286). -/
structure PortB where
  id : Nat
  eng : Nat
  ch : Nat
  mid : Nat
  write : Bool
  addr : Nat
  len : Nat
  data : Bytes
  drain : Bool := false
deriving DecidableEq, Repr

/-! ## Hopper (R253 to R278) -/

/-- A read that a burst waits for: number, space, address in its space, bytes skipped at the start of the answer, length, and
what has come. -/
structure Piece where
  id : Nat
  space : Nat
  addr : Nat
  skip : Nat
  len : Nat
  got : Bytes := []
  ok : Bool := false
deriving DecidableEq, Repr

/-- Why a channel halts: CODE, DETAIL, address, space, direction (0 read, 1 write, 2 fetch). -/
structure HopErr where
  code : Nat
  detail : Nat
  addr : Nat := 0
  space : Nat := 0
  dir : Nat := 0
deriving DecidableEq, Repr

/-- What a burst is for: data of a descriptor, an entry of its list, or its one atomic update. -/
inductive BurstKind
  | data | list | atomic
deriving DecidableEq, Repr

/-- A burst under way: len bytes at offset off of its descriptor or list entry; its reads, and for COMPARE those of DST;
whether its writes have been issued, and those still to be accepted. -/
structure Burst where
  kind : BurstKind
  off : Nat
  len : Nat
  reads : List Piece := []
  other : List Piece := []
  err : Option HopErr := none
  issued : Bool := false
  writes : List Nat := []
deriving DecidableEq, Repr

/-- A descriptor that a channel has taken (R257, R265): its eight words; where it was fetched from (address and space; none for
one that software put into the shadow); whether it is the first of its chain; its place in the chain from 1 on. -/
structure HopDesc where
  words : List Word
  loc : Option (Nat × Nat)
  first : Bool
  n : Nat
  bursts : List Burst := []
  /-- bytes issued, and bytes written, of the descriptor or of the list entry in progress -/
  issued : Nat := 0
  done : Nat := 0
  /-- list entries completed whole; the entry in progress (address, space, length); bytes of whole entries -/
  index : Nat := 0
  entry : Option (Nat × Nat × Nat) := none
  moved : Nat := 0
  result : Nat := 0
  /-- its work is done, with this CODE -/
  ended : Option Nat := none
  /-- it runs again after a RETRY: its slot has a record already -/
  again : Bool := false
  /-- after a restore: list entries done before, and bytes done of the next one -/
  skip : Nat := 0
  start : Nat := 0
deriving DecidableEq, Repr

/-- A descriptor fetch under way: its reads; the descriptor to be, its words still empty; whether it is a RETRY. -/
structure HopFetch where
  reads : List Piece
  desc : HopDesc
  again : Bool
deriving DecidableEq, Repr

/-- A channel's own state beside its registers (R264 to R277). -/
structure HopCh where
  /-- PHASE of the next record -/
  phase : Bool := true
  /-- descriptors taken and not done with, oldest first: the last is the active one -/
  work : List HopDesc := []
  /-- the shadow's descriptor once fetched, its words being in the shadow registers -/
  shadow : Option HopDesc := none
  fetch : Option HopFetch := none
  /-- the descriptor that halted -/
  halted : Option HopDesc := none
  /-- NEXT latched by the loop limit (address, space) -/
  limit : Option (Nat × Nat) := none
  /-- the descriptor that a restore has put here, to be fetched again at the unfreeze -/
  resume : Option HopDesc := none
  abort : Bool := false
deriving DecidableEq, Repr

/-! ## Configuration space (R228, R235 to R241) -/

/-- Whose configuration registers a request of VCS v is for. -/
inductive CfgTgt
  | fn (n : Fin 1024)
  | vppb (k : Fin 256)
  | usp
  | ld (n : Fin 64)
deriving DecidableEq, Repr

/-- Configuration registers, by the names of PCI Express; contents in its layout. A range register stands for base and limit
together: the first address, and above bit 64 the last. -/
inductive CfgReg
  | id | cls | cmd | bar0 | bar2 | pm | devCtl | devCtl2 | msixCtl
  | uncSta | uncMask | uncSev | corSta | corMask | errPtr
  | hdrLog (i : Fin 4)
  | sriovCtl | numVfs | totalVfs | vfDevId | vfBar0 | vfBar2
  | busNums | io | mem | pref | bridgeCtl | acsCtl | egressVec | linkCtl | linkSta | slotCtl | slotSta
  | dpcCtl | dpcSta | dpcSource
deriving DecidableEq, Repr

/-- A host's access to a BAR of a function: the register page or the window (R230, R231). -/
structure BarAcc where
  page : Bool
  off : Nat
  /-- the bytes of a write; none for a read of len bytes -/
  data : Option Bytes
  len : Nat
  rid : Nat
  tag : Nat
  tc : Nat
deriving DecidableEq, Repr

/-! ## Millwright (R302 to R324) -/

/-- Updates of the A extension. -/
inductive AmoFn | swap | add | xor | and | or | min | max | minu | maxu
deriving DecidableEq, Repr

/-- What a core does with the internal address map. -/
inductive CoreOp
  | load | store | fetch
  | amo (f : AmoFn)
  | lr | sc
  | clean | flush | inval | zero
deriving DecidableEq, Repr

/-- A line that the cores' caches hold: its bytes, whether the write-back L2 has yet to write it, and the cores whose L1
holds it, as a bitmap. -/
structure CLine where
  data : Bytes
  dirty : Bool := false
  l1 : Nat := 0
deriving DecidableEq, Repr

/-- An access of a core to the pool under way: its number, core, bytes skipped at the start of the line, length, and whether
it is a write. -/
structure CoreRd where
  id : Nat
  core : Nat
  skip : Nat
  len : Nat
  write : Bool
deriving DecidableEq, Repr

/-- An MCTP packet that has come in: transport, source as in a ring slot, bytes. -/
structure McIn where
  t : Nat
  src : Nat
  vcs : Nat
  data : Bytes
deriving DecidableEq, Repr

/-- Where the answer to the last datagram goes: MAC and IPv4 address, UDP port, SEQ (R315). -/
structure NetPeer where
  mac : Nat
  ip : Nat
  port : Nat
  seq : Nat
deriving DecidableEq, Repr

/-- A request of MGT_DSA on behalf of a management command (R319, R323): OP, port, LD-ID, target, address, byte enables, data;
tunnelled says that it stands for a whole inner command. -/
structure DsaReq where
  op : Nat
  port : Nat
  ldid : Nat
  target : Nat
  addr : Nat
  be : Nat
  data : Nat
deriving DecidableEq, Repr

/-- What the parameters of a local pool LD are set to by a management command: which, and value. -/
inductive LdParam
  /-- enable, map base, map count: LD allocations -/
  | alloc (en : Bool) (base count : Nat)
  /-- DevLoad thresholds: QoS control -/
  | qosControl (optimal moderate severe : Nat)
  | bwAlloc (v : Nat)
  | bwLimit (v : Nat)
deriving DecidableEq, Repr

/-- What MGT_DSA does on behalf of a management command: a request, or a whole inner command tunnelled to the device on a port. -/
inductive DsaJob
  | req (q : DsaReq)
  | tunnel (port : Nat) (inner : Bytes)
deriving DecidableEq, Repr

/-- For whom: an answer on a transport, or the command that holds the writer's position. -/
inductive DsaFor
  | answer (t : Nat)
  | bg
deriving DecidableEq, Repr

/-- How a completion ends a request of MGT_DSA (R323). -/
inductive DsaStatus
  | ok | ur | ca | crs
deriving DecidableEq, Repr

/-- State-changing management commands (R319, R321), and what a pool LD's host answers or releases, with their inputs. -/
inductive MgtReq
  | portControl (p : Nat) (disable : Option Bool)
  | bind (word : Word)
  | unbind (word : Word)
  | aer (v k : Nat) (bit : Nat) (unc : Bool)
  | ldParam (n : Nat) (p : LdParam)
  | dcRegion (n base count sharedFirst : Nat)
  /-- extents with their DPA extent indices -/
  | dcAdd (owner : Nat) (shared : Bool) (exts : List (Nat × Nat))
  | dcRelease (exts : List Nat) (forced : Bool)
  | dcAnswer (n : Nat) (accept reject : List Nat)
  | flash (op addr len spd : Nat) (data : Bytes)
  | arbCommit
  | groupReload (addr spd : Nat)
  | hostCoh (op : Nat) (h : Nat)
  | sharing (g members : Nat) (valid : Bool)
  | proxy (n port ldid k base count dpaBase : Nat) (valid : Bool) (prep : List DsaReq)
  | tunnel (port : Nat) (inner : Bytes)
deriving DecidableEq, Repr

/-- Where the release of an extent stands (R215). -/
inductive RelStage
  | drain | flush | zero
deriving DecidableEq, Repr

/-- What the command that holds the writer's position waits for. -/
inductive BgKind
  | bind (v k : Nat)
  | unbind (v k : Nat)
  | remove (h : Nat)
  /-- answers still to come: (pool LD, extent); the extents -/
  | dcAdd (left : List (Nat × Nat)) (exts : List Nat)
  /-- extents that await the host's release; those to be released; the one in progress; all of them; the LD maps' entries of
  them at the start: (pool LD, index, extent) -/
  | dcRelease (await todo : List Nat) (cur : Option (Nat × RelStage)) (all : List Nat) (snap : List (Nat × Nat × Nat))
  | flash | arb
  | group (spd : Nat)
  | proxy (n k : Nat) (coh pool : Word) (left : List DsaReq)
  | tunnel
deriving DecidableEq, Repr

/-! ## Sluice (R325 to R347) -/

/-- A Sluice controller beside its registers. Feeds are 0 for A and 1 for B. -/
structure SlcX where
  /-- the feed that is on; the feed that a switchover, or a ramp begun again, turns on at the end of the dead time -/
  gate : Option Nat := none
  next : Option Nat := none
  /-- blocking transistor of the feed in use enhanced; gate regulated at the current limit -/
  blk : Bool := false
  limit : Bool := false
  /-- fault timer in µs, as it was at mtime ftAt -/
  ft : Nat := 0
  ftAt : Nat := 0
  /-- the 10 ms hold of R340 runs -/
  hold : Bool := false
  /-- mtime at which the cool-down started -/
  coolAt : Nat := 0
deriving DecidableEq, Repr

/-! ## Brake (R348 to R370) -/

/-- An event of a unit for which the table has no command: a link error of a PCIe/CXL port, by its AER bit; a PLL of a lane
group out of lock; a corrected error in a staging buffer; the limit or an uncorrectable error of the L2 (R348). -/
inductive UnitEv
  | link (p : Fin 96) (bit : Fin 32) (unc : Bool)
  | pll (g : Fin 16)
  | stage (e : Fin 16)
  | l2 (ue : Bool)
deriving DecidableEq, Repr

/-- What Brake finds uncorrectable in its own memories as it accepts an event (R370). -/
inductive BrkErr
  | none | reaction | count
  | record (i : Nat)
deriving DecidableEq, Repr

/-! ## Governor (R371 to R392) -/

/-- How a signed command arrives (R377): by GOV_REQ_CMD from a master, by the JTAG instruction GOVCMD, or inside a secure
session with the partner of a port (R381). -/
inductive CmdPath
  | req (mid : Mid)
  | jtag (c : Bytes)
  | session (p : Fin 96) (c : Bytes)
deriving DecidableEq, Repr

/-- A fuse burn in progress (R376): operation, key set, argument, and whether GOV_REQ_CMD takes its result. -/
structure Burn where
  op : Nat
  set : Nat
  arg : Bytes
  req : Bool
deriving DecidableEq, Repr

/-- A key set of an IDE stream (R382). -/
structure IdeKey where
  key : List Word
  iv : Word
deriving DecidableEq, Repr

/-- What the Governor answers to an SPDM message (R381): RESULT, response, and whether a secure session begins or ends. -/
structure SpdmAns where
  result : Nat
  rsp : Bytes
  opens : Bool
  ends : Bool
deriving DecidableEq, Repr, Inhabited

/-- The load-step limiter (R388): estimate in tenths of an ampere, the estimates of the last ten ticks, ticks since LOAD_WARN
was asserted, and whether a grant waits. -/
structure Limiter where
  est : Nat := 0
  hist : List Nat := []
  warn : Option Nat := none
  waiting : Bool := false
deriving DecidableEq, Repr

/-! ## Reset (R417 to R432) -/

/-- Units that fail their start-up self-test (R406). -/
structure SelfTest where
  banks : List (Fin 256) := []
  slices : List (Fin 34) := []
  engines : List (Fin 16) := []
deriving DecidableEq, Repr

/-! ## Counters and samplers (R408 to R416) -/

/-- Occurrences of a count event that a unit presents in a tick: unit, its number, event, class where the table says so, and how
many. -/
structure PmcEv where
  unit : Nat
  inst : Nat
  event : Nat
  cls : Nat
  n : Nat
deriving DecidableEq, Repr

/-- What a core shows at an overflow that takes a core sample (R413): PC, effective address, privilege (0 user, 1 supervisor,
3 machine), and instructions retired between the event and the capture. -/
structure CoreAt where
  pc : BitVec 64
  addr : BitVec 64
  priv : Fin 4
  skid : Nat
deriving DecidableEq, Repr

/-- A packet that a sampler has tagged (R414). -/
structure TsTag where
  src : Src
  point : Nat
  cls : Cls
  tag : Nat
  kind : Nat
  tc : Nat
  addr : Nat
  dest : Nat
  t0 : Nat
  /-- it has a response -/
  rsp : Bool
deriving DecidableEq, Repr

/-- A transaction sampler beside its registers: matches of the period so far, the period drawn, a period that ended while a
packet was tagged, the tagged packet. -/
structure TsSt where
  count : Nat := 0
  period : Option Nat := none
  due : Bool := false
  tagged : Option TsTag := none
deriving DecidableEq, Repr

/-! ## Fantail (R393 to R407) -/

/-- A word that the SRAM scrub reads, in its order: a buffer cell word or link entry of a bank, a directory entry of a slice, a
word of the table store, of the scratchpad, of a replay buffer (of the held flit with that number, if it belongs to one), of the
staging buffer of an engine, a line of the L2. -/
inductive ScrubWord
  | cell (b : Fin 256) (w : Nat)
  | link (b : Fin 256) (w : Nat)
  | dir (p : Fin 34) (w : Fin 131072)
  | tbl (w : Fin 2097152)
  | spd (w : Fin 2097152)
  | replay (p : Fin 96) (held : Option Nat)
  | staging (e : Fin 16) (w : Nat)
  | l2 (w : Fin 32768)
deriving DecidableEq, Repr

/-- A flash operation of the log writer: erase of a sector, its header, a page of records. -/
inductive LogOp
  | erase (sector : Nat)
  | header (sector lap : Nat)
  | page (sector page : Nat) (recs : List Bytes)
deriving DecidableEq, Repr

/-- The test of a Hopper engine (R404): engine, mode, slices done, ended early by work. -/
structure EngTest where
  eng : Nat
  mode : Nat
  slices : Nat := 0
  paused : Bool := false
deriving DecidableEq, Repr

/-! ## What the device sends -/

/-- One thing that the device sends or shows to the outside. -/
inductive Out
  /-- the answer to a register access of a master: error response, data (R4) -/
  | resp (mid : Nat) (err : Bool) (data : Nat)
  /-- a flit on an OFL port (R78) -/
  | flit (port : Nat) (bytes : Bytes)
  /-- a run of alignment blocks for a lane set (R94) -/
  | run (port : Nat) (set : Nat)
  /-- training flits on an OFL port that enters Recovery or trains (R105) -/
  | train (port : Nat)
  /-- a width change requested of a PCIe/CXL partner through L0p, with the lanes to stay (R70) -/
  | l0p (port : Nat) (lanes : Nat)
  /-- L1 requested of, or granted to, a PCIe/CXL partner (R72) -/
  | l1 (port : Nat)
  /-- a packet sent on a port or to an internal target, by egress point (R116) -/
  | pkt (egress : Nat) (p : Pkt)
  /-- the answer to an access of a master to internal memory: error flag, data -/
  | acc (mid : Nat) (err : Bool) (data : Bytes)
  /-- the answer to a configuration request in VCS v: completion status, data -/
  | cfg (v : Nat) (status : Nat) (data : Nat)
  /-- a core starts at an address (R305, R307); a non-maskable interrupt of a core and where it enters (R306); an interrupt of a
  core: 0 software, 1 timer -/
  | coreStart (core entry : Nat)
  | nmi (core vector : Nat)
  | irq (core kind : Nat)
  /-- the answer to a management command on a transport: return code (0 Success, 1 Background Operation Started, 2 Invalid
  Input, 3 Unsupported, 4 Internal Error, 6 Busy), contents in the order that the manual lists them; the end of a background
  operation -/
  | cci (t rc : Nat) (data : List Nat)
  | bgDone (t rc : Nat) (data : List Nat)
  /-- an address not acknowledged (R312); an MCTP packet on a transport to a destination (R314); an Ethernet frame; a datagram
  in answer to a sender (R315) -/
  | nack (t : Nat)
  | mctp (t dst : Nat) (data : Bytes)
  | frame (data : Bytes)
  | udp (peer : NetPeer)
  /-- a request of MGT_DSA towards a downstream port (R323) -/
  | dsa (q : DsaReq)
  | tunnel (port : Nat) (inner : Bytes)
  /-- what a shift of GOVCMD returns: challenge and RESULT (R377) -/
  | govcmd (chal : Bytes) (result : Nat)
  /-- hot-plug signalled to the host of VCS v for vPPB k (R159) -/
  | hotplug (v k : Nat)
deriving DecidableEq, Repr

end Sys2Proof.Machine
end

