-- ==== Sys2Proof/Syntax.lean ====
section
/-! DEFINITION. The commands of the device: one constructor for every row of spec/opcode_table.json, in its order. The
operands are what the outside decides; what the device decides is computed from State. -/

namespace Sys2Proof

open Sys2Proof.Machine

/-- The commands. -/
inductive Instr
  /-- REGISTER_WRITE (R450): A write to a register that has no row of its own is applied field by field, refusing protected fields and raising the refused-write event where a refusing field would change. -/
  | registerWrite (mid : Mid) (addr : BitVec 48) (wide : Bool) (v : Word)
  /-- REGISTER_ACCESS_ERROR (R4): An access of the wrong size or alignment, or to an unoccupied offset, gets an error response, reads zero, writes nothing and raises the register-access event. -/
  | registerAccessError (mid : Mid) (addr : BitVec 48) (size : Nat) (write : Option Word)
  /-- LOW_HALF_WRITE (R5): A 32-bit write to the low half of a 64-bit register is stored in the master's holding register without changing the register. -/
  | lowHalfWrite (mid : Mid) (addr : BitVec 48) (v : BitVec 32)
  /-- HIGH_HALF_WRITE (R5): A 32-bit write to the high half writes the whole register if a matching low half is held, otherwise only the high half. -/
  | highHalfWrite (mid : Mid) (addr : BitVec 48) (v : BitVec 32)
  /-- LOW_HALF_READ (R5): A read of the low half returns it and captures the high half into the holding register, clearing its RC fields. -/
  | lowHalfRead (mid : Mid) (addr : BitVec 48)
  /-- HIGH_HALF_READ (R5): A read of the high half returns the captured value if one is held, otherwise the current high half with its RC fields cleared. -/
  | highHalfRead (mid : Mid) (addr : BitVec 48)
  /-- READ_CLEAR_FIELD (R9): A read of a register holding RC fields returns their values and clears them, keeping an event of the same cycle for the next read. -/
  | readClearField (mid : Mid) (addr : BitVec 48) (wide : Bool)
  /-- BLOCK_LOCK (R8): Writing 1 to a block's W1S lock bit makes its RWL fields refuse writes until a reset that clears the block. -/
  | blockLock (mid : Mid) (b : LockBlk)
  /-- TILE_CROSSING_LANE_FAIL (R14): A die-to-die lane that fails its check has its traffic moved to a spare within 2 µs with link-level retry, or is reported as a tile-crossing fault when no spare is left. -/
  | tileCrossingLaneFail (tile : Fin 4)
  /-- FULL_LOAD (R47): On release by the Governor the image loader reads SFDP, orders the slots, checks, stages and applies an image and releases the Millwright cores. -/
  | fullLoad (sfdp : Option (BitVec 32))
  /-- BOOT_OK (R50): Psihaust sets IMG_BOOT_OK.OK, confirming the boot and stopping the confirmation timer. -/
  | bootOk (mid : Mid)
  /-- BOOT_CONFIRM_TIMEOUT (R50): When the confirmation timeout expires the Governor marks the slot unconfirmed and performs a chip reset. -/
  | bootConfirmTimeout
  /-- ANTI_ROLLBACK_COMMIT (R51): Setting IMG_ARB.COMMIT makes the Governor burn fuses until the counter equals the running image's security version, if boot is confirmed and no burn runs. -/
  | antiRollbackCommit (mid : Mid)
  /-- ARB_BURN_DONE (R51): The anti-rollback fuse burn completes and IMG_ARB.BUSY falls. -/
  | arbBurnDone
  /-- GROUP_RELOAD (R55): Setting IMG_LOAD_CTRL.START copies and checks a group image, holds the group, rewrites its LK fields and Sluice limits and releases it into Detect. -/
  | groupReload (mid : Mid)
  /-- FLASH_ERASE (R57): IMG_FLASH_CTRL with OP erase starts erasing a 64 KiB sector unless refused. -/
  | flashErase (mid : Mid)
  /-- FLASH_PROGRAM (R57): IMG_FLASH_CTRL with OP program starts programming flash from the scratchpad unless refused. -/
  | flashProgram (mid : Mid) (len : Fin 131072)
  /-- FLASH_READ (R57): IMG_FLASH_CTRL with OP read starts reading flash into the scratchpad. -/
  | flashRead (mid : Mid) (len : Fin 131072)
  /-- FLASH_OP_DONE (R57): A flash operation completes and RESULT and BUSY are updated. -/
  | flashOpDone (ok : Bool)
  /-- REFCLK_LOST (R62): A lost reference clock sends every port of the group to Detect, takes their links down and sets REFCLK_LOST. -/
  | refclkLost (g : Fin 16)
  /-- REFCLK_RESTORED (R62): After 1 ms within limits the group PLL relocks and the used ports enter Detect and train again. -/
  | refclkRestored (g : Fin 16)
  /-- LINK_TRAINING (R65): A PCIe/CXL port leaving Detect trains through the LTSSM, negotiates width and protocol and equalises up to its highest common rate. -/
  | linkTraining (p : Fin 96) (t : PciePeer)
  /-- TRAINING_RETRY (R66): A port that reached no rate tries again from Detect 12 ms later, with a Brake event every tenth failure. -/
  | trainingRetry (p : Fin 96) (t : PciePeer)
  /-- LINK_DISABLE (R75): Setting PORT_LINK_CTRL.DISABLE takes the port to Disabled within 2 µs with its link down. -/
  | linkDisable (mid : Mid) (p : Fin 96)
  /-- RETRAIN (R73): PORT_LINK_CTRL.RETRAIN retrains the link through Recovery. -/
  | retrain (mid : Mid) (p : Fin 96)
  /-- EQ_REDO (R64): PORT_LINK_CTRL.EQ_REDO discards stored coefficients so the next retrain equalises in full. -/
  | eqRedo (mid : Mid) (p : Fin 96)
  /-- LANE_CLEAR (R71): PORT_LINK_CTRL.LANE_CLEAR clears the failed-lane marks and retrains at full width, through Recovery on OFL. -/
  | laneClear (mid : Mid) (p : Fin 96)
  /-- L0P_NARROW (R70): After L0P_IDLE of low utilisation the port requests half its width. -/
  | l0pNarrow (p : Fin 96)
  /-- L0P_WIDEN (R70): High utilisation or a queue at its weir level makes the port request full width. -/
  | l0pWiden (p : Fin 96)
  /-- L0P_PARTNER_REQUEST (R70): The port grants a widening that the link partner requests. -/
  | l0pPartnerRequest (p : Fin 96) (lanes : Fin 17)
  /-- WIDEN_LANE_TIMEOUT (R71): A lane not locked and deskewed by the end of the widening bound is declared failed and the port settles at the largest width excluding it. -/
  | widenLaneTimeout (p : Fin 96) (lane : Fin 16)
  /-- L1_ENTRY (R72): An idle upstream port with ASPM L1 enabled and nothing outstanding initiates L1. -/
  | l1Entry (p : Fin 96) (hdmDb : Bool)
  /-- L1_REQUEST_ACCEPT (R72): A downstream port accepts L1 requested by the partner when ASPM L1 is enabled in the vPPB. -/
  | l1RequestAccept (p : Fin 96) (hdmDb : Bool)
  /-- L1_EXIT (R72): A link leaves L1 or L1.1 within the receiver exit latency. -/
  | l1Exit (p : Fin 96)
  /-- LANE_FAILED (R73): A PCIe/CXL lane that loses lock or carries most CRC failures is marked failed and removed by L0p or by Recovery. -/
  | laneFailed (p : Fin 96) (lane : Fin 16)
  /-- RECOVERY_TIMEOUT (R73): A Recovery that reaches a timeout of the standard sends the port to Detect with its link down. -/
  | recoveryTimeout (p : Fin 96)
  /-- FLIT_SEND (R77): The OFL transmitter sends the next flit, payload, control or idle, with current ACK, NAK and credit fields. -/
  | flitSend (p : Fin 96)
  /-- FLIT_RECEIVE (R85): A received OFL flit is FEC-decoded, CRC-checked and accepted, discarded or treated as duplicate by its sequence number, with its header acted on. -/
  | flitReceive (p : Fin 96) (flit : Bytes) (low : Bool)
  /-- REPLAY (R87): After a NAK the sender stops new flits and retransmits every held flit from the named sequence number. -/
  | replay (p : Fin 96)
  /-- NAK_TIMEOUT (R86): When NAK_TO passes without the expected flit the receiver sends the NAK again. -/
  | nakTimeout (p : Fin 96)
  /-- REPLAY_TIMEOUT (R88): When REPLAY_TO passes without the oldest held flit advancing the sender replays, or enters Recovery past REPLAY_MAX. -/
  | replayTimeout (p : Fin 96)
  /-- OFL_TRAINING (R96): An OFL port leaving Detect exchanges capabilities, fixes lane set, rate, leader, window and credits, equalises and becomes Active. -/
  | oflTraining (p : Fin 96) (t : OflPeer)
  /-- OFL_TRAINING_RETRY (R96): An OFL port that reached no rate retries from Detect after 12 ms. -/
  | oflTrainingRetry (p : Fin 96) (t : OflPeer)
  /-- LANE_REQ (R98): A received LANE_REQ is accepted, rejected or settled against a crossing request, and a drop switches transmit with a run. -/
  | laneReq (p : Fin 96) (id : Fin 256) (set : BitVec 16) (cause : Fin 3) (low : Bool)
  /-- LANE_ACC (R98): A received LANE_ACC makes the requester of a drop switch its transmit to the new set, or starts add training. -/
  | laneAcc (p : Fin 96) (id : Fin 256)
  /-- LANE_REJ (R101): A received LANE_REJ ends the request and keeps the current set. -/
  | laneRej (p : Fin 96) (id : Fin 256) (set : BitVec 16) (cause : Fin 5)
  /-- LANE_READY (R98): A received LANE_READY lets an end that has sent its own switch its transmit to the added set. -/
  | laneReady (p : Fin 96) (id : Fin 256)
  /-- ALIGNMENT_RUN (R94): A receiver adopts a new lane set once every lane has shown three intact alignment blocks of a run. -/
  | alignmentRun (p : Fin 96) (set : BitVec 16) (intact : BitVec 16)
  /-- ADD_LANE_TIMEOUT (R98): An added lane not locked within the add bound is declared failed and LANE_REJ CAUSE 2 is sent. -/
  | addLaneTimeout (p : Fin 96) (lanes : BitVec 16)
  /-- LANE_REQ_RESEND (R101): A LANE_REQ unanswered for 2 µs is resent, and after eight sends the port enters Recovery. -/
  | laneReqResend (p : Fin 96)
  /-- OFL_LANE_FAILED (R99): An OFL lane that loses lock, fails a lane check or shows excessive corrections is declared failed and dropped by a failure-caused change. -/
  | oflLaneFailed (p : Fin 96) (lanes : BitVec 16) (cause : LaneCause)
  /-- LANE_CHECK (R99): After eight uncorrectable flits the receiver sends a lane check run, and a received lane check is compared and answered. -/
  | laneCheck (p : Fin 96) (c : LaneCheck)
  /-- OFL_PM_NARROW (R102): After PM_IDLE of low utilisation the OFL port requests half its width. -/
  | oflPmNarrow (p : Fin 96)
  /-- OFL_PM_WIDEN (R102): High utilisation or a weir level reached makes the OFL port request double its width. -/
  | oflPmWiden (p : Fin 96)
  /-- OFL_LANE_CMD (R102): OFL_LANE_CMD.START requests the lane set in MASK with CAUSE 2, waiting for any change in progress. -/
  | oflLaneCmd (mid : Mid) (p : Fin 96) (mask : BitVec 16)
  /-- RESUME_FLIT (R105): A received resume flit releases flits before the partner's e, resynchronises credits and replays from e. -/
  | resumeFlit (p : Fin 96) (e : BitVec 16) (counts : List (BitVec 13))
  /-- RECOVERY_RATE_DROP (R105): A retrain not completed within 500 µs is given up and the ends retrain one rate lower. -/
  | recoveryRateDrop (p : Fin 96)
  /-- OFL_RECOVERY_TIMEOUT (R105): A Recovery unfinished at 1 ms declares the link down. -/
  | oflRecoveryTimeout (p : Fin 96)
  /-- OFL_REDETECT (R106): 12 ms after the declaration the port re-enters Detect and trains afresh. -/
  | oflRedetect (p : Fin 96)
  /-- TRACKER_EXPIRE (R109): A re-issue tracker entry is freed 100 ms after its re-issue. -/
  | trackerExpire (n : Fin 4096)
  /-- HEADRACE_ACCEPT (R114): The Headrace parses, decodes, classifies, admits, writes and enqueues a packet arriving from a port or internal requester. -/
  | headraceAccept (x : Option (Fin 96 × Pkt))
  /-- ADMIT_WAITING (R119): A waiting packet is admitted once shares, queue cap and free cells allow. -/
  | admitWaiting (n : Nat)
  /-- TAILRACE_DEQUEUE (R120): The Tailrace chooses the next queue of an egress point, reads the packet and sends it, releasing its reference. -/
  | tailraceDequeue (e : Fin 127) (cr : BitVec 8 × BitVec 8 × BitVec 8)
  /-- TC_MAP_WRITE (R115): A write to SWC_TC_MAP is refused if it maps CXL.mem or management kinds into the Leat mask or requests and responses to one class. -/
  | tcMapWrite (mid : Mid) (v : Word)
  /-- CONGESTION_HOLD_EXPIRE (R124): HOLD µs after the last cause, an egress point's congestion state clears. -/
  | congestionHoldExpire (e : Fin 127)
  /-- MULTICAST_TIMEOUT (R127): A multicast copy not started within TIMEOUT loses its reference and the miss is recorded. -/
  | multicastTimeout (p : Fin 96) (id : Nat)
  /-- PORT_DOWN (R130): A port reported down stops enqueues, starts flushing its queues and spill chains and truncates packets in flight. -/
  | portDown (p : Fin 96)
  /-- FLUSH_COMPLETE (R133): When the flush, spill chains included, is complete, enqueuing resumes once the port is active again. -/
  | flushComplete (p : Fin 96)
  /-- LEAT_WRITE (R136): The Leat writer copies a staged packet to the tail page of its queue's chain and releases its reference. -/
  | leatWrite
  /-- LEAT_REFILL (R137): The Leat reader moves the head packet of a chain on chip while the queue is below REFILL, leaving Spilling when the chain empties. -/
  | leatRefill (k : Fin 1024) (err : LeatRead)
  /-- LEAT_WINDOW (R223): Each 1 µs window renews the Leat byte allowance of the bandwidth cap. -/
  | leatWindow
  /-- BANK_FAILED (R142): A failed buffer bank is removed from allocation, its packets found and handled as lost, and shares cut if needed. -/
  | bankFailed (b : Fin 256)
  /-- BANK_MAPOUT (R141): SWC_BANK_CTRL.MAPOUT declares the bank in BANK failed. -/
  | bankMapout (mid : Mid) (b : Fin 256)
  /-- TABLE_READ (R150): RTE_TBL_CMD with WRITE 0 reads a table entry into RTE_TBL_DATA. -/
  | tableRead (mid : Mid) (t : Fin 8) (n : Fin 262144)
  /-- TABLE_WRITE (R150): RTE_TBL_CMD with WRITE 1 replaces a whole table entry in one step unless refused. -/
  | tableWrite (mid : Mid) (t : Fin 8) (n : Fin 262144)
  /-- DECODER_COMMIT (R156): A host setting a decoder's Commit bit has it checked and written as committed or reported Error Not Committed. -/
  | decoderCommit (o : DecOwner) (n : Fin 32) (d : DecSet)
  /-- BIND (R159): RTE_BIND_CMD OP 1 checks the refusals, confirms any LD allocation, writes the binding and signals presence and hot-plug. -/
  | bind (mid : Mid) (v : Option Word)
  /-- LD_ALLOCATION_CONFIRM (R159): The device's answer confirming or refusing an LD allocation continues or ends a bind. -/
  | ldAllocationConfirm (n : Fin 1024) (ok : Bool)
  /-- LD_ALLOCATION_TIMEOUT (R158): An LD allocation unanswered within 100 ms ends the bind with code 0x8. -/
  | ldAllocationTimeout (n : Fin 1024)
  /-- UNBIND (R161): RTE_BIND_CMD OP 2 starts a managed or surprise unbind of a vPPB. -/
  | unbind (mid : Mid) (v : Word)
  /-- UNBIND_DRAIN_END (R161): When no request remains outstanding on the binding the entry is freed. -/
  | unbindDrainEnd (n : Fin 1024)
  /-- UNBIND_DRAIN_TIMEOUT (R161): At DRAIN_TO outstanding requests are completed as decode misses and the entry freed with RESULT 0xA. -/
  | unbindDrainTimeout (n : Fin 1024)
  /-- MANAGED_UNBIND_TIMEOUT (R161): If the host has not acted within MANAGED_TO the unbind continues as a surprise unbind with RESULT 0xB. -/
  | managedUnbindTimeout (n : Fin 1024)
  /-- SET_RPID (R160): RTE_BIND_CMD OP 3 supplies the RPID of a binding held in state binding and signals presence. -/
  | setRpid (mid : Mid) (v : Word)
  /-- SLOT_POWER_CONTROL (R163): A host write of Power Controller Control on a whole-device vPPB writes the slot's Sluice EN. -/
  | slotPowerControl (v : Fin 64) (k : Fin 256) (on : Bool)
  /-- WINDOW_COMMIT (R167): RTE_WIN_COMMIT relatches a VCS's window range, switches the active half and increments the version. -/
  | windowCommit (mid : Mid) (v : Fin 64) (drain : Bool)
  /-- WINDOW_DRAIN_END (R167): When every packet of the old window version has left, BUSY of a draining commit clears. -/
  | windowDrainEnd
  /-- FAILOVER_REENABLE (R170): 12 ms after the failover declaration the routing unit lifts its disable and the port trains again. -/
  | failoverReenable (p : Fin 96)
  /-- AUTO_RESTORE (R172): A port Active for RESTORE_DELAY starts an automatic restore of its flows. -/
  | autoRestore (p : Fin 96)
  /-- PATH_RESTORE (R172): RTE_PATH_CMD.START holds the flows to move and starts a commanded restore. -/
  | pathRestore (mid : Mid) (p : Fin 128)
  /-- RESTORE_COMPLETE (R172): Once old hops are drained and acknowledged the flows move and held packets are released. -/
  | restoreComplete
  /-- RESTORE_ABORT (R172): A restore wait exceeding 50 µs releases the packets on their current hops and is abandoned. -/
  | restoreAbort
  /-- DIRECTORY_REQUEST (R184): A directory slice looks up a shared-line request, allocates or evicts an entry and issues the snoops it needs. -/
  | directoryRequest (ue : BitVec 16)
  /-- BIRSP_RECEIVE (R185): A BIRsp answers a snoop; when all are answered the entry takes its new state and the completion is sent. -/
  | birspReceive
  /-- BICONFLICT (R188): A host's BIConflict is answered with BIConflictAck after every completion owed for the line. -/
  | biconflict
  /-- BI_TIMEOUT (R192): A host not answering a BISnp within BI_TO is counted, removal starts and the transaction ends as BIRspI, poisoning where needed. -/
  | biTimeout (t : Nat) (h : Fin 64)
  /-- HOST_REMOVE (R193): COH_HOST_CMD OP 1 marks the host removing, scans the slices and snoops every line it holds. -/
  | hostRemove (mid : Mid) (h : Fin 64)
  /-- HOST_REMOVAL_COMPLETE (R193): When the last answer arrives or BI_TO passes the host becomes removed with a Brake event. -/
  | hostRemovalComplete (h : Fin 64) (timeout : Bool)
  /-- HOST_ADMIT (R195): COH_HOST_CMD OP 2 admits a removed host again. -/
  | hostAdmit (mid : Mid) (h : Fin 64)
  /-- FLUSH_EXTENTS (R196): COH_FLUSH_CMD OP 1 snoops and frees every entry in the extent range, holding its requests. -/
  | flushExtents (mid : Mid) (base : BitVec 24) (count : BitVec 16)
  /-- CLEAR_DOUBTFUL_SETS (R196): COH_FLUSH_CMD OP 2 clears the doubtful marks of a logical slice. -/
  | clearDoubtfulSets (mid : Mid) (l : Fin 32)
  /-- SLICE_FAILED (R197): A failed active slice hands its range to a free spare as DOUBT entries, or folds it when no spare is free. -/
  | sliceFailed (p : Fin 34) (bad : List (Fin 8192))
  /-- SLICE_FAIL (R197): COH_ROT_CTRL with FAIL declares the physical slice of LOGICAL failed. -/
  | sliceFail (mid : Mid) (l : Fin 32)
  /-- DOUBT_SWEEP (R198): The background sweep snoops every member for a DOUBT entry at RATE and sets it by the answers. -/
  | doubtSweep (p : Fin 34) (n : Fin 131072)
  /-- ROTATION_START (R200): COH_ROT_CTRL.START rotates a logical slice onto a free spare if two spares are free and nothing else runs. -/
  | rotationStart (mid : Mid) (l : Option (Fin 32))
  /-- ROTATION_DRAIN_END (R200): When the source's tracker and eviction buffer are empty its entries are copied and the map switched. -/
  | rotationDrainEnd
  /-- ROTATION_DRAIN_TIMEOUT (R200): A drain exceeding DRAIN_LIMIT releases the held requests and ends the rotation with RESULT 2. -/
  | rotationDrainTimeout
  /-- POOL_INIT (R204): On release the pool reads every SPD, chooses the interleave set, trains the channels and starts initial zeroing. -/
  | poolInit (f : PoolFind)
  /-- EXTENT_ZEROED (R215): The zero engine writes the last line of an extent and the extent becomes free. -/
  | extentZeroed (b : Option (Fin 24576))
  /-- EXTENT_GRANT (R213): POOL_EXT_CMD OP 1 moves a free extent to pending with its owner and DPA index. -/
  | extentGrant (mid : Mid) (b : Fin 32768) (shared : Bool) (owner : BitVec 16) (dpa : BitVec 16)
  /-- EXTENT_ACTIVATE (R213): POOL_EXT_CMD OP 2 moves a pending extent to granted. -/
  | extentActivate (mid : Mid) (b : Fin 32768)
  /-- EXTENT_CANCEL (R213): POOL_EXT_CMD OP 3 returns a pending extent to free without zeroing. -/
  | extentCancel (mid : Mid) (b : Fin 32768)
  /-- EXTENT_RELEASE (R213): POOL_EXT_CMD OP 4 moves a granted extent to releasing and waits for its requests to complete. -/
  | extentRelease (mid : Mid) (b : Fin 32768)
  /-- RELEASE_DRAIN_DONE (R213): When every request decoded to the releasing extent has completed, BUSY clears. -/
  | releaseDrainDone
  /-- EXTENT_ZERO (R213): POOL_EXT_CMD OP 5 starts zeroing a releasing extent. -/
  | extentZero (mid : Mid) (b : Fin 32768)
  /-- EXTENT_READ (R213): POOL_EXT_CMD OP 6 copies an extent-table entry to POOL_EXT_DATA. -/
  | extentRead (mid : Mid) (b : Fin 32768)
  /-- MAP_SLOT_READ (R209): POOL_MAP_CMD with WRITE 0 reads an LD map slot. -/
  | mapSlotRead (mid : Mid) (n : BitVec 16)
  /-- MAP_SLOT_WRITE (R209): POOL_MAP_CMD with WRITE 1 replaces an LD map slot in one step. -/
  | mapSlotWrite (mid : Mid) (n : BitVec 16)
  /-- DRAM_ACCESS (R207): A request for a line is performed at its channel in arrival order, correcting or poisoning by the line's ECC. -/
  | dramAccess (c : Fin 12) (e : LineErr) (act : Bool) (bw : Nat)
  /-- ERROR_WINDOW_EXPIRE (R217): Each fixed 1 s window restarts the per-rank corrected and per-channel uncorrectable counts. -/
  | errorWindowExpire
  /-- CHANNEL_FAILED (R219): A channel exceeding UE_LIMIT or failing retrain is failed: reads poison, writes dropped, grants refused. -/
  | channelFailed (c : Fin 12)
  /-- PHY_TRAINING_LOST (R219): A channel PHY losing training retrains once within 2 ms while its requests wait. -/
  | phyTrainingLost (c : Fin 12)
  /-- PATROL_SCRUB_READ (R220): The patrol scrub reads a line, writing back a corrected line or poisoning an uncorrectable one. -/
  | patrolScrubRead (e : LineErr)
  /-- DRAM_REFRESH (R221): At each tREFI the controller refreshes banks and issues any RFM or directed refresh due. -/
  | dramRefresh (c : Fin 12)
  /-- CONFIG_REQUEST (R246): A configuration request to a host-facing function is performed, or answered with CRS during shutdown, or UR when not presented. -/
  | configRequest (v : Fin 64) (t : CfgTgt) (r : CfgReg) (w : Option Nat)
  /-- DOORBELL (R232): A DOORBELL write records a new tail and submits descriptors, passing them to the channel within the share. -/
  | doorbell (n : Fin 1024) (q : Fin 64) (t : BitVec 32)
  /-- FN_CFG_WRITE (R227): A write to HEP_FN_CFG is checked for export, slot and vector rules, and an EXPORT clear shuts the function down. -/
  | fnCfgWrite (mid : Mid) (n : Fin 1024) (v : Word)
  /-- QMAP_READ (R232): HEP_QMAP_CMD with WRITE 0 reads a queue-map entry. -/
  | qmapRead (mid : Mid) (n : Fin 1024) (q : Fin 64)
  /-- QMAP_WRITE (R232): HEP_QMAP_CMD with WRITE 1 maps a queue to a channel while the function is absent or idle. -/
  | qmapWrite (mid : Mid) (n : Fin 1024) (q : Fin 64)
  /-- WINDOW_ACCESS (R231): A host access to BAR2 reaches the internal address behind the window, checked by the bridge's MPU. -/
  | windowAccess (n : Fin 1024) (a : BarAcc) (e : LineErr)
  /-- DPC_TRIGGER (R238): An unmasked uncorrectable error or software trigger contains the vPPB and disables a whole-device link. -/
  | dpcTrigger (v : Fin 64) (k : Fin 256) (sw : Bool)
  /-- DPC_CLEAR (R240): A host write clearing DPC Trigger Status releases the vPPB once flush and requests are done. -/
  | dpcClear (v : Fin 64) (k : Fin 256)
  /-- FUNCTION_LEVEL_RESET (R243): Initiate Function Level Reset starts a shutdown of the function. -/
  | functionLevelReset (n : Fin 1024)
  /-- BUS_MASTER_ENABLE_CLEAR (R242): Bus Master Enable written 0 starts a shutdown keeping configuration and register page. -/
  | busMasterEnableClear (n : Fin 1024)
  /-- VF_ENABLE_CLEAR (R242): Clearing VF Enable shuts down every VF. -/
  | vfEnableClear
  /-- SECONDARY_BUS_RESET (R242): Secondary Bus Reset or Link Disable on a function vPPB shuts down every function below it. -/
  | secondaryBusReset (v : Fin 64) (link : Bool)
  /-- TAG_RECLAIM (R244): At TAG_TO outstanding tags of a function in shutdown are reclaimed and counted. -/
  | tagReclaim (n : Fin 1024)
  /-- TAG_RELEASE (R244): A further TAG_TO after reclaim the tag may be reused. -/
  | tagRelease (n : Fin 1024)
  /-- SHUTDOWN_COMPLETE (R247): The shutdown completes and the function's state is set by its cause. -/
  | shutdownComplete (n : Fin 1024)
  /-- D3HOT_ENTER (R228): A function entering D3hot pauses its channels and answers memory requests with UR. -/
  | d3hotEnter (n : Fin 1024)
  /-- D0_RETURN (R228): A function returning to D0 resumes its paused channels with state kept. -/
  | d0Return (n : Fin 1024)
  /-- FREEZE (R248): HEP_MIG_CMD OP 1 stops new issue and pauses the function's channels. -/
  | freeze (mid : Mid) (n : Fin 1024)
  /-- FREEZE_COMPLETE (R248): When no request of the function remains outstanding the freeze completes with STATE 4. -/
  | freezeComplete (n : Fin 1024)
  /-- FREEZE_TIMEOUT (R248): A read still outstanding at TAG_TO is reclaimed and the freeze completes with RESULT 2. -/
  | freezeTimeout (n : Fin 1024)
  /-- SAVE (R249): HEP_MIG_CMD OP 2 writes the save record of a frozen function unless refused. -/
  | save (mid : Mid) (n : Fin 1024)
  /-- RESTORE (R251): HEP_MIG_CMD OP 3 loads a save record into a frozen function unless refused. -/
  | restore (mid : Mid) (n : Fin 1024) (ext : Bytes)
  /-- UNFREEZE (R251): HEP_MIG_CMD OP 4 resumes channels from their contexts, passes held descriptors and sends pending vectors. -/
  | unfreeze (mid : Mid) (n : Fin 1024)
  /-- DESCRIPTOR_FETCH (R256): A channel fetches the next available descriptor or chain continuation into its shadow, checking the chain limit. -/
  | descriptorFetch (e : Fin 16) (c : Fin 64)
  /-- HAND_OVER (R265): The shadow descriptor is copied to the active registers in one cycle, ARM cleared and COUNT incremented. -/
  | handOver (e : Fin 16) (c : Fin 64)
  /-- BURST_ISSUE (R278): An engine issues one burst per turn for the highest-priority eligible channel. -/
  | burstIssue (e : Fin 16)
  /-- READ_DATA_ARRIVE (R260): Read data for a burst arrive and the burst's writes are issued. -/
  | readDataArrive (e : Fin 16)
  /-- DATA_TIMEOUT (R255): An internal or window read unanswered within DATA_TO ends as a bus error. -/
  | dataTimeout (e : Fin 16) (c : Fin 64)
  /-- FETCH_TIMEOUT (R271): A descriptor fetch unanswered within FETCH_TO ends as a bus error. -/
  | fetchTimeout (e : Fin 16) (c : Fin 64)
  /-- CHAIN_COMPLETE (R262): When every write of a chain is accepted the completion record is written, HEAD advances and the interrupt is raised if requested. -/
  | chainComplete (e : Fin 16) (c : Fin 64)
  /-- TAIL_WRITE (R256): Software writes HOP_CH_PTR.TAIL of a management channel, making descriptors available. -/
  | tailWrite (mid : Mid) (e : Fin 16) (c : Fin 64) (t : BitVec 16)
  /-- SHADOW_WRITE (R265): A write to a shadow word lands in the shadow and updates WSWAP. -/
  | shadowWrite (mid : Mid) (e : Fin 16) (c : Fin 64) (k : Fin 8) (v : Word)
  /-- SHADOW_ARM (R265): Writing ARM 1 arms the register-mode shadow for hand-over. -/
  | shadowArm (mid : Mid) (e : Fin 16) (c : Fin 64)
  /-- SHADOW_DISARM (R265): Writing ARM 0 withdraws an armed shadow not yet taken. -/
  | shadowDisarm (mid : Mid) (e : Fin 16) (c : Fin 64)
  /-- CHANNEL_ENABLE (R264): Setting HOP_CH_CTRL.EN makes a Disabled channel Idle. -/
  | channelEnable (mid : Mid) (e : Fin 16) (c : Fin 64)
  /-- CHANNEL_DISABLE (R264): Clearing EN disables an Idle or Halted channel, and is refused otherwise. -/
  | channelDisable (mid : Mid) (e : Fin 16) (c : Fin 64)
  /-- CHANNEL_PAUSE (R274): A pause request stops the channel at the next burst boundary and sets PAUSED_BY. -/
  | channelPause (mid : Mid) (e : Fin 16) (c : Fin 64)
  /-- CHANNEL_RESUME (R274): When every PAUSED_BY bit is clear the channel resumes where it stopped. -/
  | channelResume (mid : Mid) (e : Fin 16) (c : Fin 64)
  /-- CHANNEL_RETRY (R275): CMD RETRY refetches the halted descriptor and resumes at the failed burst. -/
  | channelRetry (mid : Mid) (e : Fin 16) (c : Fin 64)
  /-- CHANNEL_SKIP (R275): CMD SKIP leaves the halted slot completed and goes on with the next. -/
  | channelSkip (mid : Mid) (e : Fin 16) (c : Fin 64)
  /-- CHANNEL_CLEAR (R275): CMD CLEAR discards active and shadow descriptors, sets HEAD to TAIL and goes Idle. -/
  | channelClear (mid : Mid) (e : Fin 16) (c : Fin 64)
  /-- CHANNEL_ABORT (R273): CMD ABORT lets the current burst finish and issues no further burst. -/
  | channelAbort (mid : Mid) (e : Fin 16) (c : Fin 64)
  /-- ABORT_COMPLETE (R273): After the burst's last write is accepted the abort record is written, the interrupt raised and the channel halted. -/
  | abortComplete (e : Fin 16) (c : Fin 64)
  /-- ENGINE_MODE_WRITE (R266): A write to HOP_ENG_CTRL.MODE switches service or maintenance mode if every channel is Disabled, Idle or Halted. -/
  | engineModeWrite (mid : Mid) (e : Fin 16) (m : Bool)
  /-- ENGINE_FAILED (R276): A failed engine stops, flushes its egress queue and writes engine-fault records for its chains. -/
  | engineFailed (e : Fin 16) (unreadable : BitVec 64)
  /-- ENGINE_FAIL (R276): HOP_ENG_CTRL.FAIL declares the engine failed. -/
  | engineFail (mid : Mid) (e : Fin 16)
  /-- SCRATCHPAD_ACCESS (R282): A bank serves a port A or port B access, arbitrating same-row accesses of both ports. -/
  | scratchpadAccess (a : Option Acc) (b : Option (Fin 64)) (e : LineErr)
  /-- BANK_OWNER_WRITE (R286): A write to SPD_BANK_CFG.OWNER refuses the losing port and drains its accepted accesses. -/
  | bankOwnerWrite (mid : Mid) (b : Fin 64) (o : BitVec 2)
  /-- OWNER_DRAIN_END (R286): At the end of the drain the new owner takes effect and the write completes. -/
  | ownerDrainEnd (b : Fin 64)
  /-- BANK_POWER_WRITE (R287): A write to SPD_BANK_CFG.PWR starts a change of the bank's power state. -/
  | bankPowerWrite (mid : Mid) (b : Fin 64) (p : BitVec 2)
  /-- BANK_READY (R287): A bank changing towards on becomes ready, zeroed after off, and waiting accesses proceed. -/
  | bankReady (b : Fin 64)
  /-- REGION_WORD0_WRITE (R299): A write to word 0 of an MPU region applies it together with the held word 1. -/
  | regionWord0Write (mid : Mid) (m : Fin 29) (r : Fin 32) (v : Word)
  /-- REGION_WORD1_WRITE (R299): A write to word 1 of an MPU region is held until word 0 is written. -/
  | regionWord1Write (mid : Mid) (m : Fin 29) (r : Fin 32) (v : Word)
  /-- MPU_FENCE (R301): MPU_FENCE.START sets BUSY until every access checked before it has retired. -/
  | mpuFence (mid : Mid) (m : Fin 29)
  /-- FENCE_COMPLETE (R301): The last access the fence waits for retires and BUSY clears. -/
  | fenceComplete (m : Fin 29)
  /-- CORE_ACCESS (R303): A Millwright core load, store, atomic or fetch is checked by its MPU and served cached, uncached or faulted by region. -/
  | coreAccess (k : Fin 8) (op : CoreOp) (priv : Bool) (addr : BitVec 48) (len : Fin 65) (data : Bytes) (evict : List Nat) (e : LineErr)
  /-- TIMER_INTERRUPT (R306): A core's timer interrupt becomes pending when mtime reaches its MTIMECMP. -/
  | timerInterrupt (k : Fin 8)
  /-- SOFTWARE_INTERRUPT (R306): MGT_SWI_SET sets a core's software interrupt pending. -/
  | softwareInterrupt (mid : Mid) (set : BitVec 8)
  /-- CORE_FAILED (R307): A failed core is held in reset, its reads discarded, status updated and lines rerouted. -/
  | coreFailed (k : Fin 8)
  /-- CORE_FAIL (R307): MGT_CORE_CTRL.FAIL declares a core failed. -/
  | coreFail (mid : Mid) (k : Fin 8)
  /-- CORE_RESTART (R307): MGT_CORE_CTRL.RESTART invalidates a core's L1 caches and restarts it at ENTRY. -/
  | coreRestart (mid : Mid) (k : Fin 8)
  /-- WATCHDOG_KICK (R308): Writing KICK restarts a core's watchdog count. -/
  | watchdogKick (mid : Mid) (k : Fin 8)
  /-- WATCHDOG_EXPIRE (R308): A watchdog reaching TIMEOUT raises a Brake event and restarts its count. -/
  | watchdogExpire (k : Fin 8)
  /-- READY_SET (R312): Psihaust sets MGT_STATUS.READY and the transports start answering. -/
  | readySet (mid : Mid)
  /-- TRANSPORT_RECEIVE (R314): A packet arriving on a transport is placed in its receive ring slot or discarded if the slot is not owned. -/
  | transportReceive (x : Option (Bool × BitVec 16 × Bytes))
  /-- TRANSPORT_SEND (R314): A transmit-ring slot with OWN 1 is sent in ring order. -/
  | transportSend (t : Fin 6)
  /-- ETHERNET_FRAME (R315): A received frame is checked and handled by Psihaust as ARP or a UDP MCTP datagram. -/
  | ethernetFrame (f : Bytes) (fcs : Bool)
  /-- COMMAND_WAIT_TIMEOUT (R322): A state-changing command waiting 1 s without starting returns Busy and does nothing. -/
  | commandWaitTimeout
  /-- UNSUPPORTED_COMMAND (R319): A command not listed returns Unsupported. -/
  | unsupportedCommand (t : Fin 6) (opcode : BitVec 16)
  /-- IDENTIFY_SWITCH_DEVICE (R319): Returns the switch identity. -/
  | identifySwitchDevice (t : Fin 6)
  /-- GET_PHYSICAL_PORT_STATE (R319): Returns physical port states. -/
  | getPhysicalPortState (t : Fin 6) (ps : List (Fin 96))
  /-- GET_VIRTUAL_CXL_SWITCH_INFO (R322): Returns VCS information, reporting a vPPB in background bind as in progress. -/
  | getVirtualCxlSwitchInfo (t : Fin 6) (vs : List (Fin 64))
  /-- GET_LD_INFO (R319): Returns LD information. -/
  | getLdInfo (t : Fin 6)
  /-- GET_LD_ALLOCATIONS (R319): Returns LD allocations. -/
  | getLdAllocations (t : Fin 6) (n : Fin 64) (count : Fin 65)
  /-- GET_QOS_CONTROL (R319): Returns QoS control settings. -/
  | getQosControl (t : Fin 6)
  /-- GET_QOS_STATUS (R319): Returns QoS status. -/
  | getQosStatus (t : Fin 6)
  /-- GET_QOS_ALLOCATED_BW (R319): Returns allocated bandwidth. -/
  | getQosAllocatedBw (t : Fin 6) (n : Fin 64) (count : Fin 65)
  /-- GET_QOS_BW_LIMIT (R319): Returns bandwidth limits. -/
  | getQosBwLimit (t : Fin 6) (n : Fin 64) (count : Fin 65)
  /-- GET_DCD_INFO (R319): Returns dynamic-capacity device information. -/
  | getDcdInfo (t : Fin 6)
  /-- GET_HOST_DC_REGION_CONFIGURATION (R319): Returns a host's DC region configuration. -/
  | getHostDcRegionConfiguration (t : Fin 6) (n : Fin 64)
  /-- GET_DC_REGION_EXTENT_LISTS (R319): Returns DC region extent lists. -/
  | getDcRegionExtentLists (t : Fin 6) (n : Fin 64)
  /-- PHYSICAL_PORT_CONTROL (R319): Disables or retrains a physical port through PORT_LINK_CTRL. -/
  | physicalPortControl (t : Fin 6) (p : Fin 96) (disable : Option Bool)
  /-- SEND_PPB_CXL_IO_CONFIG_REQUEST (R319): Issues a configuration request to a PPB through MGT_DSA. -/
  | sendPpbCxlIoConfigRequest (t : Fin 6) (p : Fin 96) (write : Bool) (target : BitVec 16) (addr : BitVec 12) (be : BitVec 4) (data : BitVec 32)
  /-- SEND_LD_CXL_IO_CONFIG_REQUEST (R319): Issues a configuration request to an LD through MGT_DSA. -/
  | sendLdCxlIoConfigRequest (t : Fin 6) (p : Fin 96) (ld : BitVec 16) (write : Bool) (target : BitVec 16) (addr : BitVec 12) (be : BitVec 4) (data : BitVec 32)
  /-- SEND_LD_CXL_IO_MEMORY_REQUEST (R319): Issues a memory request to an LD through MGT_DSA. -/
  | sendLdCxlIoMemoryRequest (t : Fin 6) (p : Fin 96) (ld : BitVec 16) (write : Bool) (addr : BitVec 64) (be : BitVec 8) (data : BitVec 64)
  /-- BIND_VPPB (R319): Starts RTE_BIND_CMD OP 1 as a background operation. -/
  | bindVppb (t : Fin 6) (v : Word)
  /-- UNBIND_VPPB (R319): Starts RTE_BIND_CMD OP 2 as a background operation. -/
  | unbindVppb (t : Fin 6) (v : Word)
  /-- GENERATE_AER_EVENT (R319): Sets an error at a vPPB. -/
  | generateAerEvent (t : Fin 6) (v : Fin 64) (k : Fin 256) (bit : Fin 32) (unc : Bool)
  /-- TUNNEL_MANAGEMENT_COMMAND (R319): Forwards an inner command to an MLD through MGT_DSA. -/
  | tunnelManagementCommand (t : Fin 6) (p : Fin 96) (inner : Bytes) (changes : Bool)
  /-- SET_LD_ALLOCATIONS (R319): Sets LD allocations of the local pool or tunnels them to an MLD. -/
  | setLdAllocations (t : Fin 6) (ext : Option (Fin 96 × Bytes)) (n : Fin 64) (en : Bool) (base count : BitVec 16)
  /-- SET_QOS_CONTROL (R319): Sets QoS control of the local pool or an MLD. -/
  | setQosControl (t : Fin 6) (ext : Option (Fin 96 × Bytes)) (optimal moderate severe : BitVec 8)
  /-- SET_QOS_ALLOCATED_BW (R319): Sets allocated bandwidth. -/
  | setQosAllocatedBw (t : Fin 6) (ext : Option (Fin 96 × Bytes)) (n : Fin 64) (v : BitVec 8)
  /-- SET_QOS_BW_LIMIT (R319): Sets bandwidth limits. -/
  | setQosBwLimit (t : Fin 6) (ext : Option (Fin 96 × Bytes)) (n : Fin 64) (v : BitVec 8)
  /-- SET_DC_REGION_CONFIGURATION (R319): Writes POOL_LD_MAP while the LD is disabled. -/
  | setDcRegionConfiguration (t : Fin 6) (n : Fin 64) (base count sharedFirst : BitVec 16)
  /-- INITIATE_DYNAMIC_CAPACITY_ADD (R319): Grants extents and posts Add Capacity events as a background operation. -/
  | initiateDynamicCapacityAdd (t : Fin 6) (shared : Bool) (owner : BitVec 16) (exts : List (Fin 32768 × BitVec 16))
  /-- INITIATE_DYNAMIC_CAPACITY_RELEASE (R319): Releases, flushes and zeroes extents as a background operation. -/
  | initiateDynamicCapacityRelease (t : Fin 6) (exts : List (Fin 32768)) (forced : Bool)
  /-- GET_TELEMETRY (R321): Returns counter values and mtime. -/
  | getTelemetry (t : Fin 6) (first count : BitVec 16)
  /-- GET_FAULT_HISTORY (R321): Returns Brake history records. -/
  | getFaultHistory (t : Fin 6) (n : BitVec 16)
  /-- FLASH_OPERATION (R321): Performs a flash erase, program or read through IMG_FLASH_CTRL. -/
  | flashOperation (t : Fin 6) (op : BitVec 8) (addr len : BitVec 32) (spd : Fin 16777216) (data : Bytes)
  /-- COMMIT_ANTI_ROLLBACK (R321): Sets IMG_ARB.COMMIT and returns the counter. -/
  | commitAntiRollback (t : Fin 6)
  /-- GROUP_RELOAD_COMMAND (R321): Copies a group image from the group-image area to the scratchpad and starts a group reload. -/
  | groupReloadCommand (t : Fin 6) (addr : BitVec 32) (spd : Fin 16777216)
  /-- HOST_COHERENCE (R321): Removes or admits a host through COH_HOST_CMD. -/
  | hostCoherence (t : Fin 6) (op h : BitVec 8)
  /-- SET_SHARING_GROUP (R321): Writes a sharing-groups table entry. -/
  | setSharingGroup (t : Fin 6) (g : BitVec 32) (members : BitVec 64) (valid : Bool)
  /-- SET_PROXY_EXPANDER (R324): Prepares an expander through MGT_DSA and then sets COH_PROXY and POOL_PROXY. -/
  | setProxyExpander (t : Fin 6) (n port : BitVec 8) (ldid : BitVec 16) (k : BitVec 8) (base count : BitVec 16) (dpaBase : BitVec 32) (valid : Bool) (prep : List DsaReq)
  /-- SET_ENDPOINT_ID (R316): MCTP control: assigns the endpoint ID on a binding. -/
  | setEndpointId (t : Fin 6) (eid : BitVec 8)
  /-- GET_ENDPOINT_ID (R316): MCTP control: returns the endpoint ID. -/
  | getEndpointId (t : Fin 6)
  /-- GET_ENDPOINT_UUID (R316): MCTP control: returns the endpoint UUID. -/
  | getEndpointUuid (t : Fin 6)
  /-- GET_MCTP_VERSION_SUPPORT (R316): MCTP control: returns supported versions. -/
  | getMctpVersionSupport (t : Fin 6)
  /-- GET_MESSAGE_TYPE_SUPPORT (R316): MCTP control: lists message types 0x00, 0x07 and 0x08. -/
  | getMessageTypeSupport (t : Fin 6)
  /-- IDENTIFY_MEMORY_DEVICE (R229): Pool LD mailbox: returns the memory-device identity. -/
  | identifyMemoryDevice (n : Fin 64)
  /-- GET_EVENT_RECORDS (R229): Pool LD mailbox: returns event records. -/
  | getEventRecords (n : Fin 64)
  /-- CLEAR_EVENT_RECORDS (R229): Pool LD mailbox: clears event records. -/
  | clearEventRecords (n : Fin 64) (count : Fin 65536)
  /-- GET_DYNAMIC_CAPACITY_CONFIGURATION (R229): Pool LD mailbox: returns the dynamic-capacity configuration. -/
  | getDynamicCapacityConfiguration (n : Fin 64)
  /-- GET_DYNAMIC_CAPACITY_EXTENT_LIST (R229): Pool LD mailbox: returns the extent list. -/
  | getDynamicCapacityExtentList (n : Fin 64)
  /-- ADD_DYNAMIC_CAPACITY_RESPONSE (R214): Pool LD mailbox: the host accepts offered extents, which are mapped and activated. -/
  | addDynamicCapacityResponse (n : Fin 64) (accept reject : List (Fin 32768))
  /-- RELEASE_DYNAMIC_CAPACITY (R215): Pool LD mailbox: the host releases extents, which are unmapped, flushed and zeroed. -/
  | releaseDynamicCapacity (n : Fin 64) (exts : List (Fin 32768))
  /-- GET_HEALTH_INFO (R229): Pool LD mailbox: returns health information. -/
  | getHealthInfo (n : Fin 64)
  /-- GET_SUPPORTED_LOGS (R229): Pool LD mailbox: lists supported logs. -/
  | getSupportedLogs (n : Fin 64)
  /-- GET_LOG (R229): Pool LD mailbox: returns a log. -/
  | getLog (n : Fin 64) (log : Fin 4)
  /-- DSA_CONFIG_READ (R323): MGT_DSA OP 0 issues a configuration read towards a downstream port. -/
  | dsaConfigRead (mid : Mid)
  /-- DSA_CONFIG_WRITE (R323): MGT_DSA OP 1 issues a configuration write. -/
  | dsaConfigWrite (mid : Mid)
  /-- DSA_MEMORY_READ (R323): MGT_DSA OP 2 issues a memory read. -/
  | dsaMemoryRead (mid : Mid)
  /-- DSA_MEMORY_WRITE (R323): MGT_DSA OP 3 issues a memory write. -/
  | dsaMemoryWrite (mid : Mid)
  /-- DSA_COMPLETE (R323): A completion ends the DSA request with its RESULT. -/
  | dsaComplete (st : DsaStatus) (data : Bytes)
  /-- DSA_TIMEOUT (R323): No completion within 50 ms ends the DSA request with RESULT 3. -/
  | dsaTimeout
  /-- SLOT_ENABLE (R337): Writing SLC_CTRL.EN = 1 requests slot power and clears a latch if armed and cooled down. -/
  | slotEnable (mid : Mid) (n : Fin 32)
  /-- SLOT_DISABLE (R332): Writing EN = 0 turns the feeds off within 1 µs, arming a latched slot. -/
  | slotDisable (mid : Mid) (n : Fin 32)
  /-- SLOT_POWER_UP (R333): When every condition holds the controller chooses a feed, enhances BLK and ramps the slot rail to PGOOD. -/
  | slotPowerUp (n : Fin 32)
  /-- RAMP_FAIL (R333): VOUT below 90 % of VBUS at 100 µs + 2 × RAMP latches the slot with CAUSE 3. -/
  | rampFail (n : Fin 32)
  /-- SLOW_TRIP (R334): The fault timer reaching FAULT_T pulls in both gates and latches the slot with CAUSE 2. -/
  | slowTrip (n : Fin 32)
  /-- FAST_TRIP (R335): The fast comparator crossing 2 × V_LIM pulls in both gates within 1 µs and latches with CAUSE 1. -/
  | fastTrip (n : Fin 32)
  /-- COOL_DOWN_EXPIRE (R337): The cool-down timer reaches 0. -/
  | coolDownExpire (n : Fin 32)
  /-- PRESENCE_INSERT (R329): PRSNT_N low for 20 ms sets PRESENT and the presence event. -/
  | presenceInsert (n : Fin 32)
  /-- PRESENCE_REMOVE (R329): PRSNT_N high for 100 µs clears PRESENT, turning a gated slot off. -/
  | presenceRemove (n : Fin 32)
  /-- REVERSE_CURRENT (R339): The reverse comparator pulls in BLK and brings GATE back to the limit level. -/
  | reverseCurrent (n : Fin 32)
  /-- REVERSE_RECOVER (R339): Once the bus exceeds VOUT by 50 mV BLK is re-enhanced and the rail recharges under limit. -/
  | reverseRecover (n : Fin 32)
  /-- BUS_UNDERVOLTAGE (R340): The feed bus below UV for 50 µs stops being good, switching feed or starting a 10 ms hold. -/
  | busUndervoltage (n : Fin 32) (x : Fin 2)
  /-- BUS_OVERVOLTAGE (R340): The feed bus above OV for 5 µs pulls the feed in, switching feed or waiting. -/
  | busOvervoltage (n : Fin 32) (x : Fin 2)
  /-- UV_HOLD_EXPIRE (R340): A bus still below UV after the 10 ms hold turns the feed off and the slot waits. -/
  | uvHoldExpire (n : Fin 32) (below : Bool)
  /-- BUS_GOOD (R330): A bus back in window for 100 ms counts as good again, powering a waiting slot or returning to the preferred feed. -/
  | busGood (n : Fin 32) (x : Fin 2)
  /-- SWITCHOVER (R341): A break-before-make switch turns the old feed off and starts the dead time. -/
  | switchover (n : Fin 32)
  /-- DEAD_TIME_EXPIRE (R341): After DEAD the new feed's BLK and pass transistor are enhanced and the slot is on again. -/
  | deadTimeExpire (n : Fin 32) (low : Bool) (held : Bool)
  /-- FORCE_WRITE (R343): A write to SLC_CTRL.FORCE switches, defers or returns the feed as its state allows. -/
  | forceWrite (mid : Mid) (n : Fin 32) (f : Fin 4)
  /-- PASS_TRANSISTOR_SHORT (R344): SRC above 1 V for 1 ms with the feed off declares the pass transistor shorted and latches with CAUSE 4 or 5. -/
  | passTransistorShort (n : Fin 32) (x : Fin 2)
  /-- LIMIT_WRITE (R328): A Governor write of Sluice limits is accepted only with both feeds off, then VALID is set. -/
  | limitWrite (n : Fin 32) (j : Fin 4) (v : BitVec 32)
  /-- MEASUREMENT_REFRESH (R346): SLC_MEAS is refreshed every 10 µs. -/
  | measurementRefresh (n : Fin 32) (vout : BitVec 16) (busA : BitVec 16) (busB : BitVec 16) (iout : BitVec 16)
  /-- BRAKE_EVENT (R353): Brake accepts a source event, counts it, decides normal or severe and takes that action set. -/
  | brakeEvent (u : Option UnitEv) (e : BrkErr)
  /-- BLOCK_RESET_RELEASE (R356): A lane group held by a block reset is released and its used ports enter Detect. -/
  | blockResetRelease (g : Fin 16)
  /-- WINDOW_CLOSE (R353): A source's counting window ends and its count returns to 0. -/
  | windowClose (n : Fin 4096)
  /-- SEVERE_CLEAR (R354): Writing 1 to a BRK_SEV bit ends severity, closes the window and zeroes the count. -/
  | severeClear (mid : Mid) (n : Fin 4096)
  /-- REACTION_WRITE (R354): A Governor write of BRK_REACT applies to later events, refused whole if invalid. -/
  | reactionWrite (n : Fin 4096) (v : BitVec 32)
  /-- REACTION_REWRITE (R370): After an uncorrectable reaction error the Governor rewrites the reaction from its copy within 50 µs. -/
  | reactionRewrite (n : Fin 4096)
  /-- PIN_RELEASE (R358): Writing 1 to BRK_PIN.ASSERTED releases the pin, deferred to 10 µs after its assertion. -/
  | pinRelease (mid : Mid) (k : Fin 4)
  /-- PIN_RELEASE_DEFERRED (R358): A deferred pin release takes effect 10 µs after the assertion. -/
  | pinReleaseDeferred (k : Fin 4)
  /-- HISTORY_POP (R360): BRK_HIST_CTRL.POP removes the head record. -/
  | historyPop (mid : Mid)
  /-- HISTORY_CLEAR (R360): BRK_HIST_CTRL.CLEAR empties the history queue. -/
  | historyClear (mid : Mid)
  /-- INJECTION_ARM (R367): Writing BRK_INJ_CTRL with ARM 1 arms one error injection unless one is already armed or the target is invalid. -/
  | injectionArm (mid : Mid) (target : BitVec 8) (index : BitVec 8) (ue : Bool) (m : Bool) (bit : Fin 64)
  /-- INJECTION_DISARM (R367): A write clearing ARM disarms an injection not yet applied. -/
  | injectionDisarm (mid : Mid)
  /-- SOFTWARE_RAISE (R369): BRK_SW_RAISE raises software source 4032 + INDEX with BRK_SW_DATA. -/
  | softwareRaise (mid : Mid) (n : Fin 64)
  /-- PROGRAM_KEY_SET (R376): Signed command OP 1 burns a key-set digest and its PROGRAMMED fuse. -/
  | programKeySet (path : CmdPath)
  /-- REVOKE_KEY_SET (R376): Signed command OP 2 burns a key set's REVOKED fuse. -/
  | revokeKeySet (path : CmdPath)
  /-- PROGRAM_IMAGE_SEED (R376): Signed command OP 3 inside an SPDM session burns the image seed. -/
  | programImageSeed (path : CmdPath)
  /-- CLEAR_ALARM (R387): Signed command OP 4 clears alarm level 1 and releases ALARM_N. -/
  | clearAlarm (path : CmdPath)
  /-- DEBUG_TOKEN (R379): Signed command OP 5 issues a debug token setting TOKEN and RUNCTL as permitted. -/
  | debugToken (path : CmdPath)
  /-- FUSE_BURN_DONE (R376): A Governor fuse burn completes and the request's RESULT is written. -/
  | fuseBurnDone (ok : Bool)
  /-- TOKEN_EXPIRE (R379): A debug token's lifetime expires and TOKEN and RUNCTL are cleared. -/
  | tokenExpire
  /-- SPDM_MESSAGE (R381): GOV_REQ_CMD OP 2 has the Governor answer or issue an SPDM message. -/
  | spdmMessage (mid : Mid) (p : Fin 96) (len : Fin 4097)
  /-- KEY_PROG (R382): IDE_KM KEY_PROG from the host programs a key set of an upstream port. -/
  | keyProg (p : Fin 96) (dir : Bool) (sub : Fin 4) (stream : Fin 10) (kset : Fin 2) (key : Vector Word 4) (iv : Word)
  /-- K_SET_GO (R382): IDE_KM K_SET_GO makes a key set take effect within 10 µs. -/
  | kSetGo (p : Fin 96) (dir : Bool) (sub : Fin 4) (stream : Fin 10) (kset : Fin 2)
  /-- K_SET_STOP (R382): IDE_KM K_SET_STOP stops a key set. -/
  | kSetStop (p : Fin 96) (dir : Bool) (sub : Fin 4) (stream : Fin 10) (kset : Fin 2)
  /-- KEY_PROGRAM (R382): GOV_KPROG.START writes or erases a key set in a port's IDE engine. -/
  | keyProgram (v : BitVec 32)
  /-- TAMPER_INPUT (R384): A TAMPER_N input low for 10 µs raises its source and the alarm. -/
  | tamperInput (n : Fin 4) (low : Bool)
  /-- VOLTAGE_GLITCH (R385): The core rail leaving its AVS window by over 80 mV raises the alarm to 1, or 2 on a second glitch in 1 s. -/
  | voltageGlitch
  /-- CLOCK_GLITCH (R385): A short clock period raises the alarm to 1, or 2 on a second glitch in 1 s. -/
  | clockGlitch
  /-- LIMITER_TICK (R388): Every 100 ns the limiter estimates core current, grants or holds activity and drives LOAD_WARN. -/
  | limiterTick (want : Fin 512)
  /-- THERMAL_SAMPLE (R390): Every 10 µs the sensors are sampled and warning, shutdown or hardware trip is applied. -/
  | thermalSample (t : Fin 256) (sensor : Fin 24)
  /-- THERMAL_HOLD_END (R390): After 10 s at or below WARN − 10 °C in hold a chip reset starts. -/
  | thermalHoldEnd
  /-- LOCKSTEP_MISMATCH (R391): A Governor core mismatch restarts the cores from ROM and raises the alarm, or halts them on a second mismatch in 1 s. -/
  | lockstepMismatch
  /-- SRAM_SCRUB_READ (R394): The scrub reads a word in an idle cycle, writes back a correction conditionally or handles an uncorrectable word. -/
  | sramScrubRead (w : ScrubWord) (e : LineErr) (last : Bool)
  /-- ADAPTATION_VISIT (R397): The adaptation controller changes one receiver setting of an active lane by one code and measures the eye. -/
  | adaptationVisit (t : Fin 4) (lane : Fin 64) (cdr : Bool) (more : Bool)
  /-- ADAPTATION_DECIDE (R397): After the 5 µs measurement the change is kept or reverted. -/
  | adaptationDecide (t : Fin 4) (keep : Bool)
  /-- LOG_START (R400): With LOG_EN and a running image the log writer reads the sector headers and resumes after the newest. -/
  | logStart
  /-- LOG_RECORD (R399): The log writer receives a copy of a Brake record and stages it or drops it. -/
  | logRecord
  /-- LOG_PAGE_PROGRAM (R399): With eight records waiting the log writer programs a 256-byte page. -/
  | logPageProgram
  /-- LOG_FLUSH_TIMEOUT (R399): FLUSH seconds after the oldest waiting record a partial page is programmed. -/
  | logFlushTimeout
  /-- LOG_FLASH_DONE (R399): A log program or erase ends, or fails and marks the sector bad. -/
  | logFlashDone (ok : Bool)
  /-- TELEMETRY_SNAPSHOT (R401): Every FAN_TELEM.PERIOD ms Fantail strobes a counter snapshot and increments SEQ. -/
  | telemetrySnapshot
  /-- ROTATION_DUE (R403): Every FAN_ROT.PERIOD minutes Fantail starts a slice rotation. -/
  | rotationDue
  /-- ROTATION_RETRY (R403): A skipped rotation is tried again 60 s later. -/
  | rotationRetry
  /-- SLICE_TEST_DONE (R403): The rotated-out slice's test ends, making it a free spare or failed. -/
  | sliceTestDone (ok : Bool)
  /-- ENGINE_TEST_TURN (R404): At its turn an eligible Hopper engine starts its sliced self-test. -/
  | engineTestTurn
  /-- ENGINE_TEST_SLICE (R404): One test slice of at most 2 µs runs, ended early by work on the engine. -/
  | engineTestSlice (fault : Bool)
  /-- ENGINE_TEST_SKIP (R404): An engine not eligible for 60 minutes after its turn is skipped. -/
  | engineTestSkip
  /-- SPARE_LANE_TEST (R405): Each second a spare crossing lane is driven with a test pattern for 1 µs. -/
  | spareLaneTest (tile : Fin 4) (lane : Fin 16) (ok : Bool)
  /-- COUNTER_TICK (R408): Each 1 ns tick every enabled counter adds the amount its mode gives. -/
  | counterTick (ev : List PmcEv) (cs : List CoreAt)
  /-- SNAPSHOT (R412): PMC_CTRL.SNAP copies all counters to PMC_SNAP at one tick boundary. -/
  | snapshot (mid : Mid)
  /-- COUNTER_CLEAR (R408): PMC_CTRL.CLEAR sets every counter to 0 at the next tick boundary. -/
  | counterClear (mid : Mid)
  /-- SELECTOR_WRITE (R409): A write to PMC_SEL is refused for reserved units, events, modes or invalid CHAIN, SAMPLE or PRECISE. -/
  | selectorWrite (mid : Mid) (n : Fin 1024) (v : Word)
  /-- SAMPLE_TIMEOUT (R414): A tagged packet not at its last point within 10 ms is recorded with TIMEOUT. -/
  | sampleTimeout (k : Fin 8)
  /-- SAMPLE_POP (R415): PMC_SMP_CTRL.POP removes the head sample record. -/
  | samplePop (mid : Mid)
  /-- SAMPLE_CLEAR (R415): PMC_SMP_CTRL.CLEAR empties the sample buffer. -/
  | sampleClear (mid : Mid)
  /-- POWER_ON_RESET (R421): The always-on rails below threshold assert power-on reset, clearing everything but fuses. -/
  | powerOnReset
  /-- POWER_UP (R427): After power-on reset release the Governor locks PLLs, sets AVS, releases loader, Brake, pool and self-tests. -/
  | powerUp (t : SelfTest)
  /-- CHIP_RESET (R426): The Governor withdraws grants, ramps down, holds and zeroes the device, then releases it as in power-up. -/
  | chipReset (t : SelfTest)
  /-- RESET_PIN (R425): RESET_N held low for 1 µs requests a chip reset held until the pin is high. -/
  | resetPin (low : Bool)
  /-- SOFTWARE_CHIP_RESET (R425): Writing 1 to CRP_SW_RESET.CHIP requests a chip reset. -/
  | softwareChipReset (mid : Mid)
  /-- RAIL_FAULT (R420): A rail outside tolerance for 5 µs raises its monitor's source. -/
  | railFault (m : Fin 8) (bad : Bool)
  /-- BROWN_OUT (R420): A rail outside 90–110 % for 2 µs holds every unit except the Governor in reset. -/
  | brownOut (m : Fin 7)
  /-- BROWN_OUT_END (R420): After every rail has been in tolerance for 1 ms the device is released as in a chip reset. -/
  | brownOutEnd (t : SelfTest)
  /-- SLC_SUPPLY_LOSS (R420): A VDD_SLC brown-out turns every Sluice feed off without a latch. -/
  | slcSupplyLoss
  /-- SLC_SUPPLY_RESTORE (R420): After VDD_SLC is in tolerance for 100 ms the controllers act again. -/
  | slcSupplyRestore
  /-- SYSCLK_LOSS (R423): Loss of SYSCLK or a core PLL ramps down and holds the device in reset. -/
  | sysclkLoss (pll : Bool)
  /-- SYSCLK_RESTORE (R423): SYSCLK valid for 1 ms releases the device as in a chip reset. -/
  | sysclkRestore (t : SelfTest)
  /-- AOCLK_LOSS (R423): Loss of AOCLK moves the always-on domain to the internal oscillator within 1 µs. -/
  | aoclkLoss
  /-- AOCLK_RESTORE (R423): AOCLK valid for 1 ms returns the always-on domain to it. -/
  | aoclkRestore
  /-- AVS_ADJUST (R419): The Governor adjusts the VDD_CORE request in 5 mV steps, clamping and reporting out-of-range requests. -/
  | avsAdjust (up : Bool) (steps : Fin 64)
  /-- PERST_ASSERT (R428): A PERST_N low for 1 µs holds its upstream ports in Detect and starts a VCS reset. -/
  | perstAssert (n : Fin 32)
  /-- PERST_RELEASE (R428): A PERST_N high for 1 µs lets its ports leave Detect. -/
  | perstRelease (n : Fin 32)
  /-- HOT_RESET (R430): Hot Reset received on an upstream link starts a VCS reset. -/
  | hotReset (p : Fin 96)
  /-- VCS_RESET_COMPLETE (R430): When the cause has ended and every shutdown completed, CRP_VCS_RESET clears. -/
  | vcsResetComplete (v : Fin 64)
  /-- POOL_STANDBY_ENTER (R431): Writing POOL_STBY = 1 puts every channel in self-refresh unless refused. -/
  | poolStandbyEnter (mid : Mid)
  /-- POOL_STANDBY_EXIT (R431): Writing POOL_STBY = 0, or an access reaching a channel, leaves standby on every channel. -/
  | poolStandbyExit (mid : Option Mid)
  /-- RECOVERY_RETRAIN_COMPLETE (R105): When the lanes of an OFL port in Recovery have locked and shown intact alignment blocks, the end sends resume training flits carrying its e and running counts. -/
  | recoveryRetrainComplete (p : Fin 96) (locked : BitVec 16)
  /-- ADD_LANE_LOCK (R98): When an end's receivers have locked and equalised the added lanes of a lane add, it sends its own LANE_READY and switches transmit if it has already received the partner's. -/
  | addLaneLock (p : Fin 96)
  /-- HOST_COMPLETION_TIMEOUT (R271): A host-space read of a Hopper function channel unanswered within the function's Completion Timeout ends as a bus error with DETAIL 0x03 and is logged under R236. -/
  | hostCompletionTimeout (n : Fin 1024) (tag : Fin 1024)
  /-- CHANNEL_RETRAIN_COMPLETE (R219): A DDR5 channel whose PHY lost training completes its single retrain within 2 ms and its waiting requests proceed. -/
  | channelRetrainComplete (c : Fin 12)
  /-- PORT_REDETECT (R356): A PCIe/CXL port taken down by a Brake block reset re-enters Detect up to 12 ms later unless DISABLE is set. -/
  | portRedetect (p : Fin 96)
  /-- VPPB_LINK_DISABLE (R161): A host setting Link Disable on a vPPB under managed unbind lets the unbind continue from its step 3. -/
  | vppbLinkDisable (v : Fin 64) (k : Fin 256)
  /-- CURRENT_LIMIT (R334): The sense voltage of the feed in use reaching or leaving V_LIM starts or ends gate regulation at I_LIM and the fault timer's counting up. -/
  | currentLimit (n : Fin 32) (on : Bool)
deriving DecidableEq, Repr

end Sys2Proof
end

