-- ==== Sys2Proof/Config.lean ====
section
/-! DEFINITION. What the spec leaves open: opaque constants without a body. Nothing can be proved about their values, so
a statement that rests on one holds for every value. Cryptographic functions are here too: the spec names the standard
they follow and the model does not compute them. -/

namespace Sys2Proof.Config

open Sys2Proof.Machine

/-- SHA-384 of a byte string (R36, R37). -/
opaque sha384 : List Byte → List Byte

/-- ECDSA P-384 with SHA-384: key X, Y; message; r, s (R37, R375). -/
opaque ecdsaOk : List Byte → List Byte → List Byte → List Byte → Bool

/-- HMAC-SHA-384 of a key and a message (R374). -/
opaque hmac384 : List Byte → List Byte → List Byte

/-- AES-256-GCM plaintext of key, IV and ciphertext (R38). -/
opaque gcmPlain : List Byte → List Byte → List Byte → List Byte

/-- AES-256-GCM tag of key, IV, additional authenticated data and ciphertext (R38). -/
opaque gcmTag : List Byte → List Byte → List Byte → List Byte → List Byte

/-- A byte of a free value: first the State counter fresh, then the index in the value. -/
opaque freeByte : Nat → Nat → Byte

/-- A free number, by the State counter fresh. -/
opaque freeNat : Nat → Nat

/-- The random bytes of the Governor's generator, by the State counter fresh (R374). -/
opaque drbg : Nat → List Byte

/-- Spare die-to-die lanes that each tile crossing holds; the manual gives no number (R14). -/
opaque crossingSpares : Nat

/-- The body of a message in the byte layout of its standard, which the manual does not repeat (R80). -/
opaque bodyBytes : Pkt → Bytes

/-- The message that a body spells, by class (R80). -/
opaque bodyParse : Cls → Bytes → Pkt

/-- DEST of the record of a write dropped on a decode miss, which has no target (R153, R362). -/
opaque missDest : Pkt → Nat

/-- Word i of the header of a TLP, in the format that PCI Express gives for its mode (R237). -/
opaque tlpHeader : Pkt → Nat → Nat

/-- What the Governor answers to an SPDM message for a port, by the State counter fresh (R381). SPDM is a standard that the
manual does not repeat. -/
opaque spdm : Nat → Nat → Bytes → SpdmAns

/-- Where a channel address lies in a channel: module, rank, bank, row, column. The device fixes the mapping and the manual
does not state it (R206, R217). -/
opaque dramPlace : Nat → Nat × Nat × Nat × Nat × Nat

/-- The device's MCTP endpoint UUID, and the versions and logs that its standards define and the manual does not repeat (R229,
R316). -/
opaque uuid : List Nat

opaque mctpVersions : List Nat

opaque supportedLogs : List Nat

opaque logData : Nat → List Nat

/-- Vendor and Device ID of the switch ports: false upstream, true vPPB (R154 names none). -/
opaque portId : Bool → Nat

/-- Identity of the switch in the terms of CXL that the manual gives no value for (R319). -/
opaque switchId : List Nat

end Sys2Proof.Config
end

