-- ==== Sys2Proof/Machine/Regs.lean ====
section
/-! DEFINITION. The register map: one constant R.<NAME> for every register of the spec's register maps (its internal
address by R309 and the value the Reset column gives it), and one constant F.<REGISTER>_<FIELD> for every named field.
Index arguments are the index letters of the manual. An address is block base + offset, instances 64 KiB apart. -/

namespace Sys2Proof.Machine

/-- A register: its internal address (R309) and its value after a reset that clears its block (R11). -/
structure Reg where
  addr : Nat
  rst : Word
deriving DecidableEq, Repr

/-- A field of a register, bits hi down to lo. -/
structure Fld where
  reg : Reg
  hi : Nat
  lo : Nat
deriving DecidableEq, Repr

/-- Base of MPU instance m; the 29 instances lie in two ranges (R309). -/
def mpuBase (m : Nat) : Nat :=
  if m < 16 then 0x40600000 + 0x10000 * m else 0x40800000 + 0x10000 * (m - 16)

/-- KIND of MPU m (R291): 0 Millwright core, 1 Hopper engine, 2 debug access port, 3 host-window bridge. -/
def mpuKind (m : Nat) : Nat := if m < 8 then 0 else if m < 24 then 1 else if m = 24 then 2 else 3

/-- Entries of the built-in default map by kind (R296). -/
def mpuDefCount (m : Nat) : Nat := if mpuKind m = 1 then 2 else if mpuKind m = 3 then 0 else 1

def rstMPU_CFG (m : Nat) : Word := BitVec.ofNat 64 (mpuKind m * 2 ^ 24 + mpuDefCount m * 2 ^ 8 + m)

/-- Word 0 of entry r of the built-in default map (R296). -/
def rstMPU_DEF_A (m r : Nat) : Word :=
  if mpuKind m = 0 ∧ r = 0 then 0xF000000000000000#64
  else if mpuKind m = 1 ∧ r = 0 then 0xE000000000000000#64
  else if mpuKind m = 1 ∧ r = 1 then 0xE000004000000000#64
  else if mpuKind m = 2 ∧ r = 0 then 0xE000000000000000#64
  else 0#64

/-- Word 1 of entry r of the built-in default map (R296). -/
def rstMPU_DEF_B (m r : Nat) : Word :=
  if mpuKind m = 0 ∧ r = 0 then 0x000003FFFFFFFFFF#64
  else if mpuKind m = 1 ∧ r = 0 then 0x000000000003FFFF#64
  else if mpuKind m = 1 ∧ r = 1 then 0x00000057FFFFFFFF#64
  else if mpuKind m = 2 ∧ r = 0 then 0x000000000003FFFF#64
  else 0#64

/-- Reset of RTE_TBL t: its ENTRY_SIZE (R144). -/
def rstRTE_TBL (t : Nat) : Word := if t = 2 ∨ t = 3 then 0x2000000000#64 else 0x1000000000#64

/-- Reset of COH_LMAP k: logical slice 8k + i on physical slice 8k + i (R180). -/
def rstCOH_LMAP (k : Nat) : Word := BitVec.ofNat 64 (0x0706050403020100 + k * 0x0808080808080808)

/-- Reset of COH_SL_STATUS n: slices 0 to 31 active on their own logical slice, 32 and 33 free spares (R180). -/
def rstCOH_SL_STATUS (n : Nat) : Word := if n < 32 then BitVec.ofNat 64 (n * 2 ^ 24) else 0x40000000#64

/-- Sources that R348 lists; every other source is reserved. -/
def srcListed (n : Nat) : Bool :=
  decide (n ≤ 14) || n == 16 || (32 ≤ n && n ≤ 43) || (48 ≤ n && n ≤ 57) || (64 ≤ n && n ≤ 81)
  || (128 ≤ n && n ≤ 131) || (160 ≤ n && n ≤ 188) || (192 ≤ n && n ≤ 195) || n == 224 || n == 225
  || (256 ≤ n && n ≤ 319 && (n - 256) % 4 != 3) || (320 ≤ n && n ≤ 1349) || (1360 ≤ n && n ≤ 1363)
  || (1424 ≤ n && n ≤ 1429) || (1488 ≤ n && n ≤ 1623 && (n - 1488) % 4 != 3)
  || (1624 ≤ n && n ≤ 1719 && decide ((n - 1624) % 8 < 6)) || n == 1720 || n == 1721
  || (1728 ≤ n && n ≤ 1855 && decide ((n - 1728) % 8 < 2)) || (1856 ≤ n && n ≤ 2143) || (4032 ≤ n && n ≤ 4095)

/-- Reset of BRK_REACT n: the built-in reaction map (R359). -/
def rstBRK_REACT (n : Nat) : Word := if n = 13 then 0x8100#64 else if srcListed n then 0x0100#64 else 0#64

/-! ## Registers -/

/-- IMG_STATUS, 02_structure_image.md. -/
def R.IMG_STATUS : Reg := ⟨0x40200000, 0x0#64⟩

/-- IMG_SLOT_STATUS, 02_structure_image.md. -/
def R.IMG_SLOT_STATUS : Reg := ⟨0x40200004, 0x0#64⟩

/-- IMG_RUN_ID, 02_structure_image.md. -/
def R.IMG_RUN_ID : Reg := ⟨0x40200008, 0x0#64⟩

/-- IMG_ARB, 02_structure_image.md. -/
def R.IMG_ARB : Reg := ⟨0x40200010, 0x0#64⟩

/-- IMG_BOOT_OK, 02_structure_image.md. -/
def R.IMG_BOOT_OK : Reg := ⟨0x40200014, 0x0#64⟩

/-- IMG_LOAD_SRC, 02_structure_image.md. -/
def R.IMG_LOAD_SRC : Reg := ⟨0x40200018, 0x0#64⟩

/-- IMG_LOAD_CTRL, 02_structure_image.md. -/
def R.IMG_LOAD_CTRL : Reg := ⟨0x4020001C, 0x0#64⟩

/-- IMG_LOAD_STATUS, 02_structure_image.md. -/
def R.IMG_LOAD_STATUS : Reg := ⟨0x40200020, 0x0#64⟩

/-- IMG_FLASH_ADDR, 02_structure_image.md. -/
def R.IMG_FLASH_ADDR : Reg := ⟨0x40200028, 0x0#64⟩

/-- IMG_FLASH_CTRL, 02_structure_image.md. -/
def R.IMG_FLASH_CTRL : Reg := ⟨0x40200030, 0x0#64⟩

/-- IMG_LOCK, 02_structure_image.md. -/
def R.IMG_LOCK : Reg := ⟨0x402000F0, 0x0#64⟩

/-- LG_CFG[g], 03_lanes_and_ports.md. -/
def R.LG_CFG (g : Nat) : Reg := ⟨0x41000000 + 0x10000 * g, 0x0#64⟩

/-- LG_STATUS[g], 03_lanes_and_ports.md. -/
def R.LG_STATUS (g : Nat) : Reg := ⟨0x41000004 + 0x10000 * g, 0x0#64⟩

/-- LG_LANE_STATUS[g], 03_lanes_and_ports.md. -/
def R.LG_LANE_STATUS (g : Nat) : Reg := ⟨0x41000008 + 0x10000 * g, 0x0#64⟩

/-- PORT_CFG[p], 03_lanes_and_ports.md. -/
def R.PORT_CFG (p : Nat) : Reg := ⟨0x42000000 + 0x10000 * p, 0xFFFF0000#64⟩

/-- PORT_LINK_CTRL[p], 03_lanes_and_ports.md. -/
def R.PORT_LINK_CTRL (p : Nat) : Reg := ⟨0x42000008 + 0x10000 * p, 0x10000000#64⟩

/-- PORT_LINK_STATUS[p], 03_lanes_and_ports.md. -/
def R.PORT_LINK_STATUS (p : Nat) : Reg := ⟨0x4200000C + 0x10000 * p, 0x0#64⟩

/-- PORT_PM_CTRL[p], 03_lanes_and_ports.md. -/
def R.PORT_PM_CTRL (p : Nat) : Reg := ⟨0x42000010 + 0x10000 * p, 0x0#64⟩

/-- PORT_LANE_FAIL[p], 03_lanes_and_ports.md. -/
def R.PORT_LANE_FAIL (p : Nat) : Reg := ⟨0x42000014 + 0x10000 * p, 0x0#64⟩

/-- PORT_ERR_CNT[p], 03_lanes_and_ports.md. -/
def R.PORT_ERR_CNT (p : Nat) : Reg := ⟨0x42000018 + 0x10000 * p, 0x0#64⟩

/-- OFL_CTRL[p], 04_fabric_link.md. -/
def R.OFL_CTRL (p : Nat) : Reg := ⟨0x43000000 + 0x10000 * p, 0x80004020#64⟩

/-- OFL_TIMERS[p], 04_fabric_link.md. -/
def R.OFL_TIMERS (p : Nat) : Reg := ⟨0x43000004 + 0x10000 * p, 0x14280000#64⟩

/-- OFL_STATUS[p], 04_fabric_link.md. -/
def R.OFL_STATUS (p : Nat) : Reg := ⟨0x43000008 + 0x10000 * p, 0x0#64⟩

/-- OFL_LANES[p], 04_fabric_link.md. -/
def R.OFL_LANES (p : Nat) : Reg := ⟨0x4300000C + 0x10000 * p, 0x0#64⟩

/-- OFL_LANE_CMD[p], 04_fabric_link.md. -/
def R.OFL_LANE_CMD (p : Nat) : Reg := ⟨0x43000010 + 0x10000 * p, 0x0#64⟩

/-- OFL_SEQ[p], 04_fabric_link.md. -/
def R.OFL_SEQ (p : Nat) : Reg := ⟨0x43000018 + 0x10000 * p, 0x0#64⟩

/-- OFL_VC_CREDIT0[p], 04_fabric_link.md. -/
def R.OFL_VC_CREDIT0 (p : Nat) : Reg := ⟨0x43000020 + 0x10000 * p, 0x0#64⟩

/-- OFL_VC_CREDIT1[p], 04_fabric_link.md. -/
def R.OFL_VC_CREDIT1 (p : Nat) : Reg := ⟨0x43000028 + 0x10000 * p, 0x0#64⟩

/-- OFL_TX_CREDIT0[p], 04_fabric_link.md. -/
def R.OFL_TX_CREDIT0 (p : Nat) : Reg := ⟨0x43000030 + 0x10000 * p, 0x0#64⟩

/-- OFL_TX_CREDIT1[p], 04_fabric_link.md. -/
def R.OFL_TX_CREDIT1 (p : Nat) : Reg := ⟨0x43000038 + 0x10000 * p, 0x0#64⟩

/-- OFL_PARTNER[p], 04_fabric_link.md. -/
def R.OFL_PARTNER (p : Nat) : Reg := ⟨0x43000040 + 0x10000 * p, 0x0#64⟩

/-- OFL_ERR_CNT[p], 04_fabric_link.md. -/
def R.OFL_ERR_CNT (p : Nat) : Reg := ⟨0x43000048 + 0x10000 * p, 0x0#64⟩

/-- OFL_REPLAY_CNT[p], 04_fabric_link.md. -/
def R.OFL_REPLAY_CNT (p : Nat) : Reg := ⟨0x43000050 + 0x10000 * p, 0x0#64⟩

/-- OFL_EVENT_CNT[p], 04_fabric_link.md. -/
def R.OFL_EVENT_CNT (p : Nat) : Reg := ⟨0x43000058 + 0x10000 * p, 0x0#64⟩

/-- OFL_DOWN_LOG[p], 04_fabric_link.md. -/
def R.OFL_DOWN_LOG (p : Nat) : Reg := ⟨0x43000060 + 0x10000 * p, 0x0#64⟩

/-- OFL_PARTNER_PORT[p], 04_fabric_link.md. -/
def R.OFL_PARTNER_PORT (p : Nat) : Reg := ⟨0x43000068 + 0x10000 * p, 0x0#64⟩

/-- SWC_STATUS, 05_millrace_core.md. -/
def R.SWC_STATUS : Reg := ⟨0x44000000, 0x80000#64⟩

/-- SWC_CLASS_SHARE[c], 05_millrace_core.md. -/
def R.SWC_CLASS_SHARE (c : Nat) : Reg := ⟨0x44000100 + 0x8 * c, 0x0#64⟩

/-- SWC_CLASS_CTRL[c], 05_millrace_core.md. -/
def R.SWC_CLASS_CTRL (c : Nat) : Reg := ⟨0x44000140 + 0x4 * c, 0x10000000#64⟩

/-- SWC_CLASS_OCC[c], 05_millrace_core.md. -/
def R.SWC_CLASS_OCC (c : Nat) : Reg := ⟨0x44000180 + 0x8 * c, 0x0#64⟩

/-- SWC_TC_MAP, 05_millrace_core.md. -/
def R.SWC_TC_MAP : Reg := ⟨0x440001C0, 0x547654322222210#64⟩

/-- SWC_WEIR_CTRL, 05_millrace_core.md. -/
def R.SWC_WEIR_CTRL : Reg := ⟨0x440001C8, 0xC000000A#64⟩

/-- SWC_CONG_CNT, 05_millrace_core.md. -/
def R.SWC_CONG_CNT : Reg := ⟨0x440001D0, 0x0#64⟩

/-- SWC_QSEL, 05_millrace_core.md. -/
def R.SWC_QSEL : Reg := ⟨0x44000200, 0x0#64⟩

/-- SWC_QSTAT, 05_millrace_core.md. -/
def R.SWC_QSTAT : Reg := ⟨0x44000208, 0x0#64⟩

/-- SWC_MC_CTRL, 05_millrace_core.md. -/
def R.SWC_MC_CTRL : Reg := ⟨0x44000210, 0x640000#64⟩

/-- SWC_MC_MISS0, 05_millrace_core.md. -/
def R.SWC_MC_MISS0 : Reg := ⟨0x44000218, 0x0#64⟩

/-- SWC_MC_MISS1, 05_millrace_core.md. -/
def R.SWC_MC_MISS1 : Reg := ⟨0x44000220, 0x0#64⟩

/-- SWC_MC_CNT, 05_millrace_core.md. -/
def R.SWC_MC_CNT : Reg := ⟨0x44000228, 0x0#64⟩

/-- SWC_FLUSH_CNT, 05_millrace_core.md. -/
def R.SWC_FLUSH_CNT : Reg := ⟨0x44000230, 0x0#64⟩

/-- SWC_BANK_CTRL, 05_millrace_core.md. -/
def R.SWC_BANK_CTRL : Reg := ⟨0x44000240, 0x100000#64⟩

/-- SWC_BANK_OUT[n], 05_millrace_core.md. -/
def R.SWC_BANK_OUT (n : Nat) : Reg := ⟨0x44000250 + 0x8 * n, 0x0#64⟩

/-- SWC_BANK_LOSS, 05_millrace_core.md. -/
def R.SWC_BANK_LOSS : Reg := ⟨0x44000270, 0x0#64⟩

/-- SWC_LEAT_CFG, 05_millrace_core.md. -/
def R.SWC_LEAT_CFG : Reg := ⟨0x44000280, 0x0#64⟩

/-- SWC_LEAT_CTRL, 05_millrace_core.md. -/
def R.SWC_LEAT_CTRL : Reg := ⟨0x44000288, 0x200#64⟩

/-- SWC_LEAT_STATUS, 05_millrace_core.md. -/
def R.SWC_LEAT_STATUS : Reg := ⟨0x44000290, 0x0#64⟩

/-- SWC_LEAT_CNT, 05_millrace_core.md. -/
def R.SWC_LEAT_CNT : Reg := ⟨0x44000298, 0x0#64⟩

/-- SWC_LOCK, 05_millrace_core.md. -/
def R.SWC_LOCK : Reg := ⟨0x440002F0, 0x0#64⟩

/-- RTE_CFG, 06_routing_and_binding.md. -/
def R.RTE_CFG : Reg := ⟨0x45000000, 0x0#64⟩

/-- RTE_TBL[t], 06_routing_and_binding.md. -/
def R.RTE_TBL (t : Nat) : Reg := ⟨0x45000010 + 8 * (t - 1), (rstRTE_TBL t)⟩

/-- RTE_PATH_CTRL, 06_routing_and_binding.md. -/
def R.RTE_PATH_CTRL : Reg := ⟨0x45000040, 0xC0000064#64⟩

/-- RTE_PATH_STATUS, 06_routing_and_binding.md. -/
def R.RTE_PATH_STATUS : Reg := ⟨0x45000048, 0xFF000000000000#64⟩

/-- RTE_PATH_CMD, 06_routing_and_binding.md. -/
def R.RTE_PATH_CMD : Reg := ⟨0x45000050, 0x0#64⟩

/-- RTE_TBL_CMD, 06_routing_and_binding.md. -/
def R.RTE_TBL_CMD : Reg := ⟨0x45000060, 0x0#64⟩

/-- RTE_TBL_DATA[k], 06_routing_and_binding.md. -/
def R.RTE_TBL_DATA (k : Nat) : Reg := ⟨0x45000068 + 0x8 * k, 0x0#64⟩

/-- RTE_WIN_COMMIT, 06_routing_and_binding.md. -/
def R.RTE_WIN_COMMIT : Reg := ⟨0x45000090, 0x0#64⟩

/-- RTE_BIND_CMD, 06_routing_and_binding.md. -/
def R.RTE_BIND_CMD : Reg := ⟨0x450000A0, 0x0#64⟩

/-- RTE_BIND_CTRL, 06_routing_and_binding.md. -/
def R.RTE_BIND_CTRL : Reg := ⟨0x450000A8, 0xA003C#64⟩

/-- RTE_CNT0, 06_routing_and_binding.md. -/
def R.RTE_CNT0 : Reg := ⟨0x450000B0, 0x0#64⟩

/-- RTE_CNT1, 06_routing_and_binding.md. -/
def R.RTE_CNT1 : Reg := ⟨0x450000B8, 0x0#64⟩

/-- RTE_LOCK, 06_routing_and_binding.md. -/
def R.RTE_LOCK : Reg := ⟨0x450000F0, 0x0#64⟩

/-- RTE_POOL_PID, 06_routing_and_binding.md. -/
def R.RTE_POOL_PID : Reg := ⟨0x450000F8, 0x0#64⟩

/-- RTE_PORT_PID[p], 06_routing_and_binding.md. -/
def R.RTE_PORT_PID (p : Nat) : Reg := ⟨0x45000100 + 0x4 * p, 0x0#64⟩

/-- RTE_VCS_CFG[v], 06_routing_and_binding.md. -/
def R.RTE_VCS_CFG (v : Nat) : Reg := ⟨0x45000400 + 0x10 * v, 0x0#64⟩

/-- RTE_VCS_TBL[v], 06_routing_and_binding.md. -/
def R.RTE_VCS_TBL (v : Nat) : Reg := ⟨0x45000408 + 0x10 * v, 0x0#64⟩

/-- RTE_BIND[n], 06_routing_and_binding.md. -/
def R.RTE_BIND (n : Nat) : Reg := ⟨0x45001000 + 0x10 * n, 0x0#64⟩

/-- RTE_BIND_OUT[n], 06_routing_and_binding.md. -/
def R.RTE_BIND_OUT (n : Nat) : Reg := ⟨0x45001008 + 0x10 * n, 0x0#64⟩

/-- COH_CTRL, 07_coherence.md. -/
def R.COH_CTRL : Reg := ⟨0x46800000, 0xC01003E8#64⟩

/-- COH_HOST_CMD, 07_coherence.md. -/
def R.COH_HOST_CMD : Reg := ⟨0x46800008, 0x0#64⟩

/-- COH_FLUSH_CMD, 07_coherence.md. -/
def R.COH_FLUSH_CMD : Reg := ⟨0x46800010, 0x0#64⟩

/-- COH_ROT_CTRL, 07_coherence.md. -/
def R.COH_ROT_CTRL : Reg := ⟨0x46800018, 0x800A00#64⟩

/-- COH_SWEEP, 07_coherence.md. -/
def R.COH_SWEEP : Reg := ⟨0x4680001C, 0x80000040#64⟩

/-- COH_LMAP[k], 07_coherence.md. -/
def R.COH_LMAP (k : Nat) : Reg := ⟨0x46800020 + 0x8 * k, (rstCOH_LMAP k)⟩

/-- COH_HANDOVER, 07_coherence.md. -/
def R.COH_HANDOVER : Reg := ⟨0x46800040, 0xFFFF#64⟩

/-- COH_CNT0, 07_coherence.md. -/
def R.COH_CNT0 : Reg := ⟨0x46800048, 0x0#64⟩

/-- COH_CNT1, 07_coherence.md. -/
def R.COH_CNT1 : Reg := ⟨0x46800050, 0x0#64⟩

/-- COH_LAST_POISON, 07_coherence.md. -/
def R.COH_LAST_POISON : Reg := ⟨0x46800058, 0x0#64⟩

/-- COH_LOCK, 07_coherence.md. -/
def R.COH_LOCK : Reg := ⟨0x468000F0, 0x0#64⟩

/-- COH_HOST[h], 07_coherence.md. -/
def R.COH_HOST (h : Nat) : Reg := ⟨0x46800100 + 0x4 * h, 0x0#64⟩

/-- COH_PROXY[n], 07_coherence.md. -/
def R.COH_PROXY (n : Nat) : Reg := ⟨0x46800200 + 0x8 * n, 0x0#64⟩

/-- COH_SL_STATUS[n], 07_coherence.md. -/
def R.COH_SL_STATUS (n : Nat) : Reg := ⟨0x46000000 + 0x10000 * n, (rstCOH_SL_STATUS n)⟩

/-- COH_SL_TRACK[n], 07_coherence.md. -/
def R.COH_SL_TRACK (n : Nat) : Reg := ⟨0x46000008 + 0x10000 * n, 0x0#64⟩

/-- COH_SL_DOUBT[n], 07_coherence.md. -/
def R.COH_SL_DOUBT (n : Nat) : Reg := ⟨0x46000010 + 0x10000 * n, 0x0#64⟩

/-- COH_SL_CNT0[n], 07_coherence.md. -/
def R.COH_SL_CNT0 (n : Nat) : Reg := ⟨0x46000018 + 0x10000 * n, 0x0#64⟩

/-- COH_SL_CNT1[n], 07_coherence.md. -/
def R.COH_SL_CNT1 (n : Nat) : Reg := ⟨0x46000020 + 0x10000 * n, 0x0#64⟩

/-- POOL_CFG, 08_memory_pool.md. -/
def R.POOL_CFG : Reg := ⟨0x47000000, 0x0#64⟩

/-- POOL_STATUS, 08_memory_pool.md. -/
def R.POOL_STATUS : Reg := ⟨0x47000008, 0x0#64⟩

/-- POOL_LEAT, 08_memory_pool.md. -/
def R.POOL_LEAT : Reg := ⟨0x47000010, 0x0#64⟩

/-- POOL_LOCK, 08_memory_pool.md. -/
def R.POOL_LOCK : Reg := ⟨0x470000F0, 0x0#64⟩

/-- POOL_LD[n], 08_memory_pool.md. -/
def R.POOL_LD (n : Nat) : Reg := ⟨0x47000100 + 0x10 * n, 0x0#64⟩

/-- POOL_LD_MAP[n], 08_memory_pool.md. -/
def R.POOL_LD_MAP (n : Nat) : Reg := ⟨0x47000108 + 0x10 * n, 0x0#64⟩

/-- POOL_MAP_CMD, 08_memory_pool.md. -/
def R.POOL_MAP_CMD : Reg := ⟨0x47000500, 0x0#64⟩

/-- POOL_MAP_DATA, 08_memory_pool.md. -/
def R.POOL_MAP_DATA : Reg := ⟨0x47000504, 0xFFFF#64⟩

/-- POOL_EXT_CMD, 08_memory_pool.md. -/
def R.POOL_EXT_CMD : Reg := ⟨0x47000510, 0x0#64⟩

/-- POOL_EXT_DATA, 08_memory_pool.md. -/
def R.POOL_EXT_DATA : Reg := ⟨0x47000518, 0x0#64⟩

/-- POOL_PROXY[k], 08_memory_pool.md. -/
def R.POOL_PROXY (k : Nat) : Reg := ⟨0x47000600 + 0x8 * k, 0x0#64⟩

/-- POOL_DEVLOAD, 08_memory_pool.md. -/
def R.POOL_DEVLOAD : Reg := ⟨0x47000700, 0x6D402000#64⟩

/-- POOL_SCRUB, 08_memory_pool.md. -/
def R.POOL_SCRUB : Reg := ⟨0x47000710, 0x80180000#64⟩

/-- POOL_RAM, 08_memory_pool.md. -/
def R.POOL_RAM : Reg := ⟨0x47000720, 0xC0000800#64⟩

/-- POOL_RAM_CNT, 08_memory_pool.md. -/
def R.POOL_RAM_CNT : Reg := ⟨0x47000728, 0x0#64⟩

/-- POOL_CH_ERR[c], 08_memory_pool.md. -/
def R.POOL_CH_ERR (c : Nat) : Reg := ⟨0x47000800 + 0x8 * c, 0x0#64⟩

/-- POOL_ERR_CTRL, 08_memory_pool.md. -/
def R.POOL_ERR_CTRL : Reg := ⟨0x47000880, 0x1000010#64⟩

/-- POOL_LAST_ERR, 08_memory_pool.md. -/
def R.POOL_LAST_ERR : Reg := ⟨0x47000888, 0x0#64⟩

/-- POOL_LAST_ADDR, 08_memory_pool.md. -/
def R.POOL_LAST_ADDR : Reg := ⟨0x47000890, 0x0#64⟩

/-- HEP_CTRL, 09_host_functions.md. -/
def R.HEP_CTRL : Reg := ⟨0x49000000, 0x1F40000#64⟩

/-- HEP_PF, 09_host_functions.md. -/
def R.HEP_PF : Reg := ⟨0x49000008, 0x3FF0000#64⟩

/-- HEP_CNT0, 09_host_functions.md. -/
def R.HEP_CNT0 : Reg := ⟨0x49000010, 0x0#64⟩

/-- HEP_CNT1, 09_host_functions.md. -/
def R.HEP_CNT1 : Reg := ⟨0x49000018, 0x0#64⟩

/-- HEP_MIG_CMD, 09_host_functions.md. -/
def R.HEP_MIG_CMD : Reg := ⟨0x49000020, 0x0#64⟩

/-- HEP_MIG_ADDR, 09_host_functions.md. -/
def R.HEP_MIG_ADDR : Reg := ⟨0x49000028, 0x0#64⟩

/-- HEP_QMAP_CMD, 09_host_functions.md. -/
def R.HEP_QMAP_CMD : Reg := ⟨0x49000030, 0x0#64⟩

/-- HEP_QMAP_DATA, 09_host_functions.md. -/
def R.HEP_QMAP_DATA : Reg := ⟨0x49000038, 0x0#64⟩

/-- HEP_LOCK, 09_host_functions.md. -/
def R.HEP_LOCK : Reg := ⟨0x490000F0, 0x0#64⟩

/-- HEP_VCS[v], 09_host_functions.md. -/
def R.HEP_VCS (v : Nat) : Reg := ⟨0x49000100 + 0x4 * v, 0x40000000#64⟩

/-- HEP_FN_CFG[n], 09_host_functions.md. -/
def R.HEP_FN_CFG (n : Nat) : Reg := ⟨0x49008000 + 0x20 * n, 0x0#64⟩

/-- HEP_FN_WIN[n], 09_host_functions.md. -/
def R.HEP_FN_WIN (n : Nat) : Reg := ⟨0x49008008 + 0x20 * n, 0x0#64⟩

/-- HEP_FN_STATUS[n], 09_host_functions.md. -/
def R.HEP_FN_STATUS (n : Nat) : Reg := ⟨0x49008010 + 0x20 * n, 0x0#64⟩

/-- HOP_ENG_CTRL[e], 10_hopper.md. -/
def R.HOP_ENG_CTRL (e : Nat) : Reg := ⟨0x48000000 + 0x10000 * e, 0x640064#64⟩

/-- HOP_ENG_STATUS[e], 10_hopper.md. -/
def R.HOP_ENG_STATUS (e : Nat) : Reg := ⟨0x48000008 + 0x10000 * e, 0x0#64⟩

/-- HOP_ENG_IRQ[e], 10_hopper.md. -/
def R.HOP_ENG_IRQ (e : Nat) : Reg := ⟨0x48000010 + 0x10000 * e, 0x0#64⟩

/-- HOP_ENG_CNT[e], 10_hopper.md. -/
def R.HOP_ENG_CNT (e : Nat) : Reg := ⟨0x48000018 + 0x10000 * e, 0x0#64⟩

/-- HOP_ENG_BYTES[e], 10_hopper.md. -/
def R.HOP_ENG_BYTES (e : Nat) : Reg := ⟨0x48000020 + 0x10000 * e, 0x0#64⟩

/-- HOP_LOCK[e], 10_hopper.md. -/
def R.HOP_LOCK (e : Nat) : Reg := ⟨0x480000F0 + 0x10000 * e, 0x0#64⟩

/-- HOP_CH_CTRL[e][c], 10_hopper.md. -/
def R.HOP_CH_CTRL (e : Nat) (c : Nat) : Reg := ⟨0x48001000 + 0x10000 * e + 0x100 * c, 0x0#64⟩

/-- HOP_CH_STATUS[e][c], 10_hopper.md. -/
def R.HOP_CH_STATUS (e : Nat) (c : Nat) : Reg := ⟨0x48001004 + 0x10000 * e + 0x100 * c, 0x0#64⟩

/-- HOP_CH_CFG[e][c], 10_hopper.md. -/
def R.HOP_CH_CFG (e : Nat) (c : Nat) : Reg := ⟨0x48001008 + 0x10000 * e + 0x100 * c, 0x10000#64⟩

/-- HOP_CH_RING[e][c], 10_hopper.md. -/
def R.HOP_CH_RING (e : Nat) (c : Nat) : Reg := ⟨0x48001010 + 0x10000 * e + 0x100 * c, 0x0#64⟩

/-- HOP_CH_CQ[e][c], 10_hopper.md. -/
def R.HOP_CH_CQ (e : Nat) (c : Nat) : Reg := ⟨0x48001018 + 0x10000 * e + 0x100 * c, 0x0#64⟩

/-- HOP_CH_PTR[e][c], 10_hopper.md. -/
def R.HOP_CH_PTR (e : Nat) (c : Nat) : Reg := ⟨0x48001020 + 0x10000 * e + 0x100 * c, 0x0#64⟩

/-- HOP_CH_SWAP[e][c], 10_hopper.md. -/
def R.HOP_CH_SWAP (e : Nat) (c : Nat) : Reg := ⟨0x48001028 + 0x10000 * e + 0x100 * c, 0x0#64⟩

/-- HOP_CH_SHD_CTRL[e][c], 10_hopper.md. -/
def R.HOP_CH_SHD_CTRL (e : Nat) (c : Nat) : Reg := ⟨0x48001030 + 0x10000 * e + 0x100 * c, 0x0#64⟩

/-- HOP_CH_ERR_ADDR[e][c], 10_hopper.md. -/
def R.HOP_CH_ERR_ADDR (e : Nat) (c : Nat) : Reg := ⟨0x48001038 + 0x10000 * e + 0x100 * c, 0x0#64⟩

/-- HOP_CH_ACT[e][c][k], 10_hopper.md. -/
def R.HOP_CH_ACT (e : Nat) (c : Nat) (k : Nat) : Reg := ⟨0x48001040 + 0x10000 * e + 0x100 * c + 0x8 * k, 0x0#64⟩

/-- HOP_CH_SHD[e][c][k], 10_hopper.md. -/
def R.HOP_CH_SHD (e : Nat) (c : Nat) (k : Nat) : Reg := ⟨0x48001080 + 0x10000 * e + 0x100 * c + 0x8 * k, 0x0#64⟩

/-- HOP_CH_LAST[e][c][k], 10_hopper.md. -/
def R.HOP_CH_LAST (e : Nat) (c : Nat) (k : Nat) : Reg := ⟨0x480010C0 + 0x10000 * e + 0x100 * c + 0x8 * k, 0x0#64⟩

/-- SPD_COLL, 11_scratchpad_and_mpu.md. -/
def R.SPD_COLL : Reg := ⟨0x40700000, 0x0#64⟩

/-- SPD_CNT, 11_scratchpad_and_mpu.md. -/
def R.SPD_CNT : Reg := ⟨0x40700008, 0x0#64⟩

/-- SPD_ECC, 11_scratchpad_and_mpu.md. -/
def R.SPD_ECC : Reg := ⟨0x40700010, 0x0#64⟩

/-- SPD_CTRL, 11_scratchpad_and_mpu.md. -/
def R.SPD_CTRL : Reg := ⟨0x40700018, 0x10#64⟩

/-- SPD_LOCK, 11_scratchpad_and_mpu.md. -/
def R.SPD_LOCK : Reg := ⟨0x407000F0, 0x0#64⟩

/-- SPD_BANK_CFG[b], 11_scratchpad_and_mpu.md. -/
def R.SPD_BANK_CFG (b : Nat) : Reg := ⟨0x40700100 + 0x4 * b, 0x0#64⟩

/-- SPD_BANK_STATUS[b], 11_scratchpad_and_mpu.md. -/
def R.SPD_BANK_STATUS (b : Nat) : Reg := ⟨0x40700200 + 0x4 * b, 0x0#64⟩

/-- MPU_CFG[m], 11_scratchpad_and_mpu.md. -/
def R.MPU_CFG (m : Nat) : Reg := ⟨mpuBase m + 0x0, (rstMPU_CFG m)⟩

/-- MPU_FENCE[m], 11_scratchpad_and_mpu.md. -/
def R.MPU_FENCE (m : Nat) : Reg := ⟨mpuBase m + 0x8, 0x0#64⟩

/-- MPU_FAULT[m], 11_scratchpad_and_mpu.md. -/
def R.MPU_FAULT (m : Nat) : Reg := ⟨mpuBase m + 0x10, 0x0#64⟩

/-- MPU_FAULT_CNT[m], 11_scratchpad_and_mpu.md. -/
def R.MPU_FAULT_CNT (m : Nat) : Reg := ⟨mpuBase m + 0x18, 0x0#64⟩

/-- MPU_DBG[m], 11_scratchpad_and_mpu.md. -/
def R.MPU_DBG (m : Nat) : Reg := ⟨mpuBase m + 0x20, 0x0#64⟩

/-- MPU_LOCK[m], 11_scratchpad_and_mpu.md. -/
def R.MPU_LOCK (m : Nat) : Reg := ⟨mpuBase m + 0xF0, 0x0#64⟩

/-- MGT_BOOT, 12_millwright.md. -/
def R.MGT_BOOT : Reg := ⟨0x4B000000, 0x0#64⟩

/-- MGT_NMI, 12_millwright.md. -/
def R.MGT_NMI : Reg := ⟨0x4B000008, 0x0#64⟩

/-- MGT_STATUS, 12_millwright.md. -/
def R.MGT_STATUS : Reg := ⟨0x4B000010, 0x0#64⟩

/-- MGT_CORE_CTRL, 12_millwright.md. -/
def R.MGT_CORE_CTRL : Reg := ⟨0x4B000014, 0x0#64⟩

/-- MGT_CACHE, 12_millwright.md. -/
def R.MGT_CACHE : Reg := ⟨0x4B000018, 0xFFFFFFFF00000000#64⟩

/-- MGT_SWI, 12_millwright.md. -/
def R.MGT_SWI : Reg := ⟨0x4B000020, 0x0#64⟩

/-- MGT_SWI_SET, 12_millwright.md. -/
def R.MGT_SWI_SET : Reg := ⟨0x4B000024, 0x0#64⟩

/-- MGT_MTIME, 12_millwright.md. -/
def R.MGT_MTIME : Reg := ⟨0x4B000030, 0x0#64⟩

/-- MGT_MTIMECMP[k], 12_millwright.md. -/
def R.MGT_MTIMECMP (k : Nat) : Reg := ⟨0x4B000040 + 0x8 * k, 0xFFFFFFFFFFFFFFFF#64⟩

/-- MGT_IRQ_ROUTE[i], 12_millwright.md. -/
def R.MGT_IRQ_ROUTE (i : Nat) : Reg := ⟨0x4B000100 + 0x4 * i, 0x80000000#64⟩

/-- MGT_IRQ_PEND, 12_millwright.md. -/
def R.MGT_IRQ_PEND : Reg := ⟨0x4B000180, 0x0#64⟩

/-- MGT_DONE, 12_millwright.md. -/
def R.MGT_DONE : Reg := ⟨0x4B000190, 0x0#64⟩

/-- MGT_WDOG[k], 12_millwright.md. -/
def R.MGT_WDOG (k : Nat) : Reg := ⟨0x4B000200 + 0x8 * k, 0xF4240#64⟩

/-- MGT_FMAPI_CTRL, 12_millwright.md. -/
def R.MGT_FMAPI_CTRL : Reg := ⟨0x4B000300, 0x1F#64⟩

/-- MGT_VDM_EN, 12_millwright.md. -/
def R.MGT_VDM_EN : Reg := ⟨0x4B000308, 0x0#64⟩

/-- MGT_MCTP_CFG, 12_millwright.md. -/
def R.MGT_MCTP_CFG : Reg := ⟨0x4B000310, 0x2E2F#64⟩

/-- MGT_XPORT_RX[t], 12_millwright.md. -/
def R.MGT_XPORT_RX (t : Nat) : Reg := ⟨0x4B000400 + 0x10 * t, 0x0#64⟩

/-- MGT_XPORT_TX[t], 12_millwright.md. -/
def R.MGT_XPORT_TX (t : Nat) : Reg := ⟨0x4B000408 + 0x10 * t, 0x0#64⟩

/-- MGT_NET_CFG, 12_millwright.md. -/
def R.MGT_NET_CFG : Reg := ⟨0x4B000500, 0x0#64⟩

/-- MGT_NET_IP, 12_millwright.md. -/
def R.MGT_NET_IP : Reg := ⟨0x4B000508, 0x0#64⟩

/-- MGT_DSA_CMD, 12_millwright.md. -/
def R.MGT_DSA_CMD : Reg := ⟨0x4B000600, 0x0#64⟩

/-- MGT_DSA_ADDR, 12_millwright.md. -/
def R.MGT_DSA_ADDR : Reg := ⟨0x4B000608, 0x0#64⟩

/-- MGT_DSA_DATA, 12_millwright.md. -/
def R.MGT_DSA_DATA : Reg := ⟨0x4B000610, 0x0#64⟩

/-- MGT_LOCK, 12_millwright.md. -/
def R.MGT_LOCK : Reg := ⟨0x4B0006F0, 0x0#64⟩

/-- SLC_CTRL[n], 13_sluice.md. -/
def R.SLC_CTRL (n : Nat) : Reg := ⟨0x4A000000 + 0x10000 * n, 0x40000000#64⟩

/-- SLC_STATUS[n], 13_sluice.md. -/
def R.SLC_STATUS (n : Nat) : Reg := ⟨0x4A000004 + 0x10000 * n, 0x0#64⟩

/-- SLC_LIM0[n], 13_sluice.md. -/
def R.SLC_LIM0 (n : Nat) : Reg := ⟨0x4A000010 + 0x10000 * n, 0x0#64⟩

/-- SLC_LIM1[n], 13_sluice.md. -/
def R.SLC_LIM1 (n : Nat) : Reg := ⟨0x4A000014 + 0x10000 * n, 0x0#64⟩

/-- SLC_LIM2[n], 13_sluice.md. -/
def R.SLC_LIM2 (n : Nat) : Reg := ⟨0x4A000018 + 0x10000 * n, 0x0#64⟩

/-- SLC_LIM3[n], 13_sluice.md. -/
def R.SLC_LIM3 (n : Nat) : Reg := ⟨0x4A00001C + 0x10000 * n, 0x0#64⟩

/-- SLC_MEAS[n], 13_sluice.md. -/
def R.SLC_MEAS (n : Nat) : Reg := ⟨0x4A000020 + 0x10000 * n, 0x0#64⟩

/-- SLC_EVENT[n], 13_sluice.md. -/
def R.SLC_EVENT (n : Nat) : Reg := ⟨0x4A000028 + 0x10000 * n, 0x0#64⟩

/-- SLC_CNT[n], 13_sluice.md. -/
def R.SLC_CNT (n : Nat) : Reg := ⟨0x4A000030 + 0x10000 * n, 0x0#64⟩

/-- SLC_LOCK[n], 13_sluice.md. -/
def R.SLC_LOCK (n : Nat) : Reg := ⟨0x4A0000F0 + 0x10000 * n, 0x0#64⟩

/-- BRK_CTRL, 14_brake_faults.md. -/
def R.BRK_CTRL : Reg := ⟨0x40100000, 0x8000000#64⟩

/-- BRK_STATUS, 14_brake_faults.md. -/
def R.BRK_STATUS : Reg := ⟨0x40100004, 0x0#64⟩

/-- BRK_RESET_INFO, 14_brake_faults.md. -/
def R.BRK_RESET_INFO : Reg := ⟨0x40100008, 0x0#64⟩

/-- BRK_LOSS, 14_brake_faults.md. -/
def R.BRK_LOSS : Reg := ⟨0x40100010, 0x0#64⟩

/-- BRK_PIN, 14_brake_faults.md. -/
def R.BRK_PIN : Reg := ⟨0x40100018, 0x0#64⟩

/-- BRK_SUMMARY, 14_brake_faults.md. -/
def R.BRK_SUMMARY : Reg := ⟨0x40100020, 0x0#64⟩

/-- BRK_HIST_CTRL, 14_brake_faults.md. -/
def R.BRK_HIST_CTRL : Reg := ⟨0x40100030, 0x0#64⟩

/-- BRK_HIST_REC[k], 14_brake_faults.md. -/
def R.BRK_HIST_REC (k : Nat) : Reg := ⟨0x40100040 + 0x8 * k, 0#64⟩

/-- BRK_LAST_SEV[k], 14_brake_faults.md. -/
def R.BRK_LAST_SEV (k : Nat) : Reg := ⟨0x40100060 + 0x8 * k, 0x0#64⟩

/-- BRK_INJ_CTRL, 14_brake_faults.md. -/
def R.BRK_INJ_CTRL : Reg := ⟨0x40100080, 0x0#64⟩

/-- BRK_INJ_ADDR, 14_brake_faults.md. -/
def R.BRK_INJ_ADDR : Reg := ⟨0x40100088, 0x0#64⟩

/-- BRK_INJ_HIT, 14_brake_faults.md. -/
def R.BRK_INJ_HIT : Reg := ⟨0x40100090, 0x0#64⟩

/-- BRK_SW_RAISE, 14_brake_faults.md. -/
def R.BRK_SW_RAISE : Reg := ⟨0x40100098, 0x0#64⟩

/-- BRK_SW_DATA, 14_brake_faults.md. -/
def R.BRK_SW_DATA : Reg := ⟨0x401000A0, 0x0#64⟩

/-- BRK_LOCK, 14_brake_faults.md. -/
def R.BRK_LOCK : Reg := ⟨0x401000F0, 0x0#64⟩

/-- BRK_REACT[n], 14_brake_faults.md. -/
def R.BRK_REACT (n : Nat) : Reg := ⟨0x40101000 + 0x4 * n, (rstBRK_REACT n)⟩

/-- BRK_CNT[n], 14_brake_faults.md. -/
def R.BRK_CNT (n : Nat) : Reg := ⟨0x40105000 + 0x4 * n, 0x0#64⟩

/-- BRK_PEND[j], 14_brake_faults.md. -/
def R.BRK_PEND (j : Nat) : Reg := ⟨0x40109000 + 0x8 * j, 0x0#64⟩

/-- BRK_IRQ[j], 14_brake_faults.md. -/
def R.BRK_IRQ (j : Nat) : Reg := ⟨0x40109200 + 0x8 * j, 0x0#64⟩

/-- BRK_SEV[j], 14_brake_faults.md. -/
def R.BRK_SEV (j : Nat) : Reg := ⟨0x40109400 + 0x8 * j, 0x0#64⟩

/-- GOV_STATUS, 15_governor.md. -/
def R.GOV_STATUS : Reg := ⟨0x40000000, 0x0#64⟩

/-- GOV_POLICY, 15_governor.md. -/
def R.GOV_POLICY : Reg := ⟨0x40000008, 0x193C736440000#64⟩

/-- GOV_FUSE, 15_governor.md. -/
def R.GOV_FUSE : Reg := ⟨0x40000010, 0x1000#64⟩

/-- GOV_SERIAL, 15_governor.md. -/
def R.GOV_SERIAL : Reg := ⟨0x40000018, 0#64⟩

/-- GOV_CHAL[k], 15_governor.md. -/
def R.GOV_CHAL (k : Nat) : Reg := ⟨0x40000020 + 0x8 * k, 0#64⟩

/-- GOV_REQ_CMD, 15_governor.md. -/
def R.GOV_REQ_CMD : Reg := ⟨0x40000040, 0x0#64⟩

/-- GOV_REQ_ADDR, 15_governor.md. -/
def R.GOV_REQ_ADDR : Reg := ⟨0x40000048, 0x0#64⟩

/-- GOV_REQ_RSP, 15_governor.md. -/
def R.GOV_REQ_RSP : Reg := ⟨0x40000050, 0x0#64⟩

/-- GOV_ALARM, 15_governor.md. -/
def R.GOV_ALARM : Reg := ⟨0x40000060, 0x0#64⟩

/-- GOV_TAMPER, 15_governor.md. -/
def R.GOV_TAMPER : Reg := ⟨0x40000068, 0x0#64⟩

/-- GOV_DBG, 15_governor.md. -/
def R.GOV_DBG : Reg := ⟨0x40000070, 0x0#64⟩

/-- GOV_THERM, 15_governor.md. -/
def R.GOV_THERM : Reg := ⟨0x40000078, 0x0#64⟩

/-- GOV_LIMIT, 15_governor.md. -/
def R.GOV_LIMIT : Reg := ⟨0x40000080, 0x0#64⟩

/-- GOV_KSTAGE[k], 15_governor.md. -/
def R.GOV_KSTAGE (k : Nat) : Reg := ⟨0x40000100 + 0x8 * k, 0x0#64⟩

/-- GOV_KIV, 15_governor.md. -/
def R.GOV_KIV : Reg := ⟨0x40000120, 0x0#64⟩

/-- GOV_KPROG, 15_governor.md. -/
def R.GOV_KPROG : Reg := ⟨0x40000128, 0x0#64⟩

/-- FAN_CTRL, 16_fantail_and_test.md. -/
def R.FAN_CTRL : Reg := ⟨0x40400000, 0xD8000000#64⟩

/-- FAN_SCRUB, 16_fantail_and_test.md. -/
def R.FAN_SCRUB : Reg := ⟨0x40400004, 0xA0000#64⟩

/-- FAN_SCRUB_CNT, 16_fantail_and_test.md. -/
def R.FAN_SCRUB_CNT : Reg := ⟨0x40400008, 0x0#64⟩

/-- FAN_ROT, 16_fantail_and_test.md. -/
def R.FAN_ROT : Reg := ⟨0x40400010, 0x1E00384#64⟩

/-- FAN_TEST, 16_fantail_and_test.md. -/
def R.FAN_TEST : Reg := ⟨0x40400018, 0x3C0000#64⟩

/-- FAN_TEST_STATUS, 16_fantail_and_test.md. -/
def R.FAN_TEST_STATUS : Reg := ⟨0x40400020, 0x0#64⟩

/-- FAN_TEST_CNT, 16_fantail_and_test.md. -/
def R.FAN_TEST_CNT : Reg := ⟨0x40400028, 0x0#64⟩

/-- FAN_ADAPT_CNT, 16_fantail_and_test.md. -/
def R.FAN_ADAPT_CNT : Reg := ⟨0x40400030, 0x0#64⟩

/-- FAN_LOG_CFG, 16_fantail_and_test.md. -/
def R.FAN_LOG_CFG : Reg := ⟨0x40400040, 0x3C#64⟩

/-- FAN_LOG_STATUS, 16_fantail_and_test.md. -/
def R.FAN_LOG_STATUS : Reg := ⟨0x40400048, 0x0#64⟩

/-- FAN_LOG_POS, 16_fantail_and_test.md. -/
def R.FAN_LOG_POS : Reg := ⟨0x40400050, 0x0#64⟩

/-- FAN_TELEM, 16_fantail_and_test.md. -/
def R.FAN_TELEM : Reg := ⟨0x40400058, 0x3E80000#64⟩

/-- FAN_LOCK, 16_fantail_and_test.md. -/
def R.FAN_LOCK : Reg := ⟨0x404000F0, 0x0#64⟩

/-- PMC_CTRL, 17_counters.md. -/
def R.PMC_CTRL : Reg := ⟨0x40500000, 0x80000000#64⟩

/-- PMC_STATUS, 17_counters.md. -/
def R.PMC_STATUS : Reg := ⟨0x40500004, 0x0#64⟩

/-- PMC_LOCK, 17_counters.md. -/
def R.PMC_LOCK : Reg := ⟨0x405000F0, 0x0#64⟩

/-- PMC_OVF[j], 17_counters.md. -/
def R.PMC_OVF (j : Nat) : Reg := ⟨0x40500100 + 0x8 * j, 0x0#64⟩

/-- PMC_SMP_STATUS, 17_counters.md. -/
def R.PMC_SMP_STATUS : Reg := ⟨0x40500200, 0x0#64⟩

/-- PMC_SMP_CTRL, 17_counters.md. -/
def R.PMC_SMP_CTRL : Reg := ⟨0x40500208, 0x0#64⟩

/-- PMC_SMP_REC[k], 17_counters.md. -/
def R.PMC_SMP_REC (k : Nat) : Reg := ⟨0x40500210 + 0x8 * k, 0x0#64⟩

/-- PMC_TS_CFG[k], 17_counters.md. -/
def R.PMC_TS_CFG (k : Nat) : Reg := ⟨0x40500400 + 0x10 * k, 0x0#64⟩

/-- PMC_TS_PERIOD[k], 17_counters.md. -/
def R.PMC_TS_PERIOD (k : Nat) : Reg := ⟨0x40500408 + 0x10 * k, 0x3E8#64⟩

/-- PMC_CNT[n], 17_counters.md. -/
def R.PMC_CNT (n : Nat) : Reg := ⟨0x40501000 + 0x8 * n, 0x0#64⟩

/-- PMC_SEL[n], 17_counters.md. -/
def R.PMC_SEL (n : Nat) : Reg := ⟨0x40503000 + 0x8 * n, 0x0#64⟩

/-- PMC_SNAP[n], 17_counters.md. -/
def R.PMC_SNAP (n : Nat) : Reg := ⟨0x40505000 + 0x8 * n, 0x0#64⟩

/-- CRP_STATUS, 18_reset_power_clocks.md. -/
def R.CRP_STATUS : Reg := ⟨0x40300000, 0x0#64⟩

/-- CRP_RESET_CAUSE, 18_reset_power_clocks.md. -/
def R.CRP_RESET_CAUSE : Reg := ⟨0x40300008, 0x1#64⟩

/-- CRP_RAIL, 18_reset_power_clocks.md. -/
def R.CRP_RAIL : Reg := ⟨0x40300010, 0x0#64⟩

/-- CRP_AVS, 18_reset_power_clocks.md. -/
def R.CRP_AVS : Reg := ⟨0x40300018, 0x2EE#64⟩

/-- CRP_CLK, 18_reset_power_clocks.md. -/
def R.CRP_CLK : Reg := ⟨0x40300020, 0x0#64⟩

/-- CRP_SW_RESET, 18_reset_power_clocks.md. -/
def R.CRP_SW_RESET : Reg := ⟨0x40300028, 0x0#64⟩

/-- CRP_VCS_RESET, 18_reset_power_clocks.md. -/
def R.CRP_VCS_RESET : Reg := ⟨0x40300030, 0x0#64⟩

/-- CRP_PERST, 18_reset_power_clocks.md. -/
def R.CRP_PERST : Reg := ⟨0x40300038, 0x0#64⟩

/-- CRP_PWR, 18_reset_power_clocks.md. -/
def R.CRP_PWR : Reg := ⟨0x40300040, 0x0#64⟩

/-- CRP_LOCK, 18_reset_power_clocks.md. -/
def R.CRP_LOCK : Reg := ⟨0x403000F0, 0x0#64⟩

/-- MPU_REG_A[m][r], 11_scratchpad_and_mpu.md. -/
def R.MPU_REG_A (m : Nat) (r : Nat) : Reg := ⟨mpuBase m + 0x100 + 0x10 * r, 0x0#64⟩

/-- MPU_REG_B[m][r], 11_scratchpad_and_mpu.md. -/
def R.MPU_REG_B (m : Nat) (r : Nat) : Reg := ⟨mpuBase m + 0x108 + 0x10 * r, 0x0#64⟩

/-- MPU_DEF_A[m][r], 11_scratchpad_and_mpu.md. -/
def R.MPU_DEF_A (m : Nat) (r : Nat) : Reg := ⟨mpuBase m + 0x300 + 0x10 * r, (rstMPU_DEF_A m r)⟩

/-- MPU_DEF_B[m][r], 11_scratchpad_and_mpu.md. -/
def R.MPU_DEF_B (m : Nat) (r : Nat) : Reg := ⟨mpuBase m + 0x308 + 0x10 * r, (rstMPU_DEF_B m r)⟩

/-! ## Fields, each named <register>_<field>, bits as its register's table gives them -/

def F.IMG_STATUS_CODE : Fld := ⟨R.IMG_STATUS, 15, 8⟩
def F.IMG_STATUS_FALLBACK : Fld := ⟨R.IMG_STATUS, 5, 5⟩
def F.IMG_STATUS_SLOT : Fld := ⟨R.IMG_STATUS, 4, 4⟩
def F.IMG_STATUS_STATE : Fld := ⟨R.IMG_STATUS, 3, 0⟩
def F.IMG_SLOT_STATUS_B_UNCONFIRMED : Fld := ⟨R.IMG_SLOT_STATUS, 17, 17⟩
def F.IMG_SLOT_STATUS_A_UNCONFIRMED : Fld := ⟨R.IMG_SLOT_STATUS, 16, 16⟩
def F.IMG_SLOT_STATUS_B_CODE : Fld := ⟨R.IMG_SLOT_STATUS, 15, 8⟩
def F.IMG_SLOT_STATUS_A_CODE : Fld := ⟨R.IMG_SLOT_STATUS, 7, 0⟩
def F.IMG_RUN_ID_SEQ : Fld := ⟨R.IMG_RUN_ID, 63, 32⟩
def F.IMG_RUN_ID_STRUCT : Fld := ⟨R.IMG_RUN_ID, 31, 0⟩
def F.IMG_ARB_COMMIT : Fld := ⟨R.IMG_ARB, 31, 31⟩
def F.IMG_ARB_BUSY : Fld := ⟨R.IMG_ARB, 30, 30⟩
def F.IMG_ARB_RUN_SVN : Fld := ⟨R.IMG_ARB, 15, 8⟩
def F.IMG_ARB_COUNT : Fld := ⟨R.IMG_ARB, 7, 0⟩
def F.IMG_BOOT_OK_LEFT : Fld := ⟨R.IMG_BOOT_OK, 31, 16⟩
def F.IMG_BOOT_OK_OK : Fld := ⟨R.IMG_BOOT_OK, 0, 0⟩
def F.IMG_LOAD_SRC_OFFSET : Fld := ⟨R.IMG_LOAD_SRC, 23, 0⟩
def F.IMG_LOAD_CTRL_START : Fld := ⟨R.IMG_LOAD_CTRL, 31, 31⟩
def F.IMG_LOAD_STATUS_BUSY : Fld := ⟨R.IMG_LOAD_STATUS, 31, 31⟩
def F.IMG_LOAD_STATUS_GROUP : Fld := ⟨R.IMG_LOAD_STATUS, 11, 8⟩
def F.IMG_LOAD_STATUS_CODE : Fld := ⟨R.IMG_LOAD_STATUS, 7, 0⟩
def F.IMG_FLASH_ADDR_SPD : Fld := ⟨R.IMG_FLASH_ADDR, 55, 32⟩
def F.IMG_FLASH_ADDR_FLASH : Fld := ⟨R.IMG_FLASH_ADDR, 31, 0⟩
def F.IMG_FLASH_CTRL_START : Fld := ⟨R.IMG_FLASH_CTRL, 31, 31⟩
def F.IMG_FLASH_CTRL_BUSY : Fld := ⟨R.IMG_FLASH_CTRL, 30, 30⟩
def F.IMG_FLASH_CTRL_OP : Fld := ⟨R.IMG_FLASH_CTRL, 29, 28⟩
def F.IMG_FLASH_CTRL_RESULT : Fld := ⟨R.IMG_FLASH_CTRL, 27, 24⟩
def F.IMG_FLASH_CTRL_LENGTH : Fld := ⟨R.IMG_FLASH_CTRL, 16, 0⟩
def F.IMG_LOCK_LOCK : Fld := ⟨R.IMG_LOCK, 0, 0⟩
def F.LG_CFG_PLL_RATE (g : Nat) : Fld := ⟨R.LG_CFG g, 9, 7⟩
def F.LG_CFG_USED (g : Nat) : Fld := ⟨R.LG_CFG g, 6, 6⟩
def F.LG_CFG_REFCLK_MODE (g : Nat) : Fld := ⟨R.LG_CFG g, 1, 0⟩
def F.LG_STATUS_RELOAD (g : Nat) : Fld := ⟨R.LG_STATUS g, 3, 3⟩
def F.LG_STATUS_REFCLK_LOST (g : Nat) : Fld := ⟨R.LG_STATUS g, 2, 2⟩
def F.LG_STATUS_REFCLK_OK (g : Nat) : Fld := ⟨R.LG_STATUS g, 1, 1⟩
def F.LG_STATUS_PLL_LOCK (g : Nat) : Fld := ⟨R.LG_STATUS g, 0, 0⟩
def F.LG_LANE_STATUS_FAILED (g : Nat) : Fld := ⟨R.LG_LANE_STATUS g, 31, 16⟩
def F.LG_LANE_STATUS_ACTIVE (g : Nat) : Fld := ⟨R.LG_LANE_STATUS g, 15, 0⟩
def F.PORT_CFG_SLC (p : Nat) : Fld := ⟨R.PORT_CFG p, 31, 24⟩
def F.PORT_CFG_PERST (p : Nat) : Fld := ⟨R.PORT_CFG p, 23, 16⟩
def F.PORT_CFG_CXL_OK (p : Nat) : Fld := ⟨R.PORT_CFG p, 13, 13⟩
def F.PORT_CFG_LANE_REV (p : Nat) : Fld := ⟨R.PORT_CFG p, 12, 12⟩
def F.PORT_CFG_MAX_RATE (p : Nat) : Fld := ⟨R.PORT_CFG p, 11, 9⟩
def F.PORT_CFG_ROLE (p : Nat) : Fld := ⟨R.PORT_CFG p, 8, 7⟩
def F.PORT_CFG_WIDTH (p : Nat) : Fld := ⟨R.PORT_CFG p, 6, 4⟩
def F.PORT_CFG_FIRST_LANE (p : Nat) : Fld := ⟨R.PORT_CFG p, 3, 0⟩
def F.PORT_LINK_CTRL_DISABLE (p : Nat) : Fld := ⟨R.PORT_LINK_CTRL p, 31, 31⟩
def F.PORT_LINK_CTRL_RETRAIN (p : Nat) : Fld := ⟨R.PORT_LINK_CTRL p, 30, 30⟩
def F.PORT_LINK_CTRL_EQ_REDO (p : Nat) : Fld := ⟨R.PORT_LINK_CTRL p, 29, 29⟩
def F.PORT_LINK_CTRL_EQ_BYPASS (p : Nat) : Fld := ⟨R.PORT_LINK_CTRL p, 28, 28⟩
def F.PORT_LINK_CTRL_NO_EQ (p : Nat) : Fld := ⟨R.PORT_LINK_CTRL p, 27, 27⟩
def F.PORT_LINK_CTRL_TARGET_RATE (p : Nat) : Fld := ⟨R.PORT_LINK_CTRL p, 26, 24⟩
def F.PORT_LINK_CTRL_LANE_CLEAR (p : Nat) : Fld := ⟨R.PORT_LINK_CTRL p, 23, 23⟩
def F.PORT_LINK_STATUS_LTSSM (p : Nat) : Fld := ⟨R.PORT_LINK_STATUS p, 31, 28⟩
def F.PORT_LINK_STATUS_RATE (p : Nat) : Fld := ⟨R.PORT_LINK_STATUS p, 27, 25⟩
def F.PORT_LINK_STATUS_LANES (p : Nat) : Fld := ⟨R.PORT_LINK_STATUS p, 24, 20⟩
def F.PORT_LINK_STATUS_FULL_LANES (p : Nat) : Fld := ⟨R.PORT_LINK_STATUS p, 19, 15⟩
def F.PORT_LINK_STATUS_FLIT (p : Nat) : Fld := ⟨R.PORT_LINK_STATUS p, 14, 14⟩
def F.PORT_LINK_STATUS_PROTO (p : Nat) : Fld := ⟨R.PORT_LINK_STATUS p, 13, 12⟩
def F.PORT_LINK_STATUS_DEGRADED (p : Nat) : Fld := ⟨R.PORT_LINK_STATUS p, 11, 11⟩
def F.PORT_LINK_STATUS_L11 (p : Nat) : Fld := ⟨R.PORT_LINK_STATUS p, 10, 10⟩
def F.PORT_LINK_STATUS_REVERSED (p : Nat) : Fld := ⟨R.PORT_LINK_STATUS p, 9, 9⟩
def F.PORT_PM_CTRL_L1_IDLE (p : Nat) : Fld := ⟨R.PORT_PM_CTRL p, 31, 20⟩
def F.PORT_PM_CTRL_L0P_IDLE (p : Nat) : Fld := ⟨R.PORT_PM_CTRL p, 19, 8⟩
def F.PORT_PM_CTRL_L0P_MIN (p : Nat) : Fld := ⟨R.PORT_PM_CTRL p, 7, 5⟩
def F.PORT_PM_CTRL_L0P_EN (p : Nat) : Fld := ⟨R.PORT_PM_CTRL p, 4, 4⟩
def F.PORT_PM_CTRL_L11_EN (p : Nat) : Fld := ⟨R.PORT_PM_CTRL p, 2, 2⟩
def F.PORT_LANE_FAIL_LANE (p : Nat) : Fld := ⟨R.PORT_LANE_FAIL p, 15, 0⟩
def F.PORT_ERR_CNT_RETRY (p : Nat) : Fld := ⟨R.PORT_ERR_CNT p, 63, 32⟩
def F.PORT_ERR_CNT_FEC_CORR (p : Nat) : Fld := ⟨R.PORT_ERR_CNT p, 31, 0⟩
def F.OFL_CTRL_FAST_EQ (p : Nat) : Fld := ⟨R.OFL_CTRL p, 31, 31⟩
def F.OFL_CTRL_WINDOW (p : Nat) : Fld := ⟨R.OFL_CTRL p, 26, 16⟩
def F.OFL_CTRL_REPLAY_MAX (p : Nat) : Fld := ⟨R.OFL_CTRL p, 15, 12⟩
def F.OFL_CTRL_PM_EN (p : Nat) : Fld := ⟨R.OFL_CTRL p, 7, 7⟩
def F.OFL_CTRL_PM_MIN (p : Nat) : Fld := ⟨R.OFL_CTRL p, 6, 4⟩
def F.OFL_TIMERS_NAK_TO (p : Nat) : Fld := ⟨R.OFL_TIMERS p, 31, 24⟩
def F.OFL_TIMERS_REPLAY_TO (p : Nat) : Fld := ⟨R.OFL_TIMERS p, 23, 16⟩
def F.OFL_TIMERS_PM_IDLE (p : Nat) : Fld := ⟨R.OFL_TIMERS p, 15, 0⟩
def F.OFL_STATUS_STATE (p : Nat) : Fld := ⟨R.OFL_STATUS p, 31, 28⟩
def F.OFL_STATUS_RATE (p : Nat) : Fld := ⟨R.OFL_STATUS p, 27, 25⟩
def F.OFL_STATUS_LANES (p : Nat) : Fld := ⟨R.OFL_STATUS p, 24, 20⟩
def F.OFL_STATUS_LEADER (p : Nat) : Fld := ⟨R.OFL_STATUS p, 19, 19⟩
def F.OFL_STATUS_WINDOW_FULL (p : Nat) : Fld := ⟨R.OFL_STATUS p, 18, 18⟩
def F.OFL_STATUS_NAK_PENDING (p : Nat) : Fld := ⟨R.OFL_STATUS p, 17, 17⟩
def F.OFL_STATUS_LANE_BUSY (p : Nat) : Fld := ⟨R.OFL_STATUS p, 16, 16⟩
def F.OFL_STATUS_CREDIT_DEFAULT (p : Nat) : Fld := ⟨R.OFL_STATUS p, 15, 15⟩
def F.OFL_STATUS_REPLAY_COUNT (p : Nat) : Fld := ⟨R.OFL_STATUS p, 14, 11⟩
def F.OFL_STATUS_WINDOW (p : Nat) : Fld := ⟨R.OFL_STATUS p, 10, 0⟩
def F.OFL_LANES_FAILED (p : Nat) : Fld := ⟨R.OFL_LANES p, 31, 16⟩
def F.OFL_LANES_ACTIVE (p : Nat) : Fld := ⟨R.OFL_LANES p, 15, 0⟩
def F.OFL_LANE_CMD_START (p : Nat) : Fld := ⟨R.OFL_LANE_CMD p, 31, 31⟩
def F.OFL_LANE_CMD_BUSY (p : Nat) : Fld := ⟨R.OFL_LANE_CMD p, 30, 30⟩
def F.OFL_LANE_CMD_RESULT (p : Nat) : Fld := ⟨R.OFL_LANE_CMD p, 29, 27⟩
def F.OFL_LANE_CMD_MASK (p : Nat) : Fld := ⟨R.OFL_LANE_CMD p, 15, 0⟩
def F.OFL_SEQ_TX_NEXT (p : Nat) : Fld := ⟨R.OFL_SEQ p, 63, 48⟩
def F.OFL_SEQ_TX_OLDEST (p : Nat) : Fld := ⟨R.OFL_SEQ p, 47, 32⟩
def F.OFL_SEQ_RX_EXPECTED (p : Nat) : Fld := ⟨R.OFL_SEQ p, 31, 16⟩
def F.OFL_SEQ_UNACKED (p : Nat) : Fld := ⟨R.OFL_SEQ p, 10, 0⟩
def F.OFL_VC_CREDIT0_VC3 (p : Nat) : Fld := ⟨R.OFL_VC_CREDIT0 p, 60, 48⟩
def F.OFL_VC_CREDIT0_VC2 (p : Nat) : Fld := ⟨R.OFL_VC_CREDIT0 p, 44, 32⟩
def F.OFL_VC_CREDIT0_VC1 (p : Nat) : Fld := ⟨R.OFL_VC_CREDIT0 p, 28, 16⟩
def F.OFL_VC_CREDIT0_VC0 (p : Nat) : Fld := ⟨R.OFL_VC_CREDIT0 p, 12, 0⟩
def F.OFL_VC_CREDIT1_VC7 (p : Nat) : Fld := ⟨R.OFL_VC_CREDIT1 p, 60, 48⟩
def F.OFL_VC_CREDIT1_VC6 (p : Nat) : Fld := ⟨R.OFL_VC_CREDIT1 p, 44, 32⟩
def F.OFL_VC_CREDIT1_VC5 (p : Nat) : Fld := ⟨R.OFL_VC_CREDIT1 p, 28, 16⟩
def F.OFL_VC_CREDIT1_VC4 (p : Nat) : Fld := ⟨R.OFL_VC_CREDIT1 p, 12, 0⟩
def F.OFL_TX_CREDIT0_VC3 (p : Nat) : Fld := ⟨R.OFL_TX_CREDIT0 p, 60, 48⟩
def F.OFL_TX_CREDIT0_VC2 (p : Nat) : Fld := ⟨R.OFL_TX_CREDIT0 p, 44, 32⟩
def F.OFL_TX_CREDIT0_VC1 (p : Nat) : Fld := ⟨R.OFL_TX_CREDIT0 p, 28, 16⟩
def F.OFL_TX_CREDIT0_VC0 (p : Nat) : Fld := ⟨R.OFL_TX_CREDIT0 p, 12, 0⟩
def F.OFL_TX_CREDIT1_VC7 (p : Nat) : Fld := ⟨R.OFL_TX_CREDIT1 p, 60, 48⟩
def F.OFL_TX_CREDIT1_VC6 (p : Nat) : Fld := ⟨R.OFL_TX_CREDIT1 p, 44, 32⟩
def F.OFL_TX_CREDIT1_VC5 (p : Nat) : Fld := ⟨R.OFL_TX_CREDIT1 p, 28, 16⟩
def F.OFL_TX_CREDIT1_VC4 (p : Nat) : Fld := ⟨R.OFL_TX_CREDIT1 p, 12, 0⟩
def F.OFL_PARTNER_SERIAL (p : Nat) : Fld := ⟨R.OFL_PARTNER p, 63, 0⟩
def F.OFL_ERR_CNT_FEC_CORR (p : Nat) : Fld := ⟨R.OFL_ERR_CNT p, 63, 32⟩
def F.OFL_ERR_CNT_CRC_FAIL (p : Nat) : Fld := ⟨R.OFL_ERR_CNT p, 31, 0⟩
def F.OFL_REPLAY_CNT_NAK_SENT (p : Nat) : Fld := ⟨R.OFL_REPLAY_CNT p, 63, 32⟩
def F.OFL_REPLAY_CNT_REPLAYED (p : Nat) : Fld := ⟨R.OFL_REPLAY_CNT p, 31, 0⟩
def F.OFL_EVENT_CNT_RECOVERY (p : Nat) : Fld := ⟨R.OFL_EVENT_CNT p, 63, 48⟩
def F.OFL_EVENT_CNT_DROPS (p : Nat) : Fld := ⟨R.OFL_EVENT_CNT p, 47, 32⟩
def F.OFL_EVENT_CNT_ADDS (p : Nat) : Fld := ⟨R.OFL_EVENT_CNT p, 31, 16⟩
def F.OFL_EVENT_CNT_BAD_MSG (p : Nat) : Fld := ⟨R.OFL_EVENT_CNT p, 15, 0⟩
def F.OFL_DOWN_LOG_REISSUED (p : Nat) : Fld := ⟨R.OFL_DOWN_LOG p, 59, 48⟩
def F.OFL_DOWN_LOG_READ_FAILED (p : Nat) : Fld := ⟨R.OFL_DOWN_LOG p, 47, 36⟩
def F.OFL_DOWN_LOG_WRITE_UNKNOWN (p : Nat) : Fld := ⟨R.OFL_DOWN_LOG p, 35, 24⟩
def F.OFL_DOWN_LOG_OTHER (p : Nat) : Fld := ⟨R.OFL_DOWN_LOG p, 23, 12⟩
def F.OFL_DOWN_LOG_DUP (p : Nat) : Fld := ⟨R.OFL_DOWN_LOG p, 11, 0⟩
def F.OFL_PARTNER_PORT_SAME_DEVICE (p : Nat) : Fld := ⟨R.OFL_PARTNER_PORT p, 7, 7⟩
def F.OFL_PARTNER_PORT_PORT (p : Nat) : Fld := ⟨R.OFL_PARTNER_PORT p, 6, 0⟩
def F.SWC_STATUS_SHARES_CUT : Fld := ⟨R.SWC_STATUS, 31, 31⟩
def F.SWC_STATUS_BANKS_OUT : Fld := ⟨R.SWC_STATUS, 28, 20⟩
def F.SWC_STATUS_FREE : Fld := ⟨R.SWC_STATUS, 19, 0⟩
def F.SWC_CLASS_SHARE_LATENCY (c : Nat) : Fld := ⟨R.SWC_CLASS_SHARE c, 57, 57⟩
def F.SWC_CLASS_SHARE_COHERENT (c : Nat) : Fld := ⟨R.SWC_CLASS_SHARE c, 56, 56⟩
def F.SWC_CLASS_SHARE_LEAT (c : Nat) : Fld := ⟨R.SWC_CLASS_SHARE c, 55, 55⟩
def F.SWC_CLASS_SHARE_MAX (c : Nat) : Fld := ⟨R.SWC_CLASS_SHARE c, 51, 32⟩
def F.SWC_CLASS_SHARE_MIN (c : Nat) : Fld := ⟨R.SWC_CLASS_SHARE c, 19, 0⟩
def F.SWC_CLASS_CTRL_WEIGHT (c : Nat) : Fld := ⟨R.SWC_CLASS_CTRL c, 31, 24⟩
def F.SWC_CLASS_CTRL_QCAP (c : Nat) : Fld := ⟨R.SWC_CLASS_CTRL c, 21, 16⟩
def F.SWC_CLASS_CTRL_HYST (c : Nat) : Fld := ⟨R.SWC_CLASS_CTRL c, 11, 8⟩
def F.SWC_CLASS_CTRL_WEIR (c : Nat) : Fld := ⟨R.SWC_CLASS_CTRL c, 5, 0⟩
def F.SWC_CLASS_OCC_PEAK (c : Nat) : Fld := ⟨R.SWC_CLASS_OCC c, 51, 32⟩
def F.SWC_CLASS_OCC_OCC (c : Nat) : Fld := ⟨R.SWC_CLASS_OCC c, 19, 0⟩
def F.SWC_TC_MAP_KIND (k : Nat) : Fld := ⟨R.SWC_TC_MAP, 4 * k + 2, 4 * k⟩
def F.SWC_WEIR_CTRL_OFL_MARK_EN : Fld := ⟨R.SWC_WEIR_CTRL, 31, 31⟩
def F.SWC_WEIR_CTRL_DEVLOAD_EN : Fld := ⟨R.SWC_WEIR_CTRL, 30, 30⟩
def F.SWC_WEIR_CTRL_HOLD : Fld := ⟨R.SWC_WEIR_CTRL, 15, 0⟩
def F.SWC_CONG_CNT_MARKED : Fld := ⟨R.SWC_CONG_CNT, 63, 32⟩
def F.SWC_CONG_CNT_DEVLOAD : Fld := ⟨R.SWC_CONG_CNT, 31, 0⟩
def F.SWC_QSEL_QUEUE : Fld := ⟨R.SWC_QSEL, 9, 0⟩
def F.SWC_QSTAT_CONG : Fld := ⟨R.SWC_QSTAT, 63, 63⟩
def F.SWC_QSTAT_SPILL : Fld := ⟨R.SWC_QSTAT, 62, 62⟩
def F.SWC_QSTAT_FLUSH : Fld := ⟨R.SWC_QSTAT, 61, 61⟩
def F.SWC_QSTAT_PAGES : Fld := ⟨R.SWC_QSTAT, 44, 24⟩
def F.SWC_QSTAT_OCC : Fld := ⟨R.SWC_QSTAT, 19, 0⟩
def F.SWC_MC_CTRL_TIMEOUT : Fld := ⟨R.SWC_MC_CTRL, 31, 16⟩
def F.SWC_MC_MISS0_PORTS : Fld := ⟨R.SWC_MC_MISS0, 63, 0⟩
def F.SWC_MC_MISS1_VALID : Fld := ⟨R.SWC_MC_MISS1, 63, 63⟩
def F.SWC_MC_MISS1_GROUP : Fld := ⟨R.SWC_MC_MISS1, 49, 32⟩
def F.SWC_MC_MISS1_PORTS : Fld := ⟨R.SWC_MC_MISS1, 31, 0⟩
def F.SWC_MC_CNT_MISSED : Fld := ⟨R.SWC_MC_CNT, 63, 32⟩
def F.SWC_MC_CNT_PACKETS : Fld := ⟨R.SWC_MC_CNT, 31, 0⟩
def F.SWC_FLUSH_CNT_TRUNCATED : Fld := ⟨R.SWC_FLUSH_CNT, 63, 32⟩
def F.SWC_FLUSH_CNT_PACKETS : Fld := ⟨R.SWC_FLUSH_CNT, 31, 0⟩
def F.SWC_BANK_CTRL_MAPOUT : Fld := ⟨R.SWC_BANK_CTRL, 31, 31⟩
def F.SWC_BANK_CTRL_CE_LIMIT : Fld := ⟨R.SWC_BANK_CTRL, 23, 16⟩
def F.SWC_BANK_CTRL_BANK : Fld := ⟨R.SWC_BANK_CTRL, 7, 0⟩
def F.SWC_BANK_OUT_OUT (n : Nat) : Fld := ⟨R.SWC_BANK_OUT n, 63, 0⟩
def F.SWC_BANK_LOSS_PACKETS : Fld := ⟨R.SWC_BANK_LOSS, 63, 32⟩
def F.SWC_BANK_LOSS_CELLS : Fld := ⟨R.SWC_BANK_LOSS, 31, 0⟩
def F.SWC_LEAT_CFG_SIZE : Fld := ⟨R.SWC_LEAT_CFG, 31, 16⟩
def F.SWC_LEAT_CFG_CAP : Fld := ⟨R.SWC_LEAT_CFG, 15, 8⟩
def F.SWC_LEAT_CFG_MASK : Fld := ⟨R.SWC_LEAT_CFG, 7, 0⟩
def F.SWC_LEAT_CTRL_REFILL : Fld := ⟨R.SWC_LEAT_CTRL, 15, 0⟩
def F.SWC_LEAT_STATUS_FULL : Fld := ⟨R.SWC_LEAT_STATUS, 63, 63⟩
def F.SWC_LEAT_STATUS_CAPPED : Fld := ⟨R.SWC_LEAT_STATUS, 62, 62⟩
def F.SWC_LEAT_STATUS_PAGES_FREE : Fld := ⟨R.SWC_LEAT_STATUS, 52, 32⟩
def F.SWC_LEAT_STATUS_SPILLING : Fld := ⟨R.SWC_LEAT_STATUS, 8, 0⟩
def F.SWC_LEAT_CNT_SPILLED : Fld := ⟨R.SWC_LEAT_CNT, 63, 32⟩
def F.SWC_LEAT_CNT_POISONED : Fld := ⟨R.SWC_LEAT_CNT, 31, 0⟩
def F.SWC_LOCK_LOCK : Fld := ⟨R.SWC_LOCK, 0, 0⟩
def F.RTE_CFG_VCS_COUNT : Fld := ⟨R.RTE_CFG, 6, 0⟩
def F.RTE_TBL_ENTRY_SIZE (t : Nat) : Fld := ⟨R.RTE_TBL t, 39, 32⟩
def F.RTE_TBL_UNITS (t : Nat) : Fld := ⟨R.RTE_TBL t, 31, 16⟩
def F.RTE_TBL_BASE (t : Nat) : Fld := ⟨R.RTE_TBL t, 7, 0⟩
def F.RTE_PATH_CTRL_FAST_DOWN : Fld := ⟨R.RTE_PATH_CTRL, 31, 31⟩
def F.RTE_PATH_CTRL_AUTO_RESTORE : Fld := ⟨R.RTE_PATH_CTRL, 30, 30⟩
def F.RTE_PATH_CTRL_RESTORE_DELAY : Fld := ⟨R.RTE_PATH_CTRL, 15, 0⟩
def F.RTE_PATH_STATUS_LAST_PORT : Fld := ⟨R.RTE_PATH_STATUS, 55, 48⟩
def F.RTE_PATH_STATUS_FAILOVERS : Fld := ⟨R.RTE_PATH_STATUS, 47, 32⟩
def F.RTE_PATH_STATUS_RESTORES : Fld := ⟨R.RTE_PATH_STATUS, 31, 16⟩
def F.RTE_PATH_STATUS_RESTORE_ABORTS : Fld := ⟨R.RTE_PATH_STATUS, 15, 0⟩
def F.RTE_PATH_CMD_START : Fld := ⟨R.RTE_PATH_CMD, 31, 31⟩
def F.RTE_PATH_CMD_BUSY : Fld := ⟨R.RTE_PATH_CMD, 30, 30⟩
def F.RTE_PATH_CMD_RESULT : Fld := ⟨R.RTE_PATH_CMD, 29, 28⟩
def F.RTE_PATH_CMD_PORT : Fld := ⟨R.RTE_PATH_CMD, 6, 0⟩
def F.RTE_TBL_CMD_START : Fld := ⟨R.RTE_TBL_CMD, 31, 31⟩
def F.RTE_TBL_CMD_BUSY : Fld := ⟨R.RTE_TBL_CMD, 30, 30⟩
def F.RTE_TBL_CMD_WRITE : Fld := ⟨R.RTE_TBL_CMD, 29, 29⟩
def F.RTE_TBL_CMD_RESULT : Fld := ⟨R.RTE_TBL_CMD, 28, 26⟩
def F.RTE_TBL_CMD_TABLE : Fld := ⟨R.RTE_TBL_CMD, 20, 18⟩
def F.RTE_TBL_CMD_INDEX : Fld := ⟨R.RTE_TBL_CMD, 17, 0⟩
def F.RTE_TBL_DATA_DATA (k : Nat) : Fld := ⟨R.RTE_TBL_DATA k, 63, 0⟩
def F.RTE_WIN_COMMIT_START : Fld := ⟨R.RTE_WIN_COMMIT, 31, 31⟩
def F.RTE_WIN_COMMIT_BUSY : Fld := ⟨R.RTE_WIN_COMMIT, 30, 30⟩
def F.RTE_WIN_COMMIT_DRAIN : Fld := ⟨R.RTE_WIN_COMMIT, 29, 29⟩
def F.RTE_WIN_COMMIT_VCS : Fld := ⟨R.RTE_WIN_COMMIT, 5, 0⟩
def F.RTE_BIND_CMD_START : Fld := ⟨R.RTE_BIND_CMD, 63, 63⟩
def F.RTE_BIND_CMD_BUSY : Fld := ⟨R.RTE_BIND_CMD, 62, 62⟩
def F.RTE_BIND_CMD_OP : Fld := ⟨R.RTE_BIND_CMD, 61, 60⟩
def F.RTE_BIND_CMD_SURPRISE : Fld := ⟨R.RTE_BIND_CMD, 59, 59⟩
def F.RTE_BIND_CMD_CACHE : Fld := ⟨R.RTE_BIND_CMD, 58, 58⟩
def F.RTE_BIND_CMD_PBR : Fld := ⟨R.RTE_BIND_CMD, 57, 57⟩
def F.RTE_BIND_CMD_RESULT : Fld := ⟨R.RTE_BIND_CMD, 56, 53⟩
def F.RTE_BIND_CMD_RPID : Fld := ⟨R.RTE_BIND_CMD, 52, 41⟩
def F.RTE_BIND_CMD_VCS : Fld := ⟨R.RTE_BIND_CMD, 40, 35⟩
def F.RTE_BIND_CMD_VPPB : Fld := ⟨R.RTE_BIND_CMD, 34, 25⟩
def F.RTE_BIND_CMD_KIND : Fld := ⟨R.RTE_BIND_CMD, 24, 23⟩
def F.RTE_BIND_CMD_PORT : Fld := ⟨R.RTE_BIND_CMD, 22, 16⟩
def F.RTE_BIND_CMD_LDID : Fld := ⟨R.RTE_BIND_CMD, 15, 0⟩
def F.RTE_BIND_CTRL_DRAIN_TO : Fld := ⟨R.RTE_BIND_CTRL, 31, 16⟩
def F.RTE_BIND_CTRL_MANAGED_TO : Fld := ⟨R.RTE_BIND_CTRL, 15, 0⟩
def F.RTE_CNT0_DECODE_MISS : Fld := ⟨R.RTE_CNT0, 63, 32⟩
def F.RTE_CNT0_REDIRECTED : Fld := ⟨R.RTE_CNT0, 31, 0⟩
def F.RTE_CNT1_ACS_VIOL : Fld := ⟨R.RTE_CNT1, 63, 32⟩
def F.RTE_CNT1_LATE_RSP : Fld := ⟨R.RTE_CNT1, 31, 0⟩
def F.RTE_LOCK_LOCK : Fld := ⟨R.RTE_LOCK, 0, 0⟩
def F.RTE_POOL_PID_VALID : Fld := ⟨R.RTE_POOL_PID, 31, 31⟩
def F.RTE_POOL_PID_PID : Fld := ⟨R.RTE_POOL_PID, 11, 0⟩
def F.RTE_PORT_PID_VALID (p : Nat) : Fld := ⟨R.RTE_PORT_PID p, 31, 31⟩
def F.RTE_PORT_PID_PID (p : Nat) : Fld := ⟨R.RTE_PORT_PID p, 11, 0⟩
def F.RTE_VCS_CFG_PRESENT (v : Nat) : Fld := ⟨R.RTE_VCS_CFG v, 63, 63⟩
def F.RTE_VCS_CFG_UPORT (v : Nat) : Fld := ⟨R.RTE_VCS_CFG v, 54, 48⟩
def F.RTE_VCS_CFG_HOSTID (v : Nat) : Fld := ⟨R.RTE_VCS_CFG v, 37, 32⟩
def F.RTE_VCS_CFG_VPPBS (v : Nat) : Fld := ⟨R.RTE_VCS_CFG v, 24, 16⟩
def F.RTE_VCS_CFG_DEC_COUNT (v : Nat) : Fld := ⟨R.RTE_VCS_CFG v, 5, 0⟩
def F.RTE_VCS_TBL_DEC_FIRST (v : Nat) : Fld := ⟨R.RTE_VCS_TBL v, 63, 46⟩
def F.RTE_VCS_TBL_WIN_FIRST (v : Nat) : Fld := ⟨R.RTE_VCS_TBL v, 45, 28⟩
def F.RTE_VCS_TBL_WIN_COUNT (v : Nat) : Fld := ⟨R.RTE_VCS_TBL v, 27, 13⟩
def F.RTE_VCS_TBL_WIN_ACTIVE (v : Nat) : Fld := ⟨R.RTE_VCS_TBL v, 12, 12⟩
def F.RTE_VCS_TBL_WIN_VERSION (v : Nat) : Fld := ⟨R.RTE_VCS_TBL v, 7, 0⟩
def F.RTE_BIND_VALID (n : Nat) : Fld := ⟨R.RTE_BIND n, 63, 63⟩
def F.RTE_BIND_STATE (n : Nat) : Fld := ⟨R.RTE_BIND n, 62, 61⟩
def F.RTE_BIND_CACHE (n : Nat) : Fld := ⟨R.RTE_BIND n, 60, 60⟩
def F.RTE_BIND_PBR (n : Nat) : Fld := ⟨R.RTE_BIND n, 59, 59⟩
def F.RTE_BIND_KIND (n : Nat) : Fld := ⟨R.RTE_BIND n, 58, 57⟩
def F.RTE_BIND_RPID (n : Nat) : Fld := ⟨R.RTE_BIND n, 56, 45⟩
def F.RTE_BIND_VCS (n : Nat) : Fld := ⟨R.RTE_BIND n, 44, 39⟩
def F.RTE_BIND_VPPB (n : Nat) : Fld := ⟨R.RTE_BIND n, 38, 29⟩
def F.RTE_BIND_PORT (n : Nat) : Fld := ⟨R.RTE_BIND n, 28, 22⟩
def F.RTE_BIND_LDID (n : Nat) : Fld := ⟨R.RTE_BIND n, 15, 0⟩
def F.RTE_BIND_OUT_OUTSTANDING (n : Nat) : Fld := ⟨R.RTE_BIND_OUT n, 19, 0⟩
def F.COH_CTRL_AUTO_REMOVE : Fld := ⟨R.COH_CTRL, 31, 31⟩
def F.COH_CTRL_ROT_EN : Fld := ⟨R.COH_CTRL, 30, 30⟩
def F.COH_CTRL_UE_LIMIT : Fld := ⟨R.COH_CTRL, 23, 16⟩
def F.COH_CTRL_BI_TO : Fld := ⟨R.COH_CTRL, 15, 0⟩
def F.COH_HOST_CMD_START : Fld := ⟨R.COH_HOST_CMD, 31, 31⟩
def F.COH_HOST_CMD_BUSY : Fld := ⟨R.COH_HOST_CMD, 30, 30⟩
def F.COH_HOST_CMD_OP : Fld := ⟨R.COH_HOST_CMD, 29, 28⟩
def F.COH_HOST_CMD_RESULT : Fld := ⟨R.COH_HOST_CMD, 27, 24⟩
def F.COH_HOST_CMD_HOST : Fld := ⟨R.COH_HOST_CMD, 5, 0⟩
def F.COH_FLUSH_CMD_START : Fld := ⟨R.COH_FLUSH_CMD, 63, 63⟩
def F.COH_FLUSH_CMD_BUSY : Fld := ⟨R.COH_FLUSH_CMD, 62, 62⟩
def F.COH_FLUSH_CMD_OP : Fld := ⟨R.COH_FLUSH_CMD, 61, 60⟩
def F.COH_FLUSH_CMD_RESULT : Fld := ⟨R.COH_FLUSH_CMD, 59, 56⟩
def F.COH_FLUSH_CMD_LOGICAL : Fld := ⟨R.COH_FLUSH_CMD, 52, 48⟩
def F.COH_FLUSH_CMD_BASE : Fld := ⟨R.COH_FLUSH_CMD, 39, 16⟩
def F.COH_FLUSH_CMD_COUNT : Fld := ⟨R.COH_FLUSH_CMD, 15, 0⟩
def F.COH_ROT_CTRL_START : Fld := ⟨R.COH_ROT_CTRL, 31, 31⟩
def F.COH_ROT_CTRL_FAIL : Fld := ⟨R.COH_ROT_CTRL, 30, 30⟩
def F.COH_ROT_CTRL_BUSY : Fld := ⟨R.COH_ROT_CTRL, 29, 29⟩
def F.COH_ROT_CTRL_RESULT : Fld := ⟨R.COH_ROT_CTRL, 28, 27⟩
def F.COH_ROT_CTRL_DOUBT_SETS : Fld := ⟨R.COH_ROT_CTRL, 23, 16⟩
def F.COH_ROT_CTRL_DRAIN_LIMIT : Fld := ⟨R.COH_ROT_CTRL, 15, 8⟩
def F.COH_ROT_CTRL_LOGICAL : Fld := ⟨R.COH_ROT_CTRL, 4, 0⟩
def F.COH_SWEEP_EN : Fld := ⟨R.COH_SWEEP, 31, 31⟩
def F.COH_SWEEP_RATE : Fld := ⟨R.COH_SWEEP, 15, 0⟩
def F.COH_LMAP_FOLDED (k i : Nat) : Fld := ⟨R.COH_LMAP k, 8 * i + 7, 8 * i + 7⟩
def F.COH_LMAP_PHYS (k i : Nat) : Fld := ⟨R.COH_LMAP k, 8 * i + 5, 8 * i⟩
def F.COH_HANDOVER_FAILOVERS : Fld := ⟨R.COH_HANDOVER, 63, 48⟩
def F.COH_HANDOVER_ROTATIONS : Fld := ⟨R.COH_HANDOVER, 47, 32⟩
def F.COH_HANDOVER_ROT_ABORTS : Fld := ⟨R.COH_HANDOVER, 31, 16⟩
def F.COH_HANDOVER_LAST_FROM : Fld := ⟨R.COH_HANDOVER, 15, 8⟩
def F.COH_HANDOVER_LAST_TO : Fld := ⟨R.COH_HANDOVER, 7, 0⟩
def F.COH_CNT0_POISONED : Fld := ⟨R.COH_CNT0, 63, 32⟩
def F.COH_CNT0_BI_TIMEOUT : Fld := ⟨R.COH_CNT0, 31, 0⟩
def F.COH_CNT1_STALE_BIRSP : Fld := ⟨R.COH_CNT1, 63, 32⟩
def F.COH_CNT1_HOME_MISS : Fld := ⟨R.COH_CNT1, 31, 0⟩
def F.COH_LAST_POISON_VALID : Fld := ⟨R.COH_LAST_POISON, 63, 63⟩
def F.COH_LAST_POISON_CAUSE : Fld := ⟨R.COH_LAST_POISON, 62, 60⟩
def F.COH_LAST_POISON_HLA : Fld := ⟨R.COH_LAST_POISON, 45, 0⟩
def F.COH_LOCK_LOCK : Fld := ⟨R.COH_LOCK, 0, 0⟩
def F.COH_HOST_REMOTE (h : Nat) : Fld := ⟨R.COH_HOST h, 31, 31⟩
def F.COH_HOST_STATE (h : Nat) : Fld := ⟨R.COH_HOST h, 29, 28⟩
def F.COH_HOST_PID (h : Nat) : Fld := ⟨R.COH_HOST h, 11, 0⟩
def F.COH_PROXY_VALID (n : Nat) : Fld := ⟨R.COH_PROXY n, 63, 63⟩
def F.COH_PROXY_PORT (n : Nat) : Fld := ⟨R.COH_PROXY n, 62, 56⟩
def F.COH_PROXY_LDID (n : Nat) : Fld := ⟨R.COH_PROXY n, 55, 40⟩
def F.COH_SL_STATUS_ROLE (n : Nat) : Fld := ⟨R.COH_SL_STATUS n, 31, 30⟩
def F.COH_SL_STATUS_FOLD (n : Nat) : Fld := ⟨R.COH_SL_STATUS n, 29, 29⟩
def F.COH_SL_STATUS_LOGICAL (n : Nat) : Fld := ⟨R.COH_SL_STATUS n, 28, 24⟩
def F.COH_SL_STATUS_LOGICAL2 (n : Nat) : Fld := ⟨R.COH_SL_STATUS n, 22, 18⟩
def F.COH_SL_STATUS_ENTRIES (n : Nat) : Fld := ⟨R.COH_SL_STATUS n, 17, 0⟩
def F.COH_SL_TRACK_INFLIGHT (n : Nat) : Fld := ⟨R.COH_SL_TRACK n, 40, 32⟩
def F.COH_SL_TRACK_EVBUF (n : Nat) : Fld := ⟨R.COH_SL_TRACK n, 22, 16⟩
def F.COH_SL_TRACK_WAITING (n : Nat) : Fld := ⟨R.COH_SL_TRACK n, 15, 0⟩
def F.COH_SL_DOUBT_ENTRIES (n : Nat) : Fld := ⟨R.COH_SL_DOUBT n, 49, 32⟩
def F.COH_SL_DOUBT_SETS (n : Nat) : Fld := ⟨R.COH_SL_DOUBT n, 14, 0⟩
def F.COH_SL_CNT0_LOOKUPS (n : Nat) : Fld := ⟨R.COH_SL_CNT0 n, 63, 32⟩
def F.COH_SL_CNT0_EVICTIONS (n : Nat) : Fld := ⟨R.COH_SL_CNT0 n, 31, 0⟩
def F.COH_SL_CNT1_BISNP (n : Nat) : Fld := ⟨R.COH_SL_CNT1 n, 63, 32⟩
def F.COH_SL_CNT1_OVERFLOWS (n : Nat) : Fld := ⟨R.COH_SL_CNT1 n, 31, 0⟩
def F.POOL_CFG_EXTENTS : Fld := ⟨R.POOL_CFG, 47, 32⟩
def F.POOL_CFG_RATE : Fld := ⟨R.POOL_CFG, 26, 24⟩
def F.POOL_CFG_DIMM_SIZE : Fld := ⟨R.POOL_CFG, 23, 20⟩
def F.POOL_CFG_X4 : Fld := ⟨R.POOL_CFG, 19, 19⟩
def F.POOL_CFG_MRDIMM : Fld := ⟨R.POOL_CFG, 18, 18⟩
def F.POOL_CFG_DPC2 : Fld := ⟨R.POOL_CFG, 17, 17⟩
def F.POOL_CFG_CHANNELS : Fld := ⟨R.POOL_CFG, 11, 0⟩
def F.POOL_STATUS_FAILED : Fld := ⟨R.POOL_STATUS, 27, 16⟩
def F.POOL_STATUS_ZEROING : Fld := ⟨R.POOL_STATUS, 15, 13⟩
def F.POOL_STATUS_REDUCED : Fld := ⟨R.POOL_STATUS, 7, 7⟩
def F.POOL_STATUS_STATE : Fld := ⟨R.POOL_STATUS, 1, 0⟩
def F.POOL_LEAT_FIRST : Fld := ⟨R.POOL_LEAT, 31, 16⟩
def F.POOL_LEAT_SIZE : Fld := ⟨R.POOL_LEAT, 8, 0⟩
def F.POOL_LOCK_LOCK : Fld := ⟨R.POOL_LOCK, 0, 0⟩
def F.POOL_LD_EN (n : Nat) : Fld := ⟨R.POOL_LD n, 63, 63⟩
def F.POOL_LD_REMOTE (n : Nat) : Fld := ⟨R.POOL_LD n, 62, 62⟩
def F.POOL_LD_RPID (n : Nat) : Fld := ⟨R.POOL_LD n, 61, 50⟩
def F.POOL_LD_BW_LIMIT (n : Nat) : Fld := ⟨R.POOL_LD n, 47, 40⟩
def F.POOL_LD_BW_ALLOC (n : Nat) : Fld := ⟨R.POOL_LD n, 39, 32⟩
def F.POOL_LD_MAP_SHARED_FIRST (n : Nat) : Fld := ⟨R.POOL_LD_MAP n, 47, 32⟩
def F.POOL_LD_MAP_MAP_COUNT (n : Nat) : Fld := ⟨R.POOL_LD_MAP n, 31, 16⟩
def F.POOL_LD_MAP_MAP_BASE (n : Nat) : Fld := ⟨R.POOL_LD_MAP n, 15, 0⟩
def F.POOL_MAP_CMD_START : Fld := ⟨R.POOL_MAP_CMD, 31, 31⟩
def F.POOL_MAP_CMD_WRITE : Fld := ⟨R.POOL_MAP_CMD, 30, 30⟩
def F.POOL_MAP_CMD_SLOT : Fld := ⟨R.POOL_MAP_CMD, 15, 0⟩
def F.POOL_MAP_DATA_BACKING : Fld := ⟨R.POOL_MAP_DATA, 15, 0⟩
def F.POOL_EXT_CMD_START : Fld := ⟨R.POOL_EXT_CMD, 63, 63⟩
def F.POOL_EXT_CMD_BUSY : Fld := ⟨R.POOL_EXT_CMD, 62, 62⟩
def F.POOL_EXT_CMD_OP : Fld := ⟨R.POOL_EXT_CMD, 61, 59⟩
def F.POOL_EXT_CMD_RESULT : Fld := ⟨R.POOL_EXT_CMD, 58, 56⟩
def F.POOL_EXT_CMD_SHARED : Fld := ⟨R.POOL_EXT_CMD, 55, 55⟩
def F.POOL_EXT_CMD_OWNER : Fld := ⟨R.POOL_EXT_CMD, 47, 32⟩
def F.POOL_EXT_CMD_DPA_INDEX : Fld := ⟨R.POOL_EXT_CMD, 31, 16⟩
def F.POOL_EXT_CMD_BACKING : Fld := ⟨R.POOL_EXT_CMD, 14, 0⟩
def F.POOL_EXT_DATA_ENTRY : Fld := ⟨R.POOL_EXT_DATA, 63, 0⟩
def F.POOL_PROXY_VALID (k : Nat) : Fld := ⟨R.POOL_PROXY k, 63, 63⟩
def F.POOL_PROXY_EXP (k : Nat) : Fld := ⟨R.POOL_PROXY k, 62, 58⟩
def F.POOL_PROXY_BASE (k : Nat) : Fld := ⟨R.POOL_PROXY k, 54, 40⟩
def F.POOL_PROXY_COUNT (k : Nat) : Fld := ⟨R.POOL_PROXY k, 39, 25⟩
def F.POOL_PROXY_DPA_BASE (k : Nat) : Fld := ⟨R.POOL_PROXY k, 17, 0⟩
def F.POOL_DEVLOAD_SEVERE : Fld := ⟨R.POOL_DEVLOAD, 31, 24⟩
def F.POOL_DEVLOAD_MODERATE : Fld := ⟨R.POOL_DEVLOAD, 23, 16⟩
def F.POOL_DEVLOAD_OPTIMAL : Fld := ⟨R.POOL_DEVLOAD, 15, 8⟩
def F.POOL_SCRUB_EN : Fld := ⟨R.POOL_SCRUB, 31, 31⟩
def F.POOL_SCRUB_PERIOD : Fld := ⟨R.POOL_SCRUB, 30, 16⟩
def F.POOL_SCRUB_DONE : Fld := ⟨R.POOL_SCRUB, 6, 0⟩
def F.POOL_RAM_RFM_EN : Fld := ⟨R.POOL_RAM, 31, 31⟩
def F.POOL_RAM_TRACK_EN : Fld := ⟨R.POOL_RAM, 30, 30⟩
def F.POOL_RAM_ACT_TH : Fld := ⟨R.POOL_RAM, 14, 0⟩
def F.POOL_RAM_CNT_DRFM : Fld := ⟨R.POOL_RAM_CNT, 63, 32⟩
def F.POOL_RAM_CNT_RFM : Fld := ⟨R.POOL_RAM_CNT, 31, 0⟩
def F.POOL_CH_ERR_UE (c : Nat) : Fld := ⟨R.POOL_CH_ERR c, 63, 48⟩
def F.POOL_CH_ERR_CE (c : Nat) : Fld := ⟨R.POOL_CH_ERR c, 31, 0⟩
def F.POOL_ERR_CTRL_CE_LIMIT : Fld := ⟨R.POOL_ERR_CTRL, 31, 16⟩
def F.POOL_ERR_CTRL_UE_LIMIT : Fld := ⟨R.POOL_ERR_CTRL, 15, 0⟩
def F.POOL_LAST_ERR_VALID : Fld := ⟨R.POOL_LAST_ERR, 63, 63⟩
def F.POOL_LAST_ERR_KIND : Fld := ⟨R.POOL_LAST_ERR, 62, 60⟩
def F.POOL_LAST_ERR_CHANNEL : Fld := ⟨R.POOL_LAST_ERR, 59, 56⟩
def F.POOL_LAST_ERR_DIMM : Fld := ⟨R.POOL_LAST_ERR, 55, 55⟩
def F.POOL_LAST_ERR_RANK : Fld := ⟨R.POOL_LAST_ERR, 54, 52⟩
def F.POOL_LAST_ERR_BANK : Fld := ⟨R.POOL_LAST_ERR, 51, 47⟩
def F.POOL_LAST_ERR_ROW : Fld := ⟨R.POOL_LAST_ERR, 46, 29⟩
def F.POOL_LAST_ERR_COLUMN : Fld := ⟨R.POOL_LAST_ERR, 28, 18⟩
def F.POOL_LAST_ADDR_LINE : Fld := ⟨R.POOL_LAST_ADDR, 42, 6⟩
def F.HEP_CTRL_TAG_TO : Fld := ⟨R.HEP_CTRL, 31, 16⟩
def F.HEP_PF_TOTAL_VFS : Fld := ⟨R.HEP_PF, 25, 16⟩
def F.HEP_PF_VCS : Fld := ⟨R.HEP_PF, 5, 0⟩
def F.HEP_CNT0_LATE_CPL : Fld := ⟨R.HEP_CNT0, 63, 32⟩
def F.HEP_CNT0_TAG_RECLAIM : Fld := ⟨R.HEP_CNT0, 31, 0⟩
def F.HEP_CNT1_CRS : Fld := ⟨R.HEP_CNT1, 63, 32⟩
def F.HEP_CNT1_ALL_ONES : Fld := ⟨R.HEP_CNT1, 31, 0⟩
def F.HEP_MIG_CMD_START : Fld := ⟨R.HEP_MIG_CMD, 31, 31⟩
def F.HEP_MIG_CMD_BUSY : Fld := ⟨R.HEP_MIG_CMD, 30, 30⟩
def F.HEP_MIG_CMD_OP : Fld := ⟨R.HEP_MIG_CMD, 29, 27⟩
def F.HEP_MIG_CMD_RESULT : Fld := ⟨R.HEP_MIG_CMD, 26, 24⟩
def F.HEP_MIG_CMD_FN : Fld := ⟨R.HEP_MIG_CMD, 9, 0⟩
def F.HEP_MIG_ADDR_ADDR : Fld := ⟨R.HEP_MIG_ADDR, 47, 0⟩
def F.HEP_QMAP_CMD_START : Fld := ⟨R.HEP_QMAP_CMD, 31, 31⟩
def F.HEP_QMAP_CMD_WRITE : Fld := ⟨R.HEP_QMAP_CMD, 30, 30⟩
def F.HEP_QMAP_CMD_RESULT : Fld := ⟨R.HEP_QMAP_CMD, 29, 27⟩
def F.HEP_QMAP_CMD_FN : Fld := ⟨R.HEP_QMAP_CMD, 15, 6⟩
def F.HEP_QMAP_CMD_QUEUE : Fld := ⟨R.HEP_QMAP_CMD, 5, 0⟩
def F.HEP_QMAP_DATA_VALID : Fld := ⟨R.HEP_QMAP_DATA, 63, 63⟩
def F.HEP_QMAP_DATA_ENGINE : Fld := ⟨R.HEP_QMAP_DATA, 9, 6⟩
def F.HEP_QMAP_DATA_CHANNEL : Fld := ⟨R.HEP_QMAP_DATA, 5, 0⟩
def F.HEP_LOCK_LOCK : Fld := ⟨R.HEP_LOCK, 0, 0⟩
def F.HEP_VCS_EN (v : Nat) : Fld := ⟨R.HEP_VCS v, 31, 31⟩
def F.HEP_VCS_ALL_ONES (v : Nat) : Fld := ⟨R.HEP_VCS v, 30, 30⟩
def F.HEP_VCS_FVPPB (v : Nat) : Fld := ⟨R.HEP_VCS v, 7, 0⟩
def F.HEP_FN_CFG_EXPORT (n : Nat) : Fld := ⟨R.HEP_FN_CFG n, 63, 63⟩
def F.HEP_FN_CFG_VCS (n : Nat) : Fld := ⟨R.HEP_FN_CFG n, 62, 57⟩
def F.HEP_FN_CFG_SLOT (n : Nat) : Fld := ⟨R.HEP_FN_CFG n, 56, 49⟩
def F.HEP_FN_CFG_SHARE (n : Nat) : Fld := ⟨R.HEP_FN_CFG n, 47, 32⟩
def F.HEP_FN_CFG_QCOUNT (n : Nat) : Fld := ⟨R.HEP_FN_CFG n, 31, 25⟩
def F.HEP_FN_CFG_VEC_COUNT (n : Nat) : Fld := ⟨R.HEP_FN_CFG n, 24, 18⟩
def F.HEP_FN_CFG_VEC_BASE (n : Nat) : Fld := ⟨R.HEP_FN_CFG n, 13, 0⟩
def F.HEP_FN_WIN_BASE (n : Nat) : Fld := ⟨R.HEP_FN_WIN n, 47, 12⟩
def F.HEP_FN_WIN_WIN_SIZE (n : Nat) : Fld := ⟨R.HEP_FN_WIN n, 5, 0⟩
def F.HEP_FN_STATUS_STATE (n : Nat) : Fld := ⟨R.HEP_FN_STATUS n, 63, 61⟩
def F.HEP_FN_STATUS_BME (n : Nat) : Fld := ⟨R.HEP_FN_STATUS n, 60, 60⟩
def F.HEP_FN_STATUS_FULL (n : Nat) : Fld := ⟨R.HEP_FN_STATUS n, 59, 59⟩
def F.HEP_FN_STATUS_HELD (n : Nat) : Fld := ⟨R.HEP_FN_STATUS n, 47, 32⟩
def F.HEP_FN_STATUS_OCC (n : Nat) : Fld := ⟨R.HEP_FN_STATUS n, 15, 0⟩
def F.HOP_ENG_CTRL_FAIL (e : Nat) : Fld := ⟨R.HOP_ENG_CTRL e, 31, 31⟩
def F.HOP_ENG_CTRL_MODE (e : Nat) : Fld := ⟨R.HOP_ENG_CTRL e, 30, 30⟩
def F.HOP_ENG_CTRL_FETCH_TO (e : Nat) : Fld := ⟨R.HOP_ENG_CTRL e, 29, 16⟩
def F.HOP_ENG_CTRL_DATA_TO (e : Nat) : Fld := ⟨R.HOP_ENG_CTRL e, 13, 0⟩
def F.HOP_ENG_STATUS_FAILED (e : Nat) : Fld := ⟨R.HOP_ENG_STATUS e, 31, 31⟩
def F.HOP_ENG_STATUS_MODE (e : Nat) : Fld := ⟨R.HOP_ENG_STATUS e, 30, 30⟩
def F.HOP_ENG_STATUS_HALTED (e : Nat) : Fld := ⟨R.HOP_ENG_STATUS e, 14, 8⟩
def F.HOP_ENG_STATUS_ACTIVE (e : Nat) : Fld := ⟨R.HOP_ENG_STATUS e, 6, 0⟩
def F.HOP_ENG_IRQ_CH (e : Nat) : Fld := ⟨R.HOP_ENG_IRQ e, 63, 0⟩
def F.HOP_ENG_CNT_CHAINS (e : Nat) : Fld := ⟨R.HOP_ENG_CNT e, 63, 32⟩
def F.HOP_ENG_CNT_HALTS (e : Nat) : Fld := ⟨R.HOP_ENG_CNT e, 31, 0⟩
def F.HOP_ENG_BYTES_BYTES (e : Nat) : Fld := ⟨R.HOP_ENG_BYTES e, 63, 0⟩
def F.HOP_LOCK_LOCK (e : Nat) : Fld := ⟨R.HOP_LOCK e, 0, 0⟩
def F.HOP_CH_CTRL_EN (e : Nat) (c : Nat) : Fld := ⟨R.HOP_CH_CTRL e c, 31, 31⟩
def F.HOP_CH_CTRL_PAUSE (e : Nat) (c : Nat) : Fld := ⟨R.HOP_CH_CTRL e c, 30, 30⟩
def F.HOP_CH_CTRL_CMD (e : Nat) (c : Nat) : Fld := ⟨R.HOP_CH_CTRL e c, 29, 27⟩
def F.HOP_CH_CTRL_REGMODE (e : Nat) (c : Nat) : Fld := ⟨R.HOP_CH_CTRL e c, 26, 26⟩
def F.HOP_CH_STATUS_STATE (e : Nat) (c : Nat) : Fld := ⟨R.HOP_CH_STATUS e c, 31, 29⟩
def F.HOP_CH_STATUS_PAUSED_BY (e : Nat) (c : Nat) : Fld := ⟨R.HOP_CH_STATUS e c, 28, 26⟩
def F.HOP_CH_STATUS_DIR (e : Nat) (c : Nat) : Fld := ⟨R.HOP_CH_STATUS e c, 25, 24⟩
def F.HOP_CH_STATUS_SPACE (e : Nat) (c : Nat) : Fld := ⟨R.HOP_CH_STATUS e c, 23, 22⟩
def F.HOP_CH_STATUS_CODE (e : Nat) (c : Nat) : Fld := ⟨R.HOP_CH_STATUS e c, 15, 8⟩
def F.HOP_CH_STATUS_DETAIL (e : Nat) (c : Nat) : Fld := ⟨R.HOP_CH_STATUS e c, 7, 0⟩
def F.HOP_CH_CFG_FN_VALID (e : Nat) (c : Nat) : Fld := ⟨R.HOP_CH_CFG e c, 63, 63⟩
def F.HOP_CH_CFG_FN (e : Nat) (c : Nat) : Fld := ⟨R.HOP_CH_CFG e c, 62, 53⟩
def F.HOP_CH_CFG_QUEUE (e : Nat) (c : Nat) : Fld := ⟨R.HOP_CH_CFG e c, 52, 47⟩
def F.HOP_CH_CFG_PRIO (e : Nat) (c : Nat) : Fld := ⟨R.HOP_CH_CFG e c, 25, 24⟩
def F.HOP_CH_CFG_CHAIN_LIMIT (e : Nat) (c : Nat) : Fld := ⟨R.HOP_CH_CFG e c, 16, 0⟩
def F.HOP_CH_RING_BASE (e : Nat) (c : Nat) : Fld := ⟨R.HOP_CH_RING e c, 63, 6⟩
def F.HOP_CH_RING_SIZE (e : Nat) (c : Nat) : Fld := ⟨R.HOP_CH_RING e c, 4, 0⟩
def F.HOP_CH_CQ_BASE (e : Nat) (c : Nat) : Fld := ⟨R.HOP_CH_CQ e c, 63, 5⟩
def F.HOP_CH_CQ_SPACE (e : Nat) (c : Nat) : Fld := ⟨R.HOP_CH_CQ e c, 4, 3⟩
def F.HOP_CH_CQ_EN (e : Nat) (c : Nat) : Fld := ⟨R.HOP_CH_CQ e c, 0, 0⟩
def F.HOP_CH_PTR_PASSED (e : Nat) (c : Nat) : Fld := ⟨R.HOP_CH_PTR e c, 47, 32⟩
def F.HOP_CH_PTR_TAIL (e : Nat) (c : Nat) : Fld := ⟨R.HOP_CH_PTR e c, 31, 16⟩
def F.HOP_CH_PTR_HEAD (e : Nat) (c : Nat) : Fld := ⟨R.HOP_CH_PTR e c, 15, 0⟩
def F.HOP_CH_SWAP_COUNT (e : Nat) (c : Nat) : Fld := ⟨R.HOP_CH_SWAP e c, 31, 0⟩
def F.HOP_CH_SHD_CTRL_ARM (e : Nat) (c : Nat) : Fld := ⟨R.HOP_CH_SHD_CTRL e c, 63, 63⟩
def F.HOP_CH_SHD_CTRL_WSWAP (e : Nat) (c : Nat) : Fld := ⟨R.HOP_CH_SHD_CTRL e c, 31, 0⟩
def F.HOP_CH_ERR_ADDR_ADDR (e : Nat) (c : Nat) : Fld := ⟨R.HOP_CH_ERR_ADDR e c, 63, 0⟩
def F.HOP_CH_ACT_WORD (e : Nat) (c : Nat) (k : Nat) : Fld := ⟨R.HOP_CH_ACT e c k, 63, 0⟩
def F.HOP_CH_SHD_WORD (e : Nat) (c : Nat) (k : Nat) : Fld := ⟨R.HOP_CH_SHD e c k, 63, 0⟩
def F.HOP_CH_LAST_WORD (e : Nat) (c : Nat) (k : Nat) : Fld := ⟨R.HOP_CH_LAST e c k, 63, 0⟩
def F.SPD_COLL_VALID : Fld := ⟨R.SPD_COLL, 63, 63⟩
def F.SPD_COLL_WORDS : Fld := ⟨R.SPD_COLL, 55, 48⟩
def F.SPD_COLL_MID : Fld := ⟨R.SPD_COLL, 47, 36⟩
def F.SPD_COLL_ROW : Fld := ⟨R.SPD_COLL, 23, 6⟩
def F.SPD_CNT_COLLIDED : Fld := ⟨R.SPD_CNT, 63, 32⟩
def F.SPD_CNT_REFUSED : Fld := ⟨R.SPD_CNT, 31, 0⟩
def F.SPD_ECC_CE : Fld := ⟨R.SPD_ECC, 63, 32⟩
def F.SPD_ECC_UE : Fld := ⟨R.SPD_ECC, 31, 0⟩
def F.SPD_CTRL_CE_LIMIT : Fld := ⟨R.SPD_CTRL, 7, 0⟩
def F.SPD_LOCK_LOCK : Fld := ⟨R.SPD_LOCK, 0, 0⟩
def F.SPD_BANK_CFG_OWNER (b : Nat) : Fld := ⟨R.SPD_BANK_CFG b, 5, 4⟩
def F.SPD_BANK_CFG_PWR (b : Nat) : Fld := ⟨R.SPD_BANK_CFG b, 1, 0⟩
def F.SPD_BANK_STATUS_PWR_NOW (b : Nat) : Fld := ⟨R.SPD_BANK_STATUS b, 9, 8⟩
def F.SPD_BANK_STATUS_OWNER_NOW (b : Nat) : Fld := ⟨R.SPD_BANK_STATUS b, 5, 4⟩
def F.SPD_BANK_STATUS_ZEROING (b : Nat) : Fld := ⟨R.SPD_BANK_STATUS b, 1, 1⟩
def F.SPD_BANK_STATUS_CHANGING (b : Nat) : Fld := ⟨R.SPD_BANK_STATUS b, 0, 0⟩
def F.MPU_CFG_KIND (m : Nat) : Fld := ⟨R.MPU_CFG m, 25, 24⟩
def F.MPU_CFG_DEF_COUNT (m : Nat) : Fld := ⟨R.MPU_CFG m, 13, 8⟩
def F.MPU_CFG_INDEX (m : Nat) : Fld := ⟨R.MPU_CFG m, 4, 0⟩
def F.MPU_FENCE_START (m : Nat) : Fld := ⟨R.MPU_FENCE m, 31, 31⟩
def F.MPU_FENCE_BUSY (m : Nat) : Fld := ⟨R.MPU_FENCE m, 30, 30⟩
def F.MPU_FENCE_INFLIGHT (m : Nat) : Fld := ⟨R.MPU_FENCE m, 15, 0⟩
def F.MPU_FAULT_VALID (m : Nat) : Fld := ⟨R.MPU_FAULT m, 63, 63⟩
def F.MPU_FAULT_TYPE (m : Nat) : Fld := ⟨R.MPU_FAULT m, 62, 61⟩
def F.MPU_FAULT_PRIV (m : Nat) : Fld := ⟨R.MPU_FAULT m, 60, 60⟩
def F.MPU_FAULT_MID (m : Nat) : Fld := ⟨R.MPU_FAULT m, 59, 48⟩
def F.MPU_FAULT_ADDR (m : Nat) : Fld := ⟨R.MPU_FAULT m, 47, 0⟩
def F.MPU_FAULT_CNT_NOMATCH (m : Nat) : Fld := ⟨R.MPU_FAULT_CNT m, 63, 32⟩
def F.MPU_FAULT_CNT_DENIED (m : Nat) : Fld := ⟨R.MPU_FAULT_CNT m, 31, 0⟩
def F.MPU_DBG_TOKEN (m : Nat) : Fld := ⟨R.MPU_DBG m, 0, 0⟩
def F.MPU_LOCK_LOCK (m : Nat) : Fld := ⟨R.MPU_LOCK m, 0, 0⟩
def F.MGT_BOOT_ENTRY : Fld := ⟨R.MGT_BOOT, 47, 0⟩
def F.MGT_NMI_VECTOR : Fld := ⟨R.MGT_NMI, 47, 1⟩
def F.MGT_STATUS_READY : Fld := ⟨R.MGT_STATUS, 31, 31⟩
def F.MGT_STATUS_FAILED : Fld := ⟨R.MGT_STATUS, 15, 8⟩
def F.MGT_STATUS_ALIVE : Fld := ⟨R.MGT_STATUS, 7, 0⟩
def F.MGT_CORE_CTRL_FAIL : Fld := ⟨R.MGT_CORE_CTRL, 15, 8⟩
def F.MGT_CORE_CTRL_RESTART : Fld := ⟨R.MGT_CORE_CTRL, 7, 0⟩
def F.MGT_CACHE_BANKS : Fld := ⟨R.MGT_CACHE, 63, 0⟩
def F.MGT_SWI_PEND : Fld := ⟨R.MGT_SWI, 7, 0⟩
def F.MGT_SWI_SET_SET : Fld := ⟨R.MGT_SWI_SET, 7, 0⟩
def F.MGT_MTIME_TIME : Fld := ⟨R.MGT_MTIME, 63, 0⟩
def F.MGT_MTIMECMP_CMP (k : Nat) : Fld := ⟨R.MGT_MTIMECMP k, 63, 0⟩
def F.MGT_IRQ_ROUTE_EN (i : Nat) : Fld := ⟨R.MGT_IRQ_ROUTE i, 31, 31⟩
def F.MGT_IRQ_ROUTE_SMODE (i : Nat) : Fld := ⟨R.MGT_IRQ_ROUTE i, 30, 30⟩
def F.MGT_IRQ_ROUTE_CORE (i : Nat) : Fld := ⟨R.MGT_IRQ_ROUTE i, 2, 0⟩
def F.MGT_IRQ_PEND_LINE : Fld := ⟨R.MGT_IRQ_PEND, 31, 0⟩
def F.MGT_DONE_MPU_FENCE : Fld := ⟨R.MGT_DONE, 12, 12⟩
def F.MGT_DONE_DSA : Fld := ⟨R.MGT_DONE, 11, 11⟩
def F.MGT_DONE_HEP_MIG : Fld := ⟨R.MGT_DONE, 10, 10⟩
def F.MGT_DONE_COH_ROT : Fld := ⟨R.MGT_DONE, 9, 9⟩
def F.MGT_DONE_COH_FLUSH : Fld := ⟨R.MGT_DONE, 8, 8⟩
def F.MGT_DONE_COH_HOST : Fld := ⟨R.MGT_DONE, 7, 7⟩
def F.MGT_DONE_POOL_EXT : Fld := ⟨R.MGT_DONE, 6, 6⟩
def F.MGT_DONE_RTE_PATH : Fld := ⟨R.MGT_DONE, 5, 5⟩
def F.MGT_DONE_RTE_WIN : Fld := ⟨R.MGT_DONE, 4, 4⟩
def F.MGT_DONE_RTE_BIND : Fld := ⟨R.MGT_DONE, 3, 3⟩
def F.MGT_DONE_IMG_ARB : Fld := ⟨R.MGT_DONE, 2, 2⟩
def F.MGT_DONE_IMG_FLASH : Fld := ⟨R.MGT_DONE, 1, 1⟩
def F.MGT_DONE_IMG_LOAD : Fld := ⟨R.MGT_DONE, 0, 0⟩
def F.MGT_WDOG_KICK (k : Nat) : Fld := ⟨R.MGT_WDOG k, 31, 31⟩
def F.MGT_WDOG_EN (k : Nat) : Fld := ⟨R.MGT_WDOG k, 30, 30⟩
def F.MGT_WDOG_TIMEOUT (k : Nat) : Fld := ⟨R.MGT_WDOG k, 23, 0⟩
def F.MGT_FMAPI_CTRL_EN : Fld := ⟨R.MGT_FMAPI_CTRL, 5, 0⟩
def F.MGT_VDM_EN_VCS : Fld := ⟨R.MGT_VDM_EN, 63, 0⟩
def F.MGT_MCTP_CFG_SMB_SPEED : Fld := ⟨R.MGT_MCTP_CFG, 17, 16⟩
def F.MGT_MCTP_CFG_SMB_ADDR : Fld := ⟨R.MGT_MCTP_CFG, 14, 8⟩
def F.MGT_MCTP_CFG_I3C_ADDR : Fld := ⟨R.MGT_MCTP_CFG, 6, 0⟩
def F.MGT_XPORT_RX_EN (t : Nat) : Fld := ⟨R.MGT_XPORT_RX t, 63, 63⟩
def F.MGT_XPORT_RX_SIZE (t : Nat) : Fld := ⟨R.MGT_XPORT_RX t, 59, 56⟩
def F.MGT_XPORT_RX_DROPS (t : Nat) : Fld := ⟨R.MGT_XPORT_RX t, 47, 32⟩
def F.MGT_XPORT_RX_BASE (t : Nat) : Fld := ⟨R.MGT_XPORT_RX t, 23, 11⟩
def F.MGT_XPORT_TX_SIZE (t : Nat) : Fld := ⟨R.MGT_XPORT_TX t, 59, 56⟩
def F.MGT_XPORT_TX_BASE (t : Nat) : Fld := ⟨R.MGT_XPORT_TX t, 23, 11⟩
def F.MGT_NET_CFG_LINK : Fld := ⟨R.MGT_NET_CFG, 63, 63⟩
def F.MGT_NET_CFG_MODE : Fld := ⟨R.MGT_NET_CFG, 62, 62⟩
def F.MGT_NET_CFG_EN : Fld := ⟨R.MGT_NET_CFG, 61, 61⟩
def F.MGT_NET_CFG_MAC : Fld := ⟨R.MGT_NET_CFG, 47, 0⟩
def F.MGT_NET_IP_VALID : Fld := ⟨R.MGT_NET_IP, 63, 63⟩
def F.MGT_NET_IP_ADDR : Fld := ⟨R.MGT_NET_IP, 31, 0⟩
def F.MGT_DSA_CMD_START : Fld := ⟨R.MGT_DSA_CMD, 63, 63⟩
def F.MGT_DSA_CMD_BUSY : Fld := ⟨R.MGT_DSA_CMD, 62, 62⟩
def F.MGT_DSA_CMD_RESULT : Fld := ⟨R.MGT_DSA_CMD, 61, 59⟩
def F.MGT_DSA_CMD_OP : Fld := ⟨R.MGT_DSA_CMD, 58, 57⟩
def F.MGT_DSA_CMD_PORT : Fld := ⟨R.MGT_DSA_CMD, 56, 50⟩
def F.MGT_DSA_CMD_BE : Fld := ⟨R.MGT_DSA_CMD, 39, 32⟩
def F.MGT_DSA_CMD_LDID : Fld := ⟨R.MGT_DSA_CMD, 31, 16⟩
def F.MGT_DSA_CMD_TARGET : Fld := ⟨R.MGT_DSA_CMD, 15, 0⟩
def F.MGT_DSA_ADDR_ADDR : Fld := ⟨R.MGT_DSA_ADDR, 63, 0⟩
def F.MGT_DSA_DATA_DATA : Fld := ⟨R.MGT_DSA_DATA, 63, 0⟩
def F.MGT_LOCK_LOCK : Fld := ⟨R.MGT_LOCK, 0, 0⟩
def F.SLC_CTRL_EN (n : Nat) : Fld := ⟨R.SLC_CTRL n, 31, 31⟩
def F.SLC_CTRL_PRSNT_GATE (n : Nat) : Fld := ⟨R.SLC_CTRL n, 30, 30⟩
def F.SLC_CTRL_NO_RETURN (n : Nat) : Fld := ⟨R.SLC_CTRL n, 29, 29⟩
def F.SLC_CTRL_FORCE (n : Nat) : Fld := ⟨R.SLC_CTRL n, 28, 27⟩
def F.SLC_STATUS_STATE (n : Nat) : Fld := ⟨R.SLC_STATUS n, 31, 29⟩
def F.SLC_STATUS_FEED (n : Nat) : Fld := ⟨R.SLC_STATUS n, 28, 28⟩
def F.SLC_STATUS_PGOOD (n : Nat) : Fld := ⟨R.SLC_STATUS n, 27, 27⟩
def F.SLC_STATUS_PRESENT (n : Nat) : Fld := ⟨R.SLC_STATUS n, 26, 26⟩
def F.SLC_STATUS_ARMED (n : Nat) : Fld := ⟨R.SLC_STATUS n, 25, 25⟩
def F.SLC_STATUS_CAUSE (n : Nat) : Fld := ⟨R.SLC_STATUS n, 24, 22⟩
def F.SLC_STATUS_BUS_A_OK (n : Nat) : Fld := ⟨R.SLC_STATUS n, 21, 21⟩
def F.SLC_STATUS_BUS_B_OK (n : Nat) : Fld := ⟨R.SLC_STATUS n, 20, 20⟩
def F.SLC_STATUS_COOL_LEFT (n : Nat) : Fld := ⟨R.SLC_STATUS n, 15, 0⟩
def F.SLC_LIM0_RSNS (n : Nat) : Fld := ⟨R.SLC_LIM0 n, 31, 16⟩
def F.SLC_LIM0_ILIM (n : Nat) : Fld := ⟨R.SLC_LIM0 n, 15, 0⟩
def F.SLC_LIM1_FAULT_T (n : Nat) : Fld := ⟨R.SLC_LIM1 n, 31, 16⟩
def F.SLC_LIM1_COOL (n : Nat) : Fld := ⟨R.SLC_LIM1 n, 15, 0⟩
def F.SLC_LIM2_OV (n : Nat) : Fld := ⟨R.SLC_LIM2 n, 31, 16⟩
def F.SLC_LIM2_UV (n : Nat) : Fld := ⟨R.SLC_LIM2 n, 15, 0⟩
def F.SLC_LIM3_VALID (n : Nat) : Fld := ⟨R.SLC_LIM3 n, 31, 31⟩
def F.SLC_LIM3_PRIO (n : Nat) : Fld := ⟨R.SLC_LIM3 n, 30, 30⟩
def F.SLC_LIM3_DEAD (n : Nat) : Fld := ⟨R.SLC_LIM3 n, 25, 16⟩
def F.SLC_LIM3_RAMP (n : Nat) : Fld := ⟨R.SLC_LIM3 n, 15, 0⟩
def F.SLC_MEAS_VOUT (n : Nat) : Fld := ⟨R.SLC_MEAS n, 63, 48⟩
def F.SLC_MEAS_VBUS_B (n : Nat) : Fld := ⟨R.SLC_MEAS n, 47, 32⟩
def F.SLC_MEAS_VBUS_A (n : Nat) : Fld := ⟨R.SLC_MEAS n, 31, 16⟩
def F.SLC_MEAS_IOUT (n : Nat) : Fld := ⟨R.SLC_MEAS n, 15, 0⟩
def F.SLC_EVENT_RAMP_FAIL (n : Nat) : Fld := ⟨R.SLC_EVENT n, 8, 8⟩
def F.SLC_EVENT_FET_SHORT (n : Nat) : Fld := ⟨R.SLC_EVENT n, 7, 7⟩
def F.SLC_EVENT_SWITCH (n : Nat) : Fld := ⟨R.SLC_EVENT n, 6, 6⟩
def F.SLC_EVENT_OV (n : Nat) : Fld := ⟨R.SLC_EVENT n, 5, 5⟩
def F.SLC_EVENT_UV (n : Nat) : Fld := ⟨R.SLC_EVENT n, 4, 4⟩
def F.SLC_EVENT_REVERSE (n : Nat) : Fld := ⟨R.SLC_EVENT n, 3, 3⟩
def F.SLC_EVENT_PRSNT_CHG (n : Nat) : Fld := ⟨R.SLC_EVENT n, 2, 2⟩
def F.SLC_EVENT_SLOW (n : Nat) : Fld := ⟨R.SLC_EVENT n, 1, 1⟩
def F.SLC_EVENT_FAST (n : Nat) : Fld := ⟨R.SLC_EVENT n, 0, 0⟩
def F.SLC_CNT_TRIPS (n : Nat) : Fld := ⟨R.SLC_CNT n, 63, 48⟩
def F.SLC_CNT_SWITCHES (n : Nat) : Fld := ⟨R.SLC_CNT n, 47, 32⟩
def F.SLC_CNT_REVERSE (n : Nat) : Fld := ⟨R.SLC_CNT n, 31, 16⟩
def F.SLC_CNT_UV (n : Nat) : Fld := ⟨R.SLC_CNT n, 15, 0⟩
def F.SLC_LOCK_LOCK (n : Nat) : Fld := ⟨R.SLC_LOCK n, 0, 0⟩
def F.BRK_CTRL_RESET_MAX : Fld := ⟨R.BRK_CTRL, 31, 24⟩
def F.BRK_STATUS_IMAGE_MAP : Fld := ⟨R.BRK_STATUS, 31, 31⟩
def F.BRK_STATUS_INT_ERR : Fld := ⟨R.BRK_STATUS, 30, 30⟩
def F.BRK_STATUS_QUEUE : Fld := ⟨R.BRK_STATUS, 22, 12⟩
def F.BRK_STATUS_LAST_SRC : Fld := ⟨R.BRK_STATUS, 11, 0⟩
def F.BRK_RESET_INFO_SRC : Fld := ⟨R.BRK_RESET_INFO, 59, 48⟩
def F.BRK_RESET_INFO_CHIP_RESETS : Fld := ⟨R.BRK_RESET_INFO, 15, 0⟩
def F.BRK_LOSS_QUEUE_DROPS : Fld := ⟨R.BRK_LOSS, 63, 32⟩
def F.BRK_LOSS_DETAIL_LOST : Fld := ⟨R.BRK_LOSS, 31, 0⟩
def F.BRK_PIN_FIRST3 : Fld := ⟨R.BRK_PIN, 59, 48⟩
def F.BRK_PIN_FIRST2 : Fld := ⟨R.BRK_PIN, 47, 36⟩
def F.BRK_PIN_FIRST1 : Fld := ⟨R.BRK_PIN, 35, 24⟩
def F.BRK_PIN_FIRST0 : Fld := ⟨R.BRK_PIN, 23, 12⟩
def F.BRK_PIN_ASSERTED : Fld := ⟨R.BRK_PIN, 3, 0⟩
def F.BRK_SUMMARY_IRQ : Fld := ⟨R.BRK_SUMMARY, 63, 0⟩
def F.BRK_HIST_CTRL_POP : Fld := ⟨R.BRK_HIST_CTRL, 31, 31⟩
def F.BRK_HIST_CTRL_CLEAR : Fld := ⟨R.BRK_HIST_CTRL, 30, 30⟩
def F.BRK_HIST_CTRL_HEAD : Fld := ⟨R.BRK_HIST_CTRL, 25, 16⟩
def F.BRK_HIST_CTRL_COUNT : Fld := ⟨R.BRK_HIST_CTRL, 10, 0⟩
def F.BRK_HIST_REC_DATA (k : Nat) : Fld := ⟨R.BRK_HIST_REC k, 63, 0⟩
def F.BRK_LAST_SEV_DATA (k : Nat) : Fld := ⟨R.BRK_LAST_SEV k, 63, 0⟩
def F.BRK_INJ_CTRL_ARM : Fld := ⟨R.BRK_INJ_CTRL, 63, 63⟩
def F.BRK_INJ_CTRL_DONE : Fld := ⟨R.BRK_INJ_CTRL, 62, 62⟩
def F.BRK_INJ_CTRL_MATCH : Fld := ⟨R.BRK_INJ_CTRL, 61, 61⟩
def F.BRK_INJ_CTRL_UE : Fld := ⟨R.BRK_INJ_CTRL, 60, 60⟩
def F.BRK_INJ_CTRL_TARGET : Fld := ⟨R.BRK_INJ_CTRL, 47, 40⟩
def F.BRK_INJ_CTRL_INDEX : Fld := ⟨R.BRK_INJ_CTRL, 39, 32⟩
def F.BRK_INJ_CTRL_BIT : Fld := ⟨R.BRK_INJ_CTRL, 5, 0⟩
def F.BRK_INJ_ADDR_ADDR : Fld := ⟨R.BRK_INJ_ADDR, 63, 0⟩
def F.BRK_INJ_HIT_ADDR : Fld := ⟨R.BRK_INJ_HIT, 63, 0⟩
def F.BRK_SW_RAISE_RAISE : Fld := ⟨R.BRK_SW_RAISE, 31, 31⟩
def F.BRK_SW_RAISE_INDEX : Fld := ⟨R.BRK_SW_RAISE, 5, 0⟩
def F.BRK_SW_DATA_DATA : Fld := ⟨R.BRK_SW_DATA, 63, 0⟩
def F.BRK_LOCK_LOCK : Fld := ⟨R.BRK_LOCK, 0, 0⟩
def F.BRK_REACT_WINDOW (n : Nat) : Fld := ⟨R.BRK_REACT n, 31, 29⟩
def F.BRK_REACT_THRESH (n : Nat) : Fld := ⟨R.BRK_REACT n, 28, 24⟩
def F.BRK_REACT_SEVERE (n : Nat) : Fld := ⟨R.BRK_REACT n, 23, 16⟩
def F.BRK_REACT_NORMAL (n : Nat) : Fld := ⟨R.BRK_REACT n, 15, 8⟩
def F.BRK_REACT_PIN_SEL (n : Nat) : Fld := ⟨R.BRK_REACT n, 7, 6⟩
def F.BRK_CNT_WIN_COUNT (n : Nat) : Fld := ⟨R.BRK_CNT n, 31, 27⟩
def F.BRK_CNT_TOTAL (n : Nat) : Fld := ⟨R.BRK_CNT n, 26, 0⟩
def F.BRK_PEND_SRC (j : Nat) : Fld := ⟨R.BRK_PEND j, 63, 0⟩
def F.BRK_IRQ_SRC (j : Nat) : Fld := ⟨R.BRK_IRQ j, 63, 0⟩
def F.BRK_SEV_SRC (j : Nat) : Fld := ⟨R.BRK_SEV j, 63, 0⟩
def F.GOV_STATUS_ALARM : Fld := ⟨R.GOV_STATUS, 31, 30⟩
def F.GOV_STATUS_HALTED : Fld := ⟨R.GOV_STATUS, 29, 29⟩
def F.GOV_STATUS_POLICY : Fld := ⟨R.GOV_STATUS, 28, 28⟩
def F.GOV_STATUS_FAILS : Fld := ⟨R.GOV_STATUS, 23, 16⟩
def F.GOV_STATUS_RESTARTS : Fld := ⟨R.GOV_STATUS, 15, 8⟩
def F.GOV_STATUS_THERM : Fld := ⟨R.GOV_STATUS, 1, 0⟩
def F.GOV_POLICY_LEAD : Fld := ⟨R.GOV_POLICY, 52, 42⟩
def F.GOV_POLICY_STEP : Fld := ⟨R.GOV_POLICY, 41, 36⟩
def F.GOV_POLICY_SHUT : Fld := ⟨R.GOV_POLICY, 35, 28⟩
def F.GOV_POLICY_WARN : Fld := ⟨R.GOV_POLICY, 27, 20⟩
def F.GOV_POLICY_TAMPER : Fld := ⟨R.GOV_POLICY, 19, 18⟩
def F.GOV_POLICY_IDE : Fld := ⟨R.GOV_POLICY, 17, 16⟩
def F.GOV_POLICY_DEBUG : Fld := ⟨R.GOV_POLICY, 0, 0⟩
def F.GOV_FUSE_UDS : Fld := ⟨R.GOV_FUSE, 12, 12⟩
def F.GOV_FUSE_SEED : Fld := ⟨R.GOV_FUSE, 11, 11⟩
def F.GOV_FUSE_REVOKED : Fld := ⟨R.GOV_FUSE, 7, 4⟩
def F.GOV_FUSE_PROGRAMMED : Fld := ⟨R.GOV_FUSE, 3, 0⟩
def F.GOV_SERIAL_SERIAL : Fld := ⟨R.GOV_SERIAL, 63, 0⟩
def F.GOV_CHAL_CHAL (k : Nat) : Fld := ⟨R.GOV_CHAL k, 63, 0⟩
def F.GOV_REQ_CMD_START : Fld := ⟨R.GOV_REQ_CMD, 31, 31⟩
def F.GOV_REQ_CMD_BUSY : Fld := ⟨R.GOV_REQ_CMD, 30, 30⟩
def F.GOV_REQ_CMD_OP : Fld := ⟨R.GOV_REQ_CMD, 29, 28⟩
def F.GOV_REQ_CMD_RESULT : Fld := ⟨R.GOV_REQ_CMD, 27, 24⟩
def F.GOV_REQ_CMD_PORT : Fld := ⟨R.GOV_REQ_CMD, 23, 17⟩
def F.GOV_REQ_CMD_LEN : Fld := ⟨R.GOV_REQ_CMD, 12, 0⟩
def F.GOV_REQ_ADDR_OFFSET : Fld := ⟨R.GOV_REQ_ADDR, 23, 0⟩
def F.GOV_REQ_RSP_LEN : Fld := ⟨R.GOV_REQ_RSP, 12, 0⟩
def F.GOV_ALARM_LEVEL : Fld := ⟨R.GOV_ALARM, 63, 62⟩
def F.GOV_ALARM_CAUSE : Fld := ⟨R.GOV_ALARM, 55, 48⟩
def F.GOV_ALARM_TIME : Fld := ⟨R.GOV_ALARM, 47, 0⟩
def F.GOV_TAMPER_SEEN : Fld := ⟨R.GOV_TAMPER, 7, 4⟩
def F.GOV_TAMPER_NOW : Fld := ⟨R.GOV_TAMPER, 3, 0⟩
def F.GOV_DBG_VALID : Fld := ⟨R.GOV_DBG, 31, 31⟩
def F.GOV_DBG_INTERNAL : Fld := ⟨R.GOV_DBG, 30, 30⟩
def F.GOV_DBG_RUNCTL : Fld := ⟨R.GOV_DBG, 29, 29⟩
def F.GOV_DBG_LEFT : Fld := ⟨R.GOV_DBG, 16, 0⟩
def F.GOV_THERM_PEAK : Fld := ⟨R.GOV_THERM, 31, 24⟩
def F.GOV_THERM_NOW : Fld := ⟨R.GOV_THERM, 23, 16⟩
def F.GOV_THERM_SENSOR : Fld := ⟨R.GOV_THERM, 4, 0⟩
def F.GOV_LIMIT_ENGAGED : Fld := ⟨R.GOV_LIMIT, 63, 48⟩
def F.GOV_LIMIT_WARNS : Fld := ⟨R.GOV_LIMIT, 47, 32⟩
def F.GOV_LIMIT_WARN : Fld := ⟨R.GOV_LIMIT, 24, 24⟩
def F.GOV_LIMIT_EST : Fld := ⟨R.GOV_LIMIT, 8, 0⟩
def F.GOV_KSTAGE_KEY (k : Nat) : Fld := ⟨R.GOV_KSTAGE k, 63, 0⟩
def F.GOV_KIV_IV : Fld := ⟨R.GOV_KIV, 63, 0⟩
def F.GOV_KPROG_START : Fld := ⟨R.GOV_KPROG, 31, 31⟩
def F.GOV_KPROG_BUSY : Fld := ⟨R.GOV_KPROG, 30, 30⟩
def F.GOV_KPROG_ERASE : Fld := ⟨R.GOV_KPROG, 29, 29⟩
def F.GOV_KPROG_DIR : Fld := ⟨R.GOV_KPROG, 28, 28⟩
def F.GOV_KPROG_KSET : Fld := ⟨R.GOV_KPROG, 27, 27⟩
def F.GOV_KPROG_SUB : Fld := ⟨R.GOV_KPROG, 26, 25⟩
def F.GOV_KPROG_STREAM : Fld := ⟨R.GOV_KPROG, 24, 21⟩
def F.GOV_KPROG_PORT : Fld := ⟨R.GOV_KPROG, 6, 0⟩
def F.FAN_CTRL_SCRUB_EN : Fld := ⟨R.FAN_CTRL, 31, 31⟩
def F.FAN_CTRL_ADAPT_EN : Fld := ⟨R.FAN_CTRL, 30, 30⟩
def F.FAN_CTRL_LOG_EN : Fld := ⟨R.FAN_CTRL, 29, 29⟩
def F.FAN_CTRL_TELEM_EN : Fld := ⟨R.FAN_CTRL, 28, 28⟩
def F.FAN_CTRL_TEST_EN : Fld := ⟨R.FAN_CTRL, 27, 27⟩
def F.FAN_SCRUB_PERIOD : Fld := ⟨R.FAN_SCRUB, 31, 16⟩
def F.FAN_SCRUB_CNT_CORRECTED : Fld := ⟨R.FAN_SCRUB_CNT, 63, 32⟩
def F.FAN_SCRUB_CNT_UE : Fld := ⟨R.FAN_SCRUB_CNT, 31, 16⟩
def F.FAN_SCRUB_CNT_PASSES : Fld := ⟨R.FAN_SCRUB_CNT, 15, 0⟩
def F.FAN_ROT_PERIOD : Fld := ⟨R.FAN_ROT, 31, 21⟩
def F.FAN_ROT_LEFT : Fld := ⟨R.FAN_ROT, 15, 0⟩
def F.FAN_TEST_HOP_PERIOD : Fld := ⟨R.FAN_TEST, 31, 16⟩
def F.FAN_TEST_STATUS_KIND : Fld := ⟨R.FAN_TEST_STATUS, 63, 60⟩
def F.FAN_TEST_STATUS_RESULT : Fld := ⟨R.FAN_TEST_STATUS, 59, 56⟩
def F.FAN_TEST_STATUS_UNIT : Fld := ⟨R.FAN_TEST_STATUS, 55, 48⟩
def F.FAN_TEST_STATUS_TIME : Fld := ⟨R.FAN_TEST_STATUS, 47, 0⟩
def F.FAN_TEST_CNT_PASSED : Fld := ⟨R.FAN_TEST_CNT, 63, 48⟩
def F.FAN_TEST_CNT_FAILED : Fld := ⟨R.FAN_TEST_CNT, 47, 32⟩
def F.FAN_TEST_CNT_SKIPPED : Fld := ⟨R.FAN_TEST_CNT, 31, 16⟩
def F.FAN_TEST_CNT_YIELDS : Fld := ⟨R.FAN_TEST_CNT, 15, 0⟩
def F.FAN_ADAPT_CNT_KEPT : Fld := ⟨R.FAN_ADAPT_CNT, 63, 32⟩
def F.FAN_ADAPT_CNT_REVERTED : Fld := ⟨R.FAN_ADAPT_CNT, 31, 0⟩
def F.FAN_LOG_CFG_SEVERE_ONLY : Fld := ⟨R.FAN_LOG_CFG, 31, 31⟩
def F.FAN_LOG_CFG_FLUSH : Fld := ⟨R.FAN_LOG_CFG, 15, 0⟩
def F.FAN_LOG_STATUS_SECTORS : Fld := ⟨R.FAN_LOG_STATUS, 63, 48⟩
def F.FAN_LOG_STATUS_CURRENT : Fld := ⟨R.FAN_LOG_STATUS, 47, 32⟩
def F.FAN_LOG_STATUS_BAD : Fld := ⟨R.FAN_LOG_STATUS, 23, 16⟩
def F.FAN_LOG_STATUS_DROPS : Fld := ⟨R.FAN_LOG_STATUS, 15, 0⟩
def F.FAN_LOG_POS_LAP : Fld := ⟨R.FAN_LOG_POS, 63, 32⟩
def F.FAN_LOG_POS_WRITTEN : Fld := ⟨R.FAN_LOG_POS, 31, 0⟩
def F.FAN_TELEM_PERIOD : Fld := ⟨R.FAN_TELEM, 31, 16⟩
def F.FAN_TELEM_SEQ : Fld := ⟨R.FAN_TELEM, 15, 0⟩
def F.FAN_LOCK_LOCK : Fld := ⟨R.FAN_LOCK, 0, 0⟩
def F.PMC_CTRL_EN : Fld := ⟨R.PMC_CTRL, 31, 31⟩
def F.PMC_CTRL_SNAP : Fld := ⟨R.PMC_CTRL, 30, 30⟩
def F.PMC_CTRL_CLEAR : Fld := ⟨R.PMC_CTRL, 29, 29⟩
def F.PMC_STATUS_FROZEN : Fld := ⟨R.PMC_STATUS, 31, 31⟩
def F.PMC_STATUS_SNAPS : Fld := ⟨R.PMC_STATUS, 15, 0⟩
def F.PMC_LOCK_LOCK : Fld := ⟨R.PMC_LOCK, 0, 0⟩
def F.PMC_OVF_CNT (j : Nat) : Fld := ⟨R.PMC_OVF j, 63, 0⟩
def F.PMC_SMP_STATUS_FULL : Fld := ⟨R.PMC_SMP_STATUS, 63, 63⟩
def F.PMC_SMP_STATUS_COUNT : Fld := ⟨R.PMC_SMP_STATUS, 41, 32⟩
def F.PMC_SMP_STATUS_DROPS : Fld := ⟨R.PMC_SMP_STATUS, 31, 0⟩
def F.PMC_SMP_CTRL_POP : Fld := ⟨R.PMC_SMP_CTRL, 31, 31⟩
def F.PMC_SMP_CTRL_CLEAR : Fld := ⟨R.PMC_SMP_CTRL, 30, 30⟩
def F.PMC_SMP_CTRL_EN : Fld := ⟨R.PMC_SMP_CTRL, 29, 29⟩
def F.PMC_SMP_REC_DATA (k : Nat) : Fld := ⟨R.PMC_SMP_REC k, 63, 0⟩
def F.PMC_TS_CFG_EN (k : Nat) : Fld := ⟨R.PMC_TS_CFG k, 63, 63⟩
def F.PMC_TS_CFG_DEST (k : Nat) : Fld := ⟨R.PMC_TS_CFG k, 46, 40⟩
def F.PMC_TS_CFG_SRC (k : Nat) : Fld := ⟨R.PMC_TS_CFG k, 38, 32⟩
def F.PMC_TS_CFG_TC_MASK (k : Nat) : Fld := ⟨R.PMC_TS_CFG k, 31, 24⟩
def F.PMC_TS_CFG_KIND_MASK (k : Nat) : Fld := ⟨R.PMC_TS_CFG k, 15, 0⟩
def F.PMC_TS_PERIOD_JITTER (k : Nat) : Fld := ⟨R.PMC_TS_PERIOD k, 63, 63⟩
def F.PMC_TS_PERIOD_PERIOD (k : Nat) : Fld := ⟨R.PMC_TS_PERIOD k, 31, 0⟩
def F.PMC_CNT_COUNT (n : Nat) : Fld := ⟨R.PMC_CNT n, 47, 0⟩
def F.PMC_SEL_EN (n : Nat) : Fld := ⟨R.PMC_SEL n, 63, 63⟩
def F.PMC_SEL_CHAIN (n : Nat) : Fld := ⟨R.PMC_SEL n, 62, 62⟩
def F.PMC_SEL_MODE (n : Nat) : Fld := ⟨R.PMC_SEL n, 61, 59⟩
def F.PMC_SEL_OVF_ACT (n : Nat) : Fld := ⟨R.PMC_SEL n, 58, 57⟩
def F.PMC_SEL_PRECISE (n : Nat) : Fld := ⟨R.PMC_SEL n, 56, 56⟩
def F.PMC_SEL_SAMPLE (n : Nat) : Fld := ⟨R.PMC_SEL n, 55, 55⟩
def F.PMC_SEL_THRESH (n : Nat) : Fld := ⟨R.PMC_SEL n, 51, 32⟩
def F.PMC_SEL_TC_MASK (n : Nat) : Fld := ⟨R.PMC_SEL n, 31, 24⟩
def F.PMC_SEL_UNIT (n : Nat) : Fld := ⟨R.PMC_SEL n, 23, 19⟩
def F.PMC_SEL_INSTANCE (n : Nat) : Fld := ⟨R.PMC_SEL n, 18, 12⟩
def F.PMC_SEL_EVENT (n : Nat) : Fld := ⟨R.PMC_SEL n, 7, 0⟩
def F.PMC_SNAP_COUNT (n : Nat) : Fld := ⟨R.PMC_SNAP n, 47, 0⟩
def F.CRP_STATUS_MAIN_OK : Fld := ⟨R.CRP_STATUS, 31, 31⟩
def F.CRP_STATUS_SYSCLK_OK : Fld := ⟨R.CRP_STATUS, 30, 30⟩
def F.CRP_STATUS_AOCLK_OK : Fld := ⟨R.CRP_STATUS, 29, 29⟩
def F.CRP_STATUS_PLL_LOCK : Fld := ⟨R.CRP_STATUS, 28, 28⟩
def F.CRP_STATUS_RAIL_OK : Fld := ⟨R.CRP_STATUS, 7, 0⟩
def F.CRP_RESET_CAUSE_COUNT : Fld := ⟨R.CRP_RESET_CAUSE, 31, 16⟩
def F.CRP_RESET_CAUSE_SYSCLK_LOSS : Fld := ⟨R.CRP_RESET_CAUSE, 7, 7⟩
def F.CRP_RESET_CAUSE_BROWNOUT : Fld := ⟨R.CRP_RESET_CAUSE, 6, 6⟩
def F.CRP_RESET_CAUSE_SOFTWARE : Fld := ⟨R.CRP_RESET_CAUSE, 5, 5⟩
def F.CRP_RESET_CAUSE_RESET_PIN : Fld := ⟨R.CRP_RESET_CAUSE, 4, 4⟩
def F.CRP_RESET_CAUSE_BOOT_TO : Fld := ⟨R.CRP_RESET_CAUSE, 3, 3⟩
def F.CRP_RESET_CAUSE_THERMAL : Fld := ⟨R.CRP_RESET_CAUSE, 2, 2⟩
def F.CRP_RESET_CAUSE_BRAKE : Fld := ⟨R.CRP_RESET_CAUSE, 1, 1⟩
def F.CRP_RESET_CAUSE_POR : Fld := ⟨R.CRP_RESET_CAUSE, 0, 0⟩
def F.CRP_RAIL_FAULT : Fld := ⟨R.CRP_RAIL, 63, 56⟩
def F.CRP_RAIL_BROWN : Fld := ⟨R.CRP_RAIL, 55, 48⟩
def F.CRP_RAIL_CORE_MV : Fld := ⟨R.CRP_RAIL, 15, 0⟩
def F.CRP_AVS_TARGET : Fld := ⟨R.CRP_AVS, 25, 16⟩
def F.CRP_AVS_REQUEST : Fld := ⟨R.CRP_AVS, 9, 0⟩
def F.CRP_CLK_SYSCLK_LOST : Fld := ⟨R.CRP_CLK, 31, 31⟩
def F.CRP_CLK_AOCLK_LOST : Fld := ⟨R.CRP_CLK, 30, 30⟩
def F.CRP_CLK_HOLDOVER : Fld := ⟨R.CRP_CLK, 29, 29⟩
def F.CRP_SW_RESET_CHIP : Fld := ⟨R.CRP_SW_RESET, 31, 31⟩
def F.CRP_VCS_RESET_ACTIVE : Fld := ⟨R.CRP_VCS_RESET, 63, 0⟩
def F.CRP_PERST_ASSERTED : Fld := ⟨R.CRP_PERST, 31, 0⟩
def F.CRP_PWR_POOL_STBY : Fld := ⟨R.CRP_PWR, 31, 31⟩
def F.CRP_PWR_STBY_NOW : Fld := ⟨R.CRP_PWR, 30, 30⟩
def F.CRP_LOCK_LOCK : Fld := ⟨R.CRP_LOCK, 0, 0⟩
def F.MPU_REG_A_EN (m : Nat) (r : Nat) : Fld := ⟨R.MPU_REG_A m r, 63, 63⟩
def F.MPU_REG_A_RD (m : Nat) (r : Nat) : Fld := ⟨R.MPU_REG_A m r, 62, 62⟩
def F.MPU_REG_A_WR (m : Nat) (r : Nat) : Fld := ⟨R.MPU_REG_A m r, 61, 61⟩
def F.MPU_REG_A_EXEC (m : Nat) (r : Nat) : Fld := ⟨R.MPU_REG_A m r, 60, 60⟩
def F.MPU_REG_A_GLOCK (m : Nat) (r : Nat) : Fld := ⟨R.MPU_REG_A m r, 59, 59⟩
def F.MPU_REG_A_USER (m : Nat) (r : Nat) : Fld := ⟨R.MPU_REG_A m r, 58, 58⟩
def F.MPU_REG_A_MID (m : Nat) (r : Nat) : Fld := ⟨R.MPU_REG_A m r, 55, 44⟩
def F.MPU_REG_A_START (m : Nat) (r : Nat) : Fld := ⟨R.MPU_REG_A m r, 41, 0⟩
def F.MPU_REG_B_MASK (m : Nat) (r : Nat) : Fld := ⟨R.MPU_REG_B m r, 63, 52⟩
def F.MPU_REG_B_END (m : Nat) (r : Nat) : Fld := ⟨R.MPU_REG_B m r, 41, 0⟩
def F.MPU_DEF_A_WORD (m : Nat) (r : Nat) : Fld := ⟨R.MPU_DEF_A m r, 63, 0⟩
def F.MPU_DEF_B_WORD (m : Nat) (r : Nat) : Fld := ⟨R.MPU_DEF_B m r, 63, 0⟩

end Sys2Proof.Machine
end

