-- ==== Sys2Proof/Machine/RegMap.lean ====
section
/-! DEFINITION. The register map as rows, for an access by address: where each register (array) lies, its width, its
reset value by distance from the first one, and its fields that are not read-only, with their access types (R6). -/

namespace Sys2Proof.Machine

/-- Access types (R6); read-only and reserved bits (R10) are not listed in a row. -/
inductive FTy | rw | wo | rc | w1c | w1s | lk | gv | rwl
deriving DecidableEq, Repr

structure FRow where
  hi : Nat
  lo : Nat
  ty : FTy
deriving DecidableEq, Repr

/-- One register or register array: address of the first, (count, stride) per index with the widest stride first. -/
structure RegRow where
  base : Nat
  dims : List (Nat × Nat)
  wide : Bool
  rst : Nat → Word
  flds : List FRow

def rowsIMG : List RegRow := [
  ⟨0x40200000, [], false, fun _ => 0x0#64, []⟩,
  ⟨0x40200004, [], false, fun _ => 0x0#64, []⟩,
  ⟨0x40200008, [], true, fun _ => 0x0#64, []⟩,
  ⟨0x40200010, [], false, fun _ => 0x0#64, [⟨31, 31, .wo⟩]⟩,
  ⟨0x40200014, [], false, fun _ => 0x0#64, [⟨0, 0, .w1s⟩]⟩,
  ⟨0x40200018, [], false, fun _ => 0x0#64, [⟨23, 0, .rw⟩]⟩,
  ⟨0x4020001C, [], false, fun _ => 0x0#64, [⟨31, 31, .wo⟩]⟩,
  ⟨0x40200020, [], false, fun _ => 0x0#64, []⟩,
  ⟨0x40200028, [], true, fun _ => 0x0#64, [⟨55, 32, .rwl⟩, ⟨31, 0, .rwl⟩]⟩,
  ⟨0x40200030, [], false, fun _ => 0x0#64, [⟨31, 31, .rwl⟩, ⟨29, 28, .rwl⟩, ⟨16, 0, .rwl⟩]⟩,
  ⟨0x402000F0, [], false, fun _ => 0x0#64, [⟨0, 0, .w1s⟩]⟩]

def rowsLG : List RegRow := [
  ⟨0x41000000, [(16, 0x10000)], false, fun _ => 0x0#64, [⟨9, 7, .lk⟩, ⟨6, 6, .lk⟩, ⟨1, 0, .lk⟩]⟩,
  ⟨0x41000004, [(16, 0x10000)], false, fun _ => 0x0#64, [⟨2, 2, .w1c⟩]⟩,
  ⟨0x41000008, [(16, 0x10000)], false, fun _ => 0x0#64, []⟩]

def rowsPORT : List RegRow := [
  ⟨0x42000000, [(96, 0x10000)], false, fun _ => 0xFFFF0000#64, [⟨31, 24, .lk⟩, ⟨23, 16, .lk⟩, ⟨13, 13, .lk⟩, ⟨12, 12, .lk⟩, ⟨11, 9, .lk⟩, ⟨8, 7, .lk⟩, ⟨6, 4, .lk⟩, ⟨3, 0, .lk⟩]⟩,
  ⟨0x42000008, [(96, 0x10000)], false, fun _ => 0x10000000#64, [⟨31, 31, .rw⟩, ⟨30, 30, .wo⟩, ⟨29, 29, .wo⟩, ⟨28, 28, .rw⟩, ⟨27, 27, .rw⟩, ⟨26, 24, .rw⟩, ⟨23, 23, .wo⟩]⟩,
  ⟨0x4200000C, [(96, 0x10000)], false, fun _ => 0x0#64, [⟨11, 11, .w1c⟩]⟩,
  ⟨0x42000010, [(96, 0x10000)], false, fun _ => 0x0#64, [⟨31, 20, .rw⟩, ⟨19, 8, .rw⟩, ⟨7, 5, .rw⟩, ⟨4, 4, .rw⟩, ⟨2, 2, .rw⟩]⟩,
  ⟨0x42000014, [(96, 0x10000)], false, fun _ => 0x0#64, []⟩,
  ⟨0x42000018, [(96, 0x10000)], true, fun _ => 0x0#64, [⟨63, 32, .rc⟩, ⟨31, 0, .rc⟩]⟩]

def rowsOFL : List RegRow := [
  ⟨0x43000000, [(96, 0x10000)], false, fun _ => 0x80004020#64, [⟨31, 31, .rw⟩, ⟨26, 16, .rw⟩, ⟨15, 12, .rw⟩, ⟨7, 7, .rw⟩, ⟨6, 4, .rw⟩]⟩,
  ⟨0x43000004, [(96, 0x10000)], false, fun _ => 0x14280000#64, [⟨31, 24, .rw⟩, ⟨23, 16, .rw⟩, ⟨15, 0, .rw⟩]⟩,
  ⟨0x43000008, [(96, 0x10000)], false, fun _ => 0x0#64, []⟩,
  ⟨0x4300000C, [(96, 0x10000)], false, fun _ => 0x0#64, []⟩,
  ⟨0x43000010, [(96, 0x10000)], false, fun _ => 0x0#64, [⟨31, 31, .wo⟩, ⟨15, 0, .rw⟩]⟩,
  ⟨0x43000018, [(96, 0x10000)], true, fun _ => 0x0#64, []⟩,
  ⟨0x43000020, [(96, 0x10000)], true, fun _ => 0x0#64, [⟨60, 48, .rw⟩, ⟨44, 32, .rw⟩, ⟨28, 16, .rw⟩, ⟨12, 0, .rw⟩]⟩,
  ⟨0x43000028, [(96, 0x10000)], true, fun _ => 0x0#64, [⟨60, 48, .rw⟩, ⟨44, 32, .rw⟩, ⟨28, 16, .rw⟩, ⟨12, 0, .rw⟩]⟩,
  ⟨0x43000030, [(96, 0x10000)], true, fun _ => 0x0#64, []⟩,
  ⟨0x43000038, [(96, 0x10000)], true, fun _ => 0x0#64, []⟩,
  ⟨0x43000040, [(96, 0x10000)], true, fun _ => 0x0#64, []⟩,
  ⟨0x43000048, [(96, 0x10000)], true, fun _ => 0x0#64, [⟨63, 32, .rc⟩, ⟨31, 0, .rc⟩]⟩,
  ⟨0x43000050, [(96, 0x10000)], true, fun _ => 0x0#64, [⟨63, 32, .rc⟩, ⟨31, 0, .rc⟩]⟩,
  ⟨0x43000058, [(96, 0x10000)], true, fun _ => 0x0#64, [⟨63, 48, .rc⟩, ⟨47, 32, .rc⟩, ⟨31, 16, .rc⟩, ⟨15, 0, .rc⟩]⟩,
  ⟨0x43000060, [(96, 0x10000)], true, fun _ => 0x0#64, [⟨59, 48, .rc⟩, ⟨47, 36, .rc⟩, ⟨35, 24, .rc⟩, ⟨23, 12, .rc⟩, ⟨11, 0, .rc⟩]⟩,
  ⟨0x43000068, [(96, 0x10000)], false, fun _ => 0x0#64, []⟩]

def rowsSWC : List RegRow := [
  ⟨0x44000000, [], false, fun _ => 0x80000#64, []⟩,
  ⟨0x44000100, [(8, 0x8)], true, fun _ => 0x0#64, [⟨57, 57, .lk⟩, ⟨56, 56, .lk⟩, ⟨55, 55, .lk⟩, ⟨51, 32, .lk⟩, ⟨19, 0, .lk⟩]⟩,
  ⟨0x44000140, [(8, 0x4)], false, fun _ => 0x10000000#64, [⟨31, 24, .rw⟩, ⟨21, 16, .rw⟩, ⟨11, 8, .rw⟩, ⟨5, 0, .rw⟩]⟩,
  ⟨0x44000180, [(8, 0x8)], true, fun _ => 0x0#64, [⟨51, 32, .rc⟩]⟩,
  ⟨0x440001C0, [], true, fun _ => 0x547654322222210#64, [⟨2, 0, .rwl⟩, ⟨6, 4, .rwl⟩, ⟨10, 8, .rwl⟩, ⟨14, 12, .rwl⟩, ⟨18, 16, .rwl⟩, ⟨22, 20, .rwl⟩, ⟨26, 24, .rwl⟩, ⟨30, 28, .rwl⟩, ⟨34, 32, .rwl⟩, ⟨38, 36, .rwl⟩, ⟨42, 40, .rwl⟩, ⟨46, 44, .rwl⟩, ⟨50, 48, .rwl⟩, ⟨54, 52, .rwl⟩, ⟨58, 56, .rwl⟩, ⟨62, 60, .rwl⟩]⟩,
  ⟨0x440001C8, [], false, fun _ => 0xC000000A#64, [⟨31, 31, .rw⟩, ⟨30, 30, .rw⟩, ⟨15, 0, .rw⟩]⟩,
  ⟨0x440001D0, [], true, fun _ => 0x0#64, [⟨63, 32, .rc⟩, ⟨31, 0, .rc⟩]⟩,
  ⟨0x44000200, [], false, fun _ => 0x0#64, [⟨9, 0, .rw⟩]⟩,
  ⟨0x44000208, [], true, fun _ => 0x0#64, []⟩,
  ⟨0x44000210, [], false, fun _ => 0x640000#64, [⟨31, 16, .rwl⟩]⟩,
  ⟨0x44000218, [], true, fun _ => 0x0#64, []⟩,
  ⟨0x44000220, [], true, fun _ => 0x0#64, [⟨63, 63, .w1c⟩]⟩,
  ⟨0x44000228, [], true, fun _ => 0x0#64, [⟨63, 32, .rc⟩, ⟨31, 0, .rc⟩]⟩,
  ⟨0x44000230, [], true, fun _ => 0x0#64, [⟨63, 32, .rc⟩, ⟨31, 0, .rc⟩]⟩,
  ⟨0x44000240, [], false, fun _ => 0x100000#64, [⟨31, 31, .wo⟩, ⟨23, 16, .rwl⟩, ⟨7, 0, .rw⟩]⟩,
  ⟨0x44000250, [(4, 0x8)], true, fun _ => 0x0#64, []⟩,
  ⟨0x44000270, [], true, fun _ => 0x0#64, [⟨63, 32, .rc⟩, ⟨31, 0, .rc⟩]⟩,
  ⟨0x44000280, [], true, fun _ => 0x0#64, [⟨31, 16, .lk⟩, ⟨15, 8, .lk⟩, ⟨7, 0, .lk⟩]⟩,
  ⟨0x44000288, [], false, fun _ => 0x200#64, [⟨15, 0, .rwl⟩]⟩,
  ⟨0x44000290, [], true, fun _ => 0x0#64, [⟨63, 63, .w1c⟩]⟩,
  ⟨0x44000298, [], true, fun _ => 0x0#64, [⟨63, 32, .rc⟩, ⟨31, 0, .rc⟩]⟩,
  ⟨0x440002F0, [], false, fun _ => 0x0#64, [⟨0, 0, .w1s⟩]⟩]

def rowsRTE : List RegRow := [
  ⟨0x45000000, [], false, fun _ => 0x0#64, [⟨6, 0, .lk⟩]⟩,
  ⟨0x45000010, [(6, 0x8)], true, fun d => rstRTE_TBL (d / 8 + 1), [⟨31, 16, .lk⟩, ⟨7, 0, .lk⟩]⟩,
  ⟨0x45000040, [], false, fun _ => 0xC0000064#64, [⟨31, 31, .rw⟩, ⟨30, 30, .rw⟩, ⟨15, 0, .rw⟩]⟩,
  ⟨0x45000048, [], true, fun _ => 0xFF000000000000#64, [⟨47, 32, .rc⟩, ⟨31, 16, .rc⟩, ⟨15, 0, .rc⟩]⟩,
  ⟨0x45000050, [], false, fun _ => 0x0#64, [⟨31, 31, .wo⟩, ⟨6, 0, .rw⟩]⟩,
  ⟨0x45000060, [], false, fun _ => 0x0#64, [⟨31, 31, .wo⟩, ⟨29, 29, .rw⟩, ⟨20, 18, .rw⟩, ⟨17, 0, .rw⟩]⟩,
  ⟨0x45000068, [(4, 0x8)], true, fun _ => 0x0#64, [⟨63, 0, .rw⟩]⟩,
  ⟨0x45000090, [], false, fun _ => 0x0#64, [⟨31, 31, .wo⟩, ⟨29, 29, .rw⟩, ⟨5, 0, .rw⟩]⟩,
  ⟨0x450000A0, [], true, fun _ => 0x0#64, [⟨63, 63, .wo⟩, ⟨61, 60, .rw⟩, ⟨59, 59, .rw⟩, ⟨58, 58, .rw⟩, ⟨57, 57, .rw⟩, ⟨52, 41, .rw⟩, ⟨40, 35, .rw⟩, ⟨34, 25, .rw⟩, ⟨24, 23, .rw⟩, ⟨22, 16, .rw⟩, ⟨15, 0, .rw⟩]⟩,
  ⟨0x450000A8, [], false, fun _ => 0xA003C#64, [⟨31, 16, .rw⟩, ⟨15, 0, .rw⟩]⟩,
  ⟨0x450000B0, [], true, fun _ => 0x0#64, [⟨63, 32, .rc⟩, ⟨31, 0, .rc⟩]⟩,
  ⟨0x450000B8, [], true, fun _ => 0x0#64, [⟨63, 32, .rc⟩, ⟨31, 0, .rc⟩]⟩,
  ⟨0x450000F0, [], false, fun _ => 0x0#64, [⟨0, 0, .w1s⟩]⟩,
  ⟨0x450000F8, [], false, fun _ => 0x0#64, [⟨31, 31, .rwl⟩, ⟨11, 0, .rwl⟩]⟩,
  ⟨0x45000100, [(96, 0x4)], false, fun _ => 0x0#64, [⟨31, 31, .rwl⟩, ⟨11, 0, .rwl⟩]⟩,
  ⟨0x45000400, [(64, 0x10)], true, fun _ => 0x0#64, [⟨63, 63, .lk⟩, ⟨54, 48, .lk⟩, ⟨37, 32, .lk⟩, ⟨24, 16, .rwl⟩, ⟨5, 0, .rwl⟩]⟩,
  ⟨0x45000408, [(64, 0x10)], true, fun _ => 0x0#64, [⟨63, 46, .rwl⟩, ⟨45, 28, .rwl⟩, ⟨27, 13, .rwl⟩]⟩,
  ⟨0x45001000, [(1024, 0x10)], true, fun _ => 0x0#64, []⟩,
  ⟨0x45001008, [(1024, 0x10)], false, fun _ => 0x0#64, []⟩]

def rowsCOH : List RegRow := [
  ⟨0x46800000, [], false, fun _ => 0xC01003E8#64, [⟨31, 31, .rw⟩, ⟨30, 30, .rw⟩, ⟨23, 16, .rwl⟩, ⟨15, 0, .rw⟩]⟩,
  ⟨0x46800008, [], false, fun _ => 0x0#64, [⟨31, 31, .wo⟩, ⟨29, 28, .rw⟩, ⟨5, 0, .rw⟩]⟩,
  ⟨0x46800010, [], true, fun _ => 0x0#64, [⟨63, 63, .wo⟩, ⟨61, 60, .rw⟩, ⟨52, 48, .rw⟩, ⟨39, 16, .rw⟩, ⟨15, 0, .rw⟩]⟩,
  ⟨0x46800018, [], false, fun _ => 0x800A00#64, [⟨31, 31, .wo⟩, ⟨30, 30, .wo⟩, ⟨23, 16, .rw⟩, ⟨15, 8, .rw⟩, ⟨4, 0, .rw⟩]⟩,
  ⟨0x4680001C, [], false, fun _ => 0x80000040#64, [⟨31, 31, .rw⟩, ⟨15, 0, .rw⟩]⟩,
  ⟨0x46800020, [(4, 0x8)], true, fun d => rstCOH_LMAP (d / 8), []⟩,
  ⟨0x46800040, [], true, fun _ => 0xFFFF#64, [⟨63, 48, .rc⟩, ⟨47, 32, .rc⟩, ⟨31, 16, .rc⟩]⟩,
  ⟨0x46800048, [], true, fun _ => 0x0#64, [⟨63, 32, .rc⟩, ⟨31, 0, .rc⟩]⟩,
  ⟨0x46800050, [], true, fun _ => 0x0#64, [⟨63, 32, .rc⟩, ⟨31, 0, .rc⟩]⟩,
  ⟨0x46800058, [], true, fun _ => 0x0#64, [⟨63, 63, .w1c⟩]⟩,
  ⟨0x468000F0, [], false, fun _ => 0x0#64, [⟨0, 0, .w1s⟩]⟩,
  ⟨0x46800100, [(64, 0x4)], false, fun _ => 0x0#64, [⟨31, 31, .rwl⟩, ⟨11, 0, .rwl⟩]⟩,
  ⟨0x46800200, [(32, 0x8)], true, fun _ => 0x0#64, [⟨63, 63, .rwl⟩, ⟨62, 56, .rwl⟩, ⟨55, 40, .rwl⟩]⟩,
  ⟨0x46000000, [(34, 0x10000)], false, fun d => rstCOH_SL_STATUS (d / 0x10000), []⟩,
  ⟨0x46000008, [(34, 0x10000)], true, fun _ => 0x0#64, []⟩,
  ⟨0x46000010, [(34, 0x10000)], true, fun _ => 0x0#64, []⟩,
  ⟨0x46000018, [(34, 0x10000)], true, fun _ => 0x0#64, [⟨63, 32, .rc⟩, ⟨31, 0, .rc⟩]⟩,
  ⟨0x46000020, [(34, 0x10000)], true, fun _ => 0x0#64, [⟨63, 32, .rc⟩, ⟨31, 0, .rc⟩]⟩]

def rowsPOOL : List RegRow := [
  ⟨0x47000000, [], true, fun _ => 0x0#64, []⟩,
  ⟨0x47000008, [], false, fun _ => 0x0#64, []⟩,
  ⟨0x47000010, [], false, fun _ => 0x0#64, [⟨8, 0, .lk⟩]⟩,
  ⟨0x470000F0, [], false, fun _ => 0x0#64, [⟨0, 0, .w1s⟩]⟩,
  ⟨0x47000100, [(64, 0x10)], true, fun _ => 0x0#64, [⟨63, 63, .rw⟩, ⟨62, 62, .rw⟩, ⟨61, 50, .rw⟩, ⟨47, 40, .rw⟩, ⟨39, 32, .rw⟩]⟩,
  ⟨0x47000108, [(64, 0x10)], true, fun _ => 0x0#64, [⟨47, 32, .rw⟩, ⟨31, 16, .rw⟩, ⟨15, 0, .rw⟩]⟩,
  ⟨0x47000500, [], false, fun _ => 0x0#64, [⟨31, 31, .wo⟩, ⟨30, 30, .rw⟩, ⟨15, 0, .rw⟩]⟩,
  ⟨0x47000504, [], false, fun _ => 0xFFFF#64, [⟨15, 0, .rw⟩]⟩,
  ⟨0x47000510, [], true, fun _ => 0x0#64, [⟨63, 63, .wo⟩, ⟨61, 59, .rw⟩, ⟨55, 55, .rw⟩, ⟨47, 32, .rw⟩, ⟨31, 16, .rw⟩, ⟨14, 0, .rw⟩]⟩,
  ⟨0x47000518, [], true, fun _ => 0x0#64, []⟩,
  ⟨0x47000600, [(8, 0x8)], true, fun _ => 0x0#64, [⟨63, 63, .rw⟩, ⟨62, 58, .rw⟩, ⟨54, 40, .rw⟩, ⟨39, 25, .rw⟩, ⟨17, 0, .rw⟩]⟩,
  ⟨0x47000700, [], false, fun _ => 0x6D402000#64, [⟨31, 24, .rw⟩, ⟨23, 16, .rw⟩, ⟨15, 8, .rw⟩]⟩,
  ⟨0x47000710, [], false, fun _ => 0x80180000#64, [⟨31, 31, .rw⟩, ⟨30, 16, .rw⟩]⟩,
  ⟨0x47000720, [], false, fun _ => 0xC0000800#64, [⟨31, 31, .rwl⟩, ⟨30, 30, .rwl⟩, ⟨14, 0, .rwl⟩]⟩,
  ⟨0x47000728, [], true, fun _ => 0x0#64, [⟨63, 32, .rc⟩, ⟨31, 0, .rc⟩]⟩,
  ⟨0x47000800, [(12, 0x8)], true, fun _ => 0x0#64, [⟨63, 48, .rc⟩, ⟨31, 0, .rc⟩]⟩,
  ⟨0x47000880, [], false, fun _ => 0x1000010#64, [⟨31, 16, .rwl⟩, ⟨15, 0, .rwl⟩]⟩,
  ⟨0x47000888, [], true, fun _ => 0x0#64, [⟨63, 63, .w1c⟩]⟩,
  ⟨0x47000890, [], true, fun _ => 0x0#64, []⟩]

def rowsHEP : List RegRow := [
  ⟨0x49000000, [], false, fun _ => 0x1F40000#64, [⟨31, 16, .rwl⟩]⟩,
  ⟨0x49000008, [], false, fun _ => 0x3FF0000#64, [⟨25, 16, .rwl⟩, ⟨5, 0, .rwl⟩]⟩,
  ⟨0x49000010, [], true, fun _ => 0x0#64, [⟨63, 32, .rc⟩, ⟨31, 0, .rc⟩]⟩,
  ⟨0x49000018, [], true, fun _ => 0x0#64, [⟨63, 32, .rc⟩, ⟨31, 0, .rc⟩]⟩,
  ⟨0x49000020, [], false, fun _ => 0x0#64, [⟨31, 31, .wo⟩, ⟨29, 27, .rw⟩, ⟨9, 0, .rw⟩]⟩,
  ⟨0x49000028, [], true, fun _ => 0x0#64, [⟨47, 0, .rw⟩]⟩,
  ⟨0x49000030, [], false, fun _ => 0x0#64, [⟨31, 31, .wo⟩, ⟨30, 30, .rw⟩, ⟨15, 6, .rw⟩, ⟨5, 0, .rw⟩]⟩,
  ⟨0x49000038, [], true, fun _ => 0x0#64, [⟨63, 63, .rw⟩, ⟨9, 6, .rw⟩, ⟨5, 0, .rw⟩]⟩,
  ⟨0x490000F0, [], false, fun _ => 0x0#64, [⟨0, 0, .w1s⟩]⟩,
  ⟨0x49000100, [(64, 0x4)], false, fun _ => 0x40000000#64, [⟨31, 31, .rw⟩, ⟨30, 30, .rw⟩, ⟨7, 0, .rw⟩]⟩,
  ⟨0x49008000, [(1024, 0x20)], true, fun _ => 0x0#64, [⟨63, 63, .rw⟩, ⟨62, 57, .rw⟩, ⟨56, 49, .rw⟩, ⟨47, 32, .rw⟩, ⟨31, 25, .rw⟩, ⟨24, 18, .rw⟩, ⟨13, 0, .rw⟩]⟩,
  ⟨0x49008008, [(1024, 0x20)], true, fun _ => 0x0#64, [⟨47, 12, .rw⟩, ⟨5, 0, .rw⟩]⟩,
  ⟨0x49008010, [(1024, 0x20)], true, fun _ => 0x0#64, []⟩]

def rowsHOP : List RegRow := [
  ⟨0x48000000, [(16, 0x10000)], false, fun _ => 0x640064#64, [⟨31, 31, .wo⟩, ⟨30, 30, .rw⟩, ⟨29, 16, .rwl⟩, ⟨13, 0, .rwl⟩]⟩,
  ⟨0x48000008, [(16, 0x10000)], false, fun _ => 0x0#64, []⟩,
  ⟨0x48000010, [(16, 0x10000)], true, fun _ => 0x0#64, [⟨63, 0, .w1c⟩]⟩,
  ⟨0x48000018, [(16, 0x10000)], true, fun _ => 0x0#64, [⟨63, 32, .rc⟩, ⟨31, 0, .rc⟩]⟩,
  ⟨0x48000020, [(16, 0x10000)], true, fun _ => 0x0#64, [⟨63, 0, .rc⟩]⟩,
  ⟨0x480000F0, [(16, 0x10000)], false, fun _ => 0x0#64, [⟨0, 0, .w1s⟩]⟩,
  ⟨0x48001000, [(16, 0x10000), (64, 0x100)], false, fun _ => 0x0#64, [⟨31, 31, .rw⟩, ⟨30, 30, .rw⟩, ⟨29, 27, .wo⟩, ⟨26, 26, .rw⟩]⟩,
  ⟨0x48001004, [(16, 0x10000), (64, 0x100)], false, fun _ => 0x0#64, []⟩,
  ⟨0x48001008, [(16, 0x10000), (64, 0x100)], true, fun _ => 0x10000#64, [⟨25, 24, .rw⟩, ⟨16, 0, .rw⟩]⟩,
  ⟨0x48001010, [(16, 0x10000), (64, 0x100)], true, fun _ => 0x0#64, [⟨63, 6, .rw⟩, ⟨4, 0, .rw⟩]⟩,
  ⟨0x48001018, [(16, 0x10000), (64, 0x100)], true, fun _ => 0x0#64, [⟨63, 5, .rw⟩, ⟨4, 3, .rw⟩, ⟨0, 0, .rw⟩]⟩,
  ⟨0x48001020, [(16, 0x10000), (64, 0x100)], true, fun _ => 0x0#64, [⟨31, 16, .rw⟩]⟩,
  ⟨0x48001028, [(16, 0x10000), (64, 0x100)], false, fun _ => 0x0#64, []⟩,
  ⟨0x48001030, [(16, 0x10000), (64, 0x100)], true, fun _ => 0x0#64, [⟨63, 63, .rw⟩]⟩,
  ⟨0x48001038, [(16, 0x10000), (64, 0x100)], true, fun _ => 0x0#64, []⟩,
  ⟨0x48001040, [(16, 0x10000), (64, 0x100), (8, 0x8)], true, fun _ => 0x0#64, []⟩,
  ⟨0x48001080, [(16, 0x10000), (64, 0x100), (8, 0x8)], true, fun _ => 0x0#64, [⟨63, 0, .rw⟩]⟩,
  ⟨0x480010C0, [(16, 0x10000), (64, 0x100), (4, 0x8)], true, fun _ => 0x0#64, []⟩]

def rowsSPD : List RegRow := [
  ⟨0x40700000, [], true, fun _ => 0x0#64, [⟨63, 63, .w1c⟩]⟩,
  ⟨0x40700008, [], true, fun _ => 0x0#64, [⟨63, 32, .rc⟩, ⟨31, 0, .rc⟩]⟩,
  ⟨0x40700010, [], true, fun _ => 0x0#64, [⟨63, 32, .rc⟩, ⟨31, 0, .rc⟩]⟩,
  ⟨0x40700018, [], false, fun _ => 0x10#64, [⟨7, 0, .rwl⟩]⟩,
  ⟨0x407000F0, [], false, fun _ => 0x0#64, [⟨0, 0, .w1s⟩]⟩,
  ⟨0x40700100, [(64, 0x4)], false, fun _ => 0x0#64, [⟨5, 4, .rw⟩, ⟨1, 0, .rw⟩]⟩,
  ⟨0x40700200, [(64, 0x4)], false, fun _ => 0x0#64, []⟩]

def rowsMPU : List RegRow := [
  ⟨0x40600000, [(16, 0x10000)], false, fun d => rstMPU_CFG (d / 0x10000), [⟨13, 8, .lk⟩]⟩,
  ⟨0x40800000, [(13, 0x10000)], false, fun d => rstMPU_CFG (16 + d / 0x10000), [⟨13, 8, .lk⟩]⟩,
  ⟨0x40600008, [(16, 0x10000)], false, fun _ => 0x0#64, [⟨31, 31, .wo⟩]⟩,
  ⟨0x40800008, [(13, 0x10000)], false, fun _ => 0x0#64, [⟨31, 31, .wo⟩]⟩,
  ⟨0x40600010, [(16, 0x10000)], true, fun _ => 0x0#64, [⟨63, 63, .w1c⟩]⟩,
  ⟨0x40800010, [(13, 0x10000)], true, fun _ => 0x0#64, [⟨63, 63, .w1c⟩]⟩,
  ⟨0x40600018, [(16, 0x10000)], true, fun _ => 0x0#64, [⟨63, 32, .rc⟩, ⟨31, 0, .rc⟩]⟩,
  ⟨0x40800018, [(13, 0x10000)], true, fun _ => 0x0#64, [⟨63, 32, .rc⟩, ⟨31, 0, .rc⟩]⟩,
  ⟨0x40600020, [(16, 0x10000)], false, fun _ => 0x0#64, [⟨0, 0, .gv⟩]⟩,
  ⟨0x40800020, [(13, 0x10000)], false, fun _ => 0x0#64, [⟨0, 0, .gv⟩]⟩,
  ⟨0x406000F0, [(16, 0x10000)], false, fun _ => 0x0#64, [⟨0, 0, .w1s⟩]⟩,
  ⟨0x408000F0, [(13, 0x10000)], false, fun _ => 0x0#64, [⟨0, 0, .w1s⟩]⟩,
  ⟨0x40600100, [(16, 0x10000), (32, 0x10)], true, fun _ => 0x0#64, [⟨63, 63, .rwl⟩, ⟨62, 62, .rwl⟩, ⟨61, 61, .rwl⟩, ⟨60, 60, .rwl⟩, ⟨59, 59, .gv⟩, ⟨58, 58, .rwl⟩, ⟨55, 44, .rwl⟩, ⟨41, 0, .rwl⟩]⟩,
  ⟨0x40800100, [(13, 0x10000), (32, 0x10)], true, fun _ => 0x0#64, [⟨63, 63, .rwl⟩, ⟨62, 62, .rwl⟩, ⟨61, 61, .rwl⟩, ⟨60, 60, .rwl⟩, ⟨59, 59, .gv⟩, ⟨58, 58, .rwl⟩, ⟨55, 44, .rwl⟩, ⟨41, 0, .rwl⟩]⟩,
  ⟨0x40600108, [(16, 0x10000), (32, 0x10)], true, fun _ => 0x0#64, [⟨63, 52, .rwl⟩, ⟨41, 0, .rwl⟩]⟩,
  ⟨0x40800108, [(13, 0x10000), (32, 0x10)], true, fun _ => 0x0#64, [⟨63, 52, .rwl⟩, ⟨41, 0, .rwl⟩]⟩,
  ⟨0x40600300, [(16, 0x10000), (32, 0x10)], true, fun d => rstMPU_DEF_A (d / 0x10000) (d % 0x10000 / 16), [⟨63, 0, .lk⟩]⟩,
  ⟨0x40800300, [(13, 0x10000), (32, 0x10)], true, fun d => rstMPU_DEF_A (16 + d / 0x10000) (d % 0x10000 / 16), [⟨63, 0, .lk⟩]⟩,
  ⟨0x40600308, [(16, 0x10000), (32, 0x10)], true, fun d => rstMPU_DEF_B (d / 0x10000) (d % 0x10000 / 16), [⟨63, 0, .lk⟩]⟩,
  ⟨0x40800308, [(13, 0x10000), (32, 0x10)], true, fun d => rstMPU_DEF_B (16 + d / 0x10000) (d % 0x10000 / 16), [⟨63, 0, .lk⟩]⟩]

def rowsMGT : List RegRow := [
  ⟨0x4B000000, [], true, fun _ => 0x0#64, [⟨47, 0, .lk⟩]⟩,
  ⟨0x4B000008, [], true, fun _ => 0x0#64, [⟨47, 1, .rwl⟩]⟩,
  ⟨0x4B000010, [], false, fun _ => 0x0#64, [⟨31, 31, .rw⟩]⟩,
  ⟨0x4B000014, [], false, fun _ => 0x0#64, [⟨15, 8, .wo⟩, ⟨7, 0, .wo⟩]⟩,
  ⟨0x4B000018, [], true, fun _ => 0xFFFFFFFF00000000#64, [⟨63, 0, .rw⟩]⟩,
  ⟨0x4B000020, [], false, fun _ => 0x0#64, [⟨7, 0, .w1c⟩]⟩,
  ⟨0x4B000024, [], false, fun _ => 0x0#64, [⟨7, 0, .wo⟩]⟩,
  ⟨0x4B000030, [], true, fun _ => 0x0#64, []⟩,
  ⟨0x4B000040, [(8, 0x8)], true, fun _ => 0xFFFFFFFFFFFFFFFF#64, [⟨63, 0, .rw⟩]⟩,
  ⟨0x4B000100, [(32, 0x4)], false, fun _ => 0x80000000#64, [⟨31, 31, .rw⟩, ⟨30, 30, .rw⟩, ⟨2, 0, .rw⟩]⟩,
  ⟨0x4B000180, [], false, fun _ => 0x0#64, []⟩,
  ⟨0x4B000190, [], false, fun _ => 0x0#64, [⟨12, 12, .w1c⟩, ⟨11, 11, .w1c⟩, ⟨10, 10, .w1c⟩, ⟨9, 9, .w1c⟩, ⟨8, 8, .w1c⟩, ⟨7, 7, .w1c⟩, ⟨6, 6, .w1c⟩, ⟨5, 5, .w1c⟩, ⟨4, 4, .w1c⟩, ⟨3, 3, .w1c⟩, ⟨2, 2, .w1c⟩, ⟨1, 1, .w1c⟩, ⟨0, 0, .w1c⟩]⟩,
  ⟨0x4B000200, [(8, 0x8)], false, fun _ => 0xF4240#64, [⟨31, 31, .wo⟩, ⟨30, 30, .rw⟩, ⟨23, 0, .rw⟩]⟩,
  ⟨0x4B000300, [], false, fun _ => 0x1F#64, [⟨5, 0, .rwl⟩]⟩,
  ⟨0x4B000308, [], true, fun _ => 0x0#64, [⟨63, 0, .rwl⟩]⟩,
  ⟨0x4B000310, [], false, fun _ => 0x2E2F#64, [⟨17, 16, .rwl⟩, ⟨14, 8, .rwl⟩, ⟨6, 0, .rwl⟩]⟩,
  ⟨0x4B000410, [(5, 0x10)], true, fun _ => 0x0#64, [⟨63, 63, .rw⟩, ⟨59, 56, .rw⟩, ⟨47, 32, .rc⟩, ⟨23, 11, .rw⟩]⟩,
  ⟨0x4B000418, [(5, 0x10)], true, fun _ => 0x0#64, [⟨59, 56, .rw⟩, ⟨23, 11, .rw⟩]⟩,
  ⟨0x4B000500, [], true, fun _ => 0x0#64, [⟨62, 62, .rw⟩, ⟨61, 61, .rw⟩, ⟨47, 0, .rwl⟩]⟩,
  ⟨0x4B000508, [], true, fun _ => 0x0#64, [⟨63, 63, .rwl⟩, ⟨31, 0, .rwl⟩]⟩,
  ⟨0x4B000600, [], true, fun _ => 0x0#64, [⟨63, 63, .wo⟩, ⟨58, 57, .rw⟩, ⟨56, 50, .rw⟩, ⟨39, 32, .rw⟩, ⟨31, 16, .rw⟩, ⟨15, 0, .rw⟩]⟩,
  ⟨0x4B000608, [], true, fun _ => 0x0#64, [⟨63, 0, .rw⟩]⟩,
  ⟨0x4B000610, [], true, fun _ => 0x0#64, [⟨63, 0, .rw⟩]⟩,
  ⟨0x4B0006F0, [], false, fun _ => 0x0#64, [⟨0, 0, .w1s⟩]⟩]

def rowsSLC : List RegRow := [
  ⟨0x4A000000, [(32, 0x10000)], false, fun _ => 0x40000000#64, [⟨31, 31, .rw⟩, ⟨30, 30, .rwl⟩, ⟨29, 29, .rw⟩, ⟨28, 27, .rwl⟩]⟩,
  ⟨0x4A000004, [(32, 0x10000)], false, fun _ => 0x0#64, []⟩,
  ⟨0x4A000010, [(32, 0x10000)], false, fun _ => 0x0#64, [⟨31, 16, .gv⟩, ⟨15, 0, .gv⟩]⟩,
  ⟨0x4A000014, [(32, 0x10000)], false, fun _ => 0x0#64, [⟨31, 16, .gv⟩, ⟨15, 0, .gv⟩]⟩,
  ⟨0x4A000018, [(32, 0x10000)], false, fun _ => 0x0#64, [⟨31, 16, .gv⟩, ⟨15, 0, .gv⟩]⟩,
  ⟨0x4A00001C, [(32, 0x10000)], false, fun _ => 0x0#64, [⟨31, 31, .gv⟩, ⟨30, 30, .gv⟩, ⟨25, 16, .gv⟩, ⟨15, 0, .gv⟩]⟩,
  ⟨0x4A000020, [(32, 0x10000)], true, fun _ => 0x0#64, []⟩,
  ⟨0x4A000028, [(32, 0x10000)], false, fun _ => 0x0#64, [⟨8, 8, .w1c⟩, ⟨7, 7, .w1c⟩, ⟨6, 6, .w1c⟩, ⟨5, 5, .w1c⟩, ⟨4, 4, .w1c⟩, ⟨3, 3, .w1c⟩, ⟨2, 2, .w1c⟩, ⟨1, 1, .w1c⟩, ⟨0, 0, .w1c⟩]⟩,
  ⟨0x4A000030, [(32, 0x10000)], true, fun _ => 0x0#64, [⟨63, 48, .rc⟩, ⟨47, 32, .rc⟩, ⟨31, 16, .rc⟩, ⟨15, 0, .rc⟩]⟩,
  ⟨0x4A0000F0, [(32, 0x10000)], false, fun _ => 0x0#64, [⟨0, 0, .w1s⟩]⟩]

def rowsBRK : List RegRow := [
  ⟨0x40100000, [], false, fun _ => 0x8000000#64, [⟨31, 24, .gv⟩]⟩,
  ⟨0x40100004, [], false, fun _ => 0x0#64, [⟨30, 30, .w1c⟩]⟩,
  ⟨0x40100008, [], true, fun _ => 0x0#64, [⟨15, 0, .gv⟩]⟩,
  ⟨0x40100010, [], true, fun _ => 0x0#64, [⟨63, 32, .rc⟩, ⟨31, 0, .rc⟩]⟩,
  ⟨0x40100018, [], true, fun _ => 0x0#64, [⟨3, 0, .w1c⟩]⟩,
  ⟨0x40100020, [], true, fun _ => 0x0#64, []⟩,
  ⟨0x40100030, [], false, fun _ => 0x0#64, [⟨31, 31, .wo⟩, ⟨30, 30, .wo⟩]⟩,
  ⟨0x40100040, [(4, 0x8)], true, fun _ => 0#64, []⟩,
  ⟨0x40100060, [(4, 0x8)], true, fun _ => 0x0#64, []⟩,
  ⟨0x40100080, [], true, fun _ => 0x0#64, [⟨63, 63, .rwl⟩, ⟨62, 62, .w1c⟩, ⟨61, 61, .rwl⟩, ⟨60, 60, .rwl⟩, ⟨47, 40, .rwl⟩, ⟨39, 32, .rwl⟩, ⟨5, 0, .rwl⟩]⟩,
  ⟨0x40100088, [], true, fun _ => 0x0#64, [⟨63, 0, .rwl⟩]⟩,
  ⟨0x40100090, [], true, fun _ => 0x0#64, []⟩,
  ⟨0x40100098, [], false, fun _ => 0x0#64, [⟨31, 31, .wo⟩, ⟨5, 0, .rw⟩]⟩,
  ⟨0x401000A0, [], true, fun _ => 0x0#64, [⟨63, 0, .rw⟩]⟩,
  ⟨0x401000F0, [], false, fun _ => 0x0#64, [⟨0, 0, .w1s⟩]⟩,
  ⟨0x40101000, [(4096, 0x4)], false, fun d => rstBRK_REACT (d / 4), [⟨31, 29, .gv⟩, ⟨28, 24, .gv⟩, ⟨23, 16, .gv⟩, ⟨15, 8, .gv⟩, ⟨7, 6, .gv⟩]⟩,
  ⟨0x40105000, [(4096, 0x4)], false, fun _ => 0x0#64, [⟨26, 0, .rc⟩]⟩,
  ⟨0x40109000, [(64, 0x8)], true, fun _ => 0x0#64, [⟨63, 0, .w1c⟩]⟩,
  ⟨0x40109200, [(64, 0x8)], true, fun _ => 0x0#64, [⟨63, 0, .w1c⟩]⟩,
  ⟨0x40109400, [(64, 0x8)], true, fun _ => 0x0#64, [⟨63, 0, .w1c⟩]⟩]

def rowsGOV : List RegRow := [
  ⟨0x40000000, [], false, fun _ => 0x0#64, []⟩,
  ⟨0x40000008, [], true, fun _ => 0x193C736440000#64, [⟨52, 42, .lk⟩, ⟨41, 36, .lk⟩, ⟨35, 28, .lk⟩, ⟨27, 20, .lk⟩, ⟨19, 18, .lk⟩, ⟨17, 16, .lk⟩, ⟨0, 0, .lk⟩]⟩,
  ⟨0x40000010, [], false, fun _ => 0x1000#64, []⟩,
  ⟨0x40000018, [], true, fun _ => 0#64, []⟩,
  ⟨0x40000020, [(4, 0x8)], true, fun _ => 0#64, []⟩,
  ⟨0x40000040, [], false, fun _ => 0x0#64, [⟨31, 31, .wo⟩, ⟨29, 28, .rw⟩, ⟨23, 17, .rw⟩, ⟨12, 0, .rw⟩]⟩,
  ⟨0x40000048, [], true, fun _ => 0x0#64, [⟨23, 0, .rw⟩]⟩,
  ⟨0x40000050, [], false, fun _ => 0x0#64, []⟩,
  ⟨0x40000060, [], true, fun _ => 0x0#64, []⟩,
  ⟨0x40000068, [], false, fun _ => 0x0#64, []⟩,
  ⟨0x40000070, [], false, fun _ => 0x0#64, []⟩,
  ⟨0x40000078, [], false, fun _ => 0x0#64, [⟨31, 24, .rc⟩]⟩,
  ⟨0x40000080, [], true, fun _ => 0x0#64, [⟨63, 48, .rc⟩, ⟨47, 32, .rc⟩]⟩,
  ⟨0x40000100, [(4, 0x8)], true, fun _ => 0x0#64, [⟨63, 0, .gv⟩]⟩,
  ⟨0x40000120, [], true, fun _ => 0x0#64, [⟨63, 0, .gv⟩]⟩,
  ⟨0x40000128, [], false, fun _ => 0x0#64, [⟨31, 31, .gv⟩, ⟨29, 29, .gv⟩, ⟨28, 28, .gv⟩, ⟨27, 27, .gv⟩, ⟨26, 25, .gv⟩, ⟨24, 21, .gv⟩, ⟨6, 0, .gv⟩]⟩]

def rowsFAN : List RegRow := [
  ⟨0x40400000, [], false, fun _ => 0xD8000000#64, [⟨31, 31, .rwl⟩, ⟨30, 30, .rw⟩, ⟨29, 29, .rw⟩, ⟨28, 28, .rw⟩, ⟨27, 27, .rwl⟩]⟩,
  ⟨0x40400004, [], false, fun _ => 0xA0000#64, [⟨31, 16, .rwl⟩]⟩,
  ⟨0x40400008, [], true, fun _ => 0x0#64, [⟨63, 32, .rc⟩, ⟨31, 16, .rc⟩, ⟨15, 0, .rc⟩]⟩,
  ⟨0x40400010, [], false, fun _ => 0x1E00384#64, [⟨31, 21, .rw⟩]⟩,
  ⟨0x40400018, [], false, fun _ => 0x3C0000#64, [⟨31, 16, .rw⟩]⟩,
  ⟨0x40400020, [], true, fun _ => 0x0#64, []⟩,
  ⟨0x40400028, [], true, fun _ => 0x0#64, [⟨63, 48, .rc⟩, ⟨47, 32, .rc⟩, ⟨31, 16, .rc⟩, ⟨15, 0, .rc⟩]⟩,
  ⟨0x40400030, [], true, fun _ => 0x0#64, [⟨63, 32, .rc⟩, ⟨31, 0, .rc⟩]⟩,
  ⟨0x40400040, [], false, fun _ => 0x3C#64, [⟨31, 31, .rw⟩, ⟨15, 0, .rw⟩]⟩,
  ⟨0x40400048, [], true, fun _ => 0x0#64, [⟨15, 0, .rc⟩]⟩,
  ⟨0x40400050, [], true, fun _ => 0x0#64, [⟨31, 0, .rc⟩]⟩,
  ⟨0x40400058, [], false, fun _ => 0x3E80000#64, [⟨31, 16, .rw⟩]⟩,
  ⟨0x404000F0, [], false, fun _ => 0x0#64, [⟨0, 0, .w1s⟩]⟩]

def rowsPMC : List RegRow := [
  ⟨0x40500000, [], false, fun _ => 0x80000000#64, [⟨31, 31, .rw⟩, ⟨30, 30, .wo⟩, ⟨29, 29, .wo⟩]⟩,
  ⟨0x40500004, [], false, fun _ => 0x0#64, [⟨31, 31, .rw⟩]⟩,
  ⟨0x405000F0, [], false, fun _ => 0x0#64, [⟨0, 0, .w1s⟩]⟩,
  ⟨0x40500100, [(16, 0x8)], true, fun _ => 0x0#64, [⟨63, 0, .w1c⟩]⟩,
  ⟨0x40500200, [], true, fun _ => 0x0#64, [⟨31, 0, .rc⟩]⟩,
  ⟨0x40500208, [], false, fun _ => 0x0#64, [⟨31, 31, .wo⟩, ⟨30, 30, .wo⟩, ⟨29, 29, .rw⟩]⟩,
  ⟨0x40500210, [(4, 0x8)], true, fun _ => 0x0#64, []⟩,
  ⟨0x40500400, [(8, 0x10)], true, fun _ => 0x0#64, [⟨63, 63, .rw⟩, ⟨46, 40, .rw⟩, ⟨38, 32, .rw⟩, ⟨31, 24, .rw⟩, ⟨15, 0, .rw⟩]⟩,
  ⟨0x40500408, [(8, 0x10)], true, fun _ => 0x3E8#64, [⟨63, 63, .rw⟩, ⟨31, 0, .rw⟩]⟩,
  ⟨0x40501000, [(1024, 0x8)], true, fun _ => 0x0#64, [⟨47, 0, .rw⟩]⟩,
  ⟨0x40503000, [(1024, 0x8)], true, fun _ => 0x0#64, [⟨63, 63, .rw⟩, ⟨62, 62, .rwl⟩, ⟨61, 59, .rwl⟩, ⟨58, 57, .rw⟩, ⟨56, 56, .rwl⟩, ⟨55, 55, .rw⟩, ⟨51, 32, .rwl⟩, ⟨31, 24, .rwl⟩, ⟨23, 19, .rwl⟩, ⟨18, 12, .rwl⟩, ⟨7, 0, .rwl⟩]⟩,
  ⟨0x40505000, [(1024, 0x8)], true, fun _ => 0x0#64, []⟩]

def rowsCRP : List RegRow := [
  ⟨0x40300000, [], false, fun _ => 0x0#64, []⟩,
  ⟨0x40300008, [], false, fun _ => 0x1#64, [⟨7, 7, .w1c⟩, ⟨6, 6, .w1c⟩, ⟨5, 5, .w1c⟩, ⟨4, 4, .w1c⟩, ⟨3, 3, .w1c⟩, ⟨2, 2, .w1c⟩, ⟨1, 1, .w1c⟩, ⟨0, 0, .w1c⟩]⟩,
  ⟨0x40300010, [], true, fun _ => 0x0#64, [⟨63, 56, .w1c⟩, ⟨55, 48, .w1c⟩]⟩,
  ⟨0x40300018, [], false, fun _ => 0x2EE#64, [⟨9, 0, .gv⟩]⟩,
  ⟨0x40300020, [], false, fun _ => 0x0#64, [⟨31, 31, .w1c⟩, ⟨30, 30, .w1c⟩]⟩,
  ⟨0x40300028, [], false, fun _ => 0x0#64, [⟨31, 31, .rwl⟩]⟩,
  ⟨0x40300030, [], true, fun _ => 0x0#64, []⟩,
  ⟨0x40300038, [], false, fun _ => 0x0#64, []⟩,
  ⟨0x40300040, [], false, fun _ => 0x0#64, [⟨31, 31, .rw⟩]⟩,
  ⟨0x403000F0, [], false, fun _ => 0x0#64, [⟨0, 0, .w1s⟩]⟩]

/-- Every register of the map. -/
def regRows : List RegRow :=
  rowsIMG ++ rowsLG ++ rowsPORT ++ rowsOFL ++ rowsSWC ++ rowsRTE ++ rowsCOH ++ rowsPOOL ++ rowsHEP ++ rowsHOP ++ rowsSPD ++ rowsMPU ++ rowsMGT ++ rowsSLC ++ rowsBRK ++ rowsGOV ++ rowsFAN ++ rowsPMC ++ rowsCRP

end Sys2Proof.Machine
end

