-- ==== Sys2Proof/Machine/Tab.lean ====
section
/-! DEFINITION. Sparse tables as plain data: a list of (key, value) pairs, keys strictly rising, never holding the value
that an unlisted key reads as. Registers, memories and per-index unit state are kept in this one form. -/

namespace Sys2Proof.Machine

/-- A sparse table from Nat keys. -/
abbrev Tab (α : Type) := List (Nat × α)

/-- The value at key i; d for an unlisted key. -/
def tget {α : Type} (d : α) : Tab α → Nat → α
  | [], _ => d
  | (k, v) :: t, i => if k = i then v else tget d t i

/-- The table with an entry (i, v) in its place. -/
def tins {α : Type} : Tab α → Nat → α → Tab α
  | [], i, v => [(i, v)]
  | (k, w) :: t, i, v =>
    if i < k then (i, v) :: (k, w) :: t
    else if i = k then (i, v) :: t
    else (k, w) :: tins t i v

/-- The table with v at key i; writing d removes the entry, so equal tables are equal data. -/
def tput {α : Type} [DecidableEq α] (d : α) (t : Tab α) (i : Nat) (v : α) : Tab α :=
  if v = d then t.filter fun e => e.1 != i else tins t i v

/-- Apply f to the value at key i. -/
def tmod {α : Type} [DecidableEq α] (d : α) (t : Tab α) (i : Nat) (f : α → α) : Tab α :=
  tput d t i (f (tget d t i))

/-- Remove every key that p names. -/
def tdrop {α : Type} (p : Nat → Bool) (t : Tab α) : Tab α := t.filter fun e => !p e.1

/-- Write the values of a list at consecutive keys from i. -/
def tputs {α : Type} [DecidableEq α] (d : α) : Tab α → Nat → List α → Tab α
  | t, _, [] => t
  | t, i, v :: vs => tputs d (tput d t i v) (i + 1) vs

/-- The n values from key i. -/
def tgets {α : Type} (d : α) (t : Tab α) (i n : Nat) : List α := (List.range n).map fun k => tget d t (i + k)

/-- The canonical form of a table. -/
def Tab.wf {α : Type} [DecidableEq α] (d : α) : Tab α → Bool
  | [] => true
  | [(_, v)] => decide (v ≠ d)
  | (k, v) :: (k', v') :: t => decide (v ≠ d) && decide (k < k') && Tab.wf d ((k', v') :: t)

end Sys2Proof.Machine
end

