-- ==== Sys2Proof/Machine/State.lean ====
section
/-! DEFINITION. The state of the device, as plain data, and its value right after reset. -/

namespace Sys2Proof.Machine

/-- Why a step can stop with a fault. -/
inductive Fault
  /-- Raised by a meaning whose operand no event of the hardware can carry (a flit that is not 256 bytes long); safe:
  the model stops where the hardware has nothing to do. -/
  | malformed (what : String)
deriving DecidableEq, Repr

/-- Why a step can be refused. -/
inductive Refusal
  /-- Raised by exec for a command that has no meaning yet; safe. -/
  | notModelled (mnemonic : String)
deriving DecidableEq, Repr

/-- Image loader and flash (R32 to R57): flash contents, its density in bytes, the operation in progress. -/
structure ImgSt where
  flash : Tab Byte := []
  density : Nat := 0
  op : Option FlashOp := none
deriving DecidableEq, Repr

/-- A key set of the fuses (R373). -/
structure KeySet where
  digest : Bytes := []
  prog : Bool := false
  rev : Bool := false
  /-- a burn of the set was cut short (R392) -/
  part : Bool := false
deriving DecidableEq, Repr

/-- Fuses (R373): kept through every reset. -/
structure FuseSt where
  keys : List KeySet := [{}, {}, {}, {}]
  seed : Option Bytes := none
  serial : BitVec 64 := 0
  uds : Bytes := []
  cert : Bytes := []
  arb : Nat := 0
  /-- a burn of the seed was cut short -/
  seedPart : Bool := false
  /-- AVS target, mV (R419) -/
  avs : Nat := 720
deriving DecidableEq, Repr

/-- A PCIe/CXL or OFL port beside its registers (R62 to R75): what it waits for, link reported up, failed trainings in a
row, rates with stored coefficients, partner's L0p and L1.1 support. -/
structure PortX where
  wait : PortWait := .none
  up : Bool := false
  fails : Nat := 0
  stored : List Nat := []
  l0p : Bool := false
  l11 : Bool := false
  /-- the contained vPPB (VCS, vPPB) that disables the port (R238) -/
  dpc : Option (Nat × Nat) := none
  /-- the link went down in a Hot Reset that the device sent (R430) -/
  hotReset : Bool := false
deriving DecidableEq, Repr

/-- An OFL port beside its registers (R76 to R109). Lists of eight are by virtual channel. -/
structure OflX where
  /-- lanes of the link (R95) and lanes that the partner marked failed -/
  link : Nat := 0
  peerFailed : Nat := 0
  /-- receive buffer: credits of each channel, and those in use -/
  share : List Nat := [0, 0, 0, 0, 0, 0, 0, 0]
  used : List Nat := [0, 0, 0, 0, 0, 0, 0, 0]
  /-- running counts of freed credits sent, and last received (R93) -/
  freed : List Nat := [0, 0, 0, 0, 0, 0, 0, 0]
  last : List Nat := [0, 0, 0, 0, 0, 0, 0, 0]
  /-- which pair of channels the next flit reports -/
  cretIx : Nat := 0
  /-- replay buffer, messages of its flits, messages to send, bytes of the message in transmission -/
  held : List HeldFlit := []
  msgs : List HeldMsg := []
  txq : List Pkt := []
  cur : Bytes := []
  replay : Option Nat := none
  nakDue : Bool := false
  rx : Option RxPart := none
  ctlq : List Ctl := []
  chg : Option LaneChg := none
  cmdWait : Bool := false
  reqId : Nat := 0
  withdrawn : Option Nat := none
  badRun : Nat := 0
  check : Bool := false
  rxSet : Nat := 0
  stored : List Nat := []
  fails : Nat := 0
deriving DecidableEq, Repr

/-- All ports. -/
structure OflSt where
  ports : Tab OflX := []
  /-- re-issue tracker (R109) -/
  tracker : List Tracked := []
deriving DecidableEq, Repr

/-- The Millrace (R110 to R143). Queues are numbered 8 * egress point + class. -/
structure MillSt where
  queues : Tab (List QEnt) := []
  /-- presented to the Headrace and not taken yet; waiting under R119 -/
  presented : List Present := []
  waiting : List Present := []
  /-- allocation rotation: next bank; cells in use of each bank -/
  rot : Nat := 0
  used : Tab Nat := []
  /-- spill chains: pages of packets (R135); packets in staging; queues in the Spilling state; Leat bytes of this window -/
  chains : Tab (List (List Pkt)) := []
  staged : List Staged := []
  spilling : List Nat := []
  leatBytes : Nat := 0
  mcasts : List McPkt := []
  mcNext : Nat := 0
  /-- per port: 0 open, 1 flush in progress, 2 flushed and not open yet; ports reported down and not acted on yet -/
  stop : Tab Nat := []
  reports : List Nat := []
  /-- congested queues; egress points whose congestion state a hold keeps (R121, R124) -/
  congested : List Nat := []
  holds : List Nat := []
  /-- deficit round robin: class to serve next, by egress point; deficits in bytes, by queue -/
  turn : Tab Nat := []
  deficit : Tab Nat := []
deriving DecidableEq, Repr

/-- Routing and binding (R144 to R173). -/
structure RteSt where
  /-- table store -/
  store : Tab Byte := []
  /-- initial bindings of the image not carried out yet (R42) -/
  initial : List InitBind := []
  vppb : Tab VppbX := []
  usp : Tab UspX := []
  win : Tab WinLatch := []
  /-- bind that waits for an LD allocation; unbinds in progress; bindings past step 3 of R161; those of them cut by surprise -/
  binds : List BindOp := []
  unbinds : List UnbindOp := []
  cut : List Nat := []
  surprise : List Nat := []
  /-- requests decoded to local downstream ports and not completed; tags outstanding on freed bindings: (port, tag) -/
  sent : List Sent := []
  late : List (Nat × Nat) := []
  /-- version drained by a window commit: (VCS, version) -/
  drain : Option (Nat × Nat) := none
  /-- OFL ports not taken back into use yet; restore in progress -/
  away : List Nat := []
  restore : Option RestoreOp := none
deriving DecidableEq, Repr

/-- The pool (R202 to R224). -/
structure PoolSt where
  ext : Tab Ext := []
  /-- LD map: slots, as the contents exclusive or 0xFFFF -/
  map : Tab Nat := []
  ldDecs : Tab (List LdDec) := []
  /-- decoders of a pool LD whose last commit was refused -/
  ldDecErr : Tab Nat := []
  chq : Tab (List Pkt) := []
  /-- DRAM contents by pool byte offset; poisoned lines by offset / 64 -/
  data : Tab Byte := []
  poison : Tab Bool := []
  /-- initialised; the Leat region still to be zeroed; initial zeroing of extents [zeroFrom, zeroEnd) to come -/
  up : Bool := false
  leatDirty : Bool := false
  zeroFrom : Nat := 0
  zeroEnd : Nat := 0
  /-- extents that the zero engine works on; extent whose release drains -/
  zeroing : List Nat := []
  releasing : Option Nat := none
  /-- corrected errors by channel and rank, uncorrectable by channel, in this window; channels in retrain -/
  ce : Tab Nat := []
  ue : Tab Nat := []
  retrain : List Nat := []
  raaimt : Nat := 0
  /-- activations, by channel and bank; refreshes of a channel in this 32 ms window -/
  acts : Tab BankAct := []
  refreshes : Tab Nat := []
  /-- next line of the patrol scrub -/
  scrubPos : Nat := 0
deriving DecidableEq, Repr

/-- Host-facing functions (R225 to R252). -/
structure HepSt where
  fns : Tab FnX := []
deriving DecidableEq, Repr

/-- The scratchpad beside its bytes: row accesses that wait at port B, times of corrected errors by bank (R285). -/
structure SpdSt where
  portB : List PortB := []
  ce : Tab (List Nat) := []
deriving DecidableEq, Repr

/-- MPUs: word 1 of a region held until word 0 is written, by 32 * MPU + region (R299); accesses that a fence waits for. -/
structure MpuSt where
  held : Tab (Option Word) := []
  fence : Tab (List Nat) := []
deriving DecidableEq, Repr

/-- Hopper: channels by 64 * engine + channel, the next channel of each engine's round robin, the next access number. -/
structure HopSt where
  chs : Tab HopCh := []
  turn : Tab Nat := []
  next : Nat := 0
deriving DecidableEq, Repr

/-- The directory (R174 to R201). Entries are keyed 131072 * physical slice + 16 * set + way. -/
structure CohSt where
  ents : Tab DirEnt := []
  /-- requests handed over and not looked up yet; those that wait for a busy line; packets delivered to the directory -/
  reqs : List DirReq := []
  waitq : List DirReq := []
  rsps : List Pkt := []
  txns : List Txn := []
  next : Nat := 0
  /-- doubtful sets, 16384 * slice + 8192 * range + set; ranges all of whose sets are doubtful, 2 * slice + range -/
  doubtful : List Nat := []
  doubtAll : List Nat := []
  removals : List Removal := []
  flush : Option FlushOp := none
  rot : Option RotOp := none
  /-- logical slice whose range is held for a rotation (R200) -/
  heldSlice : Option Nat := none
  /-- first set of the next rotation's DOUBT sets; physical slices, longest without a test first -/
  rotSet : Nat := 0
  order : List Nat := List.range 34
deriving DecidableEq, Repr

/-- Brake (R348 to R370). -/
structure BrkSt where
  /-- events raised and not accepted yet -/
  queue : List Ev := []
  /-- records or details lost since the last record -/
  ovf : Bool := false
  /-- the history queue: records of 32 bytes, oldest first (kept by every reset but power-on reset) -/
  hist : List Bytes := []
  /-- sources with a window open; sources whose reaction is lost (R370) -/
  opened : List Nat := []
  broken : List Nat := []
  /-- mtime of the last block reset, by instance: lane group g, 16 + port, 112 + core -/
  blocked : Tab (Option Nat) := []
  /-- mtime at which a pin was asserted; pins with a deferred release (kept) -/
  pinAt : Tab Nat := []
  deferred : List Nat := []
  /-- the Governor's copy of the reaction map, once an image's has been applied -/
  copied : Bool := false
  copy : Tab Nat := []
deriving DecidableEq, Repr

/-- Millwright (R302 to R324). -/
structure MgtSt where
  /-- LR reservations: line, by core -/
  resv : Tab (Option Nat) := []
  /-- lines in the caches, by address / 64 -/
  cache : Tab (Option CLine) := []
  /-- accesses to the pool under way -/
  reads : List CoreRd := []
  /-- mtime of the last kick, by core -/
  wdog : Tab Nat := []
  /-- next slot of the receive and transmit rings, by transport -/
  rxNext : Tab Nat := []
  txNext : Tab Nat := []
  /-- MCTP packets delivered by the Millrace and not placed yet -/
  mctpIn : List McIn := []
  /-- an Ethernet frame has been received or sent; where the last datagram came from -/
  eth : Bool := false
  peer : Option NetPeer := none
  /-- endpoint IDs, by transport -/
  eid : Tab Nat := []
  /-- mailbox registers and payload of the PF, by offset from 0x8000 -/
  mbox : Tab Byte := []
  /-- the state-changing command in progress: transport, what it waits for; those that wait for it -/
  bg : Option (Nat × BgKind) := none
  wait : List (Nat × MgtReq) := []
  /-- management commands that use MGT_DSA: the one in progress, those that wait -/
  dsaFor : Option (DsaFor × DsaJob) := none
  dsaWait : List (DsaFor × DsaJob) := []
  /-- what the last tunnelled command answered -/
  dsaAns : Bytes := []
  /-- event records of pool LDs: (LD, type, extent) -/
  events : List (Nat × Nat × Nat) := []
deriving DecidableEq, Repr

/-- Counters and samplers beside their registers (R408 to R416): the previous tick's value of each counter's event, the sample
buffer, the samplers. -/
structure PmcSt where
  prev : Tab Nat := []
  samples : List Bytes := []
  ts : Tab TsSt := []
deriving DecidableEq, Repr

/-- Fantail (R393 to R407). -/
structure FanSt where
  /-- the word that the SRAM scrub read last -/
  scrub : Option ScrubWord := none
  /-- the change that each adaptation controller measures: (lane, CDR, one code up); receiver settings by 2 * lane, as changes
  from those of training -/
  adapt : Tab (Option (Nat × Bool × Bool)) := []
  codes : Tab Int := []
  /-- copies of Brake records on their way to the log writer (R399); those staged -/
  logIn : List Bytes := []
  staged : List Bytes := []
  logging : Bool := false
  op : Option LogOp := none
  /-- current sector, its next page, lap; the next sector, once prepared, with its lap; bad sectors -/
  sector : Nat := 0
  page : Nat := 1
  lap : Nat := 0
  next : Option (Nat × Nat) := none
  bad : List Nat := []
  /-- Fantail's own rotation runs; one is to be tried again; mtime from which LEFT counts -/
  rotMine : Bool := false
  rotRetry : Bool := false
  rotAt : Nat := 0
  /-- the engine whose turn comes next, the one that waits since its turn, the test in progress -/
  turn : Nat := 0
  due : Option Nat := none
  test : Option EngTest := none
  /-- spare lanes of tile crossings used or withdrawn: 16 * crossing + lane -/
  lanes : List Nat := []
deriving DecidableEq, Repr

/-- The Governor (R371 to R392). -/
structure GovSt where
  burn : Option Burn := none
  /-- ports with a secure SPDM session -/
  sessions : List Nat := []
  /-- IDE key sets, by ideKey; the key set in effect plus 1, by ideStream -/
  ide : Tab (Option IdeKey) := []
  ideOn : Tab Nat := []
  /-- mtime of the last glitch, and of the last lockstep mismatch -/
  glitch : Option Nat := none
  mismatch : Option Nat := none
  /-- mtime at which the token was issued -/
  tokenAt : Nat := 0
  lim : Limiter := {}
  /-- in a thermal hold: the device has been cool since (R390) -/
  cool : Option Nat := none
deriving DecidableEq, Repr

/-- Reset and power (R417 to R432). -/
structure PwrSt where
  loaderUp : Bool := false
  poolUp : Bool := false
  /-- power-up has run since the power-on reset; every unit but the Governor is held in reset -/
  booted : Bool := false
  held : Bool := true
  /-- a chip reset is in progress; the source whose CHIP action asked for it, 0xFFF for another cause -/
  req : Bool := false
  reqSrc : Nat := 0xFFF
  /-- RESET_N is low; a brown-out lasts; SYSCLK is lost -/
  pinLow : Bool := false
  brown : Bool := false
  sysLost : Bool := false
  /-- the Sluice controllers stand still for want of VDD_SLC (R420) -/
  slcOut : Bool := false
deriving DecidableEq, Repr

structure State where
  regs : Tab Word := []
  hold : Tab (Option Hold) := []
  spd : Tab Byte := []
  img : ImgSt := {}
  fuse : FuseSt := {}
  ports : Tab PortX := []
  ofl : OflSt := {}
  mill : MillSt := {}
  rte : RteSt := {}
  pool : PoolSt := {}
  coh : CohSt := {}
  hep : HepSt := {}
  /-- packets returned to the engines -/
  hopIn : List (Nat × Pkt) := []
  hop : HopSt := {}
  spdX : SpdSt := {}
  mpu : MpuSt := {}
  /-- injected errors in protected memories: 1 correctable, 2 uncorrectable (R367) -/
  marks : Tab Nat := []
  brk : BrkSt := {}
  mgt : MgtSt := {}
  pmc : PmcSt := {}
  fan : FanSt := {}
  slc : Tab SlcX := []
  gov : GovSt := {}
  pwr : PwrSt := {}
  outs : List Out := []
  fresh : Nat := 0
  pending : List Instr := []
deriving DecidableEq, Repr

def State.reset : State := {}

end Sys2Proof.Machine
end

