-- ==== Sys2Proof/Machine/Ops.lean ====
section
/-! DEFINITION. The named operations that every unit shares: reading and writing registers and fields, the outputs, the
free values, raising a Brake event, refusing a write (R7), and clearing the registers of a block. -/

namespace Sys2Proof.Machine

/-! ## Bit fields -/

/-- Bits hi to lo set. -/
def bitsMask (hi lo : Nat) : Word := BitVec.ofNat 64 (2 ^ (hi + 1) - 2 ^ lo)

/-- Bits hi to lo of a word, as a number. -/
def bitsGet (v : Word) (hi lo : Nat) : Nat := v.toNat / 2 ^ lo % 2 ^ (hi + 1 - lo)

/-- The word with bits hi to lo set to n (modulo the width). -/
def bitsPut (v : Word) (hi lo n : Nat) : Word :=
  (v &&& ~~~(bitsMask hi lo)) ||| BitVec.ofNat 64 (n % 2 ^ (hi + 1 - lo) * 2 ^ lo)

/-! ## Registers and fields -/

/-- Contents of a register. State.regs lists, by address, the difference (exclusive or) from the reset value. -/
def State.rd (s : State) (r : Reg) : Word := tget 0#64 s.regs r.addr ^^^ r.rst

/-- The state with a register's contents replaced. -/
def State.wr (s : State) (r : Reg) (v : Word) : State := { s with regs := tput 0#64 s.regs r.addr (v ^^^ r.rst) }

/-- A field's value. -/
def State.get (s : State) (f : Fld) : Nat := bitsGet (s.rd f.reg) f.hi f.lo

/-- A one-bit field as a truth value. -/
def State.bit (s : State) (f : Fld) : Bool := s.get f != 0

/-- The state with a field set by hardware. -/
def State.put (s : State) (f : Fld) (n : Nat) : State := s.wr f.reg (bitsPut (s.rd f.reg) f.hi f.lo n)

/-- A one-bit field set from a truth value. -/
def State.putB (s : State) (f : Fld) (b : Bool) : State := s.put f (if b then 1 else 0)

/-- The largest value of a field. -/
def Fld.max (f : Fld) : Nat := 2 ^ (f.hi + 1 - f.lo) - 1

/-- Add to a counter that saturates at all ones. -/
def State.inc (s : State) (f : Fld) (n : Nat := 1) : State := s.put f (min f.max (s.get f + n))

/-- Set bit i of a field that is a bitmap. -/
def State.setBit (s : State) (f : Fld) (i : Nat) : State :=
  s.put f (s.get f ||| 2 ^ i)

/-- Clear bit i of a bitmap field. -/
def State.clrBit (s : State) (f : Fld) (i : Nat) : State :=
  s.put f (s.get f - (if (s.get f).testBit i then 2 ^ i else 0))

/-- Bit i of a bitmap field. -/
def State.hasBit (s : State) (f : Fld) (i : Nat) : Bool := (s.get f).testBit i

/-! ## Outputs and free values -/

/-- The device sends something. -/
def State.out (s : State) (o : Out) : State := { s with outs := s.outs ++ [o] }

/-- Advance the counter that the next free value is drawn from. -/
def State.bump (s : State) : State := { s with fresh := s.fresh + 1 }

/-! ## Brake events and refused writes -/

/-- A unit raises an event: it enters Brake's collector; with 512 details held the detail is discarded and counted,
the event is not (R349). -/
def State.raise (s : State) (src : Nat) (d : Detail := .unit) : State :=
  if (s.brk.queue.filter fun e => e.det != .lost).length < 512 then
    { s with brk := { s.brk with queue := s.brk.queue ++ [⟨src, d⟩] } }
  else
    (({ s with brk := { s.brk with queue := s.brk.queue ++ [⟨src, .lost⟩], ovf := true } } : State)).inc
      F.BRK_LOSS_DETAIL_LOST

/-- The refused-write event with address, writer and size (R7, R362). -/
def State.refuse (s : State) (addr mid size : Nat) : State := s.raise 1 (.access addr mid true size)

/-! ## Error injection (R367) -/

/-- Key of a word of instance i of an injection target (R368). -/
def injKey (target i addr : Nat) : Nat := (target * 256 + i) * 2 ^ 48 + addr

/-- The injected error that a word holds: 0 none, 1 correctable, 2 uncorrectable. -/
def injMark (s : State) (target i addr : Nat) : Nat := tget 0 s.marks (injKey target i addr)

/-- Has the target an address form (R368)? -/
def injForm (target : Nat) : Bool := decide (target ≤ 5) || decide (9 ≤ target)

/-- A write of a word of a protected memory: the armed injection strikes it, or its check bits are good again. -/
def injWrite (s : State) (target i addr : Nat) : State :=
  let hit := s.bit F.BRK_INJ_CTRL_ARM && s.get F.BRK_INJ_CTRL_TARGET == target
    && (s.get F.BRK_INJ_CTRL_INDEX == i || target == 0x0B && s.bit F.BRK_INJ_CTRL_MATCH)
    && (!s.bit F.BRK_INJ_CTRL_MATCH || s.get F.BRK_INJ_ADDR_ADDR == addr)
  let m := if !hit then 0 else if s.bit F.BRK_INJ_CTRL_UE then 2 else 1
  let s := if hit then
      ((s.put F.BRK_INJ_CTRL_ARM 0).put F.BRK_INJ_CTRL_DONE 1).put F.BRK_INJ_HIT_ADDR (if injForm target then addr else 0)
    else s
  { s with marks := tput 0 s.marks (injKey target i addr) m }

/-! ## Access by address -/

/-- Does distance d lie on a register of an array with these dimensions and width? Answers the start of that register. -/
def dimFind : List (Nat × Nat) → Nat → Nat → Option Nat
  | [], d, w => if d < w then some 0 else none
  | (n, st) :: ds, d, w =>
    if d / st < n then (dimFind ds (d % st) w).map (· + d / st * st) else none

/-- The row and the register start of an address inside one row. -/
def rowFind (a : Nat) (r : RegRow) : Option (RegRow × Nat) :=
  if a < r.base then none
  else (dimFind r.dims (a - r.base) (if r.wide then 8 else 4)).map fun d => (r, r.base + d)

/-- The register that holds address a, if one does. -/
def regAt (a : Nat) : Option (RegRow × Nat) := regRows.findSome? (rowFind a)

/-- The register constant of a found row. -/
def regOf (x : RegRow × Nat) : Reg := ⟨x.2, x.1.rst (x.2 - x.1.base)⟩

/-- The lock bit of the block that address a lies in (R8). -/
def lockAt (a : Nat) : Option Fld :=
  if 0x40100000 ≤ a ∧ a < 0x40200000 then some F.BRK_LOCK_LOCK
  else if 0x40200000 ≤ a ∧ a < 0x40300000 then some F.IMG_LOCK_LOCK
  else if 0x40300000 ≤ a ∧ a < 0x40400000 then some F.CRP_LOCK_LOCK
  else if 0x40400000 ≤ a ∧ a < 0x40500000 then some F.FAN_LOCK_LOCK
  else if 0x40500000 ≤ a ∧ a < 0x40600000 then some F.PMC_LOCK_LOCK
  else if 0x40600000 ≤ a ∧ a < 0x40700000 then some (F.MPU_LOCK_LOCK ((a - 0x40600000) / 0x10000))
  else if 0x40700000 ≤ a ∧ a < 0x40800000 then some F.SPD_LOCK_LOCK
  else if 0x40800000 ≤ a ∧ a < 0x408D0000 then some (F.MPU_LOCK_LOCK (16 + (a - 0x40800000) / 0x10000))
  else if 0x44000000 ≤ a ∧ a < 0x45000000 then some F.SWC_LOCK_LOCK
  else if 0x45000000 ≤ a ∧ a < 0x46000000 then some F.RTE_LOCK_LOCK
  else if 0x46000000 ≤ a ∧ a < 0x47000000 then some F.COH_LOCK_LOCK
  else if 0x47000000 ≤ a ∧ a < 0x48000000 then some F.POOL_LOCK_LOCK
  else if 0x48000000 ≤ a ∧ a < 0x49000000 then some (F.HOP_LOCK_LOCK ((a - 0x48000000) / 0x10000))
  else if 0x49000000 ≤ a ∧ a < 0x4A000000 then some F.HEP_LOCK_LOCK
  else if 0x4A000000 ≤ a ∧ a < 0x4B000000 then some (F.SLC_LOCK_LOCK ((a - 0x4A000000) / 0x10000))
  else if 0x4B000000 ≤ a ∧ a < 0x4C000000 then some F.MGT_LOCK_LOCK
  else none

/-- Is the lock bit of the block set? -/
def State.locked (s : State) (a : Nat) : Bool :=
  match lockAt a with
  | some f => s.bit f
  | none => false

/-- One field takes a write (R450): the new contents, and whether a refusing field was presented a different value. -/
def fieldWrite (locked : Bool) (deny : Word) (w : Wr) (old : Word) (acc : Word × Bool) (f : FRow) : Word × Bool :=
  let m := bitsMask f.hi f.lo &&& w.mask
  let no := (bitsMask f.hi f.lo &&& deny != 0#64) || f.ty == .lk || (f.ty == .gv && w.mid != midGov)
    || (f.ty == .rwl && locked)
  if no then (acc.1, acc.2 || ((old ^^^ w.v) &&& m != 0#64))
  else match f.ty with
    | .rw | .gv | .rwl => ((acc.1 &&& ~~~m) ||| (w.v &&& m), acc.2)
    | .w1c => (acc.1 &&& ~~~(w.v &&& m), acc.2)
    | .w1s => (acc.1 ||| (w.v &&& m), acc.2)
    | .wo | .rc | .lk => acc

/-- A write of a register, applied field by field (R450); deny names the bits of fields that refuse in the present
state. The refused-write event is raised at most once. -/
def State.writeReg (s : State) (r : Reg) (w : Wr) (deny : Word := 0#64) : State :=
  match regAt r.addr with
  | none => s
  | some (row, _) =>
    let x := row.flds.foldl (fieldWrite (s.locked r.addr) deny w (s.rd r)) (s.rd r, false)
    let s' := s.wr r x.1
    if x.2 then s'.refuse r.addr w.mid w.size else s'

/-- Does a write present 1 in a one-bit field? -/
def Wr.sets (w : Wr) (f : Fld) : Bool := bitsGet (w.v &&& w.mask) f.hi f.lo != 0

/-- The value that a write presents for a field, bits not presented taken from the register. -/
def Wr.val (w : Wr) (s : State) (f : Fld) : Nat :=
  bitsGet ((s.rd f.reg &&& ~~~w.mask) ||| (w.v &&& w.mask)) f.hi f.lo

/-- Bits of the register at address a on which a 1 acts: write-only and write-1 fields (R6). -/
def actMask (a : Nat) : Word :=
  match regAt a with
  | none => 0#64
  | some (row, _) => (row.flds.filter fun f => f.ty == .wo || f.ty == .w1c || f.ty == .w1s).foldl
      (fun m f => m ||| bitsMask f.hi f.lo) 0#64

/-- A write that sets one field: it presents every other field with its current value, and 0 where a 1 would act. -/
def wrField (s : State) (mid : Nat) (wide : Bool) (f : Fld) (n : Nat) : Wr :=
  { mid := mid, v := bitsPut (s.rd f.reg &&& ~~~actMask f.reg.addr) f.hi f.lo n,
    mask := if wide then BitVec.allOnes 64 else 0xFFFFFFFF#64, size := if wide then 8 else 4 }

/-- A full write of a register's 32 or 64 bits. -/
def wrFull (mid : Nat) (wide : Bool) (v : Word) : Wr :=
  { mid := mid, v := if wide then v else v &&& 0xFFFFFFFF#64,
    mask := if wide then BitVec.allOnes 64 else 0xFFFFFFFF#64, size := if wide then 8 else 4 }

/-- Return every register in the address range to its reset value, but those that keep names; holding registers of the
range are emptied (R5, R11). -/
def State.clearRegs (s : State) (lo hi : Nat) (keep : Nat → Bool := fun _ => false) : State :=
  { s with
    regs := tdrop (fun a => decide (lo ≤ a) && decide (a < hi) && !keep a) s.regs
    hold := s.hold.filter fun e =>
      match e.2 with
      | some h => !(decide (lo ≤ h.addr) && decide (h.addr < hi))
      | none => false }

/-! ## Bytes -/

/-- Byte i of a string as a number; 0 beyond its end. -/
def u8 (b : Bytes) (i : Nat) : Nat := (b.getD i 0#8).toNat

/-- n bytes from i, little-endian. -/
def leN (b : Bytes) (i : Nat) : Nat → Nat
  | 0 => 0
  | n + 1 => u8 b i + 256 * leN b (i + 1) n

/-- n bytes of a number, little-endian. -/
def leBytes : Nat → Nat → Bytes
  | 0, _ => []
  | n + 1, v => BitVec.ofNat 8 v :: leBytes n (v / 256)

/-- n bytes of a number, big-endian. -/
def beBytes (n v : Nat) : Bytes := (leBytes n v).reverse

/-- n bytes of the scratchpad from offset a. -/
def State.spdRd (s : State) (a n : Nat) : Bytes := tgets 0#8 s.spd a n

/-- Bytes written to the scratchpad from offset a on; what would lie beyond its end is not written. -/
def State.spdWr (s : State) (a : Nat) (b : Bytes) : State :=
  { s with spd := tputs 0#8 s.spd a (b.take (0x1000000 - a)) }

/-- Are the n bytes from i all zero? -/
def zeros (b : Bytes) (i n : Nat) : Bool := (List.range n).all fun k => u8 b (i + k) == 0

/-- Bytes i to i + n - 1. -/
def slice (b : Bytes) (i n : Nat) : Bytes := (b.drop i).take n

/-- Lanes of a width code (R41). -/
def widthLanes (w : Nat) : Nat := if w = 0 then 0 else 2 ^ w

/-- Lanes [first, first + n) as a bitmap. -/
def laneBits (first n : Nat) : Nat := (2 ^ n - 1) * 2 ^ first

end Sys2Proof.Machine
end

