-- ==== Sys2Proof/Machine/Image.lean ====
section
/-! DEFINITION. The image loader: checking a structure image (R34 to R46), loading it (R47 to R49), confirming the boot,
the anti-rollback counter, group reload and flash operations. -/

namespace Sys2Proof.Machine

/-! ## Layout -/

/-- A manifest entry (R36). -/
structure MEnt where
  ty : Nat
  fmt : Nat
  grp : Nat
  off : Nat
  len : Nat
  rsv : Bool
  digest : Bytes
deriving DecidableEq, Repr

/-- n bytes of flash from address a; erased flash reads 0xFF. -/
def flashRd (s : State) (a n : Nat) : Bytes := tgets 0xFF#8 s.img.flash a n

/-- Entry n of a manifest, from the bytes of the image. -/
def mEnt (b : Bytes) (n : Nat) : MEnt :=
  let o := 0x100 + 64 * n
  { ty := leN b o 2, fmt := u8 b (o + 2), grp := u8 b (o + 3), off := leN b (o + 4) 4, len := leN b (o + 8) 4,
    rsv := zeros b (o + 12) 4, digest := slice b (o + 16) 48 }

/-- The manifest of an image. -/
def manifest (b : Bytes) : List MEnt := (List.range (leN b 8 2)).map (mEnt b)

/-- Offset of the signature block (R37). -/
def sigOff (b : Bytes) : Nat := 0x100 + 64 * leN b 8 2

/-- Codes 0x02, 0x03 and 0x0D of step 1 of R46; 0 for none. kind is 1 for a full image, 2 for a group image. -/
def hdrFirst (kind : Nat) (b : Bytes) : Nat :=
  if slice b 0 4 ≠ [0x4F#8, 0x43#8, 0x53#8, 0x4E#8] ∨ leN b 4 2 ≠ 1 ∨ u8 b 6 ≠ kind then 2
  else if leN b 0xC 4 ≠ 0x1460 ∨ u8 b 0xB ≠ 2 then 3
  else if (if kind = 1 then 0x2000000 else 0x10000) < leN b 0x10 4 then 0xD
  else 0

/-- Is the image encrypted? -/
def encrypted (b : Bytes) : Bool := u8 b 7 % 2 == 1

/-- Every other header field (R35). -/
def hdrFields (kind : Nat) (b : Bytes) : Bool :=
  u8 b 7 < 2 && 1 ≤ leN b 8 2 && leN b 8 2 ≤ 64 && u8 b 0xA ≤ 3
  && (if kind = 1 then decide (10 ≤ leN b 0x20 2) && decide (leN b 0x20 2 ≤ 600) && leN b 0x22 2 == 0xFFFF
      else leN b 0x20 2 == 0 && decide (leN b 0x22 2 ≤ 15))
  && (encrypted b || (zeros b 0x24 12 && zeros b 0x30 16)) && zeros b 0x48 56 && zeros b 0xC0 64

/-- Every field and place of the manifest (R36). -/
def manifestOk (b : Bytes) : Bool :=
  let ms := manifest b
  (ms.all fun m => (1 ≤ m.ty && m.ty ≤ 10) && m.fmt == 1
      && (if m.ty = 1 then decide (m.grp ≤ 15) else m.grp == 0xFF) && 1 ≤ m.len && m.rsv
      && m.off % 4096 == 0 && decide (sigOff b + 192 ≤ m.off) && decide (m.off + m.len ≤ leN b 0x10 4))
  && (ms.zip ms.tail).all fun p => decide (p.1.off + p.1.len ≤ p.2.off)

/-- Number of sections of a type. -/
def secCount (ms : List MEnt) (t : Nat) : Nat := (ms.filter fun m => m.ty == t).length

/-- The counts per type of R39. -/
def countsOk (kind : Nat) (ms : List MEnt) : Bool :=
  if kind = 1 then
    secCount ms 1 == 16 && secCount ms 2 == 1 && secCount ms 3 == 1 && decide (secCount ms 4 ≤ 16)
    && secCount ms 5 == 1 && secCount ms 6 == 1 && decide (secCount ms 7 ≤ 1) && secCount ms 8 == 1
    && decide (secCount ms 9 ≤ 1) && secCount ms 10 == 1
  else secCount ms 1 == 1 && decide (secCount ms 9 ≤ 1) && ms.all fun m => m.ty == 1 || m.ty == 9

/-- The size limits of R40, on the manifest lengths. -/
def sizesOk (ms : List MEnt) : Bool :=
  decide (((ms.filter fun m => m.ty != 10).map (·.len)).sum ≤ 0x800000)
  && (ms.filter fun m => m.ty == 10).all fun m => decide (m.len - 64 ≤ 0x800000)

/-! ## Section rules -/

/-- A used port entry of group g (R41, R58). -/
def portEntryOk (b : Bytes) (g o : Nat) : Bool :=
  let w := u8 b (o + 1); let role := u8 b (o + 2); let rate := u8 b (o + 3); let opt := u8 b (o + 4)
  let perst := u8 b (o + 5); let slc := u8 b (o + 6)
  decide (w ≤ 4) && u8 b o % widthLanes w == 0 && decide (u8 b o + widthLanes w ≤ 16)
  && (role == 1 && decide (2 ≤ w) || role == 2 || role == 3 && decide (2 ≤ w))
  && (if role = 3 then decide (5 ≤ rate) && decide (rate ≤ 7) else decide (1 ≤ rate) && decide (rate ≤ 6))
  && decide (opt < (if role = 3 then 2 else 4))
  && (perst == 0xFF || role == 1 && decide (perst ≤ 31))
  && (slc == 0xFF || role == 2 && slc / 8 == g / 4)
  && u8 b (o + 7) == 0

/-- Lane-group division section (R41, R58). -/
def laneOk (g : Nat) (b : Bytes) : Bool :=
  let es := (List.range 6).map fun k => 4 + 8 * k
  let used := es.filter fun o => u8 b (o + 1) != 0
  b.length == 64 && u8 b 0 == g && decide (u8 b 1 ≤ 2) && zeros b 2 2 && zeros b 0x34 12
  && (es.all fun o => if u8 b (o + 1) = 0 then zeros b o 8 else portEntryOk b g o)
  && (used.foldl (fun (a : Nat × Bool) o =>
        let m := laneBits (u8 b o) (widthLanes (u8 b (o + 1)))
        (a.1 ||| m, a.2 && a.1 &&& m == 0)) (0, true)).2
  && (!(used.any fun o => u8 b (o + 2) == 3) || decide (u8 b 1 ≤ 1))

/-- VCS skeleton (R42), its own rules. -/
def vcsOk (b : Bytes) : Bool :=
  let v := u8 b 0; let n := leN b 2 2
  let vs := (List.range v).map fun k => 8 + 16 * k
  let bs := (List.range n).map fun k => 8 + 16 * v + 8 * k
  1 ≤ v && v ≤ 64 && u8 b 1 == 0 && decide (n ≤ 1024) && zeros b 4 4 && b.length == 8 + 16 * v + 8 * n
  && (vs.all fun o => decide (u8 b o < 64) && decide (u8 b (o + 1) < 96) && decide (u8 b (o + 2) < 64)
        && u8 b (o + 3) == 0 && decide (1 ≤ leN b (o + 4) 2) && decide (leN b (o + 4) 2 ≤ 256) && zeros b (o + 6) 10)
  && decide (vs.map (u8 b)).Nodup && decide (vs.map fun o => u8 b (o + 1)).Nodup
  && decide (vs.map fun o => u8 b (o + 2)).Nodup && decide ((vs.map fun o => leN b (o + 4) 2).sum ≤ 4096)
  && bs.all fun o =>
      (vs.any fun w => u8 b w == u8 b o && decide (leN b (o + 2) 2 < leN b (w + 4) 2)) && u8 b (o + 1) == 0
      && decide (u8 b (o + 4) < 96) && u8 b (o + 5) == 0 && (decide (leN b (o + 6) 2 ≤ 1023) || leN b (o + 6) 2 == 0xFFFF)

/-- Entry size of table t (R144). -/
def tblSize (t : Nat) : Nat := if t = 2 ∨ t = 3 then 32 else 16

/-- Table-store split (R43). -/
def splitOk (b : Bytes) : Bool :=
  let os := (List.range (u8 b 0)).map fun k => 4 + 8 * k
  1 ≤ u8 b 0 && u8 b 0 ≤ 6 && zeros b 1 3 && b.length == 4 + 8 * u8 b 0
  && (os.all fun o => decide (1 ≤ u8 b o) && decide (u8 b o ≤ 6) && u8 b (o + 1) == 0 && decide (leN b (o + 2) 2 ≤ 255)
        && decide (1 ≤ leN b (o + 4) 2) && decide (leN b (o + 2) 2 + leN b (o + 4) 2 ≤ 256) && zeros b (o + 6) 2
        && decide (leN b (o + 4) 2 * 65536 / tblSize (u8 b o) ≤ 262144))
  && decide (os.map (u8 b)).Nodup && (os.any fun o => u8 b o == 1) && (os.any fun o => u8 b o == 2)
  && (os.foldl (fun (a : Nat × Bool) o =>
        let m := laneBits (leN b (o + 2) 2) (leN b (o + 4) 2)
        (a.1 ||| m, a.2 && a.1 &&& m == 0)) (0, true)).2

/-- Table preload (R43), its own rules. -/
def preloadOk (b : Bytes) : Bool :=
  1 ≤ u8 b 0 && u8 b 0 ≤ 6 && zeros b 1 3 && 1 ≤ leN b 8 4 && leN b 12 2 == tblSize (u8 b 0) && zeros b 14 2
  && b.length == 16 + leN b 8 4 * leN b 12 2

/-- Buffer shares and Leat (R44). -/
def sharesOk (b : Bytes) : Bool :=
  let cs := List.range 8
  let mask := u8 b 0x50
  b.length == 128
  && (cs.all fun c => decide (leN b (4 * c) 4 ≤ leN b (0x20 + 4 * c) 4) && decide (leN b (0x20 + 4 * c) 4 ≤ 524288)
        && decide (u8 b (0x40 + c) < 4) && decide (1 ≤ u8 b (0x48 + c)) && decide (u8 b (0x48 + c) ≤ 63)
        && (!mask.testBit c || u8 b (0x40 + c) == 0))
  && ((cs.filter fun c => mask.testBit c).length == 2 && decide (1 ≤ u8 b 0x51) && decide (u8 b 0x51 ≤ 25)
        && decide (1 ≤ leN b 0x52 2) && decide (leN b 0x52 2 ≤ 256)
      || mask == 0 && u8 b 0x51 == 0 && leN b 0x52 2 == 0)
  && zeros b 0x54 44 && decide ((cs.map fun c => leN b (4 * c) 4).sum ≤ 524288)

/-- Sources whose reaction may name BLOCK (R356). -/
def blockable (n : Nat) : Bool := (256 ≤ n && n ≤ 1087) || (72 ≤ n && n ≤ 79)

/-- Record-bearing sources (R352). -/
def recordBearing (n : Nat) : Bool :=
  n == 0 || n == 1 || n == 1344 || n == 1345 || n == 1360 || n == 1424 || n == 1721
  || (320 ≤ n && n ≤ 1087 && (n - 320) % 8 == 7)

/-- Is v a valid reaction of source n (R350 to R352)? -/
def reactOk (n v : Nat) : Bool :=
  let win := v / 2 ^ 29; let th := v / 2 ^ 24 % 32; let sev := v / 2 ^ 16 % 256; let nor := v / 2 ^ 8 % 256
  v % 64 == 0 && (srcListed n || v == 0) && (win == 0) == (th == 0)
  && !(sev.testBit 3 && sev.testBit 4) && !(nor.testBit 3 && nor.testBit 4)
  && (blockable n || (!sev.testBit 5 && !nor.testBit 5))
  && (!recordBearing n || (nor.testBit 0 && (win == 0 || sev.testBit 0)))

/-- Brake reaction map (R45, R352). -/
def brakeOk (b : Bytes) : Bool :=
  b.length == 16384 && (List.range 4096).all fun n => reactOk n (leN b (4 * n) 4)

/-- Words of one MPU default-map entry (R45, R293, R296). -/
def mpuEntryOk (w0 w1 : Nat) : Bool :=
  w0.testBit 63 && !w0.testBit 59 && w0 / 2 ^ 56 % 4 == 0 && w0 / 2 ^ 42 % 4 == 0 && w1 / 2 ^ 42 % 2 ^ 10 == 0

/-- The MPU maps of the section from offset o on, n of them: (MPU, offset of its regions, count), none if malformed. -/
def mpuMaps (b : Bytes) : Nat → Nat → Option (List (Nat × Nat × Nat))
  | 0, o => if o = b.length then some [] else none
  | n + 1, o =>
    let c := u8 b (o + 2)
    if leN b o 2 ≤ 28 ∧ 1 ≤ c ∧ c ≤ 32 ∧ u8 b (o + 3) = 0 ∧ o + 4 + 16 * c ≤ b.length then
      (mpuMaps b n (o + 4 + 16 * c)).map fun l => (leN b o 2, o + 4, c) :: l
    else none

/-- MPU default maps (R45). -/
def mpuOk (b : Bytes) : Bool :=
  1 ≤ leN b 0 2 && zeros b 2 2
  && match mpuMaps b (leN b 0 2) 4 with
    | none => false
    | some ms => decide (ms.map (·.1)).Nodup
        && ms.all fun m => (List.range m.2.2).all fun r =>
            mpuEntryOk (leN b (m.2.1 + 16 * r) 8) (leN b (m.2.1 + 16 * r + 8) 8)

/-- Governor policy (R45). -/
def govOk (b : Bytes) : Bool :=
  b.length == 256 && u8 b 0 < 2 && u8 b 1 < 4 && 1 ≤ u8 b 2 && u8 b 2 ≤ 3 && u8 b 3 == 0
  && 90 ≤ leN b 4 2 && leN b 4 2 ≤ 110 && 100 ≤ leN b 6 2 && leN b 6 2 ≤ 125 && leN b 4 2 + 5 ≤ leN b 6 2
  && 10 ≤ leN b 8 2 && leN b 8 2 ≤ 60 && 100 ≤ leN b 10 2 && leN b 10 2 ≤ 2000 && zeros b 12 244

/-- One entry of the Sluice limits (R45, R327): V_LIM is the limit current times the sense resistor. -/
def sluiceEntryOk (b : Bytes) (o : Nat) : Bool :=
  let r := leN b (o + 4) 4; let i := leN b (o + 8) 4; let uv := leN b (o + 16) 2; let ov := leN b (o + 18) 2
  u8 b o < 32 && u8 b (o + 1) < 2 && 2 ≤ leN b (o + 2) 2 && leN b (o + 2) 2 ≤ 1000
  && 250 ≤ r && r ≤ 50000 && 1000 ≤ i && i ≤ 40000 && 12500000 ≤ r * i && r * i ≤ 50000000
  && 10 ≤ leN b (o + 12) 2 && leN b (o + 12) 2 ≤ 50000 && 100 ≤ leN b (o + 14) 2 && leN b (o + 14) 2 ≤ 60000
  && 10800 ≤ uv && uv ≤ 57000 && ov ≤ 57000 && uv + 1000 ≤ ov
  && 100 ≤ leN b (o + 20) 2 && leN b (o + 20) 2 ≤ 50000 && zeros b (o + 22) 10

/-- Sluice limits (R45). -/
def sluiceOk (b : Bytes) : Bool :=
  let os := (List.range (u8 b 0)).map fun k => 4 + 32 * k
  1 ≤ u8 b 0 && u8 b 0 ≤ 32 && zeros b 1 3 && b.length == 4 + 32 * u8 b 0
  && (os.all (sluiceEntryOk b)) && decide (os.map (u8 b)).Nodup

/-- Psihaust firmware (R45). -/
def fwOk (b : Bytes) : Bool :=
  let lo := leN b 0 4; let n := leN b 4 4
  lo % 0x40000 == 0 && 0x800000 ≤ lo && lo < 0x1000000 && lo + n ≤ 0x1000000 && leN b 8 4 < n && zeros b 12 52
  && b.length == 64 + n

/-- A section's own rules. -/
def secOk (m : MEnt) (b : Bytes) : Bool :=
  match m.ty with
  | 1 => laneOk m.grp b
  | 2 => vcsOk b
  | 3 => splitOk b
  | 4 => preloadOk b
  | 5 => sharesOk b
  | 6 => brakeOk b
  | 7 => mpuOk b
  | 8 => govOk b
  | 9 => sluiceOk b
  | _ => fwOk b

/-- A checked section: its manifest entry and its plaintext. -/
abbrev Sec := MEnt × Bytes

/-- Bodies of the sections of a type. -/
def bodies (ss : List Sec) (t : Nat) : List Bytes := (ss.filter fun x => x.1.ty == t).map (·.2)

/-- Role code of port p in the division sections; 0 unused. -/
def roleIn (ss : List Sec) (p : Nat) : Nat :=
  match (bodies ss 1).find? fun b => u8 b 0 == p / 6 with
  | some b => if u8 b (4 + 8 * (p % 6) + 1) = 0 then 0 else u8 b (4 + 8 * (p % 6) + 2)
  | none => 0

/-- Sluice controllers named by the used ports of a division body. -/
def slcNamed (b : Bytes) : List Nat :=
  ((List.range 6).filter fun k => u8 b (4 + 8 * k + 1) != 0 && u8 b (4 + 8 * k + 6) != 0xFF).map fun k =>
    u8 b (4 + 8 * k + 6)

/-- (base, units) of table t in a split section. -/
def splitOf (b : Bytes) (t : Nat) : Option (Nat × Nat) :=
  (((List.range (u8 b 0)).map fun k => 4 + 8 * k).find? fun o => u8 b o == t).map fun o =>
    (leN b (o + 2) 2, leN b (o + 4) 2)

/-- The rules of a full image that span sections (R41, R42, R43). -/
def spanOk (ss : List Sec) : Bool :=
  let roles := (List.range 96).map (roleIn ss)
  decide ((bodies ss 1).map fun b => u8 b 0).Nodup
  && decide ((roles.filter (· == 1)).length ≤ 64) && decide ((roles.filter (· == 3)).length ≤ 32)
  && decide ((bodies ss 1).flatMap slcNamed).Nodup
  && ((bodies ss 2).all fun b =>
        let v := u8 b 0
        ((List.range v).all fun k => roleIn ss (u8 b (8 + 16 * k + 1)) == 1)
        && (List.range (leN b 2 2)).all fun k =>
            let r := roleIn ss (u8 b (8 + 16 * v + 8 * k + 4))
            r == 2 || r == 3)
  && (bodies ss 4).all fun b =>
        (bodies ss 3).any fun t =>
          match splitOf t (u8 b 0) with
          | some (_, n) => decide (leN b 4 4 + leN b 8 4 ≤ n * 65536 / tblSize (u8 b 0))
          | none => false

/-! ## Checking an image (R46) -/

/-- The image key for a key index; none while the seed is unprogrammed (R374), and once alarm level 2 has erased it (R386). -/
def imageKey (s : State) (idx : Nat) : Option Bytes :=
  (if 2 ≤ s.get F.GOV_ALARM_LEVEL then none else s.fuse.seed).map fun k =>
    (Config.hmac384 k (beBytes 4 1 ++ [0x4F#8, 0x43#8, 0x53#8, 0x4E#8, 0x20#8, 0x69#8, 0x6D#8, 0x61#8, 0x67#8, 0x65#8]
      ++ [0#8] ++ [BitVec.ofNat 8 idx] ++ beBytes 4 256)).take 32

/-- Codes 0x04 and 0x05: the key and the signature (R37). -/
def sigCode (s : State) (b : Bytes) : Nat :=
  let o := sigOff b
  match s.fuse.keys[u8 b 0xA]? with
  | none => 4
  | some k =>
    if !k.prog || k.rev || Config.sha384 (slice b o 96) != k.digest then 4
    else if !Config.ecdsaOk (slice b o 96) (slice b 0 o) (slice b (o + 0x60) 48) (slice b (o + 0x90) 48) then 5
    else 0

/-- Steps 1 to 4 of R46 on the header, manifest and signature block. -/
def frontCode (s : State) (kind : Nat) (b : Bytes) : Nat :=
  if hdrFirst kind b ≠ 0 then hdrFirst kind b
  else if !hdrFields kind b then 7
  else if sigCode s b ≠ 0 then sigCode s b
  else if leN b 0x14 4 < s.fuse.arb ∨ 128 < leN b 0x14 4 then 6
  else if !manifestOk b then 8
  else if !countsOk kind (manifest b) then 0xC
  else if !sizesOk (manifest b) then 0xD
  else if encrypted b && (imageKey s (u8 b 0xA)).isNone then 0xA
  else 0

/-- The additional authenticated data: header with the tag taken as zero, then manifest (R38). -/
def gcmAad (b : Bytes) : Bytes := slice b 0 0x30 ++ List.replicate 16 0#8 ++ slice b 0x40 (sigOff b - 0x40)

/-- Cut a byte string into the lengths of the manifest entries. -/
def cutBodies : List MEnt → Bytes → List Sec
  | [], _ => []
  | m :: ms, b => (m, b.take m.len) :: cutBodies ms (b.drop m.len)

/-- The sections in plaintext; rd reads bytes of the image. -/
def plainSecs (s : State) (b : Bytes) (rd : Nat → Nat → Bytes) : List Sec :=
  let raw := (manifest b).map fun m => rd m.off m.len
  if encrypted b then
    cutBodies (manifest b) (Config.gcmPlain ((imageKey s (u8 b 0xA)).getD []) (slice b 0x24 12) raw.flatten)
  else (manifest b).zip raw

/-- Steps 5 to 7 of R46, section by section: digest (0x09), then own rules (0x0B). -/
def secsCode : List Sec → Nat
  | [] => 0
  | x :: xs =>
    if Config.sha384 x.2 ≠ x.1.digest then 9 else if !secOk x.1 x.2 then 0xB else secsCode xs

/-- The rejection code of an image and its sections; rd reads bytes of the image, b its first 0x100 + 64 × 64 + 192
bytes. Code 0 means that the image is accepted. -/
def imageCode (s : State) (kind : Nat) (b : Bytes) (rd : Nat → Nat → Bytes) : Nat × List Sec :=
  let c := frontCode s kind b
  if c ≠ 0 then (c, [])
  else
    let ss := plainSecs s b rd
    let c := secsCode ss
    if c ≠ 0 then (c, [])
    else if (if kind = 1 then !spanOk ss else !(ss.all fun x => x.1.ty != 1 || x.1.grp == leN b 0x22 2)) then (0xB, [])
    else if encrypted b
        && Config.gcmTag ((imageKey s (u8 b 0xA)).getD []) (slice b 0x24 12) (gcmAad b)
          ((manifest b).flatMap fun m => rd m.off m.len) != slice b 0x30 16 then (0xA, [])
    else (0, ss)

end Sys2Proof.Machine
end

