-- ==== Sys2Proof/Machine/Sample.lean ====
section
/-! DEFINITION. Message kinds and classes (R114), and what the transaction samplers see of a packet on its way (R414 to
R416). -/

namespace Sys2Proof.Machine

/-! ## Classes (R114) -/

/-- Message kind of R114. -/
def kindOf (q : Pkt) : Nat :=
  match q.cls with
  | .ioReq | .ioCpl => q.tc % 8
  | .mctp => 8
  | .mReq | .mRwD => 9
  | .sNdr | .sDrs => 10
  | .biSnp => 11
  | .biRsp => 12
  | .cacheD2H => 13
  | .cacheH2D => 14

/-- The internal class of a packet (R114). -/
def classOf (s : State) (q : Pkt) : Nat := s.get (F.SWC_TC_MAP_KIND (kindOf q))

/-! ## The sample buffer (R415) -/

def State.modPmc (s : State) (f : PmcSt → PmcSt) : State := { s with pmc := f s.pmc }

/-- The registers that show the sample buffer follow it. -/
def smpShow (s : State) : State :=
  let n := s.pmc.samples.length
  let h := s.pmc.samples.headD []
  let s := (s.put F.PMC_SMP_STATUS_COUNT n).putB F.PMC_SMP_STATUS_FULL (decide (512 ≤ n))
  ([0, 1, 2, 3] : List Nat).foldl (fun s k => s.wr (R.PMC_SMP_REC k) (BitVec.ofNat 64 (leN h (8 * k) 8))) s

/-- A record enters the sample buffer; the change to full raises its source. -/
def smpPut (s : State) (r : Bytes) : State :=
  if !s.bit F.PMC_SMP_CTRL_EN then s
  else if 512 ≤ s.pmc.samples.length then s.inc F.PMC_SMP_STATUS_DROPS
  else
    let s := smpShow (s.modPmc fun p => { p with samples := p.samples ++ [r] })
    if s.pmc.samples.length = 512 then s.raise 225 else s

/-! ## Transaction samplers (R414) -/

/-- The point at which packets of a source enter, numbered as egress points (R116). -/
def entryPoint : Src → Nat
  | .port p => p
  | .pool ch => 96 + ch
  | .hop e _ => 108 + e
  | .bridge _ | .fn _ => 124
  | .core _ => 125
  | .dir _ => 126
  | .none => 126

/-- Does a packet have a response? -/
def hasRsp (q : Pkt) : Bool :=
  match q.cls with
  | .ioReq => !q.posted
  | .mReq => q.op != .mSpecRd
  | .mRwD | .biSnp => true
  | _ => false

/-- Record of a tagged packet (R416). The model keeps no time within a transaction: its residence and round trip are free
values. -/
def tsRecord (s : State) (k : Nat) (t : TsTag) (timeout err : Bool) : Bytes :=
  let w := k + (if timeout then 8 else 0) + (if err then 16 else 0) + t.tc % 8 * 32 + t.kind % 16 * 256
  leBytes 8 t.t0 ++ leBytes 2 w ++ leBytes 1 2 ++ leBytes 1 t.cls.code ++ leBytes 2 t.point ++ leBytes 2 t.dest ++ leBytes 8 t.addr
    ++ leBytes 4 (Config.freeNat s.fresh) ++ (if timeout || !t.rsp then leBytes 4 0xFFFFFFFF else leBytes 4 (Config.freeNat (s.fresh + 1)))

/-- Sampler k writes the record of its tagged packet. -/
def tsEnd (s : State) (k : Nat) (timeout err : Bool) : State :=
  match (tget {} s.pmc.ts k).tagged with
  | none => s
  | some t =>
    let r := tsRecord s k t timeout err
    smpPut (s.bump.bump.modPmc fun p => { p with ts := tmod {} p.ts k fun x => { x with tagged := none } }) r

/-- Does a packet with destination point d match sampler k? -/
def tsMatch (s : State) (k : Nat) (src : Src) (d : Option Nat) (q : Pkt) : Bool :=
  s.bit (F.PMC_TS_CFG_EN k)
  && (s.get (F.PMC_TS_CFG_SRC k) == 127 || s.get (F.PMC_TS_CFG_SRC k) == entryPoint src)
  && (s.get (F.PMC_TS_CFG_KIND_MASK k) % 32768).testBit (kindOf q)
  && (s.get (F.PMC_TS_CFG_TC_MASK k) == 0 || (s.get (F.PMC_TS_CFG_TC_MASK k)).testBit (classOf s q))
  && (s.get (F.PMC_TS_CFG_DEST k) == 127 || d == some (s.get (F.PMC_TS_CFG_DEST k)))

/-- Sampler k counts a match; the one that ends the period is tagged, or the first after the record in hand. -/
def tsCount (src : Src) (d : Option Nat) (q : Pkt) (s : State) (k : Nat) : State :=
  if !tsMatch s k src d q then s
  else
    let x := tget {} s.pmc.ts k
    let jit := if s.bit (F.PMC_TS_PERIOD_JITTER k) then Config.freeNat s.fresh % 16 else 0
    let n := x.period.getD (max 1 (s.get (F.PMC_TS_PERIOD_PERIOD k)) + jit)
    let s := if x.period.isNone then s.bump else s
    let ends := decide (n ≤ x.count + 1)
    let tag : TsTag := {
      src := src, point := entryPoint src, cls := q.cls, tag := q.tag, kind := kindOf q, tc := classOf s q
      addr := q.addr, dest := d.getD 127, t0 := s.get F.MGT_MTIME_TIME, rsp := hasRsp q }
    let x := { x with count := if ends then 0 else x.count + 1, period := if ends then none else some n }
    let x := if x.tagged.isSome then { x with due := x.due || ends }
      else if ends || x.due then { x with tagged := some tag, due := false, count := 0, period := none } else x
    s.modPmc fun p => { p with ts := tput {} p.ts k x }

/-- The eight samplers. -/
def samplers : List Nat := [0, 1, 2, 3, 4, 5, 6, 7]

/-- The Headrace accepts a packet for destination point d. -/
def sampleTake (s : State) (src : Src) (d : Option Nat) (q : Pkt) : State := samplers.foldl (tsCount src d q) s

/-- Is q the packet that sampler k has tagged? -/
def tsIs (s : State) (k : Nat) (q : Pkt) : Bool :=
  match (tget {} s.pmc.ts k).tagged with
  | some t => t.src == q.src && t.tag == q.tag && t.cls == q.cls
  | none => false

/-- Is q, sent at egress e, the response to the packet that sampler k has tagged? -/
def tsAnswers (s : State) (k e : Nat) (q : Pkt) : Bool :=
  match (tget {} s.pmc.ts k).tagged with
  | some t => t.rsp && t.point == e && t.tag == q.tag && (q.cls == .ioCpl || q.cls == .sNdr || q.cls == .sDrs || q.cls == .biRsp)
  | none => false

/-- The Tailrace starts a packet at egress e. -/
def sampleOut (s : State) (e : Nat) (q : Pkt) : State :=
  samplers.foldl (fun s k =>
    if tsAnswers s k e q then tsEnd s k false (q.poison || q.status != 0)
    else if tsIs s k q && !hasRsp q then tsEnd s k false false
    else s) s

/-- A packet is flushed, discarded, lost, or ends as a decode miss. -/
def sampleErr (s : State) (q : Pkt) : State :=
  samplers.foldl (fun s k => if tsIs s k q then tsEnd s k false true else s) s

/-! ## Counts of the in-service test (R402) -/

/-- The result of a test: kind 1 directory slice, 2 engine, 3 crossing lane; 0 passed, 1 failed, 2 skipped. -/
def fanResult (s : State) (kind result unit : Nat) : State :=
  let s := ((s.put F.FAN_TEST_STATUS_KIND kind).put F.FAN_TEST_STATUS_RESULT result).put F.FAN_TEST_STATUS_UNIT unit
  let s := s.put F.FAN_TEST_STATUS_TIME (s.get F.MGT_MTIME_TIME)
  if result = 0 then s.inc F.FAN_TEST_CNT_PASSED
  else if result = 1 then (s.inc F.FAN_TEST_CNT_FAILED).raise 192
  else (s.inc F.FAN_TEST_CNT_SKIPPED).raise 193

end Sys2Proof.Machine
end

