-- ==== Sys2Proof/Machine/Route.lean ====
section
/-! DEFINITION. What every packet needs: the per-port state, the routing tables, paths across OFL, bindings, the pool's
address mapping, and the decode order of the Headrace (R144 to R173, R205 to R212, R238 to R241). -/

namespace Sys2Proof.Machine

/-! ## Per-port state -/

def State.px (s : State) (p : Nat) : PortX := tget {} s.ports p
def State.setPx (s : State) (p : Nat) (x : PortX) : State := { s with ports := tput {} s.ports p x }
def State.modPx (s : State) (p : Nat) (f : PortX → PortX) : State := s.setPx p (f (s.px p))

def State.ox (s : State) (p : Nat) : OflX := tget {} s.ofl.ports p
def State.setOx (s : State) (p : Nat) (x : OflX) : State :=
  { s with ofl := { s.ofl with ports := tput {} s.ofl.ports p x } }
def State.modOx (s : State) (p : Nat) (f : OflX → OflX) : State := s.setOx p (f (s.ox p))

/-- A port's wait before Detect. -/
def setWait (s : State) (p : Nat) (w : PortWait) : State := s.modPx p fun x => { x with wait := w }

/-- A vPPB; the key of vPPB k of VCS v is 256 v + k. -/
def State.vx (s : State) (v k : Nat) : VppbX := tget {} s.rte.vppb (256 * v + k)
def State.modVx (s : State) (v k : Nat) (f : VppbX → VppbX) : State :=
  { s with rte := { s.rte with vppb := tmod {} s.rte.vppb (256 * v + k) f } }

/-- The upstream switch port of VCS v. -/
def State.ux (s : State) (v : Nat) : UspX := tget {} s.rte.usp v
def State.modUx (s : State) (v : Nat) (f : UspX → UspX) : State :=
  { s with rte := { s.rte with usp := tmod {} s.rte.usp v f } }

/-- Host-facing function n. -/
def State.fx (s : State) (n : Nat) : FnX := tget {} s.hep.fns n
def State.modFx (s : State) (n : Nat) (f : FnX → FnX) : State :=
  { s with hep := { s.hep with fns := tmod {} s.hep.fns n f } }

/-- Replace the Millrace's own state. -/
def State.modMill (s : State) (f : MillSt → MillSt) : State := { s with mill := f s.mill }

/-- Replace the routing state. -/
def State.modRte (s : State) (f : RteSt → RteSt) : State := { s with rte := f s.rte }

/-! ## Classes (R114) -/

/-- Is class c in the Leat class mask? -/
def leatClass (s : State) (c : Nat) : Bool := s.hasBit F.SWC_LEAT_CFG_MASK c

/-- The class of kind 9 (R124). -/
def reqClass (s : State) : Nat := s.get (F.SWC_TC_MAP_KIND 9)

/-- Cells of a packet (R111): at least 1 and at most 17. -/
def cellsOf (q : Pkt) : Nat := min 17 (max 1 ((q.len + 255) / 256))

/-! ## Tables (R144 to R150) -/

/-- Entry size of table t (R144). -/
def entrySize (t : Nat) : Nat := if t = 2 ∨ t = 3 then 32 else 16

/-- Entries used at most (R144). -/
def entryMax (t : Nat) : Nat :=
  if t = 1 then 4096 else if t = 4 then 1024 else 262144

/-- Entries of table t: 0 where the split leaves it out. -/
def tblCap (s : State) (t : Nat) : Nat := min (entryMax t) (s.get (F.RTE_TBL_UNITS t) * 65536 / entrySize t)

/-- Byte offset of entry i of table t in the table store. -/
def tblAddr (s : State) (t i : Nat) : Nat := s.get (F.RTE_TBL_BASE t) * 65536 + i * entrySize t

/-- The words of the table store that hold entry i of table t. -/
def tblWords (s : State) (t i : Nat) : List Nat := (List.range (entrySize t / 8)).map (tblAddr s t i / 8 + ·)

/-- Entry i of table t; zero beyond the table, which is an invalid entry, and one that holds an uncorrectable word (R394). -/
def tblEntry (s : State) (t i : Nat) : Bytes :=
  if i < tblCap s t ∧ !(tblWords s t i).any fun w => injMark s 4 0 w == 2 then tgets 0#8 s.rte.store (tblAddr s t i) (entrySize t) else List.replicate (entrySize t) 0#8

/-- Replace entry i of table t as a whole. -/
def tblPut (s : State) (t i : Nat) (b : Bytes) : State :=
  (tblWords s t i).foldl (fun s w => injWrite s 4 0 w)
    (s.modRte fun r => { r with store := tputs 0#8 r.store (tblAddr s t i) (b.take (entrySize t)) })

/-- HDM decoder entry (R146). -/
structure HdmEnt where
  committed : Bool
  locked : Bool
  base : Nat
  size : Nat
  iw : Nat
  ig : Nat
  targets : List Nat
deriving DecidableEq, Repr

def hdmEnt (s : State) (i : Nat) : HdmEnt :=
  let b := tblEntry s 2 i
  { committed := (u8 b 8).testBit 0, locked := (u8 b 8).testBit 1, base := leN b 0 3, size := leN b 4 3,
    iw := u8 b 9, ig := u8 b 10, targets := (List.range 8).map fun k => leN b (16 + 2 * k) 2 % 1024 }

/-- Ways of an IW code; 0 for an invalid code. -/
def iwWays (iw : Nat) : Nat :=
  if iw = 0 then 1 else if iw = 1 then 2 else if iw = 2 then 4 else if iw = 3 then 8 else if iw = 8 then 3
  else if iw = 9 then 6 else 0

/-- The vPPB that serves host physical address a in VCS v (R146). -/
def hdmTarget (s : State) (v a : Nat) : Option Nat :=
  ((List.range (s.get (F.RTE_VCS_CFG_DEC_COUNT v))).map fun i => hdmEnt s (s.get (F.RTE_VCS_TBL_DEC_FIRST v) + i)).findSome?
    fun d =>
      if d.committed && decide (d.base ≤ a / 2 ^ 28) && decide (a / 2 ^ 28 < d.base + d.size) && iwWays d.iw != 0 then
        d.targets[a / 2 ^ (8 + d.ig) % iwWays d.iw]?
      else none

/-- Window entry (R147). -/
structure WinEnt where
  inBase : Nat
  outBase : Nat
  size : Nat
  any : Bool
  src : Nat
  target : Nat
  mc : Bool
  noRead : Bool
deriving DecidableEq, Repr

def winEnt (b : Bytes) : Option WinEnt :=
  if (u8 b 0x1C).testBit 0 then
    some { inBase := leN b 0 8, outBase := leN b 8 8, size := leN b 16 4, any := (leN b 20 2).testBit 15,
           src := leN b 20 2 % 1024, target := leN b 24 4 % 2 ^ 18, mc := (u8 b 0x1C).testBit 1,
           noRead := (u8 b 0x1C).testBit 2 }
  else none

/-- The latched window range of VCS v. -/
def winLatch (s : State) (v : Nat) : WinLatch := tget {} s.rte.win v

/-- First entry of the active half of VCS v. -/
def winActive (s : State) (v : Nat) : Nat :=
  (winLatch s v).first + s.get (F.RTE_VCS_TBL_WIN_ACTIVE v) * (winLatch s v).count

/-- The window entry of lowest index that matches a request of binding n at address a (R147). -/
def winHit (s : State) (v n a : Nat) : Option WinEnt :=
  (List.range (winLatch s v).count).findSome? fun i =>
    match winEnt (tblEntry s 3 (winActive s v + i)) with
    | some w =>
      if (w.any || w.src == n) && decide (w.inBase ≤ a) && decide (a < w.inBase + 4096 * w.size) then some w else none
    | none => none

/-- ACS peer rule of binding n (R148): valid, ALLOW bits. -/
def peerRule (s : State) (n : Nat) : Bool × Nat :=
  let e := leN (tblEntry s 4 n) 0 16
  (e.testBit 127, e % 2 ^ 96)

/-- Multicast group (R149): its target ports; none when the group is not in use. -/
def mcGroup (s : State) (g : Nat) : Option (List Nat) :=
  let e := leN (tblEntry s 6 g) 0 16
  let ps := (List.range 96).filter fun p => e.testBit p
  if e.testBit 127 && !ps.isEmpty then some ps else none

/-- Sharing group (R175): MEMBERS, none when the entry is not valid. -/
def shareGroup (s : State) (g : Nat) : Option Nat :=
  let b := tblEntry s 5 g
  if (u8 b 8).testBit 0 then some (leN b 0 8) else none

/-! ## Paths across OFL (R145, R169) -/

/-- PBR entry (R145). -/
structure PbrEnt where
  kind : Nat
  port : Nat
  spread : Bool
  group : Nat
  hops : List (Option Nat)
deriving DecidableEq, Repr

def pbrEnt (s : State) (pid : Nat) : Option PbrEnt :=
  let b := tblEntry s 1 pid
  if (u8 b 0).testBit 7 then
    some { kind := u8 b 0 / 16 % 8, port := u8 b 1 % 128, spread := (u8 b 2).testBit 0, group := leN b 4 4 % 2 ^ 18,
           hops := (List.range 4).map fun k => if (u8 b (8 + k)).testBit 7 then some (u8 b (8 + k) % 128) else none }
  else none

/-- Is an OFL port in a state that carries flows (R169)? Its link is Active, or in Recovery with FAST_DOWN 0, and it has
been taken back into use. -/
def hopLive (s : State) (away : List Nat) (p : Nat) : Bool :=
  s.get (F.PORT_CFG_ROLE p) == 3 && !away.contains p
  && (s.get (F.OFL_STATUS_STATE p) == 3 || s.get (F.OFL_STATUS_STATE p) == 4 && !s.bit F.RTE_PATH_CTRL_FAST_DOWN)

/-- First slot of a flow (R169). -/
def hopSlot (e : PbrEnt) (spid dpid : Nat) : Nat :=
  if e.spread then
    let h := spid ^^^ dpid
    (h % 4) ^^^ (h / 4 % 4) ^^^ (h / 16 % 4) ^^^ (h / 64 % 4) ^^^ (h / 256 % 4) ^^^ (h / 1024 % 4)
  else 0

/-- The hop of a flow: the first live hop from its slot on, cyclically (R169). -/
def hopPick (s : State) (away : List Nat) (e : PbrEnt) (spid dpid : Nat) : Option Nat :=
  (List.range 4).findSome? fun i =>
    match e.hops.getD ((hopSlot e spid dpid + i) % 4) none with
    | some p => if hopLive s away p then some p else none
    | none => none

/-- The hop that a message would take with port p left out (R107). -/
def altHop (s : State) (q : Pkt) (p : Nat) : Option Nat :=
  match q.dpid with
  | none => none
  | some d =>
    match pbrEnt s d with
    | some e => if e.kind = 2 then hopPick s (p :: s.rte.away) e (q.spid.getD 0) d else none
    | none => none

/-- Does the restore in progress hold a flow: would it move to the restored port (R172)? -/
def flowHeld (s : State) (e : PbrEnt) (spid dpid : Nat) : Bool :=
  match s.rte.restore with
  | none => false
  | some r => hopPick s (s.rte.away.erase r.port) e spid dpid != hopPick s s.rte.away e spid dpid

/-! ## Virtual switches and bindings -/

/-- The VCS whose upstream port is p. -/
def vcsOfPort (s : State) (p : Nat) : Option Nat :=
  (List.range 64).find? fun v => s.bit (F.RTE_VCS_CFG_PRESENT v) && s.get (F.RTE_VCS_CFG_UPORT v) == p

/-- The VCS whose host ID is h. -/
def vcsOfHost (s : State) (h : Nat) : Option Nat :=
  (List.range 64).find? fun v => s.bit (F.RTE_VCS_CFG_PRESENT v) && s.get (F.RTE_VCS_CFG_HOSTID v) == h

/-- Upstream port of VCS v. -/
def uport (s : State) (v : Nat) : Nat := s.get (F.RTE_VCS_CFG_UPORT v)

/-- The binding of a vPPB, in any state. -/
def bindOf (s : State) (v k : Nat) : Option Nat :=
  (List.range 1024).find? fun n =>
    s.bit (F.RTE_BIND_VALID n) && s.get (F.RTE_BIND_VCS n) == v && s.get (F.RTE_BIND_VPPB n) == k

/-- Is binding n in use by decode: bound, or unbinding and not past step 3 of R161? -/
def bindLive (s : State) (n : Nat) : Bool :=
  s.get (F.RTE_BIND_STATE n) == 2 || s.get (F.RTE_BIND_STATE n) == 3 && !s.rte.cut.contains n

/-- The live binding of a message from downstream port p with an LD-ID (R152). -/
def bindFrom (s : State) (p ldid : Nat) : Option Nat :=
  (List.range 1024).find? fun n =>
    s.bit (F.RTE_BIND_VALID n) && s.get (F.RTE_BIND_KIND n) == 0 && s.get (F.RTE_BIND_PORT n) == p && bindLive s n
    && (s.get (F.RTE_BIND_LDID n) == 0xFFFF || s.get (F.RTE_BIND_LDID n) == ldid)

/-- The VCS has host-facing functions below vPPB k (R226). -/
def isFnVppb (s : State) (v k : Nat) : Bool := s.bit (F.HEP_VCS_EN v) && s.get (F.HEP_VCS_FVPPB v) == k

/-- Is function n presented in VCS v (R225)? -/
def fnIn (s : State) (n v : Nat) : Bool :=
  s.bit (F.HEP_VCS_EN v)
  && (if n = 0 then s.get F.HEP_PF_VCS == v
      else if n ≤ s.get F.HEP_PF_TOTAL_VFS then
        s.get F.HEP_PF_VCS == v && (s.fx 0).vfEnable && decide (n ≤ (s.fx 0).numVfs)
      else s.bit (F.HEP_FN_CFG_EXPORT n) && s.get (F.HEP_FN_CFG_VCS n) == v)

/-- Is function n a virtual function (R225)? -/
def isVf (s : State) (n : Nat) : Bool := n != 0 && decide (n ≤ s.get F.HEP_PF_TOTAL_VFS)

/-- The VCS that function n belongs to (R225), whether or not it is presented there now. -/
def fnHome (s : State) (n : Nat) : Nat :=
  if n ≤ s.get F.HEP_PF_TOTAL_VFS then s.get F.HEP_PF_VCS else s.get (F.HEP_FN_CFG_VCS n)

/-- The VCS that presents function n, if one does. -/
def fnVcs (s : State) (n : Nat) : Option Nat := if fnIn s n (fnHome s n) then some (fnHome s n) else none

/-- Routing ID of function n in VCS v: the bus is the secondary bus of the function vPPB. -/
def fnRid (s : State) (v n : Nat) : Nat :=
  256 * (s.vx v (s.get (F.HEP_VCS_FVPPB v))).sec + (if n ≤ s.get F.HEP_PF_TOTAL_VFS then n else s.get (F.HEP_FN_CFG_SLOT n))

/-- The function of VCS v with a routing ID: presented, or still in shutdown. -/
def fnOfRid (s : State) (v rid : Nat) : Option Nat :=
  (List.range 1024).find? fun n => (fnIn s n v || (s.fx n).shut.isSome && fnHome s n == v) && fnRid s v n == rid

/-- The egress point of a completion to a function: the engine that the tag belongs to, else the functions' own. -/
def fnCplTo (s : State) (v : Nat) (q : Pkt) : Nat :=
  match fnOfRid s v q.rid with
  | none => 124
  | some n =>
    match (s.fx n).out.find? fun x => x.1 == q.tag with
    | some x => 108 + x.2.1
    | none => 124

/-- Base of BAR0 of function n, with its enable: VF BARs lie one after the other (R228). -/
def bar0Of (s : State) (n : Nat) : Nat := if isVf s n then (s.fx 0).vfBar0 + (n - 1) * 65536 else (s.fx n).bar0

/-- log2 of the BAR2 size of function n; 0 absent. The window size of VF 1 applies to every VF (R228). -/
def winSize (s : State) (n : Nat) : Nat := s.get (F.HEP_FN_WIN_WIN_SIZE (if isVf s n then 1 else n))

/-- Base of BAR2 of function n. -/
def bar2Of (s : State) (n : Nat) : Nat :=
  if isVf s n then (s.fx 0).vfBar2 + (n - 1) * 2 ^ winSize s n else (s.fx n).bar2

/-- Does function n decode memory: Memory Space Enable, or that of the VFs? -/
def fnMemOn (s : State) (n : Nat) : Bool := if isVf s n then (s.fx 0).vfMse else (s.fx n).cmd.testBit 1

/-- The function of VCS v whose BARs hold address a. -/
def fnAt (s : State) (v a : Nat) : Option Nat :=
  (List.range 1024).find? fun n =>
    fnIn s n v && fnMemOn s n
    && (decide (bar0Of s n ≤ a) && decide (a < bar0Of s n + 65536)
        || winSize s n != 0 && decide (bar2Of s n ≤ a) && decide (a < bar2Of s n + 2 ^ winSize s n))

/-- Is a in a range? -/
def inRange (r : Nat × Nat) (a : Nat) : Bool := decide (r.1 ≤ a) && decide (a ≤ r.2)

/-- Does vPPB k of VCS v carry address a of a request? -/
def vppbHas (s : State) (v k : Nat) (q : Pkt) : Bool :=
  let x := s.vx v k
  if q.op == .ioRd || q.op == .ioWr then x.cmd.testBit 0 && inRange x.io q.addr
  else x.cmd.testBit 1 && (inRange x.mem q.addr || inRange x.pref q.addr)

/-- Does the bus range of vPPB k of VCS v hold bus b? -/
def vppbBus (s : State) (v k b : Nat) : Bool :=
  (s.vx v k).sec != 0 && decide ((s.vx v k).sec ≤ b) && decide (b ≤ (s.vx v k).sub)

/-- vPPB of VCS v by a test. -/
def vppbWhere (s : State) (v : Nat) (f : Nat → Bool) : Option Nat :=
  (List.range (min 256 (s.get (F.RTE_VCS_CFG_VPPBS v)))).find? f

/-! ## The pool's mapping (R205 to R212) -/

/-- DRAM extents in service. -/
def dramExts (s : State) : Nat := s.get F.POOL_CFG_EXTENTS

/-- The proxy window that holds backing extent b (R205). -/
def proxyWin (s : State) (b : Nat) : Option Nat :=
  (List.range 8).find? fun k =>
    s.bit (F.POOL_PROXY_VALID k) && decide (s.get (F.POOL_PROXY_BASE k) ≤ b)
    && decide (b < s.get (F.POOL_PROXY_BASE k) + s.get (F.POOL_PROXY_COUNT k))

/-- The channels of the interleave set, ascending (R206). -/
def chanSet (s : State) : List Nat := (List.range 12).filter fun c => s.hasBit F.POOL_CFG_CHANNELS c

/-- Channel of a pool byte offset (R206). -/
def chanOf (s : State) (o : Nat) : Nat := (chanSet s).getD (o / 256 % (chanSet s).length) 0

/-- Is backing extent b in the Leat region (R205)? -/
def inLeat (s : State) (b : Nat) : Bool :=
  decide (b < dramExts s) && decide (dramExts s - min (s.get F.POOL_LEAT_SIZE) (dramExts s) ≤ b)

/-- Contents of the extent table at b: fixed for Leat and absent extents, and for those
that the initial zeroing has yet to reach (R205, R209, R213). -/
def extAt (s : State) (b : Nat) : Ext :=
  if inLeat s b then { state := 5 }
  else if s.pool.zeroFrom ≤ b ∧ b < s.pool.zeroEnd then { state := 4 }
  else if 24576 ≤ b || (decide (dramExts s ≤ b) && (proxyWin s b).isNone) then { state := 6 }
  else tget {} s.pool.ext b

/-- Expander DPA of an offset in backing extent b, through proxy window k (R210). -/
def proxyDpa (s : State) (k b off : Nat) : Nat :=
  (s.get (F.POOL_PROXY_DPA_BASE k) + b - s.get (F.POOL_PROXY_BASE k)) * 2 ^ 28 + off

/-- Home line address of an offset in backing extent b (R178, R210). -/
def hlaOf (s : State) (b off : Nat) : Nat :=
  match (if b < dramExts s then none else proxyWin s b) with
  | none => (b * 2 ^ 28 + off) / 64 % 2 ^ 45
  | some k => 2 ^ 45 + s.get (F.POOL_PROXY_EXP k) * 2 ^ 40 + proxyDpa s k b off / 64 % 2 ^ 40

/-! ## Outcomes of decode -/

/-- What decode decides for a packet. -/
inductive Dec
  /-- one egress point -/
  | to (e : Nat) (q : Pkt)
  /-- sent to the upstream port in place of a direct peer path (R164) -/
  | redirected (e : Nat) (q : Pkt)
  | group (g : Nat) (ps : List Nat) (q : Pkt)
  /-- a line of a shared region: the directory (R174) -/
  | dir (hla grp : Nat) (q : Pkt)
  /-- the routing unit holds the flow (R172) -/
  | hold
  /-- decode miss (R153) -/
  | miss
  /-- completion with Unsupported Request, or Completer Abort -/
  | refuse (abort : Bool)
  /-- memory read of a gone device answered with all ones (R241) -/
  | ones (v : Nat)
  | discard
  /-- ACS Violation of source binding n (R164) -/
  | acs (n : Nat)
  /-- a response for a freed binding (R161) -/
  | late
deriving DecidableEq, Repr

/-- A memory access to backing extent b at an offset, once its extent is known to be served: DRAM channel or expander
(R191, R206). -/
def decMem (s : State) (b off : Nat) (q : Pkt) : Dec :=
  if b < dramExts s then
    let o := b * 2 ^ 28 + off
    .to (96 + chanOf s o) { q with addr := o }
  else match proxyWin s b with
    | none => .miss
    | some k =>
      let e := s.get (F.POOL_PROXY_EXP k)
      if s.bit (F.COH_PROXY_VALID e) then
        .to (s.get (F.COH_PROXY_PORT e)) { q with addr := proxyDpa s k b off, ldid := s.get (F.COH_PROXY_LDID e), spid := none, dpid := none }
      else .miss

/-- LD map slot (R209). -/
def mapSlot (s : State) (i : Nat) : Nat := tget 0 s.pool.map i ^^^ 0xFFFF

/-! ## IDE (R382, R383) -/

/-- Number of a stream of a port: direction (1 transmit), sub-stream, stream. -/
def ideStream (p dir sub stream : Nat) : Nat := ((p * 2 + dir) * 4 + sub) * 16 + stream

/-- Is a key set of the stream in effect? -/
def ideIn (s : State) (p dir sub stream : Nat) : Bool := tget 0 s.gov.ideOn (ideStream p dir sub stream) != 0

/-- Is the link stream of port p secure in both directions? -/
def linkSecure (s : State) (p : Nat) : Bool :=
  ([0, 1, 2] : List Nat).all fun sub => ideIn s p 0 sub 0 && ideIn s p 1 sub 0

/-- Does port p carry nothing but configuration requests (R383)? -/
def ideBlocked (s : State) (p : Nat) : Bool :=
  (s.get F.GOV_POLICY_IDE).testBit 0 && s.get (F.PORT_CFG_ROLE p) == 1 && !linkSecure s p

/-- Does a CXL.mem request arrive in a secure stream? -/
def memSecure (s : State) : Src → Bool
  | .port p => ideIn s p 0 3 9
  | _ => false

/-- The decode of R210 for pool LD n; under the policy of R383 only for requests of a secure stream. -/
def decPool (s : State) (n : Nat) (q : Pkt) : Dec :=
  if !s.bit (F.POOL_LD_EN n) || ((s.get F.GOV_POLICY_IDE).testBit 1 && !memSecure s q.src) then .miss
  else match (tget [] s.pool.ldDecs n).find? fun d =>
      decide (d.base ≤ q.addr / 2 ^ 28) && decide (q.addr / 2 ^ 28 < d.base + d.size) with
    | none => .miss
    | some d =>
      let dpa := q.addr - d.base * 2 ^ 28 + d.dpa
      let i := dpa / 2 ^ 28
      if s.get (F.POOL_LD_MAP_MAP_COUNT n) ≤ i ∨ 0xFFFF < s.get (F.POOL_LD_MAP_MAP_BASE n) + i then .miss
      else
        let b := mapSlot s (s.get (F.POOL_LD_MAP_MAP_BASE n) + i)
        let x := extAt s b
        if b = 0xFFFF then .miss
        else if x.state ≠ 2 ∨ x.dpaIndex ≠ i then .miss
        else if x.shared ≠ decide (s.get (F.POOL_LD_MAP_SHARED_FIRST n) ≤ i) then .miss
        else if x.shared then .dir (hlaOf s b (dpa % 2 ^ 28)) x.owner { q with ldid := n }
        else if x.owner ≠ n then .miss
        else decMem s b (dpa % 2 ^ 28) { q with ldid := n }

/-- An access of a requester of this device through the DRAM pool region of the internal map (R212). -/
def decPoolRegion (s : State) (q : Pkt) : Dec :=
  let a := q.addr - 0x100000000000
  let x := extAt s (a / 2 ^ 28)
  if 4 ≤ x.state then .miss
  else if x.shared then .dir (hlaOf s (a / 2 ^ 28) (a % 2 ^ 28)) x.owner { q with ldid := 0xFFFF }
  else decMem s (a / 2 ^ 28) (a % 2 ^ 28) { q with ldid := 0xFFFF }

/-- The remote pool LD of an SPID (R208). -/
def remoteLd (s : State) (spid : Nat) : Option Nat :=
  (List.range 64).find? fun n =>
    s.bit (F.POOL_LD_EN n) && s.bit (F.POOL_LD_REMOTE n) && s.get (F.POOL_LD_RPID n) == spid

/-- Does a message ask or tell the pool something: M2S? -/
def Pkt.isM2S (q : Pkt) : Bool := q.cls == .mReq || q.cls == .mRwD || q.cls == .biRsp

/-! ## Decode (R151, R152, R164, R238 to R241) -/

/-- A BIRsp that decodes to a shared line belongs to the directory's queue (R116). -/
def dirOrRsp (d : Dec) : Dec :=
  match d with
  | .dir hla _ q => if q.cls == .biRsp then .to 126 { q with addr := hla } else d
  | _ => d

/-- Route by the PBR entry of a DPID (R145, R151); from is the OFL port that the packet arrived on. -/
def decPbr (s : State) (src : Option Nat) (d : Nat) (q : Pkt) : Dec :=
  match pbrEnt s d with
  | none => .miss
  | some e =>
    if e.kind = 0 then
      if s.get (F.PORT_CFG_ROLE e.port) == 1 || s.get (F.PORT_CFG_ROLE e.port) == 2 then
        let pbr := (List.range 1024).any fun n =>
          s.bit (F.RTE_BIND_VALID n) && s.get (F.RTE_BIND_KIND n) == 0 && s.get (F.RTE_BIND_PORT n) == e.port
          && s.bit (F.RTE_BIND_PBR n)
        .to e.port (if pbr then q else { q with dpid := none })
      else .miss
    else if e.kind = 1 then
      if !q.isM2S || !s.bit F.RTE_POOL_PID_VALID || s.get F.RTE_POOL_PID_PID != d then .miss
      else match remoteLd s (q.spid.getD 0) with
        | none => .miss
        | some n => dirOrRsp (decPool s n q)
    else if e.kind = 2 then
      if flowHeld s e (q.spid.getD 0) d then .hold
      else match hopPick s s.rte.away e (q.spid.getD 0) d with
        | none => .miss
        | some p => if src = some p then .miss else .to p { q with dpid := some d }
    else if e.kind = 3 then
      match mcGroup s e.group with
      | none => .miss
      | some ps => if q.posted && q.op == .memWr then .group e.group ps q else .miss
    else if e.kind = 4 then .to 125 q
    else .miss

/-- What a gone device answers (R241). -/
def decGone (s : State) (v : Nat) (q : Pkt) : Dec :=
  if q.cls == .ioReq then
    if q.posted then .discard
    else if q.op == .memRd && s.bit (F.HEP_VCS_ALL_ONES v) then .ones v
    else .refuse false
  else .miss

/-- A request that decode has resolved to vPPB k of VCS v; port is where it entered (R152, R154, R238, R241). -/
def decVppb (s : State) (v k port : Nat) (q : Pkt) : Dec :=
  match bindOf s v k with
  | none => .miss
  | some n =>
    let x := s.vx v k
    let p := s.get (F.RTE_BIND_PORT n)
    if x.contained then
      (if q.cls == .ioReq then (if q.posted then .discard else .refuse x.dpcAbort) else .miss)
    else if s.rte.surprise.contains n then decGone s v q
    else if s.get (F.RTE_BIND_STATE n) = 1 ∨ !bindLive s n then .miss
    else
      let q := { q with bind := some n }
      if s.get (F.RTE_BIND_KIND n) = 1 then
        (if q.isM2S then dirOrRsp (decPool s (s.get (F.RTE_BIND_LDID n)) q) else .to 124 q)
      else if s.get (F.PORT_CFG_ROLE p) == 3 then
        decPbr s none (s.get (F.RTE_BIND_RPID n))
          { q with spid := some (s.get (F.RTE_PORT_PID_PID port)), dpid := some (s.get (F.RTE_BIND_RPID n)) }
      else if !(s.px p).up then decGone s v q
      else .to p { q with ldid := s.get (F.RTE_BIND_LDID n), spid := none
                          dpid := if s.bit (F.RTE_BIND_PBR n) then q.dpid else none }

/-- A completion (R152): by requester ID, through the bus ranges of VCS v; from is the vPPB that it came through. -/
def decCpl (s : State) (v : Nat) (src : Option Nat) (q : Pkt) : Dec :=
  match vppbWhere s v fun k => vppbBus s v k (q.rid / 256) with
  | some k =>
    let back := match src with
      | some j => (s.vx v j).acs.testBit 3
      | none => false
    if isFnVppb s v k then .to (fnCplTo s v q) q
    else if back then .to (uport s v) q
    else match bindOf s v k with
      | none => .miss
      | some n =>
        let p := s.get (F.RTE_BIND_PORT n)
        if !bindLive s n then .miss
        else if s.get (F.RTE_BIND_KIND n) = 1 then .to 124 q
        else if s.get (F.PORT_CFG_ROLE p) == 3 then
          decPbr s none (s.get (F.RTE_BIND_RPID n)) { q with dpid := some (s.get (F.RTE_BIND_RPID n)) }
        else .to p { q with ldid := s.get (F.RTE_BIND_LDID n) }
  | none => if src.isSome then .to (uport s v) q else .miss

/-- A packet from upstream port p of VCS v (R152). -/
def decUp (s : State) (v p : Nat) (q : Pkt) : Dec :=
  match q.cls with
  | .mReq | .mRwD | .biRsp =>
    match hdmTarget s v q.addr with
    | none => .miss
    | some k => decVppb s v k p q
  | .ioReq =>
    if q.op == .cfgRd || q.op == .cfgWr then
      let bus := q.addr / 2 ^ 20
      match vppbWhere s v fun k => vppbBus s v k bus with
      | some k => if isFnVppb s v k then .to 124 q else decVppb s v k p q
      | none => if bus == (s.ux v).prim || bus == (s.ux v).sec then .to 124 q else .miss
    else match (if q.op == .ioRd || q.op == .ioWr then none else fnAt s v q.addr) with
      | some _ => .to 124 q
      | none =>
        match vppbWhere s v fun k => !isFnVppb s v k && vppbHas s v k q with
        | some k => decVppb s v k p q
        | none => .miss
  | .ioCpl => decCpl s v none q
  | .cacheH2D =>
    match vppbWhere s v fun k => vppbBus s v k (q.rid / 256) with
    | some k =>
      match bindOf s v k with
      | some n => if s.bit (F.RTE_BIND_CACHE n) then decVppb s v k p q else .miss
      | none => .miss
    | none => .miss
  | .mctp => .to 125 q
  | _ => .miss

/-- The peer checks of R164 for source binding n towards vPPB k of the same VCS; window says that a window was hit. -/
def peerCheck (s : State) (v n k : Nat) (q : Pkt) (window : Option WinEnt) : Dec :=
  let sv := s.get (F.RTE_BIND_VPPB n)
  let x := s.vx v sv
  let up := fun (q : Pkt) => if window.isSome then Dec.acs n else Dec.redirected (uport s v) q
  match bindOf s v k with
  | none => .miss
  | some t =>
    let rule := peerRule s n
    if !bindLive s t then .miss
    else if x.acs.testBit 0 && !vppbBus s v sv (q.rid / 256) then .acs n
    else if x.acs.testBit 5 && x.egress.testBit k then .acs n
    else if !rule.1 || !rule.2.testBit (s.get (F.RTE_BIND_PORT t)) then up q
    else if window.isNone && x.acs.testBit 2 && !(q.trans && x.acs.testBit 6) then .redirected (uport s v) q
    else match window with
      | some w =>
        if w.noRead && !q.posted then .refuse false
        else decVppb s v k (s.get (F.RTE_BIND_PORT n))
          { q with addr := w.outBase + (q.addr - w.inBase), win := some (v, s.get (F.RTE_VCS_TBL_WIN_VERSION v)) }
      | none => decVppb s v k (s.get (F.RTE_BIND_PORT n)) q

/-- A window that names a multicast group (R147, R149, R164). -/
def winGroup (s : State) (v n : Nat) (w : WinEnt) (q : Pkt) : Dec :=
  let x := s.vx v (s.get (F.RTE_BIND_VPPB n))
  if x.acs.testBit 0 && !vppbBus s v (s.get (F.RTE_BIND_VPPB n)) (q.rid / 256) then .acs n
  else if !(peerRule s n).1 then .acs n
  else match mcGroup s w.target with
    | none => .miss
    | some ps =>
      if q.posted && q.op == .memWr then
        .group w.target ps { q with addr := w.outBase + (q.addr - w.inBase),
                                    win := some (v, s.get (F.RTE_VCS_TBL_WIN_VERSION v)) }
      else if w.noRead && !q.posted then .refuse false
      else .miss

/-- A CXL.io or PCIe request of source binding n in VCS v (R152, R164). -/
def decDownReq (s : State) (v n : Nat) (q : Pkt) : Dec :=
  if q.op == .cfgRd || q.op == .cfgWr then .miss
  else match (if q.op == .memRd || q.op == .memWr || q.op == .atomic then winHit s v n q.addr else none) with
    | some w =>
      if w.mc then winGroup s v n w q
      else if s.get (F.RTE_BIND_VCS (w.target % 1024)) != v || !s.bit (F.RTE_BIND_VALID (w.target % 1024)) then .miss
      else peerCheck s v n (s.get (F.RTE_BIND_VPPB (w.target % 1024))) q (some w)
    | none =>
      match vppbWhere s v fun k => k != s.get (F.RTE_BIND_VPPB n) && !isFnVppb s v k && vppbHas s v k q with
      | some k => peerCheck s v n k q none
      | none => .to (uport s v) q

/-- Is a packet a response: S2M, a completion, a cache message? -/
def Pkt.isRsp (q : Pkt) : Bool := q.cls == .sNdr || q.cls == .sDrs || q.cls == .ioCpl

/-- The oldest request sent to port p that a response answers; a binding's where bound is given. -/
def sentMatch (s : State) (p : Nat) (bound : Option Nat) (q : Pkt) : Option Sent :=
  s.rte.sent.find? fun x => x.port == p && x.bind == bound && x.q.tag == q.tag && (q.cls != .ioCpl || x.q.rid == q.rid)

/-- Egress and packet of an answer to a request that has no route of its own in the tables: by where the request came
from. none where nobody waits for it. -/
def backTo (s : State) (req q : Pkt) : Dec :=
  match req.src with
  | .port p =>
    if s.get (F.PORT_CFG_ROLE p) == 3 then
      match req.spid with
      | some d => decPbr s none d { q with spid := req.dpid, dpid := some d }
      | none => .miss
    else .to p { q with spid := none, dpid := none, ldid := req.ldid }
  | .hop e _ => .to (108 + e) q
  | .bridge _ | .fn _ => .to 124 q
  | .core _ => .to 125 q
  | .dir _ => .to 126 q
  | .pool _ | .none => .discard

/-- A packet from downstream port p (R152). -/
def decDown (s : State) (p : Nat) (q : Pkt) : Dec :=
  match bindFrom s p q.ldid with
  | some n =>
    let v := s.get (F.RTE_BIND_VCS n)
    let k := s.get (F.RTE_BIND_VPPB n)
    if (s.vx v k).contained then .discard
    else match q.cls with
      | .ioReq => decDownReq s v n q
      | .ioCpl => decCpl s v (some k) q
      | .cacheD2H => if s.bit (F.RTE_BIND_CACHE n) then .to (uport s v) q else .miss
      | .sNdr | .sDrs | .biSnp => .to (uport s v) q
      | .mctp => .to 125 q
      | _ => .miss
  | none =>
    if q.cls == .mctp then .to 125 q
    else if s.rte.late.contains (p, q.tag) then .late
    else if q.isRsp then
      match sentMatch s p none q with
      | some x =>
        backTo s x.q (if s.get (F.PORT_CFG_ROLE p) == 2 && x.q.spid.isSome then
          { q with spid := some (s.get (F.RTE_PORT_PID_PID p)) } else q)
      | none => .miss
    else .miss

/-- A packet from an internal requester that has not been resolved by its own unit: the DRAM pool region (R212). -/
def decInner (s : State) (q : Pkt) : Dec :=
  if 0x100000000000 ≤ q.addr then decPoolRegion s q else .miss

/-- What a port that IDE closes does with a packet that is to pass it (R383). -/
def decIde (s : State) (p : Nat) (q : Pkt) (d : Dec) : Dec :=
  if !ideBlocked s p || q.op == .cfgRd || q.op == .cfgWr then d
  else if q.cls == .ioReq then (if q.posted then .discard else .refuse false)
  else if q.isReq then .miss
  else d

/-- The decode of a packet by its source (R152). -/
def decBySrc (s : State) (x : Present) : Dec :=
  match x.dst with
  | some e => .to e x.pkt
  | none =>
    match x.src with
    | .port p =>
      let r := s.get (F.PORT_CFG_ROLE p)
      if r = 3 then
        (match x.pkt.dpid with
         | some d => decPbr s (some p) d x.pkt
         | none => .miss)
      else if r = 1 then
        (match vcsOfPort s p with
         | some v => decUp s v p x.pkt
         | none => .miss)
      else if r = 2 then decDown s p x.pkt
      else .miss
    | .dir _ | .none =>
      (match x.pkt.dpid with
       | some d => decPbr s none d x.pkt
       | none => .discard)
    | _ => decInner s x.pkt

/-- The decode stage of the Headrace (R152). -/
def decode (s : State) (x : Present) : Dec :=
  let d := match x.src with
    | .port p => decIde s p x.pkt (decBySrc s x)
    | _ => decBySrc s x
  match d with
  | .to e q => if e < 96 then decIde s e q d else d
  | .redirected e q => if e < 96 then decIde s e q d else d
  | _ => d

/-! ## Errors at vPPBs (R235 to R237) -/

/-- Log an uncorrectable error, by its bit, in an AER capability (R237): the header of the first unmasked one is held. -/
def Aer.logUnc (a : Aer) (bit : Nat) (h : Option Pkt) : Aer :=
  let a' := { a with unc := a.unc ||| 2 ^ bit }
  if !a.uncMask.testBit bit && a.first.isNone then { a' with first := some bit, hdr := h } else a'

/-- Log a correctable error. -/
def Aer.logCor (a : Aer) (bit : Nat) : Aer := { a with cor := a.cor ||| 2 ^ bit }

/-! ## Answers (R131, R153) -/

/-- A completion or response to a request: class, operation, and the requester's tag; the route is that of R153. -/
def reply (q : Pkt) (cls : Cls) (op : Op) (status : Nat) (poison : Bool) : Pkt :=
  { cls := cls, op := op, tc := q.tc, tag := q.tag, addr := q.addr, rid := q.rid, ldid := q.ldid,
    spid := q.dpid, dpid := q.spid, len := 64, status := status, poison := poison, src := q.src, qc := q.qc }

/-- Poisoned data for a CXL.mem read. -/
def poisonReply (q : Pkt) : Pkt := reply q .sDrs .memData 0 true

/-- What a failed read of a link declared down gets (R107): poison, or Completer Abort. -/
def failedRead (q : Pkt) : Pkt :=
  if q.cls == .mReq then poisonReply q else reply q .ioCpl .cpl 4 false

/-- Present a packet to the Headrace. -/
def present (s : State) (x : Present) : State := s.modMill fun m => { m with presented := m.presented ++ [x] }

/-- A completion of function n to the host of its VCS: tag and requester ID of the request, data. -/
def fnCpl (s : State) (n : Nat) (tag rid tc addr status : Nat) (d : Bytes) (poison : Bool) : State :=
  present s ⟨.fn n, { cls := .ioCpl, op := if d.isEmpty then .cpl else .cplD, tc := tc, tag := tag, addr := addr, rid := rid,
                      data := d, poison := poison, status := status, len := 16 + d.length, src := .fn n },
             some (uport s (fnHome s n)), none⟩

/-- Data that the pool returns for a host's window read go back to the host as a completion (R231). -/
def bridgeAnswer (s : State) (n : Nat) (q : Pkt) : State :=
  match (s.fx n).winRds.find? fun w => w.id == q.tag with
  | some w =>
    fnCpl (s.modFx n fun x => { x with winRds := x.winRds.erase w }) n w.tag w.rid w.tc w.addr 0
      ((q.data.drop w.skip).take w.len ++ List.replicate (w.len - ((q.data.drop w.skip).take w.len).length) 0#8) q.poison
  | none => s

/-- A completion that reaches the functions and that nobody waits for: late for a reclaimed tag (R244), else unexpected
(R236). -/
def fnStray (s : State) (p : Nat) (q : Pkt) : State :=
  match (vcsOfPort s p).bind fun v => fnOfRid s v q.rid with
  | none => s.out (.pkt 124 q)
  | some n =>
    if (s.fx n).reclaimed.contains q.tag then s.inc F.HEP_CNT0_LATE_CPL
    else (s.modFx n fun x => { x with aer := x.aer.logUnc 16 (some q) }).raise (1984 + 2 * (n / 16) + 1)

/-- Present an answer to a request towards its requester. -/
def answer (s : State) (req : Pkt) (a : Pkt) : State :=
  match backTo s req a with
  | .to e q => present s ⟨.none, { q with banks := [] }, some e, none⟩
  | .hold => present s ⟨.none, { a with spid := req.dpid, dpid := req.spid, banks := [] }, none, none⟩
  | _ => s

/-- Brake detail of a dropped write (R362): source as a PID or a PORT index, destination as an egress point or a PID. -/
def droppedDetail (q : Pkt) (e : Nat) : Detail :=
  let src := match q.spid, q.src with
    | some d, _ => 0x8000 + d
    | none, .port p => p
    | none, .hop h _ => 108 + h
    | none, .core _ => 125
    | none, .dir _ => 126
    | none, _ => 124
  let dst := match q.dpid with
    | some d => 0x8000 + d
    | none => e
  .dropped q.addr q.tag src dst q.cls.code (if q.cls == .ioReq then q.tc else 0)

/-- A decode miss (R153). -/
def decodeMiss (s : State) (q : Pkt) : State :=
  let s := sampleErr (s.inc F.RTE_CNT0_DECODE_MISS) q
  if q.cls == .mReq && (q.op == .mRd || q.op == .mRdData) then answer s q (poisonReply q)
  else if q.cls == .mReq || q.cls == .mRwD then
    (answer s q (reply q .sNdr .cmp 0 false)).raise 1360 (droppedDetail q (Config.missDest q % 128))
  else if q.cls == .ioReq then
    (if q.posted then s.raise 1360 (droppedDetail q (Config.missDest q % 128)) else answer s q (reply q .ioCpl .cpl 1 false))
  else s

end Sys2Proof.Machine
end

