-- ==== Sys2Proof/Machine/Buffer.lean ====
section
/-! DEFINITION. The shared buffer: cells, shares, queues, congestion, multicast references, flushed packets, and what a
link reported up or down does to its port (R110 to R133). -/

namespace Sys2Proof.Machine

/-! ## Cells (R110, R112) -/

/-- Is bank b mapped out (R142)? -/
def bankOut (s : State) (b : Nat) : Bool := s.hasBit (F.SWC_BANK_OUT_OUT (b / 64)) (b % 64)

/-- Banks in service. -/
def banksIn (s : State) : Nat := 256 - s.get F.SWC_STATUS_BANKS_OUT

/-- Cells held by class c now (R118). -/
def classOcc (s : State) (c : Nat) : Nat := s.get (F.SWC_CLASS_OCC_OCC c)

/-- Set the cells held by a class, with the highest value since the last read. -/
def putOcc (s : State) (c n : Nat) : State :=
  (s.put (F.SWC_CLASS_OCC_OCC c) n).put (F.SWC_CLASS_OCC_PEAK c) (max n (s.get (F.SWC_CLASS_OCC_PEAK c)))

/-- One cell returns to its bank's free list, which a mapped-out bank no longer has. -/
def freeCell (s : State) (b : Nat) : State :=
  let s := s.modMill fun m => { m with used := tmod 0 m.used b (· - 1) }
  if bankOut s b then s else s.put F.SWC_STATUS_FREE (s.get F.SWC_STATUS_FREE + 1)

/-- Free the cells of a packet, with its class's count. -/
def freeCells (s : State) (q : Pkt) : State :=
  putOcc (q.banks.foldl freeCell s) q.qc (classOcc s q.qc - q.banks.length)

/-- The next bank of the rotation, from b on, that is in service and has a free cell (R112). -/
def nextBank (s : State) (used : Tab Nat) (b : Nat) : Option Nat :=
  ((List.range 256).map fun i => (b + i) % 256).find? fun k => !bankOut s k && decide (tget 0 used k < 2048)

/-- Banks for n cells: consecutive in the rotation. -/
def pickBanks (s : State) : Nat → Nat → Tab Nat → List Nat × Nat × Tab Nat
  | 0, b, used => ([], b, used)
  | n + 1, b, used =>
    match nextBank s used b with
    | none => ([], b, used)
    | some k =>
      let r := pickBanks s n ((k + 1) % 256) (tmod 0 used k (· + 1))
      (k :: r.1, r.2)

/-- The write of a cell of bank b and of its link entry, where an injection is armed (R367). Which cell of the free list it is is
a free value. -/
def cellWrite (s : State) (b : Nat) : State :=
  if !s.bit F.BRK_INJ_CTRL_ARM then s
  else
    let c := Config.freeNat s.fresh % 524288
    injWrite (injWrite s.bump 1 b (4 * c)) 2 b (c % 2048)

/-- Give a packet its cells and class; its class counts it. -/
def takeCells (s : State) (c : Nat) (q : Pkt) : State × Pkt :=
  let r := pickBanks s (cellsOf q) s.mill.rot s.mill.used
  let s := s.modMill fun m => { m with rot := r.2.1, used := r.2.2 }
  let s := s.put F.SWC_STATUS_FREE (s.get F.SWC_STATUS_FREE - r.1.length)
  (r.1.foldl cellWrite (putOcc s c (classOcc s c + r.1.length)), { q with banks := r.1, qc := c })

/-! ## Queues and congestion (R116, R121, R124) -/

/-- Queue number of egress point e and class c. -/
def queueNo (e c : Nat) : Nat := 8 * e + c

/-- Entries of a queue, first out first. -/
def queue (s : State) (k : Nat) : List QEnt := tget [] s.mill.queues k

/-- Replace a queue's entries. -/
def putQueue (s : State) (k : Nat) (l : List QEnt) : State :=
  s.modMill fun m => { m with queues := tput [] m.queues k l }

/-- Cells that a queue holds on chip. -/
def queueOcc (s : State) (k : Nat) : Nat := ((queue s k).map fun x => if x.lost then 0 else cellsOf x.pkt).sum

/-- A level in 64ths of MAX, raised to one cell (R121). -/
def level (s : State) (c n : Nat) : Nat := max 1 (n * s.get (F.SWC_CLASS_SHARE_MAX c) / 64)

/-- Queue cap of class c in cells (R118). -/
def queueCap (s : State) (c : Nat) : Nat :=
  (if s.get (F.SWC_CLASS_CTRL_QCAP c) = 0 then 64 else s.get (F.SWC_CLASS_CTRL_QCAP c))
    * s.get (F.SWC_CLASS_SHARE_MAX c) / 64

def isCongested (s : State) (k : Nat) : Bool := s.mill.congested.contains k

/-- Bring a queue's congested state up to date; when the queue of the class of kind 9 stops being congested its egress
point's hold starts (R121, R124). -/
def updCong (s : State) (k : Nat) : State :=
  let c := k % 8
  let w := s.get (F.SWC_CLASS_CTRL_WEIR c)
  let o := queueOcc s k
  if isCongested s k then
    if w = 0 ∨ o < level s c (w - s.get (F.SWC_CLASS_CTRL_HYST c)) then
      let s := s.modMill fun m => { m with congested := m.congested.erase k }
      if c = reqClass s ∧ !s.mill.holds.contains (k / 8) then
        s.modMill fun m => { m with holds := m.holds ++ [k / 8] }
      else s
    else s
  else if w ≠ 0 ∧ level s c w ≤ o then s.modMill fun m => { m with congested := m.congested ++ [k] }
  else s

/-- Congestion state of egress point e (R124). -/
def congState (s : State) (e : Nat) : Bool := isCongested s (queueNo e (reqClass s)) || s.mill.holds.contains e

/-- Put an entry on a queue. -/
def pushQueue (s : State) (k : Nat) (x : QEnt) : State := updCong (putQueue s k (queue s k ++ [x])) k

/-- Is egress point e open: a port must be up with its flush complete (R130, R133)? -/
def egressOpen (s : State) (e : Nat) : Bool :=
  if e < 96 then (s.px e).up && tget 0 s.mill.stop e == 0 else true

/-! ## Requests in progress (R161) -/

/-- A request decoded to a local downstream port, the pool or a binding is outstanding until it is completed. -/
def sentAdd (s : State) (e : Nat) (q : Pkt) : State :=
  if !q.isReq || q.posted then s
  else if q.bind.isNone && !(decide (e < 96) && s.get (F.PORT_CFG_ROLE e) == 2) then s
  else
    let s := s.modRte fun r => { r with sent := r.sent ++ [⟨q.bind, e, { q with data := [], banks := [] }⟩] }
    match q.bind with
    | some n => s.put (F.RTE_BIND_OUT_OUTSTANDING n) (s.get (F.RTE_BIND_OUT_OUTSTANDING n) + 1)
    | none => s

/-- A request is completed. -/
def sentDone (s : State) (x : Sent) : State :=
  let s := s.modRte fun r => { r with sent := r.sent.erase x }
  match x.bind with
  | some n => s.put (F.RTE_BIND_OUT_OUTSTANDING n) (s.get (F.RTE_BIND_OUT_OUTSTANDING n) - 1)
  | none => s

/-- The record of a request that the device itself answers. -/
def sentOf (s : State) (q : Pkt) : Option Sent :=
  s.rte.sent.find? fun x => x.bind == q.bind && x.q.tag == q.tag && x.q.src == q.src && x.q.cls == q.cls

def sentClose (s : State) (q : Pkt) : State :=
  match sentOf s q with
  | some x => sentDone s x
  | none => s

/-! ## Multicast references (R126 to R128) -/

/-- A multicast packet whose last reference is gone: its cells are freed, and missed copies are recorded once. -/
def mcEnd (s : State) (m : McPkt) : State :=
  let s := freeCells (s.modMill fun x => { x with mcasts := x.mcasts.filter fun y => y.id != m.id }) m.pkt
  if m.missed = 0 then s
  else
    let s := (s.put F.SWC_MC_MISS0_PORTS (m.missed % 2 ^ 64)).put F.SWC_MC_MISS1_PORTS (m.missed / 2 ^ 64)
    ((s.put F.SWC_MC_MISS1_GROUP m.group).put F.SWC_MC_MISS1_VALID 1).raise 1344 (.mcMiss m.missed m.group)

/-- Release one reference; port is the target that lost its copy, if it did. -/
def mcRelease (s : State) (id : Nat) (port : Option Nat) : State :=
  match s.mill.mcasts.find? fun m => m.id == id with
  | none => s
  | some m =>
    let s := if port.isSome then s.inc F.SWC_MC_CNT_MISSED else s
    let m' := { m with refs := m.refs - 1, missed := match port with
      | some p => m.missed ||| 2 ^ p
      | none => m.missed }
    if m'.refs = 0 then mcEnd s m'
    else s.modMill fun x => { x with mcasts := x.mcasts.map fun y => if y.id = id then m' else y }

/-! ## Flushed packets (R131) -/

/-- An answer takes over the first cell of its request and goes straight to its queue; the other cells are freed. With the
answer's port closed the answer is discarded. -/
def answerHeld (s : State) (q a : Pkt) : State :=
  let s := freeCells s { q with banks := q.banks.drop 1 }
  let keep := { q with banks := q.banks.take 1 }
  match backTo s q a with
  | .to e r =>
    if keep.banks.isEmpty then present s ⟨.none, { r with banks := [] }, some e, none⟩
    else if !egressOpen s e then (freeCells s keep).inc F.SWC_FLUSH_CNT_PACKETS
    else
      let c := classOf s r
      let s := putOcc s q.qc (classOcc s q.qc - 1)
      let s := putOcc s c (classOcc s c + 1)
      pushQueue s (queueNo e c) { pkt := { r with banks := keep.banks, qc := c } }
  | .hold => present (freeCells s keep) ⟨.none, { a with spid := q.dpid, dpid := q.spid, banks := [] }, none, none⟩
  | _ => freeCells s keep

/-- The handling of one lost packet towards egress e (R131), without its count. -/
def losePkt (e : Nat) (s : State) (q : Pkt) : State :=
  let s := sampleErr s q
  if q.dead then freeCells s q
  else if q.cls == .mReq && (q.op == .mRd || q.op == .mRdData) then answerHeld (sentClose s q) q (poisonReply q)
  else if q.cls == .mReq || q.cls == .mRwD then (freeCells s q).raise 1345 (droppedDetail q e)
  else if q.cls == .ioReq then
    if q.posted then (freeCells s q).raise 1345 (droppedDetail q e)
    else
      let abort := decide (e < 96) && s.get (F.PORT_CFG_ROLE e) == 3
      answerHeld (sentClose s q) q (reply q .ioCpl .cpl (if abort then 4 else 1) false)
  else freeCells s q

/-- A flushed packet of port p (R131). -/
def flushPkt (p : Nat) (s : State) (q : Pkt) : State := losePkt p (s.inc F.SWC_FLUSH_CNT_PACKETS) q

/-- One entry of a flushed queue. -/
def flushEnt (p : Nat) (s : State) (x : QEnt) : State :=
  match x.mc with
  | some id => if x.lost then s else mcRelease (s.inc F.SWC_FLUSH_CNT_PACKETS) id (some p)
  | none => flushPkt p s x.pkt

/-! ## Links reported up and down (R130, R133, R162) -/

/-- vPPBs bound to port p, as (VCS, vPPB). -/
def vppbsOn (s : State) (p : Nat) : List (Nat × Nat) :=
  ((List.range 1024).filter fun n =>
    s.bit (F.RTE_BIND_VALID n) && s.get (F.RTE_BIND_KIND n) == 0 && s.get (F.RTE_BIND_PORT n) == p
    && s.get (F.RTE_BIND_STATE n) == 2).map fun n => (s.get (F.RTE_BIND_VCS n), s.get (F.RTE_BIND_VPPB n))

/-- A vPPB reports its link up or down (R162). -/
def vppbLink (up : Bool) (s : State) (x : Nat × Nat) : State :=
  s.modVx x.1 x.2 fun v => if v.linkUp == up then v else { v with linkUp := up, linkChanged := true }

/-- A restore of port p in progress ends when its link goes down. -/
def restoreLost (s : State) (p : Nat) : State :=
  match s.rte.restore with
  | some x =>
    if x.port = p then
      let t := s.modRte fun r => { r with restore := none }
      if x.cmd then ((t.put F.RTE_PATH_CMD_BUSY 0).put F.RTE_PATH_CMD_RESULT 1).put F.MGT_DONE_RTE_PATH 1 else t
    else s
  | none => s

/-- A link is reported down: nothing more is enqueued for the port, its vPPBs show it, the report waits to be acted on
(PORT_DOWN), and an OFL port is out of use until it is restored; a restore
of that port ends. -/
def reportDown (s : State) (p : Nat) : State :=
  let s := (s.modPx p fun x => { x with up := false }).modMill fun m =>
    { m with stop := tput 0 m.stop p 1, reports := m.reports ++ [p] }
  let s := (vppbsOn s p).foldl (vppbLink false) s
  let s := restoreLost s p
  if s.get (F.PORT_CFG_ROLE p) = 3 ∧ !s.rte.away.contains p then s.modRte fun r => { r with away := r.away ++ [p] } else s

/-- A link is reported up; with the flush complete the Headrace enqueues again. -/
def reportUp (s : State) (p : Nat) : State :=
  let s := s.modPx p fun x => { x with up := true }
  let s := if tget 0 s.mill.stop p = 2 then s.modMill fun m => { m with stop := tput 0 m.stop p 0 } else s
  (vppbsOn s p).foldl (vppbLink true) s

/-! ## What the ports ask -/

/-- Lane group ready: used, reference clock within limits, PLL locked (R15, R62). -/
def groupReady (s : State) (g : Nat) : Bool := s.bit (F.LG_STATUS_REFCLK_OK g) && s.bit (F.LG_STATUS_PLL_LOCK g)

/-- ASPM L1 enabled for port p (R72): in the upstream port's Link Control, or in the vPPB of a whole-device binding. -/
def aspmL1 (s : State) (p : Nat) : Bool :=
  if s.get (F.PORT_CFG_ROLE p) = 1 then
    match vcsOfPort s p with
    | some v => (s.ux v).aspmL1
    | none => false
  else match bindFrom s p 0xFFFF with
    | some n => (s.vx (s.get (F.RTE_BIND_VCS n)) (s.get (F.RTE_BIND_VPPB n))).aspmL1
    | none => false

/-- No request of the port's host is outstanding anywhere in the device (R72). -/
def hostIdle (s : State) (p : Nat) : Bool :=
  !(s.rte.sent.any fun x => x.q.src == .port p) && !(s.mill.presented.any fun x => x.src == .port p)
  && !(s.mill.waiting.any fun x => x.src == .port p) && !(s.coh.reqs.any fun x => x.q.src == .port p)
  && (List.range 8).all fun c => (queue s (queueNo p c)).isEmpty

/-- Does the upstream port p carry CXL.mem traffic of the pool's HDM-DB regions (R72, R208)? -/
def carriesHdmDb (s : State) (p : Nat) : Bool :=
  match vcsOfPort s p with
  | none => false
  | some v => (List.range 1024).any fun n =>
      s.bit (F.RTE_BIND_VALID n) && s.get (F.RTE_BIND_VCS n) == v && s.get (F.RTE_BIND_KIND n) == 1
      && decide (s.get (F.POOL_LD_MAP_SHARED_FIRST (s.get (F.RTE_BIND_LDID n))) < s.get (F.POOL_LD_MAP_MAP_COUNT (s.get (F.RTE_BIND_LDID n))))

end Sys2Proof.Machine
end

