-- ==== Sys2Proof/Machine/FlitCode.lean ====
section
/-! DEFINITION. The OFL flit as bytes: CRC-64, the three interleaved Reed-Solomon codewords, the flit header and the
message header (R78 to R83). -/

namespace Sys2Proof.Machine

/-! ## CRC-64 (R83) -/

/-- One bit of the CRC register, most significant bit first. -/
def crcBit (c : BitVec 64) (b : Bool) : BitVec 64 :=
  if c.msb != b then (c <<< 1) ^^^ 0x42F0E1EBA9EA3693#64 else c <<< 1

/-- One byte, most significant bit first. -/
def crcByte (c : BitVec 64) (b : Byte) : BitVec 64 :=
  ([7, 6, 5, 4, 3, 2, 1, 0] : List Nat).foldl (fun c i => crcBit c (b.getLsbD i)) c

/-- The CRC of a byte string: initial value all ones, result complemented. -/
def crc64 (b : Bytes) : BitVec 64 := ~~~(b.foldl crcByte (BitVec.allOnes 64))

/-! ## Reed-Solomon over GF(2^8) (R83) -/

/-- Multiply by x modulo x^8 + x^4 + x^3 + x^2 + 1. -/
def gfX (a : Byte) : Byte := if a.msb then (a <<< 1) ^^^ 0x1D#8 else a <<< 1

/-- Product in the field. -/
def gfMul (a b : Byte) : Byte :=
  (([7, 6, 5, 4, 3, 2, 1, 0] : List Nat).foldl (fun r i => gfX r ^^^ (if b.getLsbD i then a else 0#8)) 0#8)

/-- a to the power n. -/
def gfPow (a : Byte) : Nat → Byte
  | 0 => 1#8
  | n + 1 => gfMul a (gfPow a n)

/-- Inverse: a to the power 254. -/
def gfInv (a : Byte) : Byte := gfPow a 254

/-- The value of a codeword, first byte of highest degree, at x. -/
def gfEval (x : Byte) (w : Bytes) : Byte := w.foldl (fun r b => gfMul r x ^^^ b) 0#8

/-- Syndromes at α^0 to α^3. -/
def syndromes (w : Bytes) : List Byte := [gfEval 1#8 w, gfEval 2#8 w, gfEval 4#8 w, gfEval 8#8 w]

/-- Generator (x - 1)(x - α)(x - α^2)(x - α^3), coefficients of x^3 to x^0. -/
def rsGen : List Byte :=
  let m := fun (p : Bytes) (r : Byte) => (List.zip (p ++ [0#8]) (0#8 :: p)).map fun t => t.1 ^^^ gfMul r t.2
  (m (m (m (m [1#8] 1#8) 2#8) 4#8) 8#8).tail

/-- The four check bytes of a message: remainder of the division by the generator. -/
def rsCheck (w : Bytes) : Bytes :=
  w.foldl (fun r b =>
    let f := b ^^^ r.headD 0#8
    (List.zip (r.tail ++ [0#8]) rsGen).map fun t => t.1 ^^^ gfMul f t.2) [0#8, 0#8, 0#8, 0#8]

/-- Replace byte i by its sum with e. -/
def addAt (w : Bytes) (i : Nat) (e : Byte) : Bytes := w.set i (w.getD i 0#8 ^^^ e)

/-- Locator of byte i in a codeword of n bytes: α^(n - 1 - i). -/
def rsLoc (n i : Nat) : Byte := gfPow 2#8 (n - 1 - i)

/-- Correct up to two bytes: the codeword and the bytes corrected; left as it is when it cannot be corrected. -/
def rsFix (w : Bytes) : Bytes × Nat :=
  let n := w.length
  match syndromes w with
  | [s0, s1, s2, s3] =>
    if s0 = 0#8 ∧ s1 = 0#8 ∧ s2 = 0#8 ∧ s3 = 0#8 then (w, 0)
    else
      match (List.range n).find? fun i =>
          let x := rsLoc n i
          s0 != 0#8 && gfMul s0 x == s1 && gfMul s1 x == s2 && gfMul s2 x == s3 with
      | some i => (addAt w i s0, 1)
      | none =>
        let det := gfMul s0 s2 ^^^ gfMul s1 s1
        if det = 0#8 then (w, 0)
        else
          let a := gfMul (gfMul s1 s2 ^^^ gfMul s0 s3) (gfInv det)
          let b := gfMul (gfMul s1 s3 ^^^ gfMul s2 s2) (gfInv det)
          match (List.range n).filter fun i =>
              let x := rsLoc n i
              gfMul x x ^^^ gfMul a x ^^^ b == 0#8 with
          | [i, j] =>
            let x := rsLoc n i; let y := rsLoc n j
            let ej := gfMul (gfMul s0 x ^^^ s1) (gfInv (x ^^^ y))
            (addAt (addAt w i (s0 ^^^ ej)) j ej, 2)
          | _ => (w, 0)
  | _ => (w, 0)

/-- Codeword c: the bytes whose offset is congruent to c modulo 3. -/
def codeword (c : Nat) (f : Bytes) : Bytes :=
  ((List.range f.length).filter fun i => i % 3 == c).map fun i => f.getD i 0#8

/-- The flit that three codewords make. -/
def interleave (ws : List Bytes) : Bytes := (List.range 256).map fun i => (ws.getD (i % 3) []).getD (i / 3) 0#8

/-- FEC decoding of a flit: the corrected flit and the bytes corrected. -/
def fecDecode (f : Bytes) : Bytes × Nat :=
  let rs := ([0, 1, 2] : List Nat).map fun c => rsFix (codeword c f)
  (interleave (rs.map (·.1)), (rs.map (·.2)).sum)

/-- The 256 bytes of a flit from its first 236: CRC at 236 with its most significant byte first, check bytes at 244. -/
def fecEncode (b : Bytes) : Bytes :=
  let m := b ++ beBytes 8 (crc64 b).toNat
  let ks := ([0, 1, 2] : List Nat).map fun c => codeword c m ++ rsCheck (codeword c m)
  interleave ks

/-- Does a decoded flit pass its CRC? -/
def crcOk (f : Bytes) : Bool := slice f 236 8 == beBytes 8 (crc64 (f.take 236)).toNat

/-! ## Headers -/

/-- A flit header (R79). ftype: 0 idle, 1 payload, 2 control, 3 training; ack: 0 none, 1 ACK, 2 NAK. -/
structure FlitHdr where
  seq : Nat
  ackSeq : Nat
  ack : Nat
  ftype : Nat
  replay : Bool
  cmark : Nat
  slotStart : Nat
  cret0 : Nat × Nat
  cret1 : Nat × Nat
deriving DecidableEq, Repr

/-- The 12 header bytes. -/
def FlitHdr.bytes (h : FlitHdr) : Bytes :=
  leBytes 2 h.seq ++ leBytes 2 h.ackSeq
  ++ [BitVec.ofNat 8 (h.ack * 64 + h.ftype * 16 + (if h.replay then 8 else 0)), BitVec.ofNat 8 h.cmark]
  ++ leBytes 2 h.slotStart ++ leBytes 2 (h.cret0.1 * 8192 + h.cret0.2 % 8192)
  ++ leBytes 2 (h.cret1.1 * 8192 + h.cret1.2 % 8192)

/-- The header of a flit. -/
def flitHdr (f : Bytes) : FlitHdr :=
  let c0 := leN f 8 2; let c1 := leN f 10 2
  { seq := leN f 0 2, ackSeq := leN f 2 2, ack := u8 f 4 / 64, ftype := u8 f 4 / 16 % 4,
    replay := (u8 f 4).testBit 3, cmark := u8 f 5, slotStart := leN f 6 2 % 16384,
    cret0 := (c0 / 8192, c0 % 8192), cret1 := (c1 / 8192, c1 % 8192) }

/-- Virtual channel of a message (R82); leat says whether its class is in the Leat class mask. -/
def vcOf (c : Cls) (leat : Bool) : Nat :=
  match c with
  | .mReq | .mRwD => 0
  | .sNdr | .sDrs => 1
  | .biSnp => 2
  | .biRsp => 3
  | .ioReq => if leat then 6 else 4
  | .ioCpl => 5
  | .mctp => 7
  | .cacheD2H | .cacheH2D => 0

/-- Slots of a message of n body bytes: an 8-byte header and the body, in 16-byte slots (R80). -/
def slotsOf (n : Nat) : Nat := (8 + n + 15) / 16

/-- Credits of a message of n slots (R92). -/
def creditsOf (n : Nat) : Nat := (n + 3) / 4

/-- A message as slots: header and body, padded with zero. -/
def msgBytes (vc : Nat) (cls : Nat) (dpid spid tc : Nat) (ri : Bool) (body : Bytes) : Bytes :=
  let n := slotsOf body.length
  let h := vc * 2 ^ 61 + cls * 2 ^ 56 + dpid % 4096 * 2 ^ 44 + spid % 4096 * 2 ^ 32 + n * 2 ^ 23 + tc % 8 * 2 ^ 20
    + (if ri then 2 ^ 19 else 0)
  let b := leBytes 8 h ++ body
  b ++ List.replicate (16 * n - b.length) 0#8

end Sys2Proof.Machine
end

