-- ==== Sys2Proof/Machine/Ofl.lean ====
section
/-! DEFINITION. The Ocsin Fabric Link: sending and receiving flits, acknowledgement and replay, credits, lane changes,
Recovery, and a link declared down (R76 to R109). -/

namespace Sys2Proof.Machine

/-! ## Lanes and counts -/

/-- Element i of a list of eight counts. -/
def vcGet (l : List Nat) (i : Nat) : Nat := l.getD i 0

/-- Lanes of a bitmap. -/
def popc (m : Nat) : Nat := ((List.range 16).filter fun i => m.testBit i).length

/-- The k lowest-numbered lanes of a bitmap. -/
def lowest (k m : Nat) : Nat := (((List.range 16).filter fun i => m.testBit i).take k).foldl (fun a i => a + 2 ^ i) 0

/-- The largest valid lane count not above n (R97). -/
def laneCount (n : Nat) : Nat := if 16 ≤ n then 16 else if 8 ≤ n then 8 else if 4 ≤ n then 4 else if 2 ≤ n then 2 else n

/-- The lanes of a that are not in b. -/
def minusBits (a b : Nat) : Nat := a &&& (0xFFFF ^^^ (b &&& 0xFFFF))

/-- Is p an OFL port in state Active? -/
def oflActive (s : State) (p : Nat) : Bool := s.get (F.PORT_CFG_ROLE p) == 3 && s.get (F.OFL_STATUS_STATE p) == 3

/-- Good lanes: lanes of the link that neither end has marked failed (R95). -/
def goodLanes (s : State) (p : Nat) : Nat :=
  minusBits (s.ox p).link (s.get (F.OFL_LANES_FAILED p) ||| (s.ox p).peerFailed)

/-- The transmitter takes a lane set: the active set and the lane counts shown. -/
def putLanes (s : State) (p set : Nat) : State :=
  ((s.put (F.OFL_LANES_ACTIVE p) set).put (F.OFL_STATUS_LANES p) (popc set)).put (F.PORT_LINK_STATUS_LANES p) (popc set)

/-- Show a sequence register's UNACKED and the stalled window (R89). -/
def showHeld (s : State) (p : Nat) : State :=
  s.put (F.OFL_SEQ_UNACKED p) (s.ox p).held.length

/-- VC credits available, as OFL_TX_CREDIT shows them. -/
def txCredit (p vc : Nat) : Fld :=
  if vc < 4 then ⟨R.OFL_TX_CREDIT0 p, 16 * vc + 12, 16 * vc⟩ else ⟨R.OFL_TX_CREDIT1 p, 16 * (vc - 4) + 12, 16 * (vc - 4)⟩

/-- VC credits set by software for the receive buffer. -/
def vcCredit (p vc : Nat) : Fld :=
  if vc < 4 then ⟨R.OFL_VC_CREDIT0 p, 16 * vc + 12, 16 * vc⟩ else ⟨R.OFL_VC_CREDIT1 p, 16 * (vc - 4) + 12, 16 * (vc - 4)⟩

/-! ## Recovery and link down (R105 to R108) -/

/-- A software lane request ends with a result (R102). -/
def cmdDone (s : State) (p r : Nat) : State :=
  if s.bit (F.OFL_LANE_CMD_BUSY p) then (s.put (F.OFL_LANE_CMD_BUSY p) 0).put (F.OFL_LANE_CMD_RESULT p) r else s

/-- Details of a message for KIND 1 and KIND 2 records (R362): values of SOURCE and DEST as PIDs. -/
def pidDetail (q : Pkt) : Detail :=
  .unknown q.addr q.tag (0x8000 + q.spid.getD 0) (0x8000 + q.dpid.getD 0) q.cls.code q.tc

/-- Is the requester local (R109)? -/
def localReq (s : State) (q : Pkt) : Bool :=
  match q.src with
  | .port p => s.get (F.PORT_CFG_ROLE p) == 1
  | .hop _ _ | .core _ | .dir _ => true
  | _ => false

/-- One unacknowledged message of a link declared down (R107). -/
def unacked (p : Nat) (s : State) (q : Pkt) : State :=
  if q.isRead then
    if !q.ri && localReq s q && (altHop s q p).isSome && s.ofl.tracker.length < 4096 then
      let s := { s with ofl := { s.ofl with tracker := s.ofl.tracker ++ [⟨q.src, q.tag, false, p⟩] } }
      (present s ⟨q.src, { q with ri := true, mark := false, banks := [] }, altHop s q p, none⟩).inc (F.OFL_DOWN_LOG_REISSUED p)
    else
      (present s ⟨.port p, failedRead q, none, none⟩).inc (F.OFL_DOWN_LOG_READ_FAILED p)
  else if q.isReq then (s.raise (320 + 8 * p + 7) (pidDetail q)).inc (F.OFL_DOWN_LOG_WRITE_UNKNOWN p)
  else s.inc (F.OFL_DOWN_LOG_OTHER p)

/-- The link is declared down (R106): held messages are handled, messages not yet in a flit are flushed (R107), the
buffers are emptied, the port is reported down and the event raised. w says when the port enters Detect again. -/
def oflDown (s : State) (p : Nat) (w : PortWait) : State :=
  let x := s.ox p
  let s := x.msgs.foldl (fun s m => unacked p s m.pkt) s
  let s := x.txq.foldl (flushPkt p) s
  let s := if x.rx.isSome then s.inc (F.OFL_DOWN_LOG_OTHER p) else s
  let s := cmdDone s p 1
  let s := s.setOx p { link := x.link, stored := x.stored, fails := x.fails, reqId := x.reqId }
  let dis := s.bit (F.PORT_LINK_CTRL_DISABLE p) || w == .failover
  let s := (putLanes s p 0).put (F.OFL_STATUS_STATE p) (if dis then 6 else 5)
  let s := ((s.put (F.OFL_STATUS_RATE p) 0).put (F.PORT_LINK_STATUS_RATE p) 0).put (F.PORT_LINK_STATUS_FULL_LANES p) 0
  let s := ((s.put (F.OFL_STATUS_WINDOW_FULL p) 0).put (F.OFL_STATUS_NAK_PENDING p) 0).put (F.OFL_STATUS_LANE_BUSY p) 0
  let s := (s.put (F.OFL_STATUS_REPLAY_COUNT p) 0).wr (R.OFL_SEQ p) 0#64
  let s := if (s.px p).up then (reportDown s p).raise (320 + 8 * p) else s
  setWait s p (if s.bit (F.PORT_LINK_CTRL_DISABLE p) then .none else w)

/-- The routing unit gives up an OFL port (R170): its link is disabled and declared down at once. -/
def failover (s : State) (p : Nat) : State :=
  let s := oflDown s p .failover
  ((s.put F.RTE_PATH_STATUS_LAST_PORT p).inc F.RTE_PATH_STATUS_FAILOVERS).raise 1362

/-- The port enters Recovery (R105); with every lane lost and FAST_DOWN set it is given up instead (R170). -/
def enterRecovery (s : State) (p : Nat) (lost : Bool) : State :=
  if !oflActive s p then s
  else
    let s := (s.put (F.OFL_STATUS_STATE p) 4).put (F.OFL_STATUS_RATE p) 0
    let s := (s.inc (F.OFL_EVENT_CNT_RECOVERY p)).raise (320 + 8 * p + 5)
    let s := (cmdDone s p 3).put (F.OFL_STATUS_LANE_BUSY p) 0
    let s := s.modOx p fun x => { x with chg := none, ctlq := [], replay := none, check := false, cmdWait := false }
    if lost && s.bit F.RTE_PATH_CTRL_FAST_DOWN then failover s p else s.out (.train p)

/-- A protocol error (R90): the event, and Recovery. -/
def protocolError (s : State) (p : Nat) : State := enterRecovery (s.raise (320 + 8 * p + 6)) p false

/-! ## Sending (R77, R87, R89, R92) -/

/-- A message's virtual channel (R82). -/
def msgVc (s : State) (q : Pkt) : Nat := vcOf q.cls (leatClass s (classOf s q))

/-- The packing of a flit in progress. -/
structure Fill where
  slots : List Bytes
  start : Nat
  cmark : Nat
  cur : Bytes
  txq : List Pkt
  avail : List Nat
  msgs : List HeldMsg

/-- The first message that its channel's credits cover, no earlier message of its channel waiting (R91, R92). -/
def pickMsg (s : State) (avail : List Nat) : List Nat → List Pkt → Option Pkt
  | _, [] => none
  | blocked, q :: qs =>
    let vc := msgVc s q
    if !blocked.contains vc && creditsOf (slotsOf (Config.bodyBytes q).length) ≤ vcGet avail vc then some q
    else pickMsg s avail (vc :: blocked) qs

/-- Bytes of a message on OFL. -/
def oflMsg (s : State) (q : Pkt) : Bytes :=
  msgBytes (msgVc s q) q.cls.code (q.dpid.getD 0) (q.spid.getD 0) (classOf s q) q.ri (Config.bodyBytes q)

/-- Mark the message in transmission as ending in flit seq. -/
def endMsg (msgs : List HeldMsg) (seq : Nat) : List HeldMsg :=
  msgs.map fun m => if m.last.isNone then { m with last := some seq } else m

/-- Fill one slot of flit seq. -/
def fillSlot (s : State) (seq : Nat) (f : Fill) (n : Nat) : Fill :=
  let f := if !f.cur.isEmpty then f
    else match pickMsg s f.avail [] f.txq with
      | none => f
      | some q =>
        let b := oflMsg s q
        let vc := msgVc s q
        { f with
          start := f.start + 2 ^ n
          cmark := if q.mark && s.bit F.SWC_WEIR_CTRL_OFL_MARK_EN then f.cmark ||| 2 ^ vc else f.cmark
          cur := b, txq := f.txq.erase q
          avail := f.avail.set vc (vcGet f.avail vc - creditsOf (b.length / 16))
          msgs := f.msgs ++ [⟨q, none⟩] }
  if f.cur.isEmpty then f
  else
    let r := f.cur.drop 16
    { f with slots := f.slots ++ [f.cur.take 16], cur := r, msgs := if r.isEmpty then endMsg f.msgs seq else f.msgs }

/-- The ACK or NAK and the credit reports that the next flit carries, with the state after it (R86, R87, R93). -/
def nextHdr (s : State) (p : Nat) (nak : Bool) : FlitHdr × State :=
  let x := s.ox p
  let e := s.get (F.OFL_SEQ_RX_EXPECTED p)
  let a := 2 * x.cretIx % 8
  let h : FlitHdr :=
    { seq := s.get (F.OFL_SEQ_TX_NEXT p), ackSeq := if nak then e else (e + 65535) % 65536, ack := if nak then 2 else 1,
      ftype := 0, replay := false, cmark := 0, slotStart := 0,
      cret0 := (a, vcGet x.freed a), cret1 := (a + 1, vcGet x.freed (a + 1)) }
  let s := s.setOx p { x with cretIx := (x.cretIx + 1) % 4, nakDue := if nak then false else x.nakDue }
  (h, if nak then s.inc (F.OFL_REPLAY_CNT_NAK_SENT p) else s)

/-- Put a flit of a header and a payload on the link. -/
def sendFlit (s : State) (p : Nat) (h : FlitHdr) (payload : Bytes) : State :=
  s.out (.flit p (fecEncode (h.bytes ++ payload ++ List.replicate (224 - payload.length) 0#8)))

/-- Payload of a control flit (R94). -/
def ctlBytes : Ctl → Bytes
  | .req id set cause => [1#8, BitVec.ofNat 8 id] ++ leBytes 2 set ++ [BitVec.ofNat 8 cause]
  | .acc id => [2#8, BitVec.ofNat 8 id]
  | .rej id set cause => [3#8, BitVec.ofNat 8 id] ++ leBytes 2 set ++ [BitVec.ofNat 8 cause]
  | .ready id => [4#8, BitVec.ofNat 8 id]

/-- Send one control flit; a failure-caused request carries the NAK while one is pending (R86). -/
def sendCtl (s : State) (p : Nat) (c : Ctl) : State :=
  let fail := match c with
    | .req _ _ 1 => s.bit (F.OFL_STATUS_NAK_PENDING p)
    | _ => false
  let (h, s) := nextHdr s p ((s.ox p).nakDue || fail)
  sendFlit s p { h with ftype := 2 } (ctlBytes c)

/-- Send every control flit that waits. -/
def sendCtls (s : State) (p : Nat) : State :=
  let q := (s.ox p).ctlq
  q.foldl (fun s c => sendCtl s p c) (s.modOx p fun x => { x with ctlq := [] })

/-- Send an idle flit. -/
def sendIdle (s : State) (p : Nat) : State :=
  let (h, s) := nextHdr s p (s.ox p).nakDue
  sendFlit s p h []

/-- Send the next payload flit, or an idle flit where no message can start or go on. -/
def sendPayload (s : State) (p : Nat) : State :=
  let x := s.ox p
  let seq := s.get (F.OFL_SEQ_TX_NEXT p)
  let avail := (List.range 8).map fun v => s.get (txCredit p v)
  let f := (List.range 14).foldl (fillSlot s seq)
    { slots := [], start := 0, cmark := 0, cur := x.cur, txq := x.txq, avail := avail, msgs := x.msgs }
  if f.slots.isEmpty then sendIdle s p
  else
    let n := f.slots.length
    let start := if n < 14 then f.start + 2 ^ n else f.start
    let payload := f.slots.flatten ++ List.replicate (224 - 16 * n) 0#8
    let (h, s) := nextHdr s p x.nakDue
    let s := s.modOx p fun x => { x with
      held := x.held ++ [⟨seq, f.cmark, start, payload⟩], msgs := f.msgs, cur := f.cur, txq := f.txq }
    let s := (List.range 8).foldl (fun s v => s.put (txCredit p v) (vcGet f.avail v)) s
    let s := showHeld (s.put (F.OFL_SEQ_TX_NEXT p) ((seq + 1) % 65536)) p
    let s := injWrite s 6 (p / 24) (p * 65536 + seq)
    sendFlit s p { h with ftype := 1, cmark := f.cmark, slotStart := start } payload

/-- FLIT_SEND (R77): the next flit: control, payload, or idle while a replay is due or the window is full. -/
def execFlitSend (p : Fin 96) (s : State) : Host.Outcome State Fault Refusal :=
  .next (
    let x := s.ox p
    if !oflActive s p then s
    else if !x.ctlq.isEmpty then
      match x.ctlq with
      | c :: cs => sendCtl (s.setOx p { x with ctlq := cs }) p c
      | [] => s
    else if x.replay.isSome then sendIdle s p
    else if s.get (F.OFL_STATUS_WINDOW p) ≤ x.held.length then
      sendIdle (s.put (F.OFL_STATUS_WINDOW_FULL p) 1) p
    else sendPayload s p)

/-! ## Acknowledgement and replay (R87 to R90) -/

/-- Release the k oldest held flits. -/
def release (s : State) (p k : Nat) : State :=
  if k = 0 then s
  else
    let x := s.ox p
    let gone := (x.held.take k).map (·.seq)
    let s := s.setOx p { x with
      held := x.held.drop k
      msgs := x.msgs.filter fun m => match m.last with
        | some q => !gone.contains q
        | none => true }
    let s := s.put (F.OFL_SEQ_TX_OLDEST p) ((s.get (F.OFL_SEQ_TX_OLDEST p) + k) % 65536)
    showHeld ((s.put (F.OFL_STATUS_REPLAY_COUNT p) 0).put (F.OFL_STATUS_WINDOW_FULL p) 0) p

/-- An ACK or a NAK of q (R87, R90); false when it was a protocol error. -/
def ackIn (s : State) (p kind q : Nat) : State × Bool :=
  let n := (s.ox p).held.length
  let k := (q + 65536 - s.get (F.OFL_SEQ_TX_OLDEST p)) % 65536
  let unsent := decide ((q + 65536 - s.get (F.OFL_SEQ_TX_NEXT p)) % 65536 < 32768)
  if kind = 1 then
    if k < n then (release s p (k + 1), true)
    else if unsent then (protocolError s p, false)
    else (s, true)
  else if kind = 2 then
    if k ≤ n then
      let s := release s p k
      (if (s.ox p).held.isEmpty then s else s.modOx p fun x => { x with replay := some q }, true)
    else if unsent then (protocolError s p, false)
    else (s, true)
  else (s, true)

/-- Retransmit the held flits, in order, with current ACK and credit fields (R87). -/
def resend (s : State) (p : Nat) : State :=
  (s.ox p).held.foldl (fun s f =>
    let (h, s) := nextHdr s p (s.ox p).nakDue
    (sendFlit s p { h with ftype := 1, seq := f.seq, replay := true, cmark := f.cmark, slotStart := f.slotStart }
      f.payload).inc (F.OFL_REPLAY_CNT_REPLAYED p)) s

/-- Has the replay buffer lost a held flit (R394)? -/
def heldLost (s : State) (p : Nat) : Bool := (s.ox p).held.any fun f => injMark s 6 (p / 24) (p * 65536 + f.seq) == 2

/-- A replay of the oldest held flit is counted; past REPLAY_MAX it is not made and Recovery is entered (R88). A flit that the
replay buffer has lost is not replayed: the link goes down. -/
def replayCounted (s : State) (p : Nat) : State :=
  let m := max 1 (s.get (F.OFL_CTRL_REPLAY_MAX p))
  if heldLost s p then oflDown s p .oflDown
  else if s.get (F.OFL_STATUS_REPLAY_COUNT p) < m then
    resend (sendCtls (s.inc (F.OFL_STATUS_REPLAY_COUNT p)) p) p
  else enterRecovery s p false

/-- REPLAY (R87): after a NAK, every held flit from the named number on; the flits before it have been released. -/
def execReplay (p : Fin 96) (s : State) : Host.Outcome State Fault Refusal :=
  .next (
    if oflActive s p && (s.ox p).replay.isSome then
      replayCounted (s.modOx p fun x => { x with replay := none }) p
    else s)

/-- NAK_TIMEOUT (R86): while flit e has not arrived the NAK is sent again with the next flit. -/
def execNakTimeout (p : Fin 96) (s : State) : Host.Outcome State Fault Refusal :=
  .next (if oflActive s p && s.bit (F.OFL_STATUS_NAK_PENDING p) then s.modOx p fun x => { x with nakDue := true } else s)

/-- REPLAY_TIMEOUT (R88). -/
def execReplayTimeout (p : Fin 96) (s : State) : Host.Outcome State Fault Refusal :=
  .next (
    if oflActive s p && !(s.ox p).held.isEmpty then
      replayCounted (s.modOx p fun x => { x with replay := none }) p
    else s)

/-! ## Lane changes (R97 to R103) -/

/-- Is a requested set valid (R97)? -/
def setValid (s : State) (p set : Nat) : Bool :=
  [1, 2, 4, 8, 16].contains (popc set) && minusBits set (goodLanes s p) == 0 && set != s.get (F.OFL_LANES_ACTIVE p)

/-- Does a set bring lanes that are not active now? -/
def isAdd (s : State) (p set : Nat) : Bool := minusBits set (s.get (F.OFL_LANES_ACTIVE p)) != 0

/-- Switch the own transmit to a set with a run (R98). -/
def switchTx (s : State) (p set : Nat) : State :=
  let old := popc (s.get (F.OFL_LANES_ACTIVE p))
  let s := putLanes s p set
  let s := if popc set < old then s.inc (F.OFL_EVENT_CNT_DROPS p)
    else if old < popc set then s.inc (F.OFL_EVENT_CNT_ADDS p) else s
  s.out (.run p set)

/-- Queue a control flit. -/
def queueCtl (s : State) (p : Nat) (c : Ctl) : State := s.modOx p fun x => { x with ctlq := x.ctlq ++ [c] }

/-- Send a LANE_REQ of this end (R98). -/
def request (s : State) (p set cause : Nat) : State :=
  let id := (s.ox p).reqId
  let s := s.modOx p fun x => { x with reqId := (id + 1) % 256, chg := some { mine := true, id := id, set := set, cause := cause } }
  queueCtl (s.put (F.OFL_STATUS_LANE_BUSY p) 1) p (.req id set cause)

/-- A software request that waited is sent, its mask checked now (R102). -/
def laneIdle (s : State) (p : Nat) : State :=
  if (s.ox p).cmdWait then
    let s := s.modOx p fun x => { x with cmdWait := false }
    let m := s.get (F.OFL_LANE_CMD_MASK p)
    if setValid s p m then request s p m 2 else cmdDone s p 2
  else s

/-- The change in progress ends; a software request of this end completes with r. -/
def endChg (s : State) (p r : Nat) : State :=
  let s := match (s.ox p).chg with
    | some c => if c.mine && c.cause == 2 then cmdDone s p r else s
    | none => s
  laneIdle ((s.modOx p fun x => { x with chg := none }).put (F.OFL_STATUS_LANE_BUSY p) 0) p

/-- Withdraw this end's own request (R101). -/
def withdraw (s : State) (p : Nat) : State :=
  match (s.ox p).chg with
  | some c =>
    if c.mine then
      let s := if c.cause == 2 then cmdDone s p 1 else s
      s.modOx p fun x => { x with chg := none, withdrawn := some c.id }
    else s.modOx p fun x => { x with chg := none }
  | none => s

/-- Declare lanes failed (R99, R100): they are marked and recorded; the own transmit moves to the lanes left and the
failure-caused request follows. With no lane left the port enters Recovery instead. -/
def declareLanes (s : State) (p lanes : Nat) : State :=
  let act := s.get (F.OFL_LANES_ACTIVE p)
  let rest := minusBits act lanes
  if rest = 0 then enterRecovery s p true
  else
    let s := (s.put (F.OFL_LANES_FAILED p) (s.get (F.OFL_LANES_FAILED p) ||| lanes)).raise (320 + 8 * p + 2)
    if rest = act then s
    else
      let set := lowest (laneCount (popc rest)) rest
      request (switchTx (withdraw s p) p set) p set 1

/-- LANE_REQ of the partner (R98, R100, R101); low says that this end's own utilisation allows a narrowing (R102). -/
def laneReq (s : State) (p id set cause : Nat) (low : Bool) : State :=
  if !oflActive s p then s
  else
    let accept := fun (s : State) =>
      if cause ≠ 1 ∧ isAdd s p set then
        queueCtl ((s.modOx p fun x => { x with
          chg := some { mine := false, id := id, set := set, cause := cause, accepted := true } }).put
          (F.OFL_STATUS_LANE_BUSY p) 1) p (.acc id)
      else laneIdle (queueCtl (switchTx s p set) p (.acc id)) p
    let answer := fun (s : State) =>
      if cause = 1 then accept s
      else if minusBits set (minusBits 0xFFFF (s.get (F.OFL_LANES_FAILED p))) ≠ 0 then
        queueCtl s p (.rej id (s.get (F.OFL_LANES_FAILED p)) 2)
      else if !setValid s p set then queueCtl s p (.rej id (s.get (F.OFL_LANES_FAILED p)) 3)
      else if cause = 0 ∧ !isAdd s p set ∧ !low then queueCtl s p (.rej id (s.get (F.OFL_LANES_FAILED p)) 1)
      else accept s
    match (s.ox p).chg with
    | none =>
      if (s.ox p).check && cause != 1 then queueCtl s p (.rej id (s.get (F.OFL_LANES_FAILED p)) 1) else answer s
    | some c =>
      if !c.mine then
        if c.id = id ∧ c.set = set then queueCtl s p (.acc id)
        else if cause = 1 then answer (withdraw s p)
        else queueCtl s p (.rej id (s.get (F.OFL_LANES_FAILED p)) 1)
      else if c.cause = cause then
        if s.bit (F.OFL_STATUS_LEADER p) then s else answer ((withdraw s p).put (F.OFL_STATUS_LANE_BUSY p) 0)
      else if c.cause = 1 then s
      else if cause = 1 then answer ((withdraw s p).put (F.OFL_STATUS_LANE_BUSY p) 0)
      else queueCtl s p (.rej id (s.get (F.OFL_LANES_FAILED p)) 1)

def execLaneReq (p : Fin 96) (id : Fin 256) (set : BitVec 16) (cause : Fin 3) (low : Bool) (s : State) :
    Host.Outcome State Fault Refusal := .next (laneReq s p id set.toNat cause low)

/-- LANE_ACC (R98, R101). -/
def laneAcc (s : State) (p id : Nat) : State :=
  if !oflActive s p then s
  else match (s.ox p).chg with
    | some c =>
      if c.mine ∧ c.id = id then
        if c.cause = 1 then endChg s p 0
        else if isAdd s p c.set then s.modOx p fun x => { x with chg := some { c with accepted := true } }
        else endChg (switchTx s p c.set) p 0
      else if (s.ox p).withdrawn = some id then queueCtl s p (.rej id 0 4) else s
    | none => if (s.ox p).withdrawn = some id then queueCtl s p (.rej id 0 4) else s

def execLaneAcc (p : Fin 96) (id : Fin 256) (s : State) : Host.Outcome State Fault Refusal := .next (laneAcc s p id)

/-- LANE_REJ (R98, R101): the request ends and the current set stays; CAUSE 2 names lanes failed at the partner. -/
def laneRej (s : State) (p id set cause : Nat) : State :=
  if !oflActive s p then s
  else match (s.ox p).chg with
    | some c =>
      if c.id = id then
        let s := if cause = 2 then s.modOx p fun x => { x with peerFailed := x.peerFailed ||| set } else s
        endChg s p 1
      else s
    | none => s

def execLaneRej (p : Fin 96) (id : Fin 256) (set : BitVec 16) (cause : Fin 5) (s : State) :
    Host.Outcome State Fault Refusal := .next (laneRej s p id set.toNat cause)

/-- LANE_READY (R98): counts as the acceptance of an add; the own transmit switches once both have been exchanged. -/
def laneReady (s : State) (p id : Nat) : State :=
  if !oflActive s p then s
  else match (s.ox p).chg with
    | some c =>
      if c.id = id ∧ isAdd s p c.set then
        if c.readySent then endChg (switchTx s p c.set) p 0
        else s.modOx p fun x => { x with chg := some { c with accepted := true, readyGot := true } }
      else s
    | none => s

def execLaneReady (p : Fin 96) (id : Fin 256) (s : State) : Host.Outcome State Fault Refusal :=
  .next (laneReady s p id)

/-- ADD_LANE_LOCK (R98): the added lanes are locked and equalised; LANE_READY is sent. -/
def execAddLaneLock (p : Fin 96) (s : State) : Host.Outcome State Fault Refusal :=
  .next (
    if !oflActive s p then s
    else match (s.ox p).chg with
      | some c =>
        if c.accepted ∧ isAdd s p c.set ∧ !c.readySent then
          let s := queueCtl s p (.ready c.id)
          if c.readyGot then endChg (switchTx s p c.set) p 0
          else s.modOx p fun x => { x with chg := some { c with readySent := true } }
        else s
      | none => s)

/-- ADD_LANE_TIMEOUT (R98): added lanes that have not locked are declared failed; LANE_REJ with CAUSE 2 is sent and the
current set stays. -/
def execAddLaneTimeout (p : Fin 96) (lanes : BitVec 16) (s : State) : Host.Outcome State Fault Refusal :=
  .next (
    if !oflActive s p then s
    else match (s.ox p).chg with
      | some c =>
        let bad := minusBits (lanes.toNat &&& c.set) (s.get (F.OFL_LANES_ACTIVE p))
        if c.accepted ∧ !c.readySent ∧ bad ≠ 0 then
          let s := (s.put (F.OFL_LANES_FAILED p) (s.get (F.OFL_LANES_FAILED p) ||| bad)).raise (320 + 8 * p + 2)
          endChg (queueCtl s p (.rej c.id (s.get (F.OFL_LANES_FAILED p)) 2)) p 1
        else s
      | none => s)

/-- ALIGNMENT_RUN (R94): the receiver adopts the set once every lane of it has shown three intact blocks. -/
def execAlignmentRun (p : Fin 96) (set intact : BitVec 16) (s : State) : Host.Outcome State Fault Refusal :=
  .next (
    if oflActive s p && popc set.toNat != 0 && minusBits set.toNat intact.toNat == 0 then
      s.modOx p fun x => { x with rxSet := set.toNat }
    else s)

/-- LANE_REQ_RESEND (R101): an unanswered request is sent again with its ID; after eight sends, Recovery. -/
def execLaneReqResend (p : Fin 96) (s : State) : Host.Outcome State Fault Refusal :=
  .next (
    if !oflActive s p then s
    else match (s.ox p).chg with
      | some c =>
        if c.mine ∧ !c.accepted then
          if c.sends < 8 then
            queueCtl (s.modOx p fun x => { x with chg := some { c with sends := c.sends + 1 } }) p (.req c.id c.set c.cause)
          else enterRecovery s p false
        else s
      | none => s)

/-- OFL_LANE_FAILED (R99): the lanes that the receiver declares failed; every active lane losing lock is Recovery. -/
def execOflLaneFailed (p : Fin 96) (lanes : BitVec 16) (_cause : LaneCause) (s : State) :
    Host.Outcome State Fault Refusal :=
  .next (
    let l := lanes.toNat &&& (s.ox p).link
    if oflActive s p && l != 0 then declareLanes s p l else s)

/-- LANE_CHECK (R99). -/
def execLaneCheck (p : Fin 96) (c : LaneCheck) (s : State) : Host.Outcome State Fault Refusal :=
  .next (
    if !oflActive s p then s
    else
      let act := s.get (F.OFL_LANES_ACTIVE p)
      match c with
      | .send =>
        if 8 ≤ (s.ox p).badRun then
          (((s.modOx p fun x => { x with badRun := 0, check := true }).put (F.OFL_STATUS_LANE_BUSY p) 1)).out (.run p act)
        else s
      | .recv bad =>
        let s := if (s.ox p).check then
            let s := s.modOx p fun x => { x with check := false }
            if (s.ox p).chg.isNone then laneIdle (s.put (F.OFL_STATUS_LANE_BUSY p) 0) p else s
          else s.out (.run p act)
        let l := bad.toNat &&& (s.ox p).rxSet
        if l = 0 then s else declareLanes s p l)

/-- No change or check in progress. -/
def laneFree (s : State) (p : Nat) : Bool := oflActive s p && !s.bit (F.OFL_STATUS_LANE_BUSY p)

/-- OFL_PM_NARROW (R102): utilisation in both directions has stayed low for PM_IDLE. -/
def execOflPmNarrow (p : Fin 96) (s : State) : Host.Outcome State Fault Refusal :=
  .next (
    let n := popc (s.get (F.OFL_LANES_ACTIVE p)) / 2
    let set := lowest n (goodLanes s p)
    if laneFree s p && s.bit (F.OFL_CTRL_PM_EN p) && s.get (F.OFL_TIMERS_PM_IDLE p) != 0
        && 2 ^ (min 4 (s.get (F.OFL_CTRL_PM_MIN p))) ≤ n && setValid s p set then request s p set 0
    else s)

/-- OFL_PM_WIDEN (R102): double the width, up to the good lanes. -/
def execOflPmWiden (p : Fin 96) (s : State) : Host.Outcome State Fault Refusal :=
  .next (
    let n := laneCount (min (2 * popc (s.get (F.OFL_LANES_ACTIVE p))) (popc (goodLanes s p)))
    let set := lowest n (goodLanes s p)
    if laneFree s p && s.bit (F.OFL_CTRL_PM_EN p) && popc (s.get (F.OFL_LANES_ACTIVE p)) < n && setValid s p set then
      request s p set 0
    else s)

/-- A write of OFL_LANE_CMD (R102). -/
def wrLaneCmd (p : Nat) (w : Wr) (s : State) : State :=
  if w.sets (F.OFL_LANE_CMD_START p) then
    if s.bit (F.OFL_LANE_CMD_BUSY p) then s.refuse (R.OFL_LANE_CMD p).addr w.mid w.size
    else
      let s := s.writeReg (R.OFL_LANE_CMD p) w
      let m := s.get (F.OFL_LANE_CMD_MASK p)
      if !oflActive s p then s.put (F.OFL_LANE_CMD_RESULT p) 4
      else if s.bit (F.OFL_STATUS_LANE_BUSY p) then
        (s.modOx p fun x => { x with cmdWait := true }).put (F.OFL_LANE_CMD_BUSY p) 1
      else if setValid s p m then request (s.put (F.OFL_LANE_CMD_BUSY p) 1) p m 2
      else s.put (F.OFL_LANE_CMD_RESULT p) 2
  else s.writeReg (R.OFL_LANE_CMD p) w

/-- OFL_LANE_CMD: START with a mask. The registers of a port whose role is not OFL refuse writes. -/
def execOflLaneCmd (mid : Mid) (p : Fin 96) (mask : BitVec 16) (s : State) : Host.Outcome State Fault Refusal :=
  .next (
    let w := wrFull mid false (BitVec.ofNat 64 (2 ^ 31 + mask.toNat))
    if s.get (F.PORT_CFG_ROLE p) = 3 then wrLaneCmd p w s else s.refuse (R.OFL_LANE_CMD p).addr w.mid w.size)

/-! ## Receiving (R84 to R86, R92, R93) -/

/-- Credits freed at the receiver (R93): the running count grows, the buffer space returns. -/
def freeCredits (s : State) (p vc n : Nat) : State :=
  s.modOx p fun x => { x with
    freed := x.freed.set vc ((vcGet x.freed vc + n) % 8192), used := x.used.set vc (vcGet x.used vc - n) }

/-- A flit is lost or fails its CRC: NAK(e), once for a given e until NAK_TO passes (R86). -/
def nakE (s : State) (p : Nat) : State :=
  if s.bit (F.OFL_STATUS_NAK_PENDING p) then s
  else (s.put (F.OFL_STATUS_NAK_PENDING p) 1).modOx p fun x => { x with nakDue := true }

/-- A credit report (R93). -/
def creditIn (s : State) (p : Nat) (c : Nat × Nat) : State :=
  let x := s.ox p
  let d := (c.2 + 8192 - vcGet x.last c.1) % 8192
  let s := s.setOx p { x with last := x.last.set c.1 c.2 }
  s.put (txCredit p c.1) (s.get (txCredit p c.1) + d)

/-- A whole message has arrived: it is presented to the Headrace, which frees its credits when it takes it (R92). -/
def msgDone (s : State) (p : Nat) (r : RxPart) : State :=
  let h := leN r.bytes 0 8
  match Cls.ofCode (h / 2 ^ 56 % 32) with
  | none => s
  | some c =>
    let q := { Config.bodyParse c (r.bytes.drop 8) with
      cls := c, dpid := some (h / 2 ^ 44 % 4096), spid := some (h / 2 ^ 32 % 4096), ri := h.testBit 19, mark := r.mark,
      src := .port p, banks := [] }
    present s ⟨.port p, q, none, some (p, r.vc, creditsOf (r.bytes.length / 16))⟩

/-- Is a message header acceptable (R81)? -/
def hdrOk (s : State) (h : Nat) : Bool :=
  let n := h / 2 ^ 23 % 512
  1 ≤ n && n ≤ 258
  && match Cls.ofCode (h / 2 ^ 56 % 32) with
    | some c => vcOf c (leatClass s (h / 2 ^ 20 % 8)) == h / 2 ^ 61
    | none => false

/-- One slot of an accepted payload flit. none for the state means a credit overrun (R93). -/
def slotIn (p : Nat) (h : FlitHdr) (pay : Bytes) (a : Option State) (n : Nat) : Option State :=
  match a with
  | none => none
  | some s =>
    let b := slice pay (16 * n) 16
    match (s.ox p).rx with
    | some r =>
      let r := { r with bytes := r.bytes ++ b, left := r.left - 1 }
      if r.left = 0 then some (msgDone (s.modOx p fun x => { x with rx := none }) p r)
      else some (s.modOx p fun x => { x with rx := some r })
    | none =>
      if !h.slotStart.testBit n then some s
      else
        let m := leN b 0 8
        let vc := m / 2 ^ 61
        let len := m / 2 ^ 23 % 512
        if m / 2 ^ 56 % 32 = 0 then some s
        else if !hdrOk s m then
          let s := (s.inc (F.OFL_EVENT_CNT_BAD_MSG p)).raise (320 + 8 * p + 6)
          some (s.modOx p fun x => { x with freed := x.freed.set vc ((vcGet x.freed vc + creditsOf len) % 8192) })
        else
          let x := s.ox p
          if vcGet x.share vc < vcGet x.used vc + creditsOf len then none
          else
            let r : RxPart := { vc := vc, left := len - 1, bytes := b, mark := h.cmark.testBit vc }
            let s := s.setOx p { x with used := x.used.set vc (vcGet x.used vc + creditsOf len) }
            if r.left = 0 then some (msgDone s p r) else some (s.modOx p fun x => { x with rx := some r })

/-- An accepted payload flit: e advances, the NAK is settled, the slots are taken. -/
def acceptPayload (s : State) (p : Nat) (h : FlitHdr) (pay : Bytes) : State :=
  let s := s.put (F.OFL_SEQ_RX_EXPECTED p) ((s.get (F.OFL_SEQ_RX_EXPECTED p) + 1) % 65536)
  let s := (s.put (F.OFL_STATUS_NAK_PENDING p) 0).modOx p fun x => { x with nakDue := false }
  match (List.range 14).foldl (slotIn p h pay) (some s) with
  | some t => t
  | none => oflDown (s.raise (320 + 8 * p + 6)) p .oflDown

/-- A control flit's command; reserved commands are ignored. -/
def ctlIn (s : State) (p : Nat) (pay : Bytes) (low : Bool) : State :=
  let id := u8 pay 1; let set := leN pay 2 2; let cause := u8 pay 4
  match u8 pay 0 with
  | 1 => laneReq s p id set cause low
  | 2 => laneAcc s p id
  | 3 => laneRej s p id set cause
  | 4 => laneReady s p id
  | _ => s

/-- Resume (R105): the partner's e and running counts in Recovery. Held flits before e are released, the credits are
resynchronised, the rest is replayed, and the port is Active again. An e outside the held range declares the link down. -/
def resume (s : State) (p e : Nat) (counts : List Nat) : State :=
  if s.get (F.PORT_CFG_ROLE p) ≠ 3 ∨ s.get (F.OFL_STATUS_STATE p) ≠ 4 then s
  else
    let n := (s.ox p).held.length
    let k := (e + 65536 - s.get (F.OFL_SEQ_TX_OLDEST p)) % 65536
    if n < k then oflDown s p .oflDown
    else
      let s := release s p k
      let s := (List.range 8).foldl (fun s v => creditIn s p (v, vcGet counts v)) s
      let s := (s.put (F.OFL_STATUS_STATE p) 3).put (F.OFL_STATUS_RATE p) (s.get (F.PORT_LINK_STATUS_RATE p))
      let s := (s.put (F.OFL_STATUS_NAK_PENDING p) 0).modOx p fun x => { x with nakDue := false, badRun := 0 }
      resend s p

/-- A training flit: outside Recovery it sends the port there, and resume or a reserved KIND is a protocol error (R90,
R105). -/
def trainIn (s : State) (p : Nat) (pay : Bytes) : State :=
  let kind := u8 pay 0
  if kind = 0 ∨ 5 < kind then protocolError s p
  else if kind = 5 then
    if s.get (F.OFL_STATUS_STATE p) = 4 then
      resume s p (leN pay 32 2) ((List.range 8).map fun v => leN pay (34 + 2 * v) 2 % 8192)
    else protocolError s p
  else enterRecovery s p false

/-- A flit that passes its CRC: header before payload (R84, R85). -/
def flitOk (s : State) (p : Nat) (f : Bytes) (low : Bool) : State :=
  let h := flitHdr f
  let pay := slice f 12 224
  if h.ftype = 3 then trainIn s p pay
  else if !oflActive s p then s
  else
    let (s, ok) := ackIn s p h.ack h.ackSeq
    if !ok then s
    else
      let s := creditIn (creditIn s p h.cret0) p h.cret1
      let d := (h.seq + 65536 - s.get (F.OFL_SEQ_RX_EXPECTED p)) % 65536
      if h.ftype = 1 then
        if d = 0 then acceptPayload s p h pay else if d < 32768 then nakE s p else s
      else
        let s := if 1 ≤ d ∧ d < 32768 then nakE s p else s
        if h.ftype = 2 then ctlIn s p pay low else s

/-- FLIT_RECEIVE (R84, R85): 256 bytes as they arrive; low says that this end's own utilisation allows a narrowing. -/
def execFlitReceive (p : Fin 96) (flit : Bytes) (low : Bool) (s : State) : Host.Outcome State Fault Refusal :=
  if flit.length ≠ 256 then .fault (.malformed "FLIT_RECEIVE")
  else .next (
    if s.get (F.PORT_CFG_ROLE p) ≠ 3 ∨ s.get (F.OFL_STATUS_STATE p) ∉ [3, 4] then s
    else
      let (f, n) := fecDecode flit
      if crcOk f then flitOk ((s.inc (F.OFL_ERR_CNT_FEC_CORR p) n).modOx p fun x => { x with badRun := 0 }) p f low
      else if oflActive s p then
        nakE (((s.inc (F.OFL_ERR_CNT_CRC_FAIL p)).raise (320 + 8 * p + 4)).modOx p fun x => { x with badRun := x.badRun + 1 }) p
      else s)

/-- RESUME_FLIT (R105). -/
def execResumeFlit (p : Fin 96) (e : BitVec 16) (counts : List (BitVec 13)) (s : State) :
    Host.Outcome State Fault Refusal := .next (resume s p e.toNat (counts.map (·.toNat)))

/-! ## Recovery steps (R103, R105) -/

/-- RECOVERY_RETRAIN_COMPLETE (R105): the lanes have been tested; those that do not lock are marked failed, the new set
follows R97, and resume flits carry e and the running counts. -/
def execRecoveryRetrainComplete (p : Fin 96) (locked : BitVec 16) (s : State) : Host.Outcome State Fault Refusal :=
  .next (
    if s.get (F.PORT_CFG_ROLE p) ≠ 3 ∨ s.get (F.OFL_STATUS_STATE p) ≠ 4 then s
    else
      let bad := minusBits (goodLanes s p) locked.toNat
      let s := if bad = 0 then s
        else (s.put (F.OFL_LANES_FAILED p) (s.get (F.OFL_LANES_FAILED p) ||| bad)).raise (320 + 8 * p + 2)
      let good := goodLanes s p
      if good = 0 then s
      else
        let set := lowest (min (laneCount (popc good)) (widthLanes (s.get (F.PORT_CFG_WIDTH p)))) good
        let old := popc (s.get (F.OFL_LANES_ACTIVE p))
        let s := if popc set < old then s.inc (F.OFL_EVENT_CNT_DROPS p)
          else if old < popc set then s.inc (F.OFL_EVENT_CNT_ADDS p) else s
        let s := (putLanes s p set).modOx p fun x => { x with rxSet := set }
        let pay := [5#8] ++ List.replicate 31 0#8 ++ leBytes 2 (s.get (F.OFL_SEQ_RX_EXPECTED p))
          ++ (List.range 8).flatMap fun v => leBytes 2 (vcGet (s.ox p).freed v)
        let h : FlitHdr := ⟨0, 0, 0, 3, false, 0, 0, (0, 0), (0, 0)⟩
        sendFlit s p h pay)

/-- RECOVERY_RATE_DROP (R105): the retrain is given up and made one rate lower. -/
def execRecoveryRateDrop (p : Fin 96) (s : State) : Host.Outcome State Fault Refusal :=
  .next (
    let r := s.get (F.PORT_LINK_STATUS_RATE p)
    if s.get (F.PORT_CFG_ROLE p) = 3 ∧ s.get (F.OFL_STATUS_STATE p) = 4 ∧ 5 < r then
      (s.put (F.PORT_LINK_STATUS_RATE p) (r - 1)).out (.train p)
    else s)

/-- OFL_RECOVERY_TIMEOUT (R105): a Recovery unfinished at 1 ms. -/
def execOflRecoveryTimeout (p : Fin 96) (s : State) : Host.Outcome State Fault Refusal :=
  .next (
    if s.get (F.PORT_CFG_ROLE p) = 3 ∧ s.get (F.OFL_STATUS_STATE p) = 4 then oflDown s p .oflDown else s)

/-! ## Training (R91, R95, R96) -/

/-- Replay window in effect (R89). -/
def windowOf (s : State) (p : Nat) : Nat :=
  let m := min 1024 (128 * widthLanes (s.get (F.PORT_CFG_WIDTH p)))
  let w := s.get (F.OFL_CTRL_WINDOW p)
  if w = 0 then m else min m (max 64 w)

/-- Default shares of VC0 to VC7 in sixteenths of the buffer, and the least credits of a VC (R91). -/
def defShare : List Nat := [2, 2, 1, 1, 3, 3, 3, 1]
def minShare : List Nat := [2, 2, 2, 2, 65, 65, 65, 17]

/-- Receive shares of VC0 to VC7, and whether the default had to be used (R91). -/
def sharesOf (s : State) (p : Nat) : List Nat × Bool :=
  let buf := 128 * widthLanes (s.get (F.PORT_CFG_WIDTH p))
  let vs := (List.range 8).map fun v => s.get (vcCredit p v)
  let dflt := defShare.map fun d => buf * d / 16
  let eff := (vs.zip dflt).map fun t => if t.1 = 0 then t.2 else t.1
  if (vs.zip minShare).any (fun t => t.1 != 0 && decide (t.1 < t.2)) || buf < eff.sum then (dflt, true) else (eff, false)

/-- Rate offered: MAX_RATE limited by TARGET_RATE, whose codes 1 to 4 act as 5 (R95). -/
def oflOffer (s : State) (p : Nat) : Nat :=
  let m := s.get (F.PORT_CFG_MAX_RATE p)
  let t := s.get (F.PORT_LINK_CTRL_TARGET_RATE p)
  if t = 0 then m else min m (max 5 t)

/-- A training attempt that fails: Detect, a retry 12 ms later, and an event on every tenth failure in a row (R96). -/
def oflTrainFail (s : State) (p : Nat) : State :=
  let n := (s.ox p).fails + 1
  let s := (s.modOx p fun x => { x with fails := n }).put (F.OFL_STATUS_STATE p) 0
  setWait (if n % 10 = 0 then s.raise (320 + 8 * p + 3) else s) p .retry

/-- Training from Detect to Active with what the partner and the lanes show (R95, R96). -/
def oflTrain (s : State) (p : Nat) (t : OflPeer) : State :=
  let w := widthLanes (s.get (F.PORT_CFG_WIDTH p))
  let link := laneBits 0 (min w t.width)
  let failed := (s.get (F.OFL_LANES_FAILED p) ||| minusBits (laneBits 0 w) t.detected) &&& link
  let s := setWait (s.put (F.OFL_LANES_FAILED p) failed) p .none
  let good := minusBits link failed &&& t.good
  let target := min (oflOffer s p) t.rate
  let rate := min target t.okRate
  if good = 0 ∨ rate < 5 then oflTrainFail s p
  else
    let set := lowest (min (laneCount (popc good)) w) good
    let (share, dflt) := sharesOf s p
    let x : OflX := { link := link, peerFailed := minusBits link t.good, share := share, rxSet := set,
                      stored := (List.range 8).filter fun r => 5 ≤ r && r ≤ rate }
    let s := putLanes (s.setOx p x) p set
    let s := ((s.put (F.OFL_STATUS_STATE p) 3).put (F.OFL_STATUS_RATE p) rate).put (F.OFL_STATUS_WINDOW p) (windowOf s p)
    let me := s.fuse.serial.toNat
    let s := s.putB (F.OFL_STATUS_LEADER p) (decide (t.serial < me ∨ (t.serial = me ∧ t.port < p)))
    let s := (s.putB (F.OFL_STATUS_CREDIT_DEFAULT p) dflt).wr (R.OFL_SEQ p) 0#64
    let s := (List.range 8).foldl (fun s v => s.put (txCredit p v) (vcGet t.credits v)) s
    let s := ((s.put (F.OFL_PARTNER_SERIAL p) t.serial).put (F.OFL_PARTNER_PORT_PORT p) t.port).putB
      (F.OFL_PARTNER_PORT_SAME_DEVICE p) (t.serial == me)
    let s := ((s.put (F.PORT_LINK_STATUS_RATE p) rate).put (F.PORT_LINK_STATUS_FULL_LANES p) (popc set)).put
      (F.PORT_LINK_STATUS_PROTO p) 3
    let s := if rate < target then (s.put (F.PORT_LINK_STATUS_DEGRADED p) 1).raise (320 + 8 * p + 1) else s
    reportUp s p

/-- May an OFL port leave Detect (R15, R63)? -/
def oflReady (s : State) (p : Nat) : Bool :=
  s.get (F.PORT_CFG_ROLE p) == 3 && (s.get (F.OFL_STATUS_STATE p) == 0) && !s.bit (F.PORT_LINK_CTRL_DISABLE p)
  && groupReady s (p / 6)

/-- OFL_TRAINING (R96). -/
def execOflTraining (p : Fin 96) (t : OflPeer) (s : State) : Host.Outcome State Fault Refusal :=
  .next (if oflReady s p && (s.px p).wait == .none then oflTrain s p t else s)

/-- OFL_TRAINING_RETRY (R96): 12 ms after a training that reached no rate. -/
def execOflTrainingRetry (p : Fin 96) (t : OflPeer) (s : State) : Host.Outcome State Fault Refusal :=
  .next (if oflReady s p && (s.px p).wait == .retry then oflTrain s p t else s)

/-- OFL_REDETECT (R106): 12 ms after the declaration the port enters Detect. -/
def execOflRedetect (p : Fin 96) (s : State) : Host.Outcome State Fault Refusal :=
  .next (
    if s.get (F.PORT_CFG_ROLE p) = 3 ∧ ((s.px p).wait = .oflDown ∨ (s.px p).wait = .block) then
      (setWait s p .none).put (F.OFL_STATUS_STATE p) (if s.bit (F.PORT_LINK_CTRL_DISABLE p) then 6 else 0)
    else s)

/-- TRACKER_EXPIRE (R109): the entry of a re-issued read is freed 100 ms after the re-issue. -/
def execTrackerExpire (i : Fin 4096) (s : State) : Host.Outcome State Fault Refusal :=
  .next { s with ofl := { s.ofl with tracker := s.ofl.tracker.eraseIdx i } }

end Sys2Proof.Machine
end

