-- ==== Sys2Proof/Machine/Millrace.lean ====
section
/-! DEFINITION. The Headrace and the Tailrace: admission, waiting, dequeueing, congestion, multicast timeouts, flushes and
bank failure (R114 to R143). -/

namespace Sys2Proof.Machine

/-! ## Admission (R118) -/

/-- Sum of the minimum shares. -/
def sumMin (s : State) : Nat := ((List.range 8).map fun c => s.get (F.SWC_CLASS_SHARE_MIN c)).sum

/-- Cells that a class holds above its minimum share. -/
def overMin (s : State) (c o : Nat) : Nat := o - s.get (F.SWC_CLASS_SHARE_MIN c)

/-- Free cells of the shared pool. -/
def sharedFree (s : State) : Nat :=
  2048 * banksIn s - sumMin s - ((List.range 8).map fun c => overMin s c (classOcc s c)).sum

/-- The class tests of R118 for n cells. -/
def classAdmits (s : State) (c n : Nat) : Bool :=
  decide (classOcc s c + n ≤ s.get (F.SWC_CLASS_SHARE_MAX c))
  && decide (overMin s c (classOcc s c + n) - overMin s c (classOcc s c) ≤ sharedFree s)

/-- The queue test of R118. -/
def queueAdmits (s : State) (k n : Nat) : Bool := decide (queueOcc s k + n ≤ queueCap s (k % 8))

/-- Are n cells free in banks in service (R118)? -/
def cellsFree (s : State) (n : Nat) : Bool := decide (n ≤ s.get F.SWC_STATUS_FREE)

/-- Cells in staging for class c (R136). -/
def stagedCells (s : State) (c : Nat) : Nat :=
  ((s.mill.staged.filter fun x => x.queue % 8 == c && x.mc.isNone).map fun x => cellsOf x.pkt).sum

/-- Is there room to stage n cells of class c: within its minimum share (R136)? -/
def stageAdmits (s : State) (c n : Nat) : Bool :=
  decide (stagedCells s c + n ≤ s.get (F.SWC_CLASS_SHARE_MIN c)) && cellsFree s n

/-- Is queue k in the Spilling state (R134)? -/
def isSpilling (s : State) (k : Nat) : Bool := s.mill.spilling.contains k

/-- A queue enters the Spilling state. -/
def enterSpill (s : State) (k : Nat) : State :=
  if isSpilling s k then s
  else
    let s := s.modMill fun m => { m with spilling := m.spilling ++ [k] }
    s.put F.SWC_LEAT_STATUS_SPILLING s.mill.spilling.length

/-- A packet is marked when it arrives marked or its queue is congested as it comes (R122). -/
def markPkt (s : State) (cong : Bool) (q : Pkt) : State × Pkt :=
  if q.mark || cong then (s.inc F.SWC_CONG_CNT_MARKED, { q with mark := true }) else (s, q)

/-- Does a queued response of this class complete a request in progress? Its record is closed (R161). -/
def rspClose (s : State) (e : Nat) (q : Pkt) : State :=
  if !q.isRsp then s
  else match s.rte.sent.find? fun x =>
      x.q.tag == q.tag && (q.cls != .ioCpl || x.q.rid == q.rid)
      && (match backTo s x.q q with
          | .to e' _ => e' == e
          | _ => false) with
    | some x => sentDone s x
    | none => s

/-- Admit a packet of a class to one egress point (R118); none when it waits. -/
def admitOne (s : State) (e : Nat) (q : Pkt) : Option State :=
  let c := classOf s q
  let n := cellsOf q
  let k := queueNo e c
  let enq := fun (s : State) =>
    let r := markPkt s (isCongested s k) q
    let t := takeCells r.1 c r.2
    rspClose (sentAdd (pushQueue t.1 k { pkt := t.2 }) e q) e q
  let spill := fun (s : State) =>
    if stageAdmits s c n then
      let r := markPkt s (isCongested s k) q
      let t := takeCells r.1 c r.2
      let s := enterSpill t.1 k
      some (sentAdd (s.modMill fun m => { m with staged := m.staged ++ [⟨k, t.2, none⟩] }) e q)
    else none
  if isSpilling s k then spill s
  else if classAdmits s c n && queueAdmits s k n then (if cellsFree s n then some (enq s) else none)
  else if leatClass s c then spill s
  else none

/-- The copy of a multicast packet for one port: outside OFL it leaves unrouted (R149, R151). -/
def mcCopy (s : State) (p : Nat) (q : Pkt) : Pkt :=
  if s.get (F.PORT_CFG_ROLE p) = 3 then q else { q with dpid := none, spid := none }

/-- Enqueue or stage one reference of a multicast packet (R126, R138). -/
def mcTarget (q : Pkt) (id c : Nat) (fail : Bool) (s : State) (p : Nat) : State :=
  let k := queueNo p c
  let copy := { mcCopy s p q with banks := [], qc := c }
  if leatClass s c && (isSpilling s k || fail || !queueAdmits s k (cellsOf q)) then
    (enterSpill s k).modMill fun m => { m with staged := m.staged ++ [⟨k, copy, some id⟩] }
  else pushQueue s k { pkt := copy, mc := some id }

/-- Admit a multicast packet (R118, R126, R127, R138); none when it waits. src is the port that it arrived on. -/
def admitGroup (s : State) (src : Src) (g : Nat) (ps : List Nat) (q : Pkt) : Option State :=
  let ts := ps.filter fun p => src != .port p
  let live := ts.filter (egressOpen s)
  let missed := ts.filter fun p => !egressOpen s p
  let c := classOf s q
  let n := cellsOf q
  let ok := classAdmits s c n
  let adm := if leatClass s c then (ok && cellsFree s n || stageAdmits s c n)
    else ok && (live.all fun p => queueAdmits s (queueNo p c) n) && cellsFree s n
  if ts.isEmpty then some s
  else if !adm then none
  else
    let r := markPkt s (live.any fun p => isCongested s (queueNo p c)) q
    let t := takeCells r.1 c r.2
    let id := t.1.mill.mcNext
    let m : McPkt := { id := id, pkt := t.2, refs := live.length, missed := missed.foldl (fun b p => b ||| 2 ^ p) 0,
                       group := g }
    let s := (t.1.inc F.SWC_MC_CNT_PACKETS).inc F.SWC_MC_CNT_MISSED missed.length
    let s := s.modMill fun x => { x with mcNext := id + 1, mcasts := x.mcasts ++ [m] }
    some (if live.isEmpty then mcEnd s m else live.foldl (mcTarget t.2 id c (!ok)) s)

/-- Logical slice of a home line address (R179). -/
def sliceOf (hla : Nat) : Nat := (hla ^^^ (hla / 2 ^ 18) ^^^ (hla / 2 ^ 36)) % 32

/-- The physical slice of a logical slice (R180). -/
def physOf (s : State) (l : Nat) : Nat := s.get (F.COH_LMAP_PHYS (l / 8) (l % 8))

/-- Hand a request to its directory slice with its packet in the buffer (R183); none when it waits: no room, a full
tracker, or a range that is held for a rotation (R200). -/
def admitDir (s : State) (hla grp : Nat) (q : Pkt) : Option State :=
  let c := classOf s q
  let n := cellsOf q
  let l := sliceOf hla
  if s.coh.heldSlice = some l ∨ 256 ≤ s.get (F.COH_SL_TRACK_INFLIGHT (physOf s l)) then none
  else if classAdmits s c n && cellsFree s n then
    let t := takeCells s c q
    some (sentAdd { t.1 with coh := { t.1.coh with reqs := t.1.coh.reqs ++ [⟨hla, grp, t.2⟩] } } 126 q)
  else none

/-! ## The re-issue tracker (R109) -/

/-- The tracker entry that a response to egress e matches: requester and tag. -/
def trackHit (s : State) (e : Nat) (q : Pkt) : Option Tracked :=
  if !q.isRsp then none
  else s.ofl.tracker.find? fun t =>
    t.tag == q.tag
    && (match t.src with
        | .port p => p == e
        | .hop h _ => 108 + h == e
        | .core _ => e == 125
        | .dir _ => e == 126
        | _ => false)

/-- The first matching response is delivered and marks the entry; a further one is discarded. Answers the state, and
whether the response is to be discarded. -/
def trackRsp (s : State) (e : Nat) (q : Pkt) : State × Bool :=
  match trackHit s e q with
  | none => (s, false)
  | some t =>
    if t.answered then (s.inc (F.OFL_DOWN_LOG_DUP t.port), true)
    else ({ s with ofl := { s.ofl with tracker := s.ofl.tracker.map fun x => if x == t then { x with answered := true } else x } }, false)

/-! ## Accepting a packet (R114, R119) -/

/-- Log an ACS Violation at the vPPB of source binding n, answer the request, count it (R164). -/
def acsViolation (s : State) (n : Nat) (q : Pkt) : State :=
  let v := s.get (F.RTE_BIND_VCS n)
  let s := (s.modVx v (s.get (F.RTE_BIND_VPPB n)) fun x => { x with aer := x.aer.logUnc 21 (some q) }).raise (1856 + 2 * v + 1)
  let s := s.inc F.RTE_CNT1_ACS_VIOL
  if q.posted then s else answer s q (reply q .ioCpl .cpl 4 false)

/-- Destination point of a decode outcome, where it has one. -/
def Dec.point : Dec → Option Nat
  | .to e _ | .redirected e _ => some e
  | .group _ ps _ => ps.head?
  | .dir .. => some 126
  | _ => none

/-- Carry a decoded packet out: none when it waits. -/
def carryDec (s : State) (x : Present) (d : Dec) : Option State :=
  let one := fun (s : State) (e : Nat) (q : Pkt) =>
    let r := trackRsp s e q
    if r.2 then some r.1
    else if !egressOpen s e then some (flushPkt e r.1 { q with qc := classOf s q })
    else admitOne r.1 e q
  match d with
  | .to e q => one s e q
  | .redirected e q => one (s.inc F.RTE_CNT0_REDIRECTED) e q
  | .group g ps q => admitGroup s x.src g ps q
  | .dir hla grp q => admitDir s hla grp q
  | .hold => none
  | .miss => some (decodeMiss s x.pkt)
  | .refuse a => some (answer (sampleErr s x.pkt) x.pkt (reply x.pkt .ioCpl .cpl (if a then 4 else 1) false))
  | .ones _ =>
    let a := reply x.pkt .ioCpl .cplD 0 false
    some ((answer s x.pkt { a with data := List.replicate x.pkt.rlen 0xFF#8 }).inc F.HEP_CNT1_ALL_ONES)
  | .discard => some (sampleErr s x.pkt)
  | .acs n => some (acsViolation (sampleErr s x.pkt) n x.pkt)
  | .late => some ((sampleErr s x.pkt).inc F.RTE_CNT1_LATE_RSP)

/-- The Headrace decodes a packet and carries it out. -/
def carry (s : State) (x : Present) : Option State :=
  let d := decode s x
  carryDec (sampleTake s x.src d.point x.pkt) x d

/-- The receive buffer part that a packet of a port without OFL channels occupies: its credit type. -/
def creditType (q : Pkt) : Nat :=
  match q.cls with
  | .ioReq => if q.posted then 0 else 1
  | .ioCpl => 2
  | .mReq => 3
  | .mRwD => 4
  | .sNdr => 5
  | .sDrs => 6
  | .biSnp => 7
  | .biRsp => 8
  | .cacheD2H => 9
  | .cacheH2D => 10
  | .mctp => 0

/-- Do two packets lie in the same receive buffer: the same VC on OFL, the same credit type elsewhere (R119)? -/
def sameBuf (a b : Present) : Bool :=
  a.src == b.src && a.dst == b.dst
  && (match a.cred, b.cred with
      | some (p, v, _), some (p', v', _) => p == p' && v == v'
      | none, none => creditType a.pkt == creditType b.pkt
      | _, _ => false)

/-- A message of OFL that the Headrace has taken frees its credits (R92). -/
def freeCred (s : State) (x : Present) : State :=
  match x.cred with
  | some (p, v, n) => if (s.px p).up then freeCredits s p v n else s
  | none => s

/-- The Headrace takes a packet, or it waits behind or like another of its receive buffer (R119). -/
def accept (s : State) (x : Present) : State :=
  if s.mill.waiting.any (sameBuf x) then s.modMill fun m => { m with waiting := m.waiting ++ [x] }
  else match carry s x with
    | some t => freeCred t x
    | none => s.modMill fun m => { m with waiting := m.waiting ++ [x] }

/-- HEADRACE_ACCEPT (R114): a packet as it arrives on a PCIe/CXL port, or the oldest packet presented inside the device. -/
def execHeadraceAccept (x : Option (Fin 96 × Pkt)) (s : State) : Host.Outcome State Fault Refusal :=
  .next (
    match x with
    | some (p, q) =>
      let r := s.get (F.PORT_CFG_ROLE p)
      if (r = 1 ∨ r = 2) ∧ (s.px p).up then
        accept s ⟨.port p, { q with src := .port p, banks := [], bind := none, win := none, mark := false, qc := 0 }, none, none⟩
      else s
    | none =>
      match s.mill.presented with
      | [] => s
      | y :: ys => accept (s.modMill fun m => { m with presented := ys }) y)

/-- ADMIT_WAITING (R119): waiting packet i is taken when it can be and no earlier one of its receive buffer waits. -/
def execAdmitWaiting (i : Nat) (s : State) : Host.Outcome State Fault Refusal :=
  .next (
    match s.mill.waiting[i]? with
    | none => s
    | some x =>
      if (s.mill.waiting.take i).any (sameBuf x) then s
      else match carry s x with
        | some t => freeCred (t.modMill fun m => { m with waiting := m.waiting.eraseIdx i }) x
        | none => s)

/-! ## The Tailrace (R117, R120, R122 to R125) -/

/-- Is the packet a posted request, or another that only passes non-posted ones: credit kind 0 posted, 1 non-posted,
2 completion? CXL packets count as posted. -/
def creditKind (q : Pkt) : Nat :=
  if q.cls == .ioCpl then 2 else if q.cls == .ioReq && !q.posted then 1 else 0

/-- Index of the entry that a queue may send, with link credits by kind (R117): past non-posted requests that wait for
credits, and past nothing else. -/
def sendIndex (ok : Nat → Bool) : Bool → Nat → List QEnt → Option Nat
  | _, _, [] => none
  | npWait, i, x :: xs =>
    let k := creditKind x.pkt
    if k = 1 then
      if !npWait && ok 1 then some i else sendIndex ok true (i + 1) xs
    else if ok k then some i
    else none

/-- Drop the lost copies at the head (R127). -/
def dropLost : List QEnt → List QEnt
  | [] => []
  | x :: xs => if x.lost then dropLost xs else x :: xs

/-- Link credits of an egress point by class: for posted and CXL packets, non-posted requests, completions. -/
def hasCredit (cr : BitVec 8 × BitVec 8 × BitVec 8) (c k : Nat) : Bool :=
  if k = 1 then cr.2.1.getLsbD c else if k = 2 then cr.2.2.getLsbD c else cr.1.getLsbD c

/-- The entry that class c of egress e may send. -/
def sendable (s : State) (cr : BitVec 8 × BitVec 8 × BitVec 8) (e c : Nat) : Option (Nat × QEnt) :=
  let l := dropLost (queue s (queueNo e c))
  match sendIndex (hasCredit cr c) false 0 l with
  | some i => (l[i]?).map fun x => (i, x)
  | none => none

/-- Does class c have the latency attribute? -/
def isLatency (s : State) (c : Nat) : Bool := s.bit (F.SWC_CLASS_SHARE_LATENCY c)

/-- Deficit round robin from class c on: the class to serve and the deficits (R120). -/
def drr (s : State) (cr : BitVec 8 × BitVec 8 × BitVec 8) (e : Nat) : Nat → Nat → Tab Nat → Option (Nat × Tab Nat)
  | 0, _, _ => none
  | fuel + 1, c, d =>
    let k := queueNo e c
    match (if isLatency s c then none else sendable s cr e c) with
    | some x =>
      if max 1 x.2.pkt.len ≤ tget 0 d k then some (c, d)
      else
        let c' := (c + 1) % 8
        drr s cr e fuel c' (tmod 0 d (queueNo e c') (· + 64 * max 1 (s.get (F.SWC_CLASS_CTRL_WEIGHT c'))))
    | none =>
      let d := if (queue s k).isEmpty then tput 0 d k 0 else d
      let c' := (c + 1) % 8
      drr s cr e fuel c' (tmod 0 d (queueNo e c') (· + 64 * max 1 (s.get (F.SWC_CLASS_CTRL_WEIGHT c'))))

/-- The class to serve next at egress e (R120): the highest latency class that can send, else deficit round robin. -/
def pickClass (s : State) (cr : BitVec 8 × BitVec 8 × BitVec 8) (e : Nat) : Option (Nat × Tab Nat) :=
  match ([7, 6, 5, 4, 3, 2, 1, 0] : List Nat).find? fun c => isLatency s c && (sendable s cr e c).isSome with
  | some c => some (c, s.mill.deficit)
  | none =>
    if (List.range 8).any fun c => !isLatency s c && (sendable s cr e c).isSome then
      drr s cr e 1024 (tget 0 s.mill.turn e) s.mill.deficit
    else none

/-- Egress point at which a response entered (R124). -/
def rspSource (q : Pkt) : Option Nat :=
  match q.src with
  | .port p => some p
  | .pool ch => some (96 + ch)
  | _ => none

/-- Does the queue of egress e for the class of kind 9 wait for admission (R124)? -/
def waitsFor (s : State) (e : Nat) : Bool :=
  s.mill.waiting.any fun x =>
    match decode s x with
    | .to e' q => e' == e && classOf s q == reqClass s
    | _ => false

/-- The DevLoad of a response as it is sent (R124). -/
def devLoadOut (s : State) (q : Pkt) : Nat :=
  if !s.bit F.SWC_WEIR_CTRL_DEVLOAD_EN || !(q.cls == .sNdr || q.cls == .sDrs) then q.devload
  else
    let full := match rspSource q with
      | some e => waitsFor s e
      | none => false
    let cong := match rspSource q with
      | some e => congState s e
      | none => false
    if full then 3 else if q.mark || cong then max 2 q.devload else q.devload

/-- Is a packet of a binding that is contained without its port being touched (R238)? -/
def containedPkt (s : State) (q : Pkt) : Bool :=
  match q.bind with
  | none => false
  | some n => (s.vx (s.get (F.RTE_BIND_VCS n)) (s.get (F.RTE_BIND_VPPB n))).contained

/-- A packet reaches Millwright: an MCTP packet, or the answer to an access of a core (R303, R313). -/
def toMillwright (s : State) (q : Pkt) : State :=
  if q.cls = .mctp then
    let v := match q.src with
      | .port p => (vcsOfPort s p).getD 0
      | _ => 0
    { s with mgt := { s.mgt with mctpIn := s.mgt.mctpIn ++
      [if q.spid.isSome then ⟨4, q.spid.getD 0, 0, q.data⟩ else ⟨3, q.rid, v, q.data⟩] } }
  else match s.mgt.reads.find? fun r => r.id == q.tag with
    | none => s
    | some r =>
      let s := { s with mgt := { s.mgt with reads := s.mgt.reads.erase r } }
      let bad := q.poison || q.status != 0
      s.out (.acc (r.core + 1) bad (if r.write then [] else if bad then List.replicate r.len 0#8
        else (q.data.drop r.skip).take r.len))

/-- Send a packet that the Tailrace has read out at egress e. -/
def egress (s : State) (e : Nat) (q : Pkt) : State :=
  let s := injWrite (sampleOut s e q) 7 (min e 95 / 24) 0
  let d := devLoadOut s q
  let s := if d = q.devload then s else s.inc F.SWC_CONG_CNT_DEVLOAD
  let s := if q.mark && (q.cls == .mReq || q.cls == .mRwD) && !s.mill.holds.contains e then
      s.modMill fun m => { m with holds := m.holds ++ [e] } else s
  let q := { q with devload := d, banks := [] }
  if e < 96 then
    if s.get (F.PORT_CFG_ROLE e) = 3 then s.modOx e fun x => { x with txq := x.txq ++ [q] }
    else s.out (.pkt e { q with mark := false })
  else if e < 108 then { s with pool := { s.pool with chq := tmod [] s.pool.chq (e - 96) (· ++ [q]) } }
  else if e < 124 then { s with hopIn := s.hopIn ++ [(e - 108, q)] }
  else if e = 124 then
    (if q.cls = .sDrs ∨ q.cls = .sNdr then
       (match s.hep.fns.find? fun x => x.2.winRds.any fun w => w.id == q.tag with
        | some x => bridgeAnswer s x.1 q
        | none => s)
     else match q.src with
       | .port p => if q.cls = .ioCpl then fnStray s p q else s.out (.pkt e q)
       | _ => s.out (.pkt e q))
  else if e = 125 then toMillwright s q
  else if e = 126 then { s with coh := { s.coh with rsps := s.coh.rsps ++ [q] } }
  else s.out (.pkt e q)

/-- Take entry x, at index i once lost copies are dropped, off queue k of egress e and send it. -/
def takeEnt (s : State) (e k i : Nat) (x : QEnt) : State :=
  let s := updCong (putQueue s k ((dropLost (queue s k)).eraseIdx i)) k
  match x.mc with
  | some id => mcRelease (egress s e x.pkt) id none
  | none =>
    if x.pkt.dead then freeCells s x.pkt
    else if containedPkt s x.pkt then flushPkt e s x.pkt
    else egress (freeCells s x.pkt) e x.pkt

/-- TAILRACE_DEQUEUE (R120): one packet of egress point e, with the link credits that its classes have. A closed port
sends nothing. -/
def execTailraceDequeue (e : Fin 127) (cr : BitVec 8 × BitVec 8 × BitVec 8) (s : State) :
    Host.Outcome State Fault Refusal :=
  .next (
    if !egressOpen s e then s
    else match pickClass s cr e with
      | none => s
      | some (c, d) =>
        match sendable s cr e c with
        | none => s
        | some (i, x) =>
          let k := queueNo e c
          let d := if isLatency s c then d else tmod 0 d k (· - max 1 x.pkt.len)
          takeEnt (s.modMill fun m => { m with turn := if isLatency s c then m.turn else tput 0 m.turn e c, deficit := d })
            e k i x)

/-! ## SWC_TC_MAP (R115) and the weir fields -/

/-- Does a map keep R115? -/
def tcMapOk (s : State) (v : Word) : Bool :=
  let k := fun i => bitsGet v (4 * i + 2) (4 * i)
  ([8, 9, 10, 11, 12, 13, 14].all fun i => !leatClass s (k i)) && k 9 != k 10
  && (List.range 15).all fun i => i == 11 || i == 12 || (k i != k 11 && k i != k 12)

/-- A write of SWC_TC_MAP. -/
def wrTcMap (w : Wr) (s : State) : State :=
  if tcMapOk s ((s.rd R.SWC_TC_MAP &&& ~~~w.mask) ||| (w.v &&& w.mask)) then s.writeReg R.SWC_TC_MAP w
  else s.refuse R.SWC_TC_MAP.addr w.mid w.size

def execTcMapWrite (mid : Mid) (v : Word) (s : State) : Host.Outcome State Fault Refusal :=
  .next (wrTcMap (wrFull mid true v) s)

/-- A write of SWC_CLASS_CTRL c: the weir levels act on the queues as they stand. -/
def wrClassCtrl (c : Nat) (w : Wr) (s : State) : State :=
  (s.writeReg (R.SWC_CLASS_CTRL c) w).mill.congested.foldl (fun s k => if k % 8 = c then updCong s k else s)
    (s.writeReg (R.SWC_CLASS_CTRL c) w)

/-! ## Holds and multicast timeouts -/

/-- CONGESTION_HOLD_EXPIRE (R124). -/
def execCongestionHoldExpire (e : Fin 127) (s : State) : Host.Outcome State Fault Refusal :=
  .next (s.modMill fun m => { m with holds := m.holds.erase e })

/-- MULTICAST_TIMEOUT (R127): the copy of multicast packet id for port p has not started to leave. -/
def execMulticastTimeout (p : Fin 96) (id : Nat) (s : State) : Host.Outcome State Fault Refusal :=
  .next (
    match (List.range 8).find? fun c => (queue s (queueNo p c)).any fun x => x.mc == some id && !x.lost with
    | none => s
    | some c =>
      let k := queueNo p c
      let l := (queue s k).map fun x => if x.mc == some id then { x with lost := true } else x
      mcRelease (updCong (putQueue s k l) k) id (some p.val))

/-! ## Flush (R130, R133) -/

/-- The flush of the on-chip queues of port p, and of its packets in staging. -/
def flushPort (p : Nat) (s : State) : State :=
  let s := (List.range 8).foldl (fun s c =>
    let k := queueNo p c
    (queue s k).foldl (flushEnt p) (updCong (putQueue s k []) k)) s
  let st := s.mill.staged.filter fun x => x.queue / 8 == p
  let s := s.modMill fun m => { m with staged := m.staged.filter fun x => x.queue / 8 != p }
  st.foldl (fun s x => flushEnt p s { pkt := x.pkt, mc := x.mc }) s

/-- Packets of a chain, in order. -/
def chainPkts (s : State) (k : Nat) : List Pkt := (tget [] s.mill.chains k).flatten

/-- A queue leaves the Spilling state when its chain is empty and nothing of it is in staging (R137). -/
def leaveSpill (s : State) (k : Nat) : State :=
  if isSpilling s k && (tget [] s.mill.chains k).isEmpty && !(s.mill.staged.any fun x => x.queue == k) then
    let s := s.modMill fun m => { m with spilling := m.spilling.erase k }
    s.put F.SWC_LEAT_STATUS_SPILLING s.mill.spilling.length
  else s

/-- Drop the chain of a queue; its pages are free again. -/
def freeChain (s : State) (k : Nat) : State :=
  let n := (tget [] s.mill.chains k).length
  leaveSpill ((s.modMill fun m => { m with chains := tput [] m.chains k [] }).put F.SWC_LEAT_STATUS_PAGES_FREE
    (s.get F.SWC_LEAT_STATUS_PAGES_FREE + n)) k

/-- FLUSH_COMPLETE (R133): the spill chains of the port have been read back and flushed; the Headrace enqueues again once
the link is active. Of what a PCIe/CXL port had sent, no record is kept (R130). -/
def execFlushComplete (p : Fin 96) (s : State) : Host.Outcome State Fault Refusal :=
  .next (
    if tget 0 s.mill.stop p = 1 ∧ !s.mill.reports.contains p.val then
      let s := (List.range 8).foldl (fun s c =>
        let k := queueNo p c
        (chainPkts s k).foldl (flushPkt p) (freeChain s k)) s
      let s := if s.get (F.PORT_CFG_ROLE p) = 3 then s else (s.rte.sent.filter fun x => x.port == p.val).foldl sentDone s
      s.modMill fun m => { m with stop := tput 0 m.stop p (if (s.px p).up then 0 else 2) }
    else s)

/-! ## Bank failure (R141 to R143) -/

/-- The minimum shares are scaled when the cells in service no longer hold them (R143). -/
def cutShares (s : State) : State :=
  let n := 2048 * banksIn s
  let m := sumMin s
  if n < m then
    let s := (List.range 8).foldl (fun s c =>
      s.put (F.SWC_CLASS_SHARE_MIN c) (s.get (F.SWC_CLASS_SHARE_MIN c) * n / m)) s
    (s.put F.SWC_STATUS_SHARES_CUT 1).raise 1349
  else s

/-- Lose the packets of queue k that have a cell in bank b. -/
def bankQueue (b : Nat) (s : State) (x : Nat × List QEnt) : State :=
  let hit := fun (y : QEnt) => y.mc.isNone && y.pkt.banks.contains b
  let gone := x.2.filter hit
  let s := updCong (putQueue s x.1 (x.2.filter fun y => !hit y)) x.1
  gone.foldl (fun s y => losePkt (x.1 / 8) (s.inc F.SWC_BANK_LOSS_PACKETS) y.pkt) s

/-- Lose a multicast packet for every target that has not started it (R143). -/
def bankMc (s : State) (m : McPkt) : State :=
  let s := s.inc F.SWC_BANK_LOSS_PACKETS
  let s := s.mill.queues.foldl (fun s x =>
    if x.2.any fun y => y.mc == some m.id && !y.lost then
      mcRelease (putQueue s x.1 (x.2.map fun y => if y.mc == some m.id then { y with lost := true } else y)) m.id
        (some (x.1 / 8))
    else s) s
  let st := s.mill.staged.filter fun x => x.mc == some m.id
  st.foldl (fun s x => mcRelease s m.id (some (x.queue / 8)))
    (s.modMill fun y => { y with staged := y.staged.filter fun x => x.mc != some m.id })

/-- A bank is declared failed: out of allocation, its packets lost, the capacity cut. -/
def bankFail (b : Nat) (s : State) : State :=
  if bankOut s b then s
  else
    let s := (s.setBit (F.SWC_BANK_OUT_OUT (b / 64)) (b % 64)).put F.SWC_STATUS_BANKS_OUT (s.get F.SWC_STATUS_BANKS_OUT + 1)
    let s := s.put F.SWC_STATUS_FREE (s.get F.SWC_STATUS_FREE - (2048 - tget 0 s.mill.used b))
    let s := (s.raise (1088 + b)).inc F.SWC_BANK_LOSS_CELLS 2048
    let s := s.mill.queues.foldl (bankQueue b) s
    let st := s.mill.staged.filter fun x => x.mc.isNone && x.pkt.banks.contains b
    let s := s.modMill fun m => { m with staged := m.staged.filter fun x => !(x.mc.isNone && x.pkt.banks.contains b) }
    let s := st.foldl (fun s x => losePkt (x.queue / 8) (s.inc F.SWC_BANK_LOSS_PACKETS) x.pkt) s
    let s := (s.mill.mcasts.filter fun m => m.pkt.banks.contains b).foldl bankMc s
    cutShares s

/-- BANK_FAILED (R141, R142). -/
def execBankFailed (b : Fin 256) (s : State) : Host.Outcome State Fault Refusal := .next (bankFail b s)

/-- A write of SWC_BANK_CTRL; MAPOUT declares the bank in BANK, as this write leaves it, failed. -/
def wrBankCtrl (w : Wr) (s : State) : State :=
  let s := s.writeReg R.SWC_BANK_CTRL w
  if w.sets F.SWC_BANK_CTRL_MAPOUT then bankFail (s.get F.SWC_BANK_CTRL_BANK) s else s

/-- BANK_MAPOUT (R141): MAPOUT is written with BANK naming bank b. -/
def execBankMapout (mid : Mid) (b : Fin 256) (s : State) : Host.Outcome State Fault Refusal :=
  .next (wrBankCtrl (wrFull mid false (bitsPut (bitsPut (s.rd R.SWC_BANK_CTRL) 31 31 1) 7 0 b)) s)

end Sys2Proof.Machine
end

