-- ==== Sys2Proof/Machine/RouteOps.lean ====
section
/-! DEFINITION. The commands of the routing unit: tables, HDM decoders, binds and unbinds, windows, and paths across OFL
(R150 to R172). -/

namespace Sys2Proof.Machine

/-! ## Table access (R150) -/

/-- Does entry i of the window table lie in the latched active half of a VCS? -/
def inActiveHalf (s : State) (i : Nat) : Bool :=
  (List.range 64).any fun v => decide (winActive s v ≤ i) && decide (i < winActive s v + (winLatch s v).count)

/-- Does entry i of the decoder table lie in a VCS's decoder range (R156)? -/
def inDecRange (s : State) (i : Nat) : Bool :=
  (List.range 64).any fun v =>
    decide (s.get (F.RTE_VCS_TBL_DEC_FIRST v) ≤ i)
    && decide (i < s.get (F.RTE_VCS_TBL_DEC_FIRST v) + s.get (F.RTE_VCS_CFG_DEC_COUNT v))

/-- RESULT of an access to entry i of table t. -/
def tblResult (s : State) (write : Bool) (t i : Nat) : Nat :=
  if t = 0 ∨ 6 < t ∨ s.get (F.RTE_TBL_UNITS t) = 0 then 4
  else if tblCap s t ≤ i then 3
  else if write && t == 3 && inActiveHalf s i then 1
  else if write && t == 2 && inDecRange s i then 2
  else 0

/-- The bytes of RTE_TBL_DATA. -/
def tblData (s : State) : Bytes :=
  ([0, 1, 2, 3] : List Nat).flatMap fun k => leBytes 8 (s.get (F.RTE_TBL_DATA_DATA k))

/-- Perform the access that RTE_TBL_CMD names. -/
def tblAccess (s : State) : State :=
  let t := s.get F.RTE_TBL_CMD_TABLE
  let i := s.get F.RTE_TBL_CMD_INDEX
  let w := s.bit F.RTE_TBL_CMD_WRITE
  let r := tblResult s w t i
  let s := s.put F.RTE_TBL_CMD_RESULT r
  if r ≠ 0 then s
  else if w then tblPut s t i (tblData s)
  else
    let b := tblEntry s t i
    (List.range (entrySize t / 8)).foldl (fun s k => s.put (F.RTE_TBL_DATA_DATA k) (leN b (8 * k) 8)) s

/-- A write of RTE_TBL_CMD. -/
def wrTblCmd (w : Wr) (s : State) : State :=
  let s := s.writeReg R.RTE_TBL_CMD w
  if w.sets F.RTE_TBL_CMD_START then tblAccess s else s

/-- The write of RTE_TBL_CMD that accesses entry i of table t. -/
def tblCmd (mid : Nat) (write : Bool) (t i : Nat) : Wr :=
  wrFull mid false (BitVec.ofNat 64 (2 ^ 31 + (if write then 2 ^ 29 else 0) + t * 2 ^ 18 + i))

def execTableRead (mid : Mid) (t : Fin 8) (i : Fin 262144) (s : State) : Host.Outcome State Fault Refusal :=
  .next (wrTblCmd (tblCmd mid false t i) s)

def execTableWrite (mid : Mid) (t : Fin 8) (i : Fin 262144) (s : State) : Host.Outcome State Fault Refusal :=
  .next (wrTblCmd (tblCmd mid true t i) s)

/-! ## HDM decoders (R146, R156, R208) -/

/-- Is a decoder of VCS v committed? -/
def anyCommitted (s : State) (v : Nat) : Bool :=
  (List.range (s.get (F.RTE_VCS_CFG_DEC_COUNT v))).any fun i => (hdmEnt s (s.get (F.RTE_VCS_TBL_DEC_FIRST v) + i)).committed

/-- The checks that every decoder passes: its range lies below 2^52, interleave codes are valid. -/
def decFieldsOk (d : DecSet) : Bool :=
  1 ≤ d.size && decide (d.base + d.size ≤ 2 ^ 24) && iwWays d.iw != 0 && decide (d.ig ≤ 6)

/-- Do two ranges overlap? -/
def overlap (a n b m : Nat) : Bool := decide (a < b + m) && decide (b < a + n)

/-- The checks of R156 for decoder i of VCS v. -/
def decOk (s : State) (v i : Nat) (d : DecSet) : Bool :=
  let f := s.get (F.RTE_VCS_TBL_DEC_FIRST v)
  let others := (List.range (s.get (F.RTE_VCS_CFG_DEC_COUNT v))).filter (· != i)
  decFieldsOk d && decide (f + i < tblCap s 2)
  && (others.all fun j => !(hdmEnt s (f + j)).committed || !overlap d.base d.size (hdmEnt s (f + j)).base (hdmEnt s (f + j)).size)
  && (i == 0 || (hdmEnt s (f + i - 1)).committed && decide ((hdmEnt s (f + i - 1)).base + (hdmEnt s (f + i - 1)).size ≤ d.base))
  && (List.range (iwWays d.iw)).all fun k => decide (d.targets.getD k 1024 < s.get (F.RTE_VCS_CFG_VPPBS v))

/-- A decoder's table entry (R146). -/
def decBytes (d : DecSet) : Bytes :=
  leBytes 4 d.base ++ leBytes 4 d.size ++ [BitVec.ofNat 8 (if d.lock then 3 else 1), BitVec.ofNat 8 d.iw, BitVec.ofNat 8 d.ig]
  ++ List.replicate 5 0#8 ++ (List.range 8).flatMap fun k => leBytes 2 (d.targets.getD k 0)

/-- Commit of decoder i of VCS v: written committed, or Error Not Committed. A locked decoder takes no commit. -/
def commitVcs (v i : Nat) (d : DecSet) (s : State) : State :=
  let e := s.get (F.RTE_VCS_TBL_DEC_FIRST v) + i
  if s.get (F.RTE_VCS_CFG_DEC_COUNT v) ≤ i ∨ (hdmEnt s e).locked then s
  else if decOk s v i d then
    (tblPut s 2 e (decBytes d)).modUx v fun x => { x with decErr := x.decErr - (if x.decErr.testBit i then 2 ^ i else 0) }
  else s.modUx v fun x => { x with decErr := x.decErr ||| 2 ^ i }

/-- Commit of decoder i of pool LD n: the checks of R156, one way only (R208). -/
def commitPool (n i : Nat) (d : DecSet) (s : State) : State :=
  let l := tget [] s.pool.ldDecs n
  let ok := decFieldsOk d && d.iw == 0 && decide (i ≤ l.length)
    && ((List.range l.length).all fun j => j == i || match l[j]? with
        | some x => !overlap d.base d.size x.base x.size
        | none => true)
    && (i == 0 || match l[i - 1]? with
        | some x => decide (x.base + x.size ≤ d.base)
        | none => false)
  let locked : Bool := match l[i]? with
    | some x => x.lock
    | none => false
  if 4 ≤ i ∨ locked then s
  else if ok then
    { s with pool := { s.pool with
        ldDecs := tput [] s.pool.ldDecs n (l.take i ++ [⟨d.base, d.size, d.dpa, d.lock⟩] ++ l.drop (i + 1))
        ldDecErr := tmod 0 s.pool.ldDecErr n fun b => b - (if b.testBit i then 2 ^ i else 0) } }
  else { s with pool := { s.pool with ldDecErr := tmod 0 s.pool.ldDecErr n (· ||| 2 ^ i) } }

/-- DECODER_COMMIT (R156, R208). -/
def execDecoderCommit (o : DecOwner) (i : Fin 32) (d : DecSet) (s : State) : Host.Outcome State Fault Refusal :=
  .next (
    match o with
    | .vcs v => commitVcs v i d s
    | .pool n => commitPool n i d s)

/-- A write of RTE_VCS_CFG v (R155, R156). -/
def wrVcsCfg (v : Nat) (w : Wr) (s : State) : State :=
  let unbound := !((List.range 1024).any fun n => s.bit (F.RTE_BIND_VALID n) && s.get (F.RTE_BIND_VCS n) == v)
    && !s.bit (F.HEP_VCS_EN v)
  let a := if unbound && !(s.px (uport s v)).up then 0#64 else bitsMask 24 16
  let b := if anyCommitted s v then bitsMask 5 0 else 0#64
  s.writeReg (R.RTE_VCS_CFG v) w (a ||| b)

/-- A write of RTE_VCS_TBL v (R156). -/
def wrVcsTbl (v : Nat) (w : Wr) (s : State) : State :=
  s.writeReg (R.RTE_VCS_TBL v) w (if anyCommitted s v then bitsMask 63 46 else 0#64)

/-! ## Binds (R157 to R160) -/

/-- What a bind asks for. -/
structure BindReq where
  vcs : Nat
  vppb : Nat
  kind : Nat
  port : Nat
  ldid : Nat
  rpid : Nat
  cache : Bool
  pbr : Bool
deriving DecidableEq, Repr

/-- The request in RTE_BIND_CMD. -/
def bindReq (s : State) : BindReq :=
  { vcs := s.get F.RTE_BIND_CMD_VCS, vppb := s.get F.RTE_BIND_CMD_VPPB, kind := s.get F.RTE_BIND_CMD_KIND,
    port := s.get F.RTE_BIND_CMD_PORT, ldid := s.get F.RTE_BIND_CMD_LDID, rpid := s.get F.RTE_BIND_CMD_RPID,
    cache := s.bit F.RTE_BIND_CMD_CACHE, pbr := s.bit F.RTE_BIND_CMD_PBR }

/-- Is port p in L0 or Active? -/
def linkReady (s : State) (p : Nat) : Bool :=
  (s.get (F.PORT_CFG_ROLE p) == 2 && s.get (F.PORT_LINK_STATUS_LTSSM p) == 3)
  || (s.get (F.PORT_CFG_ROLE p) == 3 && s.get (F.OFL_STATUS_STATE p) == 3)

/-- Is the target of a request bound already (code 0x4, R190)? -/
def targetBound (s : State) (r : BindReq) : Bool :=
  let clash := fun (l : Nat) => l == r.ldid || l == 0xFFFF || r.ldid == 0xFFFF
  if r.kind = 1 then
    (List.range 1024).any fun n => s.bit (F.RTE_BIND_VALID n) && s.get (F.RTE_BIND_KIND n) == 1 && s.get (F.RTE_BIND_LDID n) == r.ldid
  else if s.get (F.PORT_CFG_ROLE r.port) ≠ 2 then false
  else
    ((List.range 1024).any fun n =>
      s.bit (F.RTE_BIND_VALID n) && s.get (F.RTE_BIND_KIND n) == 0 && s.get (F.RTE_BIND_PORT n) == r.port
      && clash (s.get (F.RTE_BIND_LDID n)))
    || (List.range 32).any fun k =>
      s.bit (F.COH_PROXY_VALID k) && s.get (F.COH_PROXY_PORT k) == r.port && clash (s.get (F.COH_PROXY_LDID k))

/-- Lowest free entry of the binding table, those of waiting binds left out. -/
def freeBind (s : State) : Option Nat :=
  (List.range 1024).find? fun n => !s.bit (F.RTE_BIND_VALID n) && !(s.rte.binds.any fun b => b.n == n)

/-- A field of a binding-table word. -/
def bindWordGet (e : Word) (f : Fld) : Nat := bitsGet e f.hi f.lo

/-- Does a bind or an unbind run on the target port of a request (code 0x9)? -/
def portBusy (s : State) (p : Nat) : Bool :=
  (s.rte.binds.any fun b => bindWordGet b.entry (F.RTE_BIND_PORT 0) == p && bindWordGet b.entry (F.RTE_BIND_KIND 0) == 0)
  || s.rte.unbinds.any fun u => s.get (F.RTE_BIND_PORT u.n) == p && s.get (F.RTE_BIND_KIND u.n) == 0

/-- Refusal code of a bind, 0 where none (R158). -/
def bindCode (s : State) (r : BindReq) : Nat :=
  let ofl := r.kind == 0 && s.get (F.PORT_CFG_ROLE r.port) == 3
  let waits := s.rte.binds.any fun b =>
    bindWordGet b.entry (F.RTE_BIND_VCS 0) == r.vcs && bindWordGet b.entry (F.RTE_BIND_VPPB 0) == r.vppb
  if !s.bit (F.RTE_VCS_CFG_PRESENT r.vcs) ∨ s.get (F.RTE_VCS_CFG_VPPBS r.vcs) ≤ r.vppb then 1
  else if (bindOf s r.vcs r.vppb).isSome ∨ isFnVppb s r.vcs r.vppb ∨ waits then 2
  else if r.kind = 0 ∧ !linkReady s r.port then 3
  else if 2 > r.kind ∧ targetBound s r then 4
  else if (freeBind s).isNone then 5
  else if 1 < r.kind
      ∨ (r.kind = 0 ∧ r.pbr ∧ s.get (F.PORT_LINK_STATUS_PROTO r.port) = 1)
      ∨ (r.kind = 1 ∧ (63 < r.ldid ∨ !s.bit (F.POOL_LD_EN r.ldid) ∨ s.bit (F.POOL_LD_REMOTE r.ldid)))
      ∨ (ofl ∧ r.ldid ≠ 0xFFFF) ∨ (r.kind = 0 ∧ !ofl ∧ 15 < r.ldid ∧ r.ldid ≠ 0xFFFF) then 6
  else if r.cache ∧ (ofl ∨ r.kind = 1 ∨ r.ldid ≠ 0xFFFF) then 7
  else if r.kind = 0 ∧ portBusy s r.port then 9
  else 0

/-- The word of a binding-table entry. -/
def bindWord (r : BindReq) (state : Nat) : Word :=
  BitVec.ofNat 64 (2 ^ 63 + state * 2 ^ 61 + (if r.cache then 2 ^ 60 else 0) + (if r.pbr then 2 ^ 59 else 0)
    + r.kind % 4 * 2 ^ 57 + r.rpid % 4096 * 2 ^ 45 + r.vcs % 64 * 2 ^ 39 + r.vppb % 1024 * 2 ^ 29 + r.port % 128 * 2 ^ 22
    + r.ldid % 65536)

/-- A vPPB reports presence and link active, and hot-plug is signalled where enabled (R159 step 5, R163). -/
def vppbBound (s : State) (n : Nat) : State :=
  let v := s.get (F.RTE_BIND_VCS n)
  let k := s.get (F.RTE_BIND_VPPB n)
  let p := s.get (F.RTE_BIND_PORT n)
  let slot := s.get (F.PORT_CFG_SLC p)
  let present := if s.get (F.RTE_BIND_KIND n) = 0 ∧ s.get (F.RTE_BIND_LDID n) = 0xFFFF ∧ slot < 32
    then s.bit (F.SLC_STATUS_PRESENT slot) else true
  let s := s.modVx v k fun x => { x with present := present, linkUp := true, presentChanged := true, linkChanged := true }
  if (s.vx v k).hotplug then s.out (.hotplug v k) else s

/-- A command of RTE_BIND_CMD ends. -/
def bindDone (s : State) (r : Nat) : State :=
  ((s.put F.RTE_BIND_CMD_BUSY 0).put F.RTE_BIND_CMD_RESULT r).put F.MGT_DONE_RTE_BIND 1

/-- A bind ends with a result: a command shows it; an initial binding that is refused is dropped and recorded (R42). -/
def bindEnd (s : State) (cmd : Bool) (r : Nat) : State :=
  if cmd then bindDone s r else if r = 0 then s else s.raise 1361

/-- Steps 4 and 5 of R159. -/
def bindFinish (s : State) (n : Nat) (e : Word) (cmd : Bool) : State :=
  bindEnd (vppbBound (s.wr (R.RTE_BIND n) e) n) cmd 0

/-- A bind (R159): refused, finished, or waiting for the device's LD allocation. -/
def bindStart (s : State) (r : BindReq) (cmd : Bool) : State :=
  let c := bindCode s r
  if c ≠ 0 then bindEnd s cmd c
  else match freeBind s with
    | none => bindEnd s cmd 5
    | some n =>
      if r.kind = 0 ∧ s.get (F.PORT_CFG_ROLE r.port) = 2 ∧ r.ldid ≠ 0xFFFF then
        s.modRte fun x => { x with binds := x.binds ++ [⟨n, bindWord r 2, cmd⟩] }
      else bindFinish s n (bindWord r 2) cmd

/-- A binding of the image that names an OFL port is held in state binding (R157). -/
def bindHeld (s : State) (r : BindReq) : State :=
  match freeBind s with
  | none => s.raise 1361
  | some n =>
    if (bindOf s r.vcs r.vppb).isSome then s.raise 1361 else s.wr (R.RTE_BIND n) (bindWord r 1)

/-- The request of an initial binding. -/
def initReq (b : InitBind) : BindReq :=
  { vcs := b.vcs, vppb := b.vppb, kind := 0, port := b.port, ldid := b.ld, rpid := 0, cache := false, pbr := false }

/-- The next initial binding: its downstream port has trained, or is an OFL port (R42). -/
def initNext (s : State) : Option InitBind :=
  s.rte.initial.find? fun b => s.get (F.PORT_CFG_ROLE b.port) == 3 || linkReady s b.port

/-! ## Unbinds (R161) -/

/-- The word of RTE_BIND_CMD as a request to unbind finds its binding; none gives code 0x1. -/
def unbindFree (s : State) (n : Nat) (r : Nat) : State :=
  let v := s.get (F.RTE_BIND_VCS n)
  let k := s.get (F.RTE_BIND_VPPB n)
  let s := (s.wr (R.RTE_BIND n) 0#64).put (F.RTE_BIND_OUT_OUTSTANDING n) 0
  let s := s.modRte fun x => { x with
    unbinds := x.unbinds.filter fun u => u.n != n, cut := x.cut.erase n, surprise := x.surprise.erase n }
  bindDone (s.modVx v k fun x => { x with attention := false }) r

/-- Step 3: new requests are decode misses, the vPPB reports the device gone, hot-plug is signalled. -/
def unbindCut (s : State) (n : Nat) (surprise : Bool) : State :=
  let v := s.get (F.RTE_BIND_VCS n)
  let k := s.get (F.RTE_BIND_VPPB n)
  let s := s.modRte fun x => { x with
    cut := x.cut ++ [n], surprise := if surprise then x.surprise ++ [n] else x.surprise }
  let s := s.modVx v k fun x => { x with linkUp := false, present := false, presentChanged := true, linkChanged := true }
  if (s.vx v k).hotplug then s.out (.hotplug v k) else s

/-- An unbind that waits for the host and is not past step 3 goes on there. -/
def unbindGo (s : State) (n : Nat) : State :=
  if (s.rte.unbinds.any fun u => u.n == n && u.managed) && !s.rte.cut.contains n then unbindCut s n false else s

/-- Start of an unbind. -/
def unbindStart (s : State) : State :=
  match bindOf s (s.get F.RTE_BIND_CMD_VCS) (s.get F.RTE_BIND_CMD_VPPB) with
  | none => bindDone s 1
  | some n =>
    if s.get (F.RTE_BIND_KIND n) = 0 ∧ portBusy s (s.get (F.RTE_BIND_PORT n)) ∨ (s.rte.unbinds.any fun u => u.n == n) then
      bindDone s 9
    else if s.get (F.RTE_BIND_STATE n) = 1 then unbindFree s n 0
    else
      let sur := s.bit F.RTE_BIND_CMD_SURPRISE
      let s := (s.put (F.RTE_BIND_STATE n) 3).put F.RTE_BIND_CMD_BUSY 1
      let s := s.modRte fun x => { x with unbinds := x.unbinds ++ [⟨n, !sur, 0⟩] }
      if sur then unbindCut s n true
      else s.modVx (s.get (F.RTE_BIND_VCS n)) (s.get (F.RTE_BIND_VPPB n)) fun x => { x with attention := true }

/-- OP 3 (R160). -/
def setRpid (s : State) : State :=
  match bindOf s (s.get F.RTE_BIND_CMD_VCS) (s.get F.RTE_BIND_CMD_VPPB) with
  | none => bindDone s 0xC
  | some n =>
    if s.get (F.RTE_BIND_STATE n) ≠ 1 then bindDone s 0xC
    else if !linkReady s (s.get (F.RTE_BIND_PORT n)) then bindDone s 3
    else if portBusy s (s.get (F.RTE_BIND_PORT n)) then bindDone s 9
    else bindDone (vppbBound ((s.put (F.RTE_BIND_RPID n) (s.get F.RTE_BIND_CMD_RPID)).put (F.RTE_BIND_STATE n) 2) n) 0

/-- A write of RTE_BIND_CMD; START while BUSY is refused. -/
def wrBindCmd (w : Wr) (s : State) : State :=
  if w.sets F.RTE_BIND_CMD_START ∧ s.bit F.RTE_BIND_CMD_BUSY then s.refuse R.RTE_BIND_CMD.addr w.mid w.size
  else
    let s := s.writeReg R.RTE_BIND_CMD w
    if !w.sets F.RTE_BIND_CMD_START then s
    else match s.get F.RTE_BIND_CMD_OP with
      | 1 => bindStart (s.put F.RTE_BIND_CMD_BUSY 1) (bindReq s) true
      | 2 => unbindStart s
      | 3 => setRpid s
      | _ => s

/-- A full write of RTE_BIND_CMD with START and an OP. -/
def bindCmd (mid : Nat) (v : Word) (op : Nat) : Wr := wrFull mid true (bitsPut (bitsPut v 63 63 1) 61 60 op)

/-- BIND (R42, R159): a write of RTE_BIND_CMD with OP 1, or the next initial binding of the image. -/
def execBind (mid : Mid) (v : Option Word) (s : State) : Host.Outcome State Fault Refusal :=
  .next (
    match v with
    | some v => wrBindCmd (bindCmd mid v 1) s
    | none =>
      match initNext s with
      | none => s
      | some b =>
        let s := s.modRte fun x => { x with initial := x.initial.erase b }
        if s.get (F.PORT_CFG_ROLE b.port) = 3 then bindHeld s (initReq b) else bindStart s (initReq b) false)

/-- The waiting bind of entry n. -/
def bindWaiting (s : State) (n : Nat) : Option BindOp := s.rte.binds.find? fun b => b.n == n

/-- A waiting bind ends. -/
def bindDrop (s : State) (n : Nat) : State := s.modRte fun x => { x with binds := x.binds.filter fun b => b.n != n }

/-- LD_ALLOCATION_CONFIRM (R158, R159). -/
def execLdAllocationConfirm (n : Fin 1024) (ok : Bool) (s : State) : Host.Outcome State Fault Refusal :=
  .next (
    match bindWaiting s n with
    | none => s
    | some b =>
      let s := bindDrop s n
      if !ok then bindEnd s b.cmd 8
      else if !linkReady s (bindWordGet b.entry (F.RTE_BIND_PORT 0)) then bindEnd s b.cmd 3
      else bindFinish s n b.entry b.cmd)

/-- LD_ALLOCATION_TIMEOUT (R158). -/
def execLdAllocationTimeout (n : Fin 1024) (s : State) : Host.Outcome State Fault Refusal :=
  .next (
    match bindWaiting s n with
    | none => s
    | some b => bindEnd (bindDrop s n) b.cmd 8)

def execUnbind (mid : Mid) (v : Word) (s : State) : Host.Outcome State Fault Refusal :=
  .next (wrBindCmd (bindCmd mid v 2) s)

def execSetRpid (mid : Mid) (v : Word) (s : State) : Host.Outcome State Fault Refusal :=
  .next (wrBindCmd (bindCmd mid v 3) s)

/-- The unbind in progress of entry n past its step 3. -/
def unbindOf (s : State) (n : Nat) : Option UnbindOp :=
  if s.rte.cut.contains n then s.rte.unbinds.find? fun u => u.n == n else none

/-- UNBIND_DRAIN_END (R161 step 6). -/
def execUnbindDrainEnd (n : Fin 1024) (s : State) : Host.Outcome State Fault Refusal :=
  .next (
    match unbindOf s n with
    | some u => if s.get (F.RTE_BIND_OUT_OUTSTANDING n) = 0 then unbindFree s n u.result else s
    | none => s)

/-- The completion of a request of a binding that is freed, as R153 gives it. -/
def drainAnswer (s : State) (x : Sent) : State :=
  let s := { sentDone s x with rte := { (sentDone s x).rte with late := (sentDone s x).rte.late ++ [(x.port, x.q.tag)] } }
  if x.q.cls == .mReq && (x.q.op == .mRd || x.q.op == .mRdData) then answer s x.q (poisonReply x.q)
  else if x.q.cls == .mReq || x.q.cls == .mRwD then answer s x.q (reply x.q .sNdr .cmp 0 false)
  else answer s x.q (reply x.q .ioCpl .cpl 1 false)

/-- UNBIND_DRAIN_TIMEOUT (R161 step 5). -/
def execUnbindDrainTimeout (n : Fin 1024) (s : State) : Host.Outcome State Fault Refusal :=
  .next (
    match unbindOf s n with
    | some u =>
      if s.get (F.RTE_BIND_OUT_OUTSTANDING n) = 0 then unbindFree s n u.result
      else unbindFree ((s.rte.sent.filter fun x => x.bind == some n.val).foldl drainAnswer s) n 0xA
    | none => s)

/-- MANAGED_UNBIND_TIMEOUT (R161): the unbind goes on as a surprise unbind. -/
def execManagedUnbindTimeout (n : Fin 1024) (s : State) : Host.Outcome State Fault Refusal :=
  .next (
    if (s.rte.unbinds.any fun u => u.n == n && u.managed) && !s.rte.cut.contains n.val then
      unbindCut (s.modRte fun x => { x with
        unbinds := x.unbinds.map fun u => if u.n = n.val then { u with result := 0xB } else u }) n true
    else s)

/-! ## Windows (R166 to R168) -/

/-- Does the Millrace hold a packet translated under version ver of VCS v? -/
def winHeld (s : State) (v ver : Nat) : Bool :=
  let w := some (v, ver)
  (s.mill.queues.any fun x => x.2.any fun y => y.pkt.win == w && !y.lost) || (s.mill.staged.any fun x => x.pkt.win == w)
  || (s.mill.chains.any fun x => x.2.any fun pg => pg.any fun q => q.win == w)
  || (s.mill.presented.any fun x => x.pkt.win == w)

/-- A commit (R167). -/
def winCommit (s : State) : State :=
  let v := s.get F.RTE_WIN_COMMIT_VCS
  let old := s.get (F.RTE_VCS_TBL_WIN_VERSION v)
  let l : WinLatch := ⟨s.get (F.RTE_VCS_TBL_WIN_FIRST v), min 16384 (s.get (F.RTE_VCS_TBL_WIN_COUNT v))⟩
  let s := s.modRte fun x => { x with win := tput {} x.win v l }
  let s := (s.put (F.RTE_VCS_TBL_WIN_ACTIVE v) (1 - s.get (F.RTE_VCS_TBL_WIN_ACTIVE v))).put
    (F.RTE_VCS_TBL_WIN_VERSION v) ((old + 1) % 256)
  if s.bit F.RTE_WIN_COMMIT_DRAIN && winHeld s v old then
    { s.put F.RTE_WIN_COMMIT_BUSY 1 with rte := { s.rte with drain := some (v, old) } }
  else s.put F.MGT_DONE_RTE_WIN 1

/-- A write of RTE_WIN_COMMIT; START while BUSY is refused (R168). -/
def wrWinCommit (w : Wr) (s : State) : State :=
  if w.sets F.RTE_WIN_COMMIT_START ∧ s.bit F.RTE_WIN_COMMIT_BUSY then s.refuse R.RTE_WIN_COMMIT.addr w.mid w.size
  else
    let s := s.writeReg R.RTE_WIN_COMMIT w
    if w.sets F.RTE_WIN_COMMIT_START then winCommit s else s

def execWindowCommit (mid : Mid) (v : Fin 64) (drain : Bool) (s : State) : Host.Outcome State Fault Refusal :=
  .next (wrWinCommit (wrFull mid false (BitVec.ofNat 64 (2 ^ 31 + (if drain then 2 ^ 29 else 0) + v))) s)

/-- WINDOW_DRAIN_END (R167). -/
def execWindowDrainEnd (s : State) : Host.Outcome State Fault Refusal :=
  .next (
    match s.rte.drain with
    | some (v, ver) =>
      if winHeld s v ver then s
      else ({ s with rte := { s.rte with drain := none } }.put F.RTE_WIN_COMMIT_BUSY 0).put F.MGT_DONE_RTE_WIN 1
    | none => s)

/-! ## Paths (R170, R172) -/

/-- FAILOVER_REENABLE (R170). -/
def execFailoverReenable (p : Fin 96) (s : State) : Host.Outcome State Fault Refusal :=
  .next (
    if s.get (F.PORT_CFG_ROLE p) = 3 ∧ (s.px p).wait = .failover then
      (setWait s p .none).put (F.OFL_STATUS_STATE p) (if s.bit (F.PORT_LINK_CTRL_DISABLE p) then 6 else 0)
    else s)

/-- The other hops of every PBR entry that names port p. -/
def hopsBeside (s : State) (p : Nat) : List Nat :=
  ((List.range (tblCap s 1)).flatMap fun i =>
    match pbrEnt s i with
    | some e => if e.kind = 2 ∧ e.hops.contains (some p) then (e.hops.filterMap id).filter (· != p) else []
    | none => []).eraseDups

/-- Packets in the egress queues of hop h. -/
def hopPkts (s : State) (h : Nat) : List (Nat × Src × Nat) :=
  ((List.range 8).flatMap fun c => (queue s (queueNo h c)).map fun x => (h, x.pkt.src, x.pkt.tag))
  ++ (s.ox h).txq.map fun q => (h, q.src, q.tag)

/-- Start of a restore (R172). -/
def restoreStart (p : Nat) (cmd : Bool) (s : State) : State :=
  let hs := hopsBeside s p
  s.modRte fun x => { x with restore := some {
    port := p, cmd := cmd
    held := hs.flatMap fun h => (s.ox h).held.map fun f => (h, f.seq)
    pkts := hs.flatMap (hopPkts s) } }

/-- May port p be taken back into use? -/
def restorable (s : State) (p : Nat) : Bool := oflActive s p && s.rte.away.contains p && s.rte.restore.isNone

/-- AUTO_RESTORE (R172): port p has been Active for RESTORE_DELAY. -/
def execAutoRestore (p : Fin 96) (s : State) : Host.Outcome State Fault Refusal :=
  .next (if s.bit F.RTE_PATH_CTRL_AUTO_RESTORE && restorable s p then restoreStart p false s else s)

/-- A commanded restore ends. -/
def pathDone (s : State) (r : Nat) : State :=
  ((s.put F.RTE_PATH_CMD_BUSY 0).put F.RTE_PATH_CMD_RESULT r).put F.MGT_DONE_RTE_PATH 1

/-- A write of RTE_PATH_CMD; START while a restore runs is refused. -/
def wrPathCmd (w : Wr) (s : State) : State :=
  if w.sets F.RTE_PATH_CMD_START ∧ (s.bit F.RTE_PATH_CMD_BUSY ∨ s.rte.restore.isSome) then
    s.refuse R.RTE_PATH_CMD.addr w.mid w.size
  else
    let s := s.writeReg R.RTE_PATH_CMD w
    if !w.sets F.RTE_PATH_CMD_START then s
    else
      let p := s.get F.RTE_PATH_CMD_PORT
      if 96 ≤ p ∨ !oflActive s p then pathDone s 1
      else if !s.rte.away.contains p then pathDone s 0
      else restoreStart p true (s.put F.RTE_PATH_CMD_BUSY 1)

def execPathRestore (mid : Mid) (p : Fin 128) (s : State) : Host.Outcome State Fault Refusal :=
  .next (wrPathCmd (wrFull mid false (BitVec.ofNat 64 (2 ^ 31 + p))) s)

/-- Have the old hops drained and been acknowledged (R172)? -/
def restoreReady (s : State) (r : RestoreOp) : Bool :=
  (r.held.all fun f => !((s.ox f.1).held.any fun g => g.seq == f.2))
  && r.pkts.all fun k => !(hopPkts s k.1).contains k

/-- RESTORE_COMPLETE (R172). -/
def execRestoreComplete (s : State) : Host.Outcome State Fault Refusal :=
  .next (
    match s.rte.restore with
    | some r =>
      if restoreReady s r then
        let s := (s.modRte fun x => { x with restore := none, away := x.away.erase r.port }).inc F.RTE_PATH_STATUS_RESTORES
        if r.cmd then pathDone s 0 else s
      else s
    | none => s)

/-- RESTORE_ABORT (R172): the wait has exceeded 50 µs. -/
def execRestoreAbort (s : State) : Host.Outcome State Fault Refusal :=
  .next (
    match s.rte.restore with
    | some r =>
      let s := ((s.modRte fun x => { x with restore := none }).inc F.RTE_PATH_STATUS_RESTORE_ABORTS).raise 1363
      if r.cmd then pathDone s 2 else s
    | none => s)

end Sys2Proof.Machine
end

