-- ==== Sys2Proof/Machine/Pool.lean ====
section
/-! DEFINITION. The pool: coming up, extents, the LD map, DRAM accesses with their errors, scrub and refresh (R202 to
R222, R224). -/

namespace Sys2Proof.Machine

/-- Replace the pool's own state. -/
def State.modPool (s : State) (f : PoolSt → PoolSt) : State := { s with pool := f s.pool }

/-- The Leat region's place, from its size and the DRAM in service (R205). -/
def leatPlace (s : State) : State :=
  s.put F.POOL_LEAT_FIRST (dramExts s - min (s.get F.POOL_LEAT_SIZE) (dramExts s))

/-- Pages of the Leat region. -/
def leatPages (s : State) : Nat := 4096 * min (s.get F.POOL_LEAT_SIZE) (dramExts s)

/-- The pool returns to reset. -/
def poolToReset (s : State) : State := { s.clearRegs 0x47000000 0x48000000 with pool := {} }

/-! ## Coming up (R202 to R204) -/

/-- Channels used with n per tile (R202). -/
def chanRow (n : Nat) : List Nat :=
  if n = 3 then [0, 1, 2, 3, 4, 5, 6, 7, 8, 9, 10, 11] else if n = 2 then [0, 1, 3, 4, 6, 7, 9, 10] else [0, 3, 6, 9]

/-- The largest set of R202 within some channels. -/
def bestSet (cs : List Nat) : List Nat :=
  match ([3, 2, 1] : List Nat).find? fun n => (chanRow n).all cs.contains with
  | some n => chanRow n
  | none => []

/-- Modules of channel c. -/
def modsOf (f : PoolFind) (c : Nat) : List Dimm := [f.slots.getD (2 * c) none, f.slots.getD (2 * c + 1) none].filterMap id

/-- RATE codes that a module type permits (R203). -/
def ratesFor (mrdimm : Bool) (dpc : Nat) : List Nat :=
  if mrdimm then (if dpc = 1 then [6, 5] else []) else if dpc = 1 then [4, 3, 2] else [4, 3, 2, 1]

/-- POOL_INIT: the interleave set is chosen and trained; initial zeroing starts (R204). -/
def poolInit (f : PoolFind) (s : State) : State :=
  let pop := (List.range 12).filter fun c => !(modsOf f c).isEmpty
  match pop.head? with
  | none => (s.put F.POOL_STATUS_STATE 2).modPool fun p => { p with up := true }
  | some c0 =>
    let pat := modsOf f c0
    let d0 := pat.headD ⟨false, false, 0, 0, 0, 0, 0⟩
    let same := fun (m : Dimm) => m.mrdimm == d0.mrdimm && m.x4 == d0.x4 && m.size == d0.size && m.ranks == d0.ranks && m.bin == d0.bin
    let good := pop.filter fun c => (modsOf f c).length == pat.length && (modsOf f c).all same && f.trained.getLsbD c
    let all := (good.flatMap (modsOf f))
    match (ratesFor d0.mrdimm pat.length).find? fun r => all.all fun m => m.rates.testBit r with
    | none => (s.put F.POOL_STATUS_STATE 2).modPool fun p => { p with up := true }
    | some rate =>
      let set := bestSet good
      let bad := pop.filter fun c => !good.contains c
      let s := s.put F.POOL_STATUS_FAILED (bad.foldl (fun a c => a ||| 2 ^ c) 0)
      let s := bad.foldl (fun s c => s.raise (1624 + 8 * c + 5)) s
      let s := if set.length < (bestSet pop).length then (s.put F.POOL_STATUS_REDUCED 1).raise 1720 else s
      if set.isEmpty then (s.put F.POOL_STATUS_STATE 2).modPool fun p => { p with up := true }
      else
        let d := min 24576 (set.length * pat.length * 2 ^ d0.size * 4)
        let s := (s.put F.POOL_CFG_EXTENTS d).put F.POOL_CFG_RATE rate
        let s := ((s.put F.POOL_CFG_DIMM_SIZE d0.size).putB F.POOL_CFG_X4 d0.x4).putB F.POOL_CFG_MRDIMM d0.mrdimm
        let s := (s.putB F.POOL_CFG_DPC2 (pat.length == 2)).put F.POOL_CFG_CHANNELS (set.foldl (fun a c => a ||| 2 ^ c) 0)
        let s := leatPlace (s.put F.POOL_STATUS_STATE 1)
        s.modPool fun p => { p with
          up := true, leatDirty := decide (0 < leatPages s), zeroFrom := 0, zeroEnd := s.get F.POOL_LEAT_FIRST
          raaimt := d0.raaimt }

/-- POOL_INIT (R204), once the pool front end is released from reset. -/
def execPoolInit (f : PoolFind) (s : State) : Host.Outcome State Fault Refusal :=
  .next (if s.pwr.poolUp ∧ !s.pool.up then poolInit f s else s)

/-! ## Lines -/

/-- Write the lines of backing extent b with zero and good check bits. -/
def zeroExt (s : State) (b : Nat) : State :=
  s.modPool fun p => { p with
    data := tdrop (fun a => a / 2 ^ 28 == b) p.data, poison := tdrop (fun l => l / 2 ^ 22 == b) p.poison }

/-- Is a line stored poisoned (R218)? -/
def linePoison (s : State) (l : Nat) : Bool := tget false s.pool.poison l

/-- Store a line poisoned, or good. -/
def setPoison (s : State) (l : Nat) (b : Bool) : State := s.modPool fun p => { p with poison := tput false p.poison l b }

/-- Poison a line of the pool by writing it (R194). -/
def poisonLine (s : State) (o : Nat) : State := setPoison s (o / 64) true

/-- n bytes of DRAM. -/
def dramRd (s : State) (o n : Nat) : Bytes := tgets 0#8 s.pool.data o n

/-- Write bytes of DRAM; the armed injection may strike the lines (R367). -/
def dramWr (s : State) (o : Nat) (b : Bytes) : State :=
  ((List.range ((o + max 1 b.length - 1) / 64 - o / 64 + 1)).map (o / 64 + ·)).foldl
    (fun s l => injWrite s 0x0B (chanOf s (64 * l)) l) (s.modPool fun p => { p with data := tputs 0#8 p.data o b })

/-- What the check bits of the line at offset o show: an injected error, else e. -/
def lineErr (s : State) (o : Nat) (e : LineErr) : LineErr :=
  match injMark s 0x0B (chanOf s o) (o / 64) with
  | 1 => .corrected
  | 2 => .uncorrectable
  | _ => e

/-! ## Errors (R217 to R219) -/

/-- Channel address of a pool byte offset (R206). -/
def chAddr (s : State) (o : Nat) : Nat := o / 256 / (chanSet s).length * 256 + o % 256

/-- Record an error in POOL_LAST_ERR and POOL_LAST_ADDR. -/
def lastErr (s : State) (kind o : Nat) : State :=
  let x := Config.dramPlace (chAddr s o)
  let s := ((s.put F.POOL_LAST_ERR_VALID 1).put F.POOL_LAST_ERR_KIND kind).put F.POOL_LAST_ERR_CHANNEL (chanOf s o)
  let s := ((s.put F.POOL_LAST_ERR_DIMM x.1).put F.POOL_LAST_ERR_RANK x.2.1).put F.POOL_LAST_ERR_BANK x.2.2.1
  ((s.put F.POOL_LAST_ERR_ROW x.2.2.2.1).put F.POOL_LAST_ERR_COLUMN x.2.2.2.2).put F.POOL_LAST_ADDR_LINE (o / 64)

/-- A corrected error of the line at offset o (R217): one event when the rank's count first passes CE_LIMIT. -/
def corrected (s : State) (o : Nat) : State :=
  let c := chanOf s o
  let x := Config.dramPlace (chAddr s o)
  let k := 16 * c + 8 * (x.1 % 2) + x.2.1 % 8
  let s := (lastErr s 1 o).inc (F.POOL_CH_ERR_CE c)
  let n := tget 0 s.pool.ce k + 1
  let s := s.modPool fun p => { p with ce := tput 0 p.ce k n }
  if n = max 1 (s.get F.POOL_ERR_CTRL_CE_LIMIT) + 1 then s.raise (1624 + 8 * c) else s

/-- An uncorrectable error of the line at offset o, of a kind: 2 demand, 3 scrub, 4 Leat read. -/
def uncorrectable (s : State) (kind o : Nat) : State :=
  let c := chanOf s o
  let s := (lastErr s kind o).inc (F.POOL_CH_ERR_UE c)
  (s.modPool fun p => { p with ue := tmod 0 p.ue c (· + 1) }).raise (1624 + 8 * c + kind - 1)

/-- ERROR_WINDOW_EXPIRE (R217). -/
def execErrorWindowExpire (s : State) : Host.Outcome State Fault Refusal :=
  .next (s.modPool fun p => { p with ce := [], ue := [] })

/-- CHANNEL_FAILED (R219): more than UE_LIMIT uncorrectable errors in the window, or a retrain that failed. -/
def execChannelFailed (c : Fin 12) (s : State) : Host.Outcome State Fault Refusal :=
  .next (
    if (s.pool.retrain.contains c.val || decide (max 1 (s.get F.POOL_ERR_CTRL_UE_LIMIT) < tget 0 s.pool.ue c))
        && !s.hasBit F.POOL_STATUS_FAILED c then
      ((s.setBit F.POOL_STATUS_FAILED c).modPool fun p => { p with retrain := p.retrain.erase c }).raise (1624 + 8 * c + 4)
    else s)

/-- PHY_TRAINING_LOST (R219). -/
def execPhyTrainingLost (c : Fin 12) (s : State) : Host.Outcome State Fault Refusal :=
  .next (
    if s.hasBit F.POOL_CFG_CHANNELS c && !s.hasBit F.POOL_STATUS_FAILED c && !s.pool.retrain.contains c.val then
      s.modPool fun p => { p with retrain := p.retrain ++ [c.val] }
    else s)

/-- CHANNEL_RETRAIN_COMPLETE (R219). -/
def execChannelRetrainComplete (c : Fin 12) (s : State) : Host.Outcome State Fault Refusal :=
  .next (s.modPool fun p => { p with retrain := p.retrain.erase c.val })

/-! ## Accesses at a channel (R207, R216 to R219, R224) -/

/-- Bytes of a line after a partial write. -/
def mergeBe (old new : Bytes) (be : BitVec 64) : Bytes :=
  (List.range 64).map fun i => if be.getLsbD i then new.getD i 0#8 else old.getD i 0#8

/-- DevLoad of a response of the pool (R224): by the queue's occupancy and the LD's bandwidth in 256ths of pool peak. -/
def poolDevLoad (s : State) (occ ld bw : Nat) : Nat :=
  let a := if s.get F.POOL_DEVLOAD_SEVERE ≤ occ then 3 else if s.get F.POOL_DEVLOAD_MODERATE ≤ occ then 2
    else if s.get F.POOL_DEVLOAD_OPTIMAL ≤ occ then 1 else 0
  let b := if 63 < ld then 0
    else if s.get (F.POOL_LD_BW_LIMIT ld) ≠ 0 ∧ s.get (F.POOL_LD_BW_LIMIT ld) < bw then 3
    else if s.get (F.POOL_LD_BW_ALLOC ld) ≠ 0 ∧ s.get (F.POOL_LD_BW_ALLOC ld) < bw then 2 else 0
  max a b

/-- Count an activation of the row of offset o (R222). A row among the 16 most activated of its bank that reaches the
threshold is due for a directed refresh, and its count restarts. -/
def activate (s : State) (o : Nat) : State :=
  let c := chanOf s o
  let x := Config.dramPlace (chAddr s o)
  let k := 1024 * c + 512 * (x.1 % 2) + 32 * (x.2.1 % 8) + x.2.2.1 % 32
  let r := x.2.2.2.1
  let a := tget {} s.pool.acts k
  let n := tget 0 a.rows r + 1
  let rows := tput 0 a.rows r n
  let top := decide ((rows.filter fun e => n < e.2).length < 16)
  let hit := s.bit F.POOL_RAM_TRACK_EN && top && decide (max 256 (s.get F.POOL_RAM_ACT_TH) ≤ n)
  let a' : BankAct := { raa := a.raa + 1, rows := if hit then tput 0 rows r 0 else rows, due := if hit then a.due ++ [r] else a.due }
  s.modPool fun p => { p with acts := tput {} p.acts k a' }

/-- Send the pool's response to a request, from channel c. -/
def poolReply (s : State) (c : Nat) (q a : Pkt) (devload : Nat) : State :=
  match backTo s q a with
  | .to e r => present s ⟨.pool c, { r with src := .pool c, devload := devload, bind := q.bind, banks := [] }, some e, none⟩
  | .hold => present s ⟨.none, { a with spid := q.dpid, dpid := q.spid, src := .pool c, devload := devload, banks := [] }, none, none⟩
  | _ => s

/-- A read at a channel: the data, poisoned where the line is or its check bits fail. -/
def poolRead (s : State) (c : Nat) (q : Pkt) (e : LineErr) (d : Nat) : State :=
  let l := q.addr / 64
  let bad := linePoison s l || e == .uncorrectable
  let s := if e = .corrected then corrected s q.addr
    else if e = .uncorrectable ∧ !linePoison s l then setPoison (uncorrectable s 2 q.addr) l true else s
  let io := q.cls == .ioReq
  let a := reply q (if io then .ioCpl else .sDrs) (if io then .cplD else .memData) 0 bad
  poolReply s c q { a with data := dramRd s q.addr (if io then q.rlen else 64), len := 64 } d

/-- A write at a channel: full lines clear poison; a partial write leaves a poisoned line poisoned, and a line that reads
uncorrectable too. -/
def poolWrite (s : State) (q : Pkt) (e : LineErr) : State :=
  let l := q.addr / 64
  if q.cls = .ioReq then
    let whole := fun k => decide (q.addr ≤ 64 * k) && decide (64 * k + 64 ≤ q.addr + q.data.length)
    let ls := ((List.range (q.data.length / 64 + 2)).map (l + ·)).filter whole
    let s := dramWr s q.addr q.data
    ls.foldl (fun s k => setPoison s k q.poison) s
  else
    let o := l * 64
    if q.op = .mWrPtl ∧ q.be ≠ BitVec.allOnes 64 then
      if linePoison s l then s
      else if e = .uncorrectable then setPoison (uncorrectable s 2 o) l true
      else
        let s := if e = .corrected then corrected s o else s
        dramWr s o (mergeBe (dramRd s o 64) q.data q.be)
    else setPoison (dramWr s o (q.data.take 64)) l q.poison

/-- An atomic update of 8 bytes at a channel, in one step (R261): the packet carries the operation (1 add, 2 swap, 3 compare
and swap) and two operands; the old value is returned. A word whose line is poisoned is left as it is. -/
def poolAtomic (s : State) (c : Nat) (q : Pkt) (e : LineErr) (failed : Bool) (d : Nat) : State :=
  let l := q.addr / 64
  let bad := failed || linePoison s l || e == .uncorrectable
  let s := if failed then s.raise 1721 (droppedDetail q (96 + c))
    else if e = .corrected then corrected s q.addr
    else if e = .uncorrectable ∧ !linePoison s l then setPoison (uncorrectable s 2 q.addr) l true else s
  let old := leN (dramRd s q.addr 8) 0 8
  let a := leN q.data 1 8
  let new := if u8 q.data 0 = 1 then old + a else if u8 q.data 0 = 2 then a else if old = leN q.data 9 8 then a else old
  let s := if bad then s else dramWr s q.addr (leBytes 8 new)
  poolReply s c q { reply q .sDrs .memData 0 bad with data := leBytes 8 old } d

/-- One request at channel c (R207): d is the DevLoad of its response. -/
def poolServe (s : State) (c : Nat) (q : Pkt) (e : LineErr) (d : Nat) : State :=
  let failed := s.hasBit F.POOL_STATUS_FAILED c
  if q.op = .atomic then poolAtomic s c q e failed d
  else if q.isRead then
    if failed then
      let io := q.cls == .ioReq
      poolReply s c q (reply q (if io then .ioCpl else .sDrs) (if io then .cplD else .memData) 0 true) d
    else poolRead s c q e d
  else if q.cls = .mRwD ∨ q.cls = .ioReq then
    let s := if failed then s.raise 1721 (droppedDetail q (96 + c)) else poolWrite s q e
    if q.cls = .mRwD then poolReply s c q (reply q .sNdr .cmp 0 false) d else s
  else poolReply s c q (reply q .sNdr .cmp 0 false) d

/-- DRAM_ACCESS (R207): the oldest request at channel c is performed; its check bits show e, act says that it opens a row,
bw is the LD's bandwidth of the last 16 µs in 256ths of pool peak. Requests wait while the channel retrains, and in
standby. -/
def execDramAccess (c : Fin 12) (e : LineErr) (act : Bool) (bw : Nat) (s : State) : Host.Outcome State Fault Refusal :=
  .next (
    match tget [] s.pool.chq c with
    | [] => s
    | q :: qs =>
      if s.pool.retrain.contains c.val ∨ s.bit F.CRP_PWR_STBY_NOW then s
      else
        let d := poolDevLoad s (qs.length + 1) q.ldid bw
        let s := s.modPool fun p => { p with chq := tput [] p.chq c qs }
        poolServe (if act then activate s q.addr else s) c q (lineErr s q.addr e) d)

/-! ## Scrub and refresh (R220 to R222) -/

/-- Does the patrol scrub skip backing extent b (R220)? -/
def scrubSkips (s : State) (b : Nat) : Bool := (extAt s b).state == 4 || (extAt s b).state == 6

/-- The next line of the patrol scrub from line l on: whole extents are skipped. -/
def scrubNext (s : State) (l : Nat) : Nat → Option Nat
  | 0 => none
  | fuel + 1 =>
    let b := l / 2 ^ 22
    if dramExts s ≤ b then none
    else if scrubSkips s b then scrubNext s ((b + 1) * 2 ^ 22) fuel else some l

/-- PATROL_SCRUB_READ (R220): the next line of the pass, whose check bits show e. -/
def execPatrolScrubRead (e : LineErr) (s : State) : Host.Outcome State Fault Refusal :=
  .next (
    if !s.bit F.POOL_SCRUB_EN ∨ !s.bit F.FAN_CTRL_SCRUB_EN ∨ s.bit F.CRP_PWR_STBY_NOW ∨ s.get F.POOL_STATUS_STATE ≠ 1 then s
    else match scrubNext s s.pool.scrubPos 24577 with
      | none => (s.modPool fun p => { p with scrubPos := 0 }).put F.POOL_SCRUB_DONE 0
      | some l =>
        let o := 64 * l
        let e := lineErr s o e
        let s := if s.hasBit F.POOL_STATUS_FAILED (chanOf s o) then s
          else if e = .corrected then corrected s o
          else if e = .uncorrectable ∧ !linePoison s l then setPoison (uncorrectable s 3 o) l true else s
        (s.modPool fun p => { p with scrubPos := l + 1 }).put F.POOL_SCRUB_DONE (100 * (l + 1) / (dramExts s * 2 ^ 22)))

/-- Refresh of one bank: an RFM command where the rolling count asks for it, and at most one directed refresh (R222). -/
def refreshBank (s : State) (k : Nat) : State :=
  let a := tget {} s.pool.acts k
  let n := s.pool.raaimt
  let rfm := s.bit F.POOL_RAM_RFM_EN && n != 0 && decide (n ≤ a.raa)
  let s := if rfm then s.inc F.POOL_RAM_CNT_RFM else s
  let s := if a.due.isEmpty then s else s.inc F.POOL_RAM_CNT_DRFM
  s.modPool fun p => { p with acts := tput {} p.acts k { a with raa := if rfm then a.raa - n else a.raa, due := a.due.tail } }

/-- DRAM_REFRESH (R221, R222): one tREFI of channel c. After 8 192 of them a new 32 ms window counts the rows afresh. -/
def execDramRefresh (c : Fin 12) (s : State) : Host.Outcome State Fault Refusal :=
  .next (
    if !s.hasBit F.POOL_CFG_CHANNELS c then s
    else
      let ks := (s.pool.acts.map (·.1)).filter fun k => k / 1024 == c.val
      let s := ks.foldl refreshBank s
      let n := tget 0 s.pool.refreshes c + 1
      if n < 8192 then s.modPool fun p => { p with refreshes := tput 0 p.refreshes c n }
      else
        ks.foldl (fun s k => s.modPool fun p => { p with acts := tmod {} p.acts k fun a => { a with rows := [] } })
          (s.modPool fun p => { p with refreshes := tput 0 p.refreshes c 0 }))

/-! ## Extents (R213 to R215) -/

/-- The 64-bit word of an extent-table entry (R209). -/
def extWord (x : Ext) : Nat :=
  x.state * 2 ^ 61 + (if x.shared then 2 ^ 60 else 0) + x.owner % 65536 * 2 ^ 44 + x.dpaIndex % 65536 * 2 ^ 28

/-- Replace an extent-table entry. -/
def putExt (s : State) (b : Nat) (x : Ext) : State := s.modPool fun p => { p with ext := tput {} p.ext b x }

/-- The home line addresses of backing extent b start here; they are 2^22 in number. -/
def extHla (s : State) (b : Nat) : Nat := hlaOf s b 0

/-- Is a request decoded to backing extent b still on its way to its channel or expander, or at the directory (R213)? -/
def extBusy (s : State) (b : Nat) : Bool :=
  let inDram := fun (q : Pkt) => q.addr / 2 ^ 28 == b
  let inHla := fun (h : Nat) => h / 2 ^ 22 == extHla s b / 2 ^ 22
  (s.pool.chq.any fun x => x.2.any inDram)
  || (s.mill.queues.any fun x => decide (96 ≤ x.1 / 8) && decide (x.1 / 8 < 108) && x.2.any fun y => inDram y.pkt)
  || (s.mill.staged.any fun x => decide (96 ≤ x.queue / 8) && decide (x.queue / 8 < 108) && inDram x.pkt)
  || (s.coh.reqs.any fun r => inHla r.hla) || (s.coh.waitq.any fun r => inHla r.hla) || (s.coh.txns.any fun t => inHla t.r.hla)
  || (match (if b < dramExts s then none else proxyWin s b) with
      | some k => s.rte.sent.any fun x =>
          x.port == s.get (F.COH_PROXY_PORT (s.get (F.POOL_PROXY_EXP k))) && x.bind.isNone
          && x.q.addr / 2 ^ 28 == proxyDpa s k b 0 / 2 ^ 28
      | none => false)

/-- RESULT of an extent operation (R213). -/
def extResult (s : State) (op b : Nat) : Nat :=
  let x := extAt s b
  let st := x.state
  if op = 6 then 0
  else if st = 5 ∨ st = 6 then 2
  else if st ≠ (if op = 1 then 0 else if op = 2 ∨ op = 3 then 1 else if op = 4 then 2 else 3) then 1
  else if op = 1 then
    let o := s.get F.POOL_EXT_CMD_OWNER
    let ok := if s.bit F.POOL_EXT_CMD_SHARED then (shareGroup s o).isSome else decide (o < 64) && s.bit (F.POOL_LD_EN o)
    if !ok then 3 else if s.get F.POOL_STATUS_FAILED ≠ 0 then 5 else 0
  else if op = 5 ∧ 4 ≤ s.pool.zeroing.length then 4
  else 0

/-- The effect of an operation that is not refused. -/
def extDo (s : State) (op b : Nat) : State :=
  let x := extAt s b
  if op = 1 then
    putExt s b { state := 1, shared := s.bit F.POOL_EXT_CMD_SHARED, owner := s.get F.POOL_EXT_CMD_OWNER,
                 dpaIndex := s.get F.POOL_EXT_CMD_DPA_INDEX }
  else if op = 2 then putExt s b { x with state := 2 }
  else if op = 3 then putExt s b {}
  else if op = 4 then
    ((putExt s b { x with state := 3 }).put F.POOL_EXT_CMD_BUSY 1).modPool fun p => { p with releasing := some b }
  else if op = 5 then
    let s := (putExt s b { x with state := 4 }).modPool fun p => { p with zeroing := p.zeroing ++ [b] }
    s.put F.POOL_STATUS_ZEROING s.pool.zeroing.length
  else s.put F.POOL_EXT_DATA_ENTRY (extWord x)

/-- Perform the operation that POOL_EXT_CMD names. -/
def extOp (s : State) : State :=
  let op := s.get F.POOL_EXT_CMD_OP
  let b := s.get F.POOL_EXT_CMD_BACKING
  if op = 0 ∨ op = 7 then s
  else
    let r := extResult s op b
    let s := s.put F.POOL_EXT_CMD_RESULT r
    let s := if r = 0 then extDo s op b else s
    if op = 4 ∧ r = 0 then s else s.put F.MGT_DONE_POOL_EXT 1

/-- A write of POOL_EXT_CMD; START while BUSY is refused. -/
def wrExtCmd (w : Wr) (s : State) : State :=
  if w.sets F.POOL_EXT_CMD_START ∧ s.bit F.POOL_EXT_CMD_BUSY then s.refuse R.POOL_EXT_CMD.addr w.mid w.size
  else
    let s := s.writeReg R.POOL_EXT_CMD w
    if w.sets F.POOL_EXT_CMD_START then extOp s else s

/-- The write of POOL_EXT_CMD that performs op on extent b. -/
def extCmd (mid op b : Nat) : Wr := wrFull mid true (BitVec.ofNat 64 (2 ^ 63 + op * 2 ^ 59 + b))

def execExtentGrant (mid : Mid) (b : Fin 32768) (shared : Bool) (owner dpa : BitVec 16) (s : State) :
    Host.Outcome State Fault Refusal :=
  .next (wrExtCmd (wrFull mid true (BitVec.ofNat 64
    (2 ^ 63 + 2 ^ 59 + (if shared then 2 ^ 55 else 0) + owner.toNat * 2 ^ 32 + dpa.toNat * 2 ^ 16 + b))) s)

def execExtentActivate (mid : Mid) (b : Fin 32768) (s : State) : Host.Outcome State Fault Refusal :=
  .next (wrExtCmd (extCmd mid 2 b) s)

def execExtentCancel (mid : Mid) (b : Fin 32768) (s : State) : Host.Outcome State Fault Refusal :=
  .next (wrExtCmd (extCmd mid 3 b) s)

def execExtentRelease (mid : Mid) (b : Fin 32768) (s : State) : Host.Outcome State Fault Refusal :=
  .next (wrExtCmd (extCmd mid 4 b) s)

def execExtentZero (mid : Mid) (b : Fin 32768) (s : State) : Host.Outcome State Fault Refusal :=
  .next (wrExtCmd (extCmd mid 5 b) s)

def execExtentRead (mid : Mid) (b : Fin 32768) (s : State) : Host.Outcome State Fault Refusal :=
  .next (wrExtCmd (extCmd mid 6 b) s)

/-- RELEASE_DRAIN_DONE (R213). -/
def execReleaseDrainDone (s : State) : Host.Outcome State Fault Refusal :=
  .next (
    match s.pool.releasing with
    | some b =>
      if extBusy s b then s
      else ((s.modPool fun p => { p with releasing := none }).put F.POOL_EXT_CMD_BUSY 0).put F.MGT_DONE_POOL_EXT 1
    | none => s)

/-- EXTENT_ZEROED (R204, R215): the last line of an extent of a ZERO operation has been written, or (none) the initial
zeroing finishes its next piece: the Leat region, then the extents in order. -/
def execExtentZeroed (b : Option (Fin 24576)) (s : State) : Host.Outcome State Fault Refusal :=
  .next (
    match b with
    | some b =>
      if s.pool.zeroing.contains b.val then
        let s := (putExt (zeroExt s b) b {}).modPool fun p => { p with zeroing := p.zeroing.erase b.val }
        s.put F.POOL_STATUS_ZEROING s.pool.zeroing.length
      else s
    | none =>
      if s.pool.leatDirty then
        (s.modPool fun p => { p with leatDirty := false }).put F.SWC_LEAT_STATUS_PAGES_FREE (leatPages s)
      else if s.pool.zeroFrom < s.pool.zeroEnd then s.modPool fun p => { p with zeroFrom := p.zeroFrom + 1 }
      else s)

/-! ## LD map, LDs and proxy windows (R205, R208, R209) -/

/-- A write of POOL_MAP_CMD. -/
def wrMapCmd (w : Wr) (s : State) : State :=
  let s := s.writeReg R.POOL_MAP_CMD w
  if !w.sets F.POOL_MAP_CMD_START then s
  else
    let i := s.get F.POOL_MAP_CMD_SLOT
    if s.bit F.POOL_MAP_CMD_WRITE then
      s.modPool fun p => { p with map := tput 0 p.map i (s.get F.POOL_MAP_DATA_BACKING ^^^ 0xFFFF) }
    else s.put F.POOL_MAP_DATA_BACKING (mapSlot s i)

def execMapSlotRead (mid : Mid) (i : BitVec 16) (s : State) : Host.Outcome State Fault Refusal :=
  .next (wrMapCmd (wrFull mid false (BitVec.ofNat 64 (2 ^ 31 + i.toNat))) s)

def execMapSlotWrite (mid : Mid) (i : BitVec 16) (s : State) : Host.Outcome State Fault Refusal :=
  .next (wrMapCmd (wrFull mid false (BitVec.ofNat 64 (2 ^ 31 + 2 ^ 30 + i.toNat))) s)

/-- A write of POOL_LD_MAP n: refused fields while EN is 1. -/
def wrLdMap (n : Nat) (w : Wr) (s : State) : State :=
  s.writeReg (R.POOL_LD_MAP n) w (if s.bit (F.POOL_LD_EN n) then bitsMask 47 0 else 0#64)

/-- Backing extents of a proxy window word: first, number. -/
def proxyRange (v : Word) : Nat × Nat := if v.msb then (bitsGet v 54 40, bitsGet v 39 25) else (0, 0)

/-- A write of POOL_PROXY k (R205). -/
def wrPoolProxy (k : Nat) (w : Wr) (s : State) : State :=
  let old := proxyRange (s.rd (R.POOL_PROXY k))
  let new := proxyRange ((s.rd (R.POOL_PROXY k) &&& ~~~w.mask) ||| (w.v &&& w.mask))
  let free := fun (r : Nat × Nat) => (s.pool.ext.all fun e => e.1 < r.1 || r.1 + r.2 ≤ e.1 || e.2.state == 0)
  let clash := (List.range 8).any fun j =>
    j != k && overlap new.1 new.2 (proxyRange (s.rd (R.POOL_PROXY j))).1 (proxyRange (s.rd (R.POOL_PROXY j))).2
  if (new.2 ≠ 0 ∧ new.1 < dramExts s) ∨ clash ∨ !free old ∨ !free new ∨ 24576 < new.1 + new.2 then
    s.refuse (R.POOL_PROXY k).addr w.mid w.size
  else s.writeReg (R.POOL_PROXY k) w

end Sys2Proof.Machine
end

