-- ==== Sys2Proof/Machine/Coherence.lean ====
section
/-! DEFINITION. The directory and the home of shared lines: lookup, snoops, answers, eviction, timeouts, host removal, flush,
slice failure and rotation (R174 to R201). -/

namespace Sys2Proof.Machine

/-- Replace the directory's own state. -/
def State.modCoh (s : State) (f : CohSt → CohSt) : State := { s with coh := f s.coh }

/-! ## Hash and entries (R178 to R181) -/

/-- The hash of R179. -/
def hlaHash (hla : Nat) : Nat := (hla ^^^ (hla / 2 ^ 18) ^^^ (hla / 2 ^ 36)) % 2 ^ 18

/-- Set of a line (R179). -/
def setOf (hla : Nat) : Nat := hlaHash hla / 32

/-- Tag of a line (R179). -/
def tagOf (hla : Nat) : Nat := hla / 2 ^ 18

/-- The line that a tag names in a set of a logical slice: the hash inverted (R179). -/
def lineOf (l set tag : Nat) : Nat := tag * 2 ^ 18 + ((32 * set + l) ^^^ (tag % 2 ^ 18) ^^^ (tag / 2 ^ 18))

/-- Key of a way. -/
def wayKey (p set way : Nat) : Nat := 131072 * p + 16 * set + way

/-- Directory entry by key. -/
def dirEnt (s : State) (k : Nat) : DirEnt := tget {} s.coh.ents k

/-- Is logical slice l the second range of physical slice p (R199)? -/
def secondRange (s : State) (p l : Nat) : Bool := s.bit (F.COH_SL_STATUS_FOLD p) && s.get (F.COH_SL_STATUS_LOGICAL2 p) == l

/-- The line of an entry. -/
def entLine (s : State) (k : Nat) (e : DirEnt) : Nat :=
  let p := k / 131072
  lineOf (if e.range then s.get (F.COH_SL_STATUS_LOGICAL2 p) else s.get (F.COH_SL_STATUS_LOGICAL p)) (k / 16 % 8192) e.tag

/-- Replace an entry; the slice counts its entries (COH_SL_STATUS, COH_SL_DOUBT). -/
def putDir (s : State) (k : Nat) (e : DirEnt) : State :=
  let p := k / 131072
  let old := dirEnt s k
  let one := fun (b : Bool) => if b then 1 else 0
  let s := s.put (F.COH_SL_STATUS_ENTRIES p)
    (s.get (F.COH_SL_STATUS_ENTRIES p) + one (e.state != 0) - one (old.state != 0))
  let s := s.put (F.COH_SL_DOUBT_ENTRIES p)
    (s.get (F.COH_SL_DOUBT_ENTRIES p) + one (e.state == 3) - one (old.state == 3))
  injWrite (s.modCoh fun c => { c with ents := tput {} c.ents k e }) 3 p (k % 131072)

/-- The entry that holds a line in slice p: TAG and RANGE agree. -/
def dirFind (s : State) (p l hla : Nat) : Option Nat :=
  ((List.range 16).map (wayKey p (setOf hla))).find? fun k =>
    let e := dirEnt s k
    e.state != 0 && e.tag == tagOf hla && e.range == secondRange s p l

/-- Is a set of a slice doubtful for a range (R198)? -/
def isDoubtful (s : State) (p : Nat) (r : Bool) (set : Nat) : Bool :=
  s.coh.doubtAll.contains (2 * p + r.toNat) || s.coh.doubtful.contains (16384 * p + 8192 * r.toNat + set)

/-- Bring COH_SL_DOUBT.SETS of slice p up to date. -/
def countDoubtful (s : State) (p : Nat) : State :=
  let n := fun (r : Nat) => if s.coh.doubtAll.contains (2 * p + r) then 8192
    else (s.coh.doubtful.filter fun k => k / 8192 == 2 * p + r).length
  s.put (F.COH_SL_DOUBT_SETS p) (n 0 + n 1)

/-- Mark a set doubtful for a range. -/
def markDoubtful (s : State) (p : Nat) (r : Bool) (set : Nat) : State :=
  if isDoubtful s p r set then s
  else countDoubtful (s.modCoh fun c => { c with doubtful := c.doubtful ++ [16384 * p + 8192 * r.toNat + set] }) p

/-- Bring COH_SL_TRACK of slice p up to date (R182, R183). -/
def retrack (p : Nat) (s : State) : State :=
  let own := s.coh.txns.filter fun t => t.slice == p
  let s := s.put (F.COH_SL_TRACK_INFLIGHT p) (min 256 (own.filter fun t => t.kind != .evict).length)
  let s := s.put (F.COH_SL_TRACK_EVBUF p) (own.filter fun t => t.kind == .evict).length
  s.put (F.COH_SL_TRACK_WAITING p) (min 0xFFFF (s.coh.waitq.filter fun r => physOf s (sliceOf r.hla) == p).length)

/-! ## Hosts, groups and addresses (R174 to R177, R184, R211) -/

/-- Who sent a message to the directory. -/
inductive Who
  | host (h : Nat)
  | uncached
  | unknown
deriving DecidableEq, Repr

/-- The sender of a message (R174, R176). -/
def whoOf (s : State) (q : Pkt) : Who :=
  match q.src with
  | .port p =>
    if s.get (F.PORT_CFG_ROLE p) = 1 then
      match vcsOfPort s p with
      | some v => .host (s.get (F.RTE_VCS_CFG_HOSTID v))
      | none => .unknown
    else match (List.range 64).find? fun h => s.bit (F.COH_HOST_REMOTE h) && some (s.get (F.COH_HOST_PID h)) == q.spid with
      | some h => .host h
      | none => .unknown
  | _ => .uncached

/-- The host of a sender. -/
def Who.id : Who → Option Nat
  | .host h => some h
  | _ => none

/-- The backing extent of a line (R178, R205). -/
def lineExt (s : State) (hla : Nat) : Option Nat :=
  if hla < 2 ^ 45 then some (hla / 2 ^ 22)
  else
    let i := hla % 2 ^ 40 / 2 ^ 22
    ((List.range 8).find? fun k =>
      s.bit (F.POOL_PROXY_VALID k) && s.get (F.POOL_PROXY_EXP k) == hla / 2 ^ 40 % 32
      && decide (s.get (F.POOL_PROXY_DPA_BASE k) ≤ i)
      && decide (i < s.get (F.POOL_PROXY_DPA_BASE k) + s.get (F.POOL_PROXY_COUNT k))).map fun k =>
        s.get (F.POOL_PROXY_BASE k) + i - s.get (F.POOL_PROXY_DPA_BASE k)

/-- The sharing group of a line, by its extent. -/
def lineGrp (s : State) (hla : Nat) : Nat :=
  match lineExt s hla with
  | some b => (extAt s b).owner
  | none => 65536

/-- Is host h removed (R193)? -/
def isRemoved (s : State) (h : Nat) : Bool := s.get (F.COH_HOST_STATE h) == 2

/-- Members of a group but removed hosts, ascending (R175, R184). -/
def members (s : State) (grp : Nat) : List Nat :=
  match (if grp < 65536 then shareGroup s grp else none) with
  | some m => (List.range 64).filter fun h => m.testBit h && !isRemoved s h
  | none => []

/-- The hosts that an entry names, other than r (R184), ascending. -/
def holders (s : State) (grp : Nat) (e : DirEnt) (r : Option Nat) : List Nat :=
  let l := if e.state = 3 ∨ e.state = 1 ∧ e.ovf then members s grp
    else if e.state = 0 then [] else (List.range 64).filter fun h => e.ptrs.contains h && !isRemoved s h
  l.filter fun h => some h != r

/-- The possible E owners among the holders (R184). -/
def possibleOwners (s : State) (grp : Nat) (e : DirEnt) (r : Option Nat) : List Nat :=
  if e.state = 2 ∨ e.state = 3 then holders s grp e r else []

/-- Pool LDs of host h. -/
def hostLds (s : State) (h : Nat) : List Nat :=
  if s.bit (F.COH_HOST_REMOTE h) then
    (List.range 64).filter fun n =>
      s.bit (F.POOL_LD_EN n) && s.bit (F.POOL_LD_REMOTE n) && s.get (F.POOL_LD_RPID n) == s.get (F.COH_HOST_PID h)
  else match vcsOfHost s h with
    | some v => ((List.range 1024).filter fun n =>
        s.bit (F.RTE_BIND_VALID n) && s.get (F.RTE_BIND_KIND n) == 1 && s.get (F.RTE_BIND_VCS n) == v).map
          fun n => s.get (F.RTE_BIND_LDID n)
    | none => []

/-- The address of a snoop of a line to host h (R211); none where h cannot hold the line. -/
def snoopAddr (s : State) (h hla : Nat) : Option Nat :=
  match lineExt s hla with
  | none => none
  | some b =>
    let dpa := (extAt s b).dpaIndex * 2 ^ 28 + hla % 2 ^ 22 * 64
    (hostLds s h).findSome? fun n =>
      ((tget [] s.pool.ldDecs n).find? fun d => decide (d.dpa ≤ dpa) && decide (dpa < d.dpa + d.size * 2 ^ 28)).map
        fun d => dpa - d.dpa + d.base * 2 ^ 28

/-- Is the link to host h down? A remote host is reached while its PBR entry has a live hop. -/
def hostDown (s : State) (h : Nat) : Bool :=
  if s.bit (F.COH_HOST_REMOTE h) then
    match decPbr s none (s.get (F.COH_HOST_PID h)) { cls := .biSnp, op := .snpInv, spid := some (s.get (F.RTE_POOL_PID_PID)) } with
    | .to _ _ | .hold => false
    | _ => true
  else match vcsOfHost s h with
    | some v => !(s.px (uport s v)).up
    | none => true

/-- Send a BISnp of transaction id to host h (R187). -/
def sendSnoop (s : State) (p id h a : Nat) (op : Op) : State :=
  let q : Pkt := { cls := .biSnp, op := op, addr := a, tag := id, src := .dir p }
  let s := s.inc (F.COH_SL_CNT1_BISNP p)
  if s.bit (F.COH_HOST_REMOTE h) then
    present s ⟨.dir p, { q with spid := some (s.get F.RTE_POOL_PID_PID), dpid := some (s.get (F.COH_HOST_PID h)) }, none, none⟩
  else match vcsOfHost s h with
    | some v => present s ⟨.dir p, q, some (uport s v), none⟩
    | none => s

/-! ## Memory (R183, R191, R194) -/

/-- A request of the directory towards the memory of a line: the pool's channel, or the expander in TC4. -/
def memPresent (s : State) (p hla : Nat) (q : Pkt) : Option Present :=
  if hla < 2 ^ 45 then
    let o := hla * 64
    some ⟨.dir p, { q with src := .dir p, addr := o }, some (96 + chanOf s o), none⟩
  else
    let n := hla / 2 ^ 40 % 32
    if s.bit (F.COH_PROXY_VALID n) then
      some ⟨.dir p, { q with src := .dir p, addr := hla % 2 ^ 40 * 64, tc := 4, ldid := s.get (F.COH_PROXY_LDID n) },
            some (s.get (F.COH_PROXY_PORT n)), none⟩
    else none

/-- Start a read of a line for transaction id. -/
def memRead (s : State) (p hla id : Nat) : State :=
  match memPresent s p hla { cls := .mReq, op := .mRd, tag := 4 * id } with
  | some x => present s x
  | none => s

/-- Write a line for transaction t: whole, or the bytes of be. A write with no target any more is dropped (R190). -/
def memWrite (s : State) (t : Txn) (data : Bytes) (be : BitVec 64) (poison : Bool) : State × Txn :=
  match memPresent s t.slice t.r.hla
      { cls := .mRwD, op := if be = BitVec.allOnes 64 then .mWr else .mWrPtl, tag := 4 * t.id + 1, data := data, be := be,
        poison := poison, len := 128 } with
  | some x => (present s x, { t with acks := t.acks + 1 })
  | none => (s, t)

/-- Send the atomic update of transaction t to the pool (R261). -/
def memAtomic (s : State) (t : Txn) : State × Txn :=
  let o := t.r.hla * 64 + t.r.q.addr % 64
  if t.r.hla < 2 ^ 45 then
    (present s ⟨.dir t.slice, { t.r.q with src := .dir t.slice, addr := o, tag := 4 * t.id + 1, banks := [], bind := none },
                some (96 + chanOf s o), none⟩, { t with acks := t.acks + 1 })
  else (s, t)

/-- Poison the line of transaction t (R194). -/
def poisonTxn (s : State) (t : Txn) (cause : Nat) : State × Txn :=
  let x := memWrite s t [] (BitVec.allOnes 64) true
  let s := x.1.inc F.COH_CNT0_POISONED
  let s := ((s.put F.COH_LAST_POISON_VALID 1).put F.COH_LAST_POISON_CAUSE cause).put F.COH_LAST_POISON_HLA t.r.hla
  (s.raise 1424 (.poison t.r.hla cause), x.2)

/-! ## Transactions -/

/-- Put a transaction back, or add it. -/
def putTxn (s : State) (t : Txn) : State :=
  s.modCoh fun c =>
    if c.txns.any fun x => x.id == t.id then { c with txns := c.txns.map fun x => if x.id = t.id then t else x }
    else { c with txns := c.txns ++ [t] }

/-- The next transaction number. -/
def newId (s : State) : State × Nat := (s.modCoh fun c => { c with next := c.next + 1 }, s.coh.next)

/-- Snoop hosts in ascending order: a host that cannot hold the line counts as answered with BIRspI (R187, R211). With
its link down the snoop of a removal is not sent (R193). -/
def snoopAll (s : State) (t : Txn) (op : Op) (hs : List Nat) : State × Txn :=
  hs.foldl (fun x h =>
    match snoopAddr x.1 h x.2.r.hla with
    | none => x
    | some a =>
      let mute := (match x.2.kind with
        | .remove _ => hostDown x.1 h
        | _ => false)
      (if mute then x.1 else sendSnoop x.1 t.slice t.id h a op, { x.2 with await := x.2.await ++ [(h, op)] })) (s, t)

/-- The entry for some holders after a transaction (R185, R186): an E owner, or sharers; free when nobody remains. -/
def shareEnt (base : DirEnt) (owner : Option Nat) (sharers : List Nat) (ovf : Bool) : DirEnt :=
  match owner with
  | some o => { base with state := 2, ovf := false, ptrs := [o], age := 0 }
  | none =>
    let l := (List.range 64).filter sharers.contains
    if ovf || 4 < l.length then { base with state := 1, ovf := true, ptrs := [], age := 0 }
    else if l.isEmpty then {}
    else { base with state := 1, ovf := false, ptrs := l, age := 0 }

/-- The entry's new state once transaction t is settled (R185). -/
def newEnt (s : State) (t : Txn) : DirEnt :=
  let b := t.old
  let keep := t.keep.filter fun h => !isRemoved s h
  let own := match t.owner with
    | some o => if isRemoved s o then none else some o
    | none => none
  match t.kind with
  | .evict | .flush => {}
  | .remove h =>
    if b.state = 3 then b
    else if b.state = 2 then (if b.ptrs.contains h then {} else b)
    else if b.ovf then b
    else shareEnt b none (b.ptrs.filter fun x => x != h) false
  | .sweep => shareEnt b own keep false
  | .req =>
    match t.host with
    | none => shareEnt b own keep (b.state == 1 && b.ovf && t.want == 3)
    | some r =>
      if t.want = 2 then shareEnt b (some r) [] false
      else if t.want = 4 then
        (if keep.isEmpty && !(b.state == 1 && b.ovf) then shareEnt b (some r) [] false
         else shareEnt b none (r :: keep) (b.state == 1 && b.ovf))
      else if t.want = 1 then shareEnt b none (r :: keep) (b.state == 1 && b.ovf && t.r.q.cls == .mReq)
      else if t.want = 3 then
        (if b.state = 2 ∧ b.ptrs.contains r then shareEnt b (some r) [] false
         else shareEnt b own (if b.state = 1 ∧ b.ptrs.contains r then r :: keep else keep) (b.state == 1 && b.ovf))
      else shareEnt b own (keep.filter fun h => h != r) (b.state == 1 && b.ovf && t.r.q.op == .mClnEvct)

/-- The data of a read: what a host wrote back over what the memory holds (R184). -/
def txnData (t : Txn) : Bytes × Bool :=
  match t.wb, t.mem with
  | some (d, be, p), some (m, mp) => if be = BitVec.allOnes 64 then (d, p) else (mergeBe m d be, p || mp)
  | some (d, _, p), none => (d, p)
  | none, some x => x
  | none, none => ([], false)

/-- Are the data that a transaction needs there? -/
def dataReady (t : Txn) : Bool :=
  !t.needData || t.mem.isSome
  || (match t.wb with
      | some (_, be, _) => be == BitVec.allOnes 64
      | none => false)

/-- The completion of a request towards its requester. granted is the entry's state for the requester as a MetaValue. -/
def cohAnswer (t : Txn) (bad : Bool) (granted : Nat) : Pkt :=
  let q := t.r.q
  if t.needData then
    let d := txnData t
    { reply q .sDrs .memData 0 (d.2 || bad) with data := d.1, mval := granted }
  else if q.op = .atomic then
    let d := txnData t
    { reply q .sDrs .memData 0 (d.2 || bad) with data := d.1 }
  else if q.cls = .mRwD then reply q .sNdr .cmp 0 false
  else { reply q .sNdr (if granted = 2 then .cmpE else if granted = 3 then .cmpS else .cmp) 0 false with mval := granted }

/-- The MetaValue that names the requester's state. -/
def grantOf (t : Txn) (e : DirEnt) : Nat :=
  match t.host with
  | none => 0
  | some r =>
    if t.want = 0 ∨ t.want = 3 then 0 else if e.state = 2 ∧ e.ptrs.contains r then 2 else if e.state = 1 then 3 else 0

/-- Is a line busy with a transaction that has not completed (R183)? -/
def lineTxn (s : State) (hla : Nat) : Option Txn := s.coh.txns.find? fun t => t.r.hla == hla

/-- Does the flush in progress cover a line (R196)? -/
def flushHas (s : State) (hla : Nat) : Bool :=
  match s.coh.flush with
  | some f => decide (f.base ≤ hla / 2 ^ 22) && decide (hla / 2 ^ 22 < f.base + f.count)
  | none => false

/-- A flush with no line left is done (R196). -/
def flushCheck (s : State) : State :=
  match s.coh.flush with
  | some f =>
    if f.lines.isEmpty then
      let s := (s.put F.COH_FLUSH_CMD_BUSY 0).put F.COH_FLUSH_CMD_RESULT (if f.poisoned then 1 else 0)
      (s.modCoh fun c => { c with flush := none }).put F.MGT_DONE_COH_FLUSH 1
    else s
  | none => s

/-- A line of a flush is done. -/
def flushLine (s : State) (hla : Nat) : State :=
  flushCheck (s.modCoh fun c => { c with flush := c.flush.map fun f => { f with lines := f.lines.erase hla } })

/-- A line of the removal of host h is done. -/
def removeLine (s : State) (h hla : Nat) (bad : Bool) : State :=
  s.modCoh fun c => { c with removals := c.removals.map fun r =>
    if r.host = h then { r with lines := r.lines.erase hla, poisoned := r.poisoned || bad } else r }

/-- Does an entry name host h to a removal: as sharer, owner, or as a member of a DOUBT line (R193)? -/
def namesHost (s : State) (hla h : Nat) (e : DirEnt) : Bool :=
  (e.state == 1 && !e.ovf && e.ptrs.contains h) || (e.state == 2 && e.ptrs.contains h)
  || (e.state == 3 && (members s (lineGrp s hla)).contains h)

/-- A transaction without a request: on an entry, by kind. -/
def startOwn (s : State) (k hla : Nat) (kind : TxnKind) (op : Op) (hs : List Nat) : State × Txn :=
  let n := newId s
  let t : Txn := { id := n.2, slice := k / 131072, kind := kind, r := ⟨hla, lineGrp s hla, { cls := .mReq, op := .mInv }⟩,
                   ent := some k, old := dirEnt s k }
  snoopAll n.1 t op hs

/-- Settle a transaction whose snoops are all answered and whose data are there: poison, the entry, writes, completion. -/
def settle (s : State) (t : Txn) : State × Txn :=
  let bad := t.lost.isSome && t.wb.isNone && t.owner.isNone
  let x := if bad then poisonTxn s t (t.lost.getD 0) else (s, t)
  let e := newEnt x.1 t
  let s := match t.ent with
    | some k =>
      let s := putDir x.1 k e
      if e.ovf && !(t.old.state == 1 && t.old.ovf) then s.inc (F.COH_SL_CNT1_OVERFLOWS t.slice) else s
    | none => x.1
  let t := x.2
  match t.kind with
  | .req =>
    let q := t.r.q
    let w := if q.op = .atomic then memAtomic s t else if q.cls = .mRwD then memWrite s t q.data q.be q.poison else (s, t)
    if q.cls = .mRwD ∧ (2 ^ 45 ≤ t.r.hla ∨ q.op = .atomic) ∧ t.acks < w.2.acks then (w.1, { w.2 with phase := 1 })
    else (answerHeld (sentClose w.1 q) q (cohAnswer t bad (grantOf t e)), { w.2 with phase := 2 })
  | .flush =>
    ((if bad then s.modCoh fun c => { c with flush := c.flush.map fun f => { f with poisoned := true } } else s),
     { t with phase := 2 })
  | .remove h => (if bad then removeLine s h t.r.hla true else s, { t with phase := 2 })
  | _ => (s, { t with phase := 2 })

/-- Bring a transaction as far as it goes: settle it, complete it, and take it off the tracker. -/
def advanceOnce (s : State) (t : Txn) : State × Option Txn :=
  let x := if t.phase = 0 ∧ t.await.isEmpty ∧ dataReady t then settle s t else (s, t)
  let t := x.2
  if t.phase = 1 ∧ t.acks = 0 then
    let e := match t.ent with
      | some k => dirEnt x.1 k
      | none => {}
    (answerHeld (sentClose x.1 t.r.q) t.r.q (cohAnswer t false (grantOf t e)), none)
  else if t.phase = 2 ∧ t.acks = 0 then (x.1, none)
  else (x.1, some t)

/-- What to do with a line that has become free: the next step of a removal or of a flush. none where nothing waits. -/
def nextOwn (s : State) (p hla : Nat) : Option (TxnKind × Nat) :=
  match dirFind s p (sliceOf hla) hla with
  | none => none
  | some k =>
    let flushing : Bool := match s.coh.flush with
      | some f => f.lines.contains hla
      | none => false
    if flushing then some (.flush, k)
    else (s.coh.removals.findSome? fun r => if namesHost s hla r.host (dirEnt s k) && r.lines.contains hla then some r.host
      else if namesHost s hla r.host (dirEnt s k) && (dirEnt s k).state != 3 then some r.host else none).map
        fun h => (.remove h, k)

/-- Drop what waits for a line that no entry names any more. -/
def dropOwn (s : State) (p hla : Nat) : State :=
  let gone := (dirFind s p (sliceOf hla) hla).isNone
  let s := if gone then flushLine s hla else s
  s.coh.removals.foldl (fun s r =>
    if r.lines.contains hla && (gone || (match dirFind s p (sliceOf hla) hla with
        | some k => !namesHost s hla r.host (dirEnt s k)
        | none => true)) then removeLine s r.host hla false else s) s

/-- Start the transaction of a removal or of a flush on an entry. -/
def startNext (s : State) (k hla : Nat) (kind : TxnKind) : State × Txn :=
  match kind with
  | .remove h =>
    let s := s.modCoh fun c => { c with removals := c.removals.map fun r =>
      if r.host == h && !r.lines.contains hla then { r with lines := r.lines ++ [hla] } else r }
    startOwn s k hla kind .snpInv [h]
  | _ => startOwn s k hla kind .snpInv (holders s (lineGrp s hla) (dirEnt s k) none)

/-- After a transaction of a line has ended: removals and the flush go on with that line. fuel bounds the hosts being
removed at once. -/
def lineFreed (p hla : Nat) : Nat → State → State
  | 0, s => s
  | fuel + 1, s =>
    if (lineTxn s hla).isSome then s
    else
      let s := dropOwn s p hla
      match nextOwn s p hla with
      | none => s
      | some (kind, k) =>
        let x := startNext s k hla kind
        let y := advanceOnce x.1 x.2
        match y.2 with
        | some t => putTxn y.1 t
        | none =>
          let s := match kind with
            | .remove h => removeLine y.1 h hla false
            | _ => y.1
          lineFreed p hla fuel s

/-- Advance transaction t; with it off the tracker the line is free for what waits. -/
def advance (s : State) (t : Txn) : State :=
  let x := advanceOnce s t
  match x.2 with
  | some t => retrack t.slice (putTxn x.1 t)
  | none =>
    let s := x.1.modCoh fun c => { c with txns := c.txns.filter fun y => y.id != t.id }
    let s := match t.kind with
      | .remove h => removeLine s h t.r.hla false
      | _ => s
    retrack t.slice (lineFreed t.slice t.r.hla 66 s)

/-! ## Victims (R182) -/

/-- Is an entry busy? -/
def wayBusy (s : State) (k : Nat) : Bool := s.coh.txns.any fun t => t.ent == some k

/-- Preference among entries of one AGE: S before E or DOUBT. -/
def victimRank (e : DirEnt) : Nat := if e.state = 1 then 0 else 1

/-- The victim among ways, lowest first: highest AGE, then S, then the lowest way. -/
def pickVictim (s : State) : List Nat → Option Nat
  | [] => none
  | k :: ks =>
    match pickVictim s ks with
    | none => some k
    | some j =>
      let a := dirEnt s k
      let b := dirEnt s j
      if b.age < a.age ∨ a.age = b.age ∧ victimRank a ≤ victimRank b then some k else some j

/-- Raise the AGE of every entry of a set by the smallest step that brings an unbusy one to 7. -/
def ageSet (s : State) (ways : List Nat) : State :=
  let top := (ways.filter fun k => !wayBusy s k).foldl (fun m k => max m (dirEnt s k).age) 0
  ways.foldl (fun s k =>
    let e := dirEnt s k
    if e.state = 0 then s else putDir s k { e with age := min 7 (e.age + (7 - top)) }) s

/-- A way for a new entry: the lowest free one, else that of the victim, which moves to the eviction buffer. none where a
request must wait. -/
def allocWay (s : State) (p set : Nat) : Option (State × Nat) :=
  let ways := (List.range 16).map (wayKey p set)
  match ways.find? fun k => (dirEnt s k).state == 0 && !wayBusy s k with
  | some k => some (s, k)
  | none =>
    let idle := ways.filter fun k => !wayBusy s k
    if 64 ≤ s.get (F.COH_SL_TRACK_EVBUF p) then none
    else
      let s := ageSet s ways
      match pickVictim s idle with
      | none => none
      | some k =>
        let e := dirEnt s k
        let hla := entLine s k e
        let x := startOwn s k hla .evict .snpInv (holders s (lineGrp s hla) e none)
        let s := (putDir x.1 k {}).inc (F.COH_SL_CNT0_EVICTIONS p)
        some (advance s { x.2 with ent := none }, k)

/-! ## Requests (R177, R184) -/

/-- What a request asks: state wanted, snoop (0 none, 1 BISnpInv to holders, 2 BISnpData, 3 BISnpCur to possible owners),
data. -/
structure Ask where
  want : Nat
  snoop : Nat
  data : Bool
deriving DecidableEq, Repr

/-- The table of R184. -/
def askOf (q : Pkt) : Option Ask :=
  let m := if q.mval = 2 then 2 else if q.mval = 3 then 1 else 0
  match q.op with
  | .mRd => some (if m = 2 then ⟨2, 1, true⟩ else if m = 1 then ⟨1, 2, true⟩ else ⟨3, 3, true⟩)
  | .mRdData => some ⟨4, 2, true⟩
  | .mInv | .mInvNT => some (if m = 1 then ⟨1, 2, false⟩ else ⟨m, 1, false⟩)
  | .mWr | .mWrPtl => some ⟨m, 1, false⟩
  | .atomic => some ⟨0, 1, false⟩
  | .mClnEvct => some ⟨0, 0, false⟩
  | _ => none

/-- Is the home unavailable to a request (R177)? -/
def homeGone (s : State) (r : DirReq) : Bool :=
  let n := r.hla / 2 ^ 40 % 32
  (match whoOf s r.q with
   | .host h => s.get (F.COH_HOST_STATE h) != 0
       || (match shareGroup s r.grp with
           | some m => !m.testBit h
           | none => true)
   | .uncached => (shareGroup s r.grp).isNone
   | .unknown => true)
  || (decide (2 ^ 45 ≤ r.hla) && (!s.bit (F.COH_PROXY_VALID n) || !(s.px (s.get (F.COH_PROXY_PORT n))).up))
  || decide (34 ≤ physOf s (sliceOf r.hla))

/-- A request whose home is unavailable, or whose operation the directory does not know: a decode miss, with its cells
freed. -/
def homeMiss (s : State) (q : Pkt) : State := decodeMiss (freeCells (sentClose s q) q) { q with banks := [] }

/-- Hosts to snoop, with the operation (R184). A request that snoops nobody still asks who holds a DOUBT line, so that the
line leaves DOUBT (R185, R198). -/
def snoopPlan (s : State) (a : Ask) (grp : Nat) (e : DirEnt) (host : Option Nat) : Op × List Nat :=
  if a.snoop = 1 then (.snpInv, holders s grp e host)
  else if a.snoop = 2 then (.snpData, possibleOwners s grp e host)
  else if a.snoop = 3 ∨ e.state = 3 then (.snpCur, possibleOwners s grp e host)
  else (.snpCur, [])

/-- Look a request up and begin its transaction (R184). none where it must wait for a way (R182). -/
def beginReq (s : State) (p : Nat) (r : DirReq) (a : Ask) : Option State :=
  let l := sliceOf r.hla
  let host := (whoOf s r.q).id
  let found := dirFind s p l r.hla
  let doubt := isDoubtful s p (secondRange s p l) (setOf r.hla)
  let fresh : DirEnt := { tag := tagOf r.hla, range := secondRange s p l, state := if doubt then 3 else 0 }
  let way : Option (State × Option Nat) := match found with
    | some k => some (s, some k)
    | none =>
      if doubt ∨ host.isSome ∧ (a.want = 1 ∨ a.want = 2 ∨ a.want = 4) then
        (allocWay s p (setOf r.hla)).map fun x => (x.1, some x.2)
      else some (s, none)
  match way with
  | none => none
  | some (s, k) =>
    let old := match found with
      | some k => dirEnt s k
      | none => fresh
    let s := match found with
      | some k => putDir s k { old with age := 0 }
      | none => s
    let n := newId (s.inc (F.COH_SL_CNT0_LOOKUPS p))
    let plan := snoopPlan n.1 a r.grp old host
    let stay := if a.snoop = 1 then [] else (holders n.1 r.grp old host).filter fun h => !plan.2.contains h
    let t : Txn := { id := n.2, slice := p, kind := .req, r := r, host := host, want := a.want, ent := k, old := old,
                     keep := if old.ovf then [] else stay, needData := a.data }
    let buf := if a.data then (n.1.coh.txns.find? fun x => x.r.hla == r.hla && x.phase == 2 && x.r.q.op == .mWr) else none
    let t := { t with mem := buf.map fun x => (x.r.q.data, x.r.q.poison) }
    let s := if a.data ∧ buf.isNone then memRead n.1 p r.hla n.2 else n.1
    let x := snoopAll s t plan.1 plan.2
    some (advance (putTxn x.1 x.2) x.2)

/-- The transaction that takes a write as a snooped host's write-back (R188). -/
def wbTxn (s : State) (r : DirReq) : Option Txn :=
  match whoOf s r.q with
  | .host h =>
    if r.q.cls = .mRwD then s.coh.txns.find? fun t => t.r.hla == r.hla && t.await.any fun a => a.1 == h else none
  | _ => none

/-- A write-back: its data are written, its host gets its completion, the BIRsp is still awaited (R187, R188). -/
def writeBack (s : State) (t : Txn) (q : Pkt) : State :=
  let w := memWrite s t q.data q.be q.poison
  let wb := match t.wb with
    | some (d, be, p) => (mergeBe d q.data q.be, be ||| q.be, p || q.poison)
    | none => (q.data, q.be, q.poison)
  putTxn (answerHeld (sentClose w.1 q) q (reply q .sNdr .cmp 0 false)) { w.2 with wb := some wb }

/-- May a request be served beside the transactions of its line? A read may while the one transaction left is a completed
whole-line write that the pool has yet to accept (R183). -/
def lineOpen (s : State) (r : DirReq) : Bool :=
  s.coh.txns.all fun t =>
    t.r.hla != r.hla
    || (t.phase == 2 && t.kind == .req && t.r.q.op == .mWr && decide (r.hla < 2 ^ 45) && r.q.cls == .mReq
        && (r.q.op == .mRd || r.q.op == .mRdData))

/-- Serve a request now, or none where it must wait: behind its line, behind a flush, or for a way. earlier are requests
that came before it. -/
def serveReq (s : State) (earlier : List DirReq) (r : DirReq) : Option State :=
  match wbTxn s r with
  | some t => some (writeBack s t r.q)
  | none =>
    if earlier.any fun x => x.hla == r.hla then none
    else if homeGone s r then some (homeMiss (s.inc F.COH_CNT1_HOME_MISS) r.q)
    else match askOf r.q with
      | none => some (homeMiss s r.q)
      | some a =>
        if !lineOpen s r || flushHas s r.hla then none
        else beginReq s (physOf s (sliceOf r.hla)) r a

/-- Serve the first waiting request that can be served. before are those passed over. -/
def serveWaiting (s : State) (before : List DirReq) : List DirReq → Option State
  | [] => none
  | r :: rs =>
    match serveReq s before r with
    | some t =>
      some (retrack (physOf s (sliceOf r.hla)) (t.modCoh fun c => { c with waitq := before ++ rs }))
    | none => serveWaiting s (before ++ [r]) rs

/-- An entry whose check bits show an uncorrectable error is freed and its set marked doubtful (R181). -/
def entryUe (s : State) (k : Nat) : State :=
  let p := k / 131072
  let set := k / 16 % 8192
  if (dirEnt s k).state = 0 ∨ wayBusy s k then s
  else
    let s := markDoubtful (putDir s k {}) p false set
    let s := if s.bit (F.COH_SL_STATUS_FOLD p) then markDoubtful s p true set else s
    s.raise (1488 + 4 * p + 1)

/-- DIRECTORY_REQUEST (R184): a waiting request that has become free to go, else the oldest request handed over, is served
or begins to wait. ue names ways of its set whose check bits show an uncorrectable error. -/
def execDirectoryRequest (ue : BitVec 16) (s : State) : Host.Outcome State Fault Refusal :=
  .next (
    match serveWaiting s [] s.coh.waitq with
    | some t => t
    | none =>
      match s.coh.reqs.find? fun r => r.q.op != .biConflict with
      | none => s
      | some r =>
        let s := s.modCoh fun c => { c with reqs := c.reqs.erase r }
        let p := physOf s (sliceOf r.hla)
        let s := if p < 34 then
            (((List.range 16).filter fun i =>
              ue.getLsbD i || injMark s 3 p (16 * setOf r.hla + i) == 2).map (wayKey p (setOf r.hla))).foldl entryUe s
          else s
        match serveReq s s.coh.waitq r with
        | some t => t
        | none => retrack p (s.modCoh fun c => { c with waitq := c.waitq ++ [r] }))

/-! ## Answers (R185, R187, R188) -/

/-- A BIRsp to a snoop. -/
def birsp (s : State) (q : Pkt) : State :=
  let h := (whoOf s q).id
  match s.coh.txns.find? fun t => t.r.hla == q.addr
      && t.await.any fun a => some a.1 == h && (q.op != .rspE || a.2 == .snpCur) with
  | none => s.inc F.COH_CNT1_STALE_BIRSP
  | some t =>
    let t := { t with await := t.await.filter fun a => some a.1 != h }
    let t := match h with
      | some h => if q.op = .rspS then { t with keep := t.keep ++ [h] } else if q.op = .rspE then { t with owner := some h } else t
      | none => t
    advance s t

/-- BIRSP_RECEIVE (R185): the oldest packet delivered to the directory: a BIRsp, data read from memory, or the memory's
acceptance of a write. -/
def execBirspReceive (s : State) : Host.Outcome State Fault Refusal :=
  .next (
    match s.coh.rsps with
    | [] => s
    | q :: qs =>
      let s := s.modCoh fun c => { c with rsps := qs }
      if q.cls = .biRsp then birsp s q
      else match s.coh.txns.find? fun t => t.id == q.tag / 4 with
        | none => s
        | some t =>
          if q.cls = .sDrs ∧ q.tag % 4 = 0 ∧ t.mem.isNone then advance s { t with mem := some (q.data, q.poison) }
          else if q.cls = .sDrs ∧ q.tag % 4 = 1 then
            advance s { t with acks := t.acks - 1, mem := some (q.data, q.poison) }
          else if q.cls = .sNdr ∧ q.tag % 4 = 1 then advance s { t with acks := t.acks - 1 }
          else s)

/-- BICONFLICT (R188): the oldest BIConflict is answered, once the running transaction of its host on the line, if there
is one, has completed. -/
def execBiconflict (s : State) : Host.Outcome State Fault Refusal :=
  .next (
    match s.coh.reqs.find? fun r => r.q.op == .biConflict with
    | none => s
    | some r =>
      let h := (whoOf s r.q).id
      if s.coh.txns.any fun t => t.r.hla == r.hla && t.kind == .req && decide (t.phase < 2) && h.isSome && t.host == h then s
      else
        let s := s.modCoh fun c => { c with reqs := c.reqs.erase r }
        answerHeld (sentClose s r.q) r.q (reply r.q .sNdr .biConflictAck 0 false))

/-! ## Timeouts and removal (R192 to R195) -/

/-- The removal of host h starts (R193). -/
def startRemoval (s : State) (h : Nat) (cmd : Bool) : State :=
  if s.get (F.COH_HOST_STATE h) ≠ 0 then s
  else
    let s := s.put (F.COH_HOST_STATE h) 1
    let ls := (s.coh.ents.map fun e => (e.1, entLine s e.1 e.2, e.2)).filter fun x => namesHost s x.2.1 h x.2.2
    let s := s.modCoh fun c => { c with removals := c.removals ++ [⟨h, cmd, ls.map fun x => x.2.1, false⟩] }
    ls.foldl (fun s x => retrack (x.1 / 131072) (lineFreed (x.1 / 131072) x.2.1 66 s)) s

/-- Host h has not answered transaction t in time (R192). -/
def hostLate (s : State) (t : Txn) (h : Nat) : State :=
  let s := (s.inc F.COH_CNT0_BI_TIMEOUT).raise 1426
  let t := { t with await := t.await.filter fun a => a.1 != h
                    lost := if t.old.state = 2 ∧ t.old.ptrs.contains h then some 1 else if t.old.state = 3 then some 2 else t.lost }
  advance s t

/-- BI_TIMEOUT (R192): host h has not answered the snoop of transaction t. -/
def execBiTimeout (t : Nat) (h : Fin 64) (s : State) : Host.Outcome State Fault Refusal :=
  .next (
    match s.coh.txns.find? fun x => x.id == t && x.await.any fun a => a.1 == h.val with
    | some x => hostLate (startRemoval s h false) x h
    | none => s)

/-- The removal of host h ends. -/
def endRemoval (s : State) (r : Removal) : State :=
  let s := (s.modCoh fun c => { c with removals := c.removals.filter fun x => x.host != r.host }).put (F.COH_HOST_STATE r.host) 2
  let s := s.raise 1425
  if r.cmd then ((s.put F.COH_HOST_CMD_BUSY 0).put F.COH_HOST_CMD_RESULT (if r.poisoned then 1 else 0)).put F.MGT_DONE_COH_HOST 1
  else s

/-- HOST_REMOVAL_COMPLETE (R193): every line is answered, or BI_TO has passed after the last snoop: then the lines not
answered lose their pointer, E and DOUBT lines are poisoned. -/
def execHostRemovalComplete (h : Fin 64) (timeout : Bool) (s : State) : Host.Outcome State Fault Refusal :=
  .next (
    match s.coh.removals.find? fun r => r.host == h.val with
    | none => s
    | some r =>
      let late := s.coh.txns.filter fun t => t.await.any fun a => a.1 == h.val
      if !timeout then (if r.lines.isEmpty && late.isEmpty then endRemoval s r else s)
      else
        let s := late.foldl (fun s t => match s.coh.txns.find? fun x => x.id == t.id with
          | some t => hostLate s t h
          | none => s) s
        endRemoval s ((s.coh.removals.find? fun r => r.host == h.val).getD r))

/-- Perform the operation of COH_HOST_CMD. -/
def hostCmd (s : State) : State :=
  let h := s.get F.COH_HOST_CMD_HOST
  let st := s.get (F.COH_HOST_STATE h)
  let done := fun (s : State) (r : Nat) => (s.put F.COH_HOST_CMD_RESULT r).put F.MGT_DONE_COH_HOST 1
  if s.get F.COH_HOST_CMD_OP = 1 then
    (if st ≠ 0 then done s 2 else startRemoval (s.put F.COH_HOST_CMD_BUSY 1) h true)
  else if s.get F.COH_HOST_CMD_OP = 2 then (if st = 2 then done (s.put (F.COH_HOST_STATE h) 0) 0 else done s 2)
  else s

/-- A write of COH_HOST_CMD; START while BUSY is refused. -/
def wrHostCmd (w : Wr) (s : State) : State :=
  if w.sets F.COH_HOST_CMD_START ∧ s.bit F.COH_HOST_CMD_BUSY then s.refuse R.COH_HOST_CMD.addr w.mid w.size
  else
    let s := s.writeReg R.COH_HOST_CMD w
    if w.sets F.COH_HOST_CMD_START then hostCmd s else s

/-- HOST_REMOVE (R193). -/
def execHostRemove (mid : Mid) (h : Fin 64) (s : State) : Host.Outcome State Fault Refusal :=
  .next (wrHostCmd (wrFull mid false (BitVec.ofNat 64 (2 ^ 31 + 2 ^ 28 + h))) s)

/-- HOST_ADMIT (R195). -/
def execHostAdmit (mid : Mid) (h : Fin 64) (s : State) : Host.Outcome State Fault Refusal :=
  .next (wrHostCmd (wrFull mid false (BitVec.ofNat 64 (2 ^ 31 + 2 ^ 29 + h))) s)

/-- A local host is removed as its upstream port p goes down (R192). -/
def autoRemove (s : State) (p : Nat) : State :=
  match (if s.bit F.COH_CTRL_AUTO_REMOVE && s.get (F.PORT_CFG_ROLE p) == 1 then vcsOfPort s p else none) with
  | some v => startRemoval s (s.get (F.RTE_VCS_CFG_HOSTID v)) false
  | none => s

/-! ## Flush (R196) -/

/-- Start the flush of extents base to base + count - 1. -/
def startFlush (s : State) (base count : Nat) : State :=
  let hit := fun (h : Nat) => decide (base ≤ h / 2 ^ 22) && decide (h / 2 ^ 22 < base + count)
  let ls := (s.coh.ents.map fun e => (e.1, entLine s e.1 e.2)).filter fun x => hit x.2
  let busy := (s.coh.txns.map fun t => t.r.hla).filter fun h => hit h && !(ls.map fun x => x.2).contains h
  let s := (s.put F.COH_FLUSH_CMD_BUSY 1).modCoh fun c => { c with flush := some ⟨base, count, (ls.map fun x => x.2) ++ busy.eraseDups, false⟩ }
  flushCheck (ls.foldl (fun s x => retrack (x.1 / 131072) (lineFreed (x.1 / 131072) x.2 66 s)) s)

/-- Clear the doubtful marks of logical slice l (R196, R198). -/
def clearDoubtful (s : State) (l : Nat) : State :=
  let p := physOf s l
  let r := secondRange s p l
  countDoubtful (s.modCoh fun c => { c with
    doubtful := c.doubtful.filter fun k => k / 8192 != 2 * p + r.toNat
    doubtAll := c.doubtAll.filter fun k => k != 2 * p + r.toNat }) p

/-- Perform the operation of COH_FLUSH_CMD. -/
def flushCmd (s : State) : State :=
  let done := fun (s : State) (r : Nat) => (s.put F.COH_FLUSH_CMD_RESULT r).put F.MGT_DONE_COH_FLUSH 1
  if s.get F.COH_FLUSH_CMD_OP = 1 then
    (if s.get F.COH_FLUSH_CMD_COUNT = 0 then done s 2 else startFlush s (s.get F.COH_FLUSH_CMD_BASE) (s.get F.COH_FLUSH_CMD_COUNT))
  else if s.get F.COH_FLUSH_CMD_OP = 2 then done (clearDoubtful s (s.get F.COH_FLUSH_CMD_LOGICAL)) 0
  else s

/-- A write of COH_FLUSH_CMD; START while BUSY is refused. -/
def wrFlushCmd (w : Wr) (s : State) : State :=
  if w.sets F.COH_FLUSH_CMD_START ∧ s.bit F.COH_FLUSH_CMD_BUSY then s.refuse R.COH_FLUSH_CMD.addr w.mid w.size
  else
    let s := s.writeReg R.COH_FLUSH_CMD w
    if w.sets F.COH_FLUSH_CMD_START then flushCmd s else s

/-- FLUSH_EXTENTS (R196). -/
def execFlushExtents (mid : Mid) (base : BitVec 24) (count : BitVec 16) (s : State) : Host.Outcome State Fault Refusal :=
  .next (wrFlushCmd (wrFull mid true (BitVec.ofNat 64 (2 ^ 63 + 2 ^ 60 + base.toNat * 2 ^ 16 + count.toNat))) s)

/-- CLEAR_DOUBTFUL_SETS (R196). -/
def execClearDoubtfulSets (mid : Mid) (l : Fin 32) (s : State) : Host.Outcome State Fault Refusal :=
  .next (wrFlushCmd (wrFull mid true (BitVec.ofNat 64 (2 ^ 63 + 2 ^ 61 + l * 2 ^ 48))) s)

/-! ## Slice failure (R197, R199, R201) -/

/-- Point logical slice l at physical slice p; 0x3F for none. -/
def putLmap (s : State) (l p : Nat) : State := s.put (F.COH_LMAP_PHYS (l / 8) (l % 8)) p

/-- Requests of slice p that have not been completed, in arrival order. -/
def openReqs (s : State) (p : Nat) : List DirReq :=
  ((s.coh.txns.filter fun t => t.slice == p && t.kind == .req && decide (t.phase < 2)).map fun t => t.r)
  ++ s.coh.waitq.filter fun r => physOf s (sliceOf r.hla) == p

/-- Take the open requests of slice p from the slice, to be presented again; writes under way keep their lines busy in
slice dst. -/
def takeOpen (s : State) (p dst : Nat) : State :=
  let rs := openReqs s p
  s.modCoh fun c => { c with
    reqs := rs ++ c.reqs
    waitq := c.waitq.filter fun r => physOf s (sliceOf r.hla) != p
    txns := (c.txns.filter fun t => t.slice != p || decide (0 < t.acks)).map fun t =>
      if t.slice = p then { t with slice := dst, phase := 2, await := [], ent := none } else t }

/-- Clear what slice p shows of its work. -/
def emptySlice (s : State) (p : Nat) : State :=
  let s := s.modCoh fun c => { c with
    ents := tdrop (fun k => k / 131072 == p) c.ents
    doubtful := c.doubtful.filter fun k => k / 16384 != p
    doubtAll := c.doubtAll.filter fun k => k / 2 != p }
  let s := ((s.put (F.COH_SL_STATUS_ENTRIES p) 0).put (F.COH_SL_STATUS_FOLD p) 0).put (F.COH_SL_STATUS_LOGICAL2 p) 0
  (s.put (F.COH_SL_DOUBT_ENTRIES p) 0).put (F.COH_SL_DOUBT_SETS p) 0

/-- The lines of removals and of the flush that a slice serves go on with it. -/
def resumeOwn (s : State) (p : Nat) : State :=
  let ls := (s.coh.removals.flatMap fun r => r.lines) ++ (match s.coh.flush with
    | some f => f.lines
    | none => [])
  retrack p ((ls.filter fun h => physOf s (sliceOf h) == p).foldl (fun s h => lineFreed p h 66 s) s)

/-- Logical slices that slice p serves. -/
def rangesOf (s : State) (p : Nat) : List Nat :=
  s.get (F.COH_SL_STATUS_LOGICAL p) :: (if s.bit (F.COH_SL_STATUS_FOLD p) then [s.get (F.COH_SL_STATUS_LOGICAL2 p)] else [])

/-- Slice dst takes over the ranges of slice p: status, map, counters of COH_HANDOVER. -/
def takeRanges (s : State) (p dst : Nat) : State :=
  let s := (rangesOf s p).foldl (fun s l => putLmap s l dst) s
  let s := ((s.put (F.COH_SL_STATUS_ROLE dst) 0).put (F.COH_SL_STATUS_FOLD dst) (s.get (F.COH_SL_STATUS_FOLD p))).put
    (F.COH_SL_STATUS_LOGICAL dst) (s.get (F.COH_SL_STATUS_LOGICAL p))
  let s := s.put (F.COH_SL_STATUS_LOGICAL2 dst) (s.get (F.COH_SL_STATUS_LOGICAL2 p))
  ((s.put F.COH_HANDOVER_LAST_FROM p).put F.COH_HANDOVER_LAST_TO dst).raise (1488 + 4 * dst + 2)

/-- Move the doubtful marks of slice p to slice dst. -/
def moveDoubtful (s : State) (p dst : Nat) : State :=
  countDoubtful (s.modCoh fun c => { c with
    doubtful := c.doubtful.map fun k => if k / 16384 = p then 16384 * dst + k % 16384 else k
    doubtAll := c.doubtAll.map fun k => if k / 2 = p then 2 * dst + k % 2 else k }) dst

/-- Copy entry e of slice p to the same way of slice dst; f says what becomes of it. -/
def copyEnt (p dst : Nat) (f : Nat → DirEnt → DirEnt) (s : State) (x : Nat × DirEnt) : State :=
  if x.1 / 131072 = p then putDir s (131072 * dst + x.1 % 131072) (f (x.1 / 16 % 8192) x.2) else s

/-- An entry as DOUBT. -/
def asDoubt (e : DirEnt) : DirEnt := { e with state := 3, ovf := false, ptrs := [] }

/-- An evicted line of the failed slice goes to the spare as DOUBT, or with no way free its set becomes doubtful. -/
def evictToDoubt (p dst : Nat) (s : State) (t : Txn) : State :=
  if t.slice = p ∧ t.kind = .evict ∧ t.phase = 0 then
    let set := setOf t.r.hla
    match ((List.range 16).map (wayKey dst set)).find? fun k => (dirEnt s k).state == 0 with
    | some k => putDir s k (asDoubt t.old)
    | none => markDoubtful s dst t.old.range set
  else s

/-- Failover of slice p to spare dst (R197): bad are sets with unreadable entries. -/
def sliceFailover (s : State) (p dst : Nat) (bad : List Nat) : State :=
  let es := s.coh.ents
  let ts := s.coh.txns
  let two := s.bit (F.COH_SL_STATUS_FOLD p)
  let s := s.put (F.COH_SL_STATUS_ROLE p) 2
  let s := es.foldl (copyEnt p dst fun set e => if bad.contains set then {} else asDoubt e) s
  let s := moveDoubtful s p dst
  let s := bad.foldl (fun s set => if two then markDoubtful (markDoubtful s dst false set) dst true set else markDoubtful s dst false set) s
  let s := ts.foldl (evictToDoubt p dst) s
  let s := takeOpen s p dst
  let s := (emptySlice (takeRanges s p dst) p).inc F.COH_HANDOVER_FAILOVERS
  resumeOwn (retrack p s) dst

/-- May physical slice c take a folded range of slice p (R199)? -/
def foldOk (s : State) (p c : Nat) : Bool :=
  decide (c < 34) && c != p && s.get (F.COH_SL_STATUS_ROLE c) == 0 && !s.bit (F.COH_SL_STATUS_FOLD c)

/-- The physical slice that takes range l of slice p (R199). -/
def foldTarget (s : State) (p l : Nat) : Option Nat :=
  if foldOk s p (physOf s (l ^^^ 1)) then some (physOf s (l ^^^ 1))
  else ((List.range 32).map (physOf s)).find? (foldOk s p)

/-- Fold one range of slice p (R199). -/
def foldRange (p : Nat) (s : State) (l : Nat) : State :=
  match foldTarget s p l with
  | none => (putLmap s l 0x3F).raise 1429
  | some c =>
    let s := (putLmap s l c).put (F.COH_LMAP_FOLDED (l / 8) (l % 8)) 1
    let s := (s.put (F.COH_SL_STATUS_FOLD c) 1).put (F.COH_SL_STATUS_LOGICAL2 c) l
    let s := countDoubtful (s.modCoh fun d => { d with doubtAll := d.doubtAll ++ [2 * c + 1] }) c
    let s := ((s.put F.COH_HANDOVER_LAST_FROM p).put F.COH_HANDOVER_LAST_TO c).inc F.COH_HANDOVER_FAILOVERS
    s.raise 1428

/-- Slice p fails with no spare free: each of its ranges is folded. -/
def foldSlice (s : State) (p : Nat) : State :=
  let ls := rangesOf s p
  let s := takeOpen (s.put (F.COH_SL_STATUS_ROLE p) 2) p p
  let s := ls.foldl (foldRange p) s
  let s := emptySlice s p
  let s := s.modCoh fun c => { c with txns := c.txns.map fun t => if t.slice = p then { t with slice := physOf s (sliceOf t.r.hla) } else t }
  ls.foldl (fun s l => if physOf s l < 34 then resumeOwn s (physOf s l) else s) (retrack p s)

/-- Lines of removals and of the flush that no slice serves any more are done. -/
def dropUnserved (s : State) : State :=
  let gone := fun (h : Nat) => decide (34 ≤ physOf s (sliceOf h))
  flushCheck (s.modCoh fun c => { c with
    removals := c.removals.map fun r => { r with lines := r.lines.filter fun h => !gone h }
    flush := c.flush.map fun f => { f with lines := f.lines.filter fun h => !gone h } })

/-- Fantail's own rotation has ended: an abandoned one is counted as skipped and tried again (R403). -/
def fanRotEnd (s : State) (result : Nat) : State :=
  if !s.fan.rotMine then s
  else
    let s := { s with fan := { s.fan with
      rotMine := false, rotRetry := decide (result = 2), rotAt := if result = 0 then s.get F.MGT_MTIME_TIME else s.fan.rotAt } }
    if result = 2 then fanResult s 1 2 ((s.coh.rot.map (·.src)).getD 0) else s

/-- End the rotation in progress. -/
def endRotation (s : State) (result : Nat) : State :=
  let s := fanRotEnd s result
  (((s.modCoh fun c => { c with rot := none, heldSlice := none }).put F.COH_ROT_CTRL_BUSY 0).put F.COH_ROT_CTRL_RESULT result).put
    F.MGT_DONE_COH_ROT 1

/-- A rotation is refused or abandoned. -/
def abortRotation (s : State) : State := (s.inc F.COH_HANDOVER_ROT_ABORTS).raise 1427

/-- Free spares, lowest first. -/
def freeSpares (s : State) : List Nat := (List.range 34).filter fun p => s.get (F.COH_SL_STATUS_ROLE p) == 1

/-- Physical slice p is declared failed (R197, R199, R201). -/
def sliceFail (s : State) (p : Nat) (bad : List Nat) : State :=
  let role := s.get (F.COH_SL_STATUS_ROLE p)
  if role = 2 then s
  else
    let s := s.raise (1488 + 4 * p)
    match s.coh.rot with
    | some r =>
      if r.src = p then
        sliceFailover ((((fanRotEnd s 3).modCoh fun c => { c with rot := none, heldSlice := none }).put F.COH_ROT_CTRL_BUSY 0).put F.MGT_DONE_COH_ROT 1)
          p r.dst bad
      else if r.dst = p then abortRotation (endRotation (s.put (F.COH_SL_STATUS_ROLE p) 2) 3)
      else if role ≠ 0 then s.put (F.COH_SL_STATUS_ROLE p) 2
      else match (freeSpares s).find? fun d => d != r.dst with
        | some d => sliceFailover s p d bad
        | none => dropUnserved (foldSlice s p)
    | none =>
      if role ≠ 0 then s.put (F.COH_SL_STATUS_ROLE p) 2
      else match (freeSpares s).head? with
        | some d => sliceFailover s p d bad
        | none => dropUnserved (foldSlice s p)

/-- SLICE_FAILED (R197): bad are sets that the evacuation path finds with an unreadable entry. -/
def execSliceFailed (p : Fin 34) (bad : List (Fin 8192)) (s : State) : Host.Outcome State Fault Refusal :=
  .next (sliceFail s p (bad.map fun x => x.val))

/-! ## Sweep (R198) -/

/-- DOUBT_SWEEP (R198): the sweep of slice p comes to entry i (16 * set + way). -/
def execDoubtSweep (p : Fin 34) (i : Fin 131072) (s : State) : Host.Outcome State Fault Refusal :=
  .next (
    let k := 131072 * p.val + i.val
    let e := dirEnt s k
    let hla := entLine s k e
    if !s.bit F.COH_SWEEP_EN ∨ e.state ≠ 3 ∨ (lineTxn s hla).isSome then s
    else
      let x := startOwn s k hla .sweep .snpCur (members s (lineGrp s hla))
      advance (putTxn x.1 x.2) x.2)

/-! ## Rotation (R200) -/

/-- Start the rotation of logical slice l, or refuse it. -/
def rotStart (s : State) (l : Nat) : State :=
  match freeSpares s with
  | d :: _ :: _ =>
    if s.coh.rot.isSome ∨ !s.bit F.COH_CTRL_ROT_EN ∨ 34 ≤ physOf s l then
      abortRotation ((s.put F.COH_ROT_CTRL_RESULT 1).put F.MGT_DONE_COH_ROT 1)
    else
      (s.put F.COH_ROT_CTRL_BUSY 1).modCoh fun c => { c with rot := some ⟨l, physOf s l, d⟩, heldSlice := some l }
  | _ => abortRotation ((s.put F.COH_ROT_CTRL_RESULT 1).put F.MGT_DONE_COH_ROT 1)

/-- The logical slice of the active physical slice longest in service since its last test. -/
def rotPick (s : State) : Nat :=
  match s.coh.order.find? fun p => s.get (F.COH_SL_STATUS_ROLE p) == 0 with
  | some p => s.get (F.COH_SL_STATUS_LOGICAL p)
  | none => 0

/-- A write of COH_ROT_CTRL: FAIL declares the slice of LOGICAL failed, START rotates it. -/
def wrRotCtrl (w : Wr) (s : State) : State :=
  let s := s.writeReg R.COH_ROT_CTRL w
  let l := s.get F.COH_ROT_CTRL_LOGICAL
  let s := if w.sets F.COH_ROT_CTRL_FAIL ∧ physOf s l < 34 then sliceFail s (physOf s l) [] else s
  if w.sets F.COH_ROT_CTRL_START then rotStart s l else s

/-- SLICE_FAIL (R197): FAIL is written with LOGICAL naming slice l. -/
def execSliceFail (mid : Mid) (l : Fin 32) (s : State) : Host.Outcome State Fault Refusal :=
  .next (wrRotCtrl (wrFull mid false (bitsPut (bitsPut (bitsPut (s.rd R.COH_ROT_CTRL) 31 31 0) 30 30 1) 4 0 l)) s)

/-- ROTATION_START (R200): START is written with LOGICAL naming slice l, or (none) Fantail starts a rotation. -/
def execRotationStart (mid : Mid) (l : Option (Fin 32)) (s : State) : Host.Outcome State Fault Refusal :=
  .next (
    match l with
    | some l => wrRotCtrl (wrFull mid false (bitsPut (bitsPut (bitsPut (s.rd R.COH_ROT_CTRL) 31 31 1) 30 30 0) 4 0 l)) s
    | none => rotStart s (rotPick s))

/-- Is the source of a rotation drained: tracker, eviction buffer, and the requests already handed to it? -/
def drained (s : State) (p : Nat) : Bool :=
  !(s.coh.txns.any fun t => t.slice == p) && !(s.coh.reqs.any fun r => physOf s (sliceOf r.hla) == p)
  && !(s.coh.waitq.any fun r => physOf s (sliceOf r.hla) == p)

/-- Is a set among those that a rotation copies as DOUBT? -/
def doubtSet (s : State) (set : Nat) : Bool :=
  decide ((set + 8192 - s.coh.rotSet) % 8192 < s.get F.COH_ROT_CTRL_DOUBT_SETS)

/-- ROTATION_DRAIN_END (R200): the entries are copied, the map is switched. -/
def execRotationDrainEnd (s : State) : Host.Outcome State Fault Refusal :=
  .next (
    match s.coh.rot with
    | none => s
    | some r =>
      if !drained s r.src then s
      else
        let t := s.coh.ents.foldl (copyEnt r.src r.dst fun set e => if doubtSet s set then asDoubt e else e) s
        let t := emptySlice (takeRanges (moveDoubtful t r.src r.dst) r.src r.dst) r.src
        let t := (t.put (F.COH_SL_STATUS_ROLE r.src) 3).inc F.COH_HANDOVER_ROTATIONS
        let t := t.modCoh fun c => { c with rotSet := (c.rotSet + s.get F.COH_ROT_CTRL_DOUBT_SETS) % 8192 }
        resumeOwn (endRotation t 0) r.dst)

/-- ROTATION_DRAIN_TIMEOUT (R200): DRAIN_LIMIT has passed; the held requests go on. -/
def execRotationDrainTimeout (s : State) : Host.Outcome State Fault Refusal :=
  .next (if s.coh.rot.isSome then abortRotation (endRotation s 2) else s)

/-! ## COH_HOST and COH_PROXY (R176, R190) -/

/-- A write of COH_HOST h: REMOTE is refused for a host that a local VCS has. -/
def wrCohHost (h : Nat) (w : Wr) (s : State) : State :=
  s.writeReg (R.COH_HOST h) w (if w.sets (F.COH_HOST_REMOTE h) && (vcsOfHost s h).isSome then bitsMask 31 31 else 0#64)

/-- A write of COH_PROXY n: refused when it names a port without role 2 or a target bound to a vPPB. -/
def wrCohProxy (n : Nat) (w : Wr) (s : State) : State :=
  let p := w.val s (F.COH_PROXY_PORT n)
  let ld := w.val s (F.COH_PROXY_LDID n)
  let bound := (List.range 1024).any fun b =>
    s.bit (F.RTE_BIND_VALID b) && s.get (F.RTE_BIND_KIND b) == 0 && s.get (F.RTE_BIND_PORT b) == p
    && (s.get (F.RTE_BIND_LDID b) == ld || s.get (F.RTE_BIND_LDID b) == 0xFFFF || ld == 0xFFFF)
  if w.val s (F.COH_PROXY_VALID n) = 1 ∧ (s.get (F.PORT_CFG_ROLE p) ≠ 2 ∨ bound) then
    s.refuse (R.COH_PROXY n).addr w.mid w.size
  else s.writeReg (R.COH_PROXY n) w

end Sys2Proof.Machine
end

