-- ==== Sys2Proof/Machine/Mpu.lean ====
section
/-! DEFINITION. The MPUs: the check of an access, refusals, the two-word region write and the fence (R288 to R301). -/

namespace Sys2Proof.Machine

/-- Is the master one that no MPU checks (R290)? -/
def fixedMaster (mid : Nat) : Bool := mid == 0x021 || mid == 0x022 || mid == 0x023

/-- The MPU beside a port A master: a Millwright core, or the debug access port (R291). -/
def mpuOfMid (mid : Nat) : Option Nat :=
  if 1 ≤ mid ∧ mid ≤ 8 then some (mid - 1) else if mid = 0x020 then some 24 else none

/-- The MPU of engine e. -/
def mpuEng (e : Nat) : Nat := 8 + e

/-- The MPU of the host-window bridge of function n. -/
def mpuBridge (n : Nat) : Nat := 25 + n / 256

/-- Does a region (two words, R293) hit the 64-byte block of an access with this MID? -/
def regionHits (a b : Word) (mid block : Nat) : Bool :=
  a.getLsbD 63 && decide (bitsGet a 41 0 ≤ block) && decide (block ≤ bitsGet b 41 0)
  && (mid &&& bitsGet b 63 52) == (bitsGet a 55 44 &&& bitsGet b 63 52)

/-- Does a region that hits grant the access (R294)? closed: a Governor-locked region of MPU 24 without a token (R297). -/
def regionGrants (a : Word) (priv : Bool) (op : AccOp) (closed : Bool) : Bool :=
  (priv || a.getLsbD 58) && !closed
  && (match op with
      | .read => a.getLsbD 62
      | .write => a.getLsbD 61
      | .fetch => a.getLsbD 60
      | .add | .swap => a.getLsbD 62 && a.getLsbD 61)

/-- What an MPU decides. -/
inductive MpuAns | allow | deny | noMatch
deriving DecidableEq, Repr

/-- The decision for one 64-byte block (R294). -/
def mpuBlock (s : State) (m mid : Nat) (priv : Bool) (op : AccOp) (block : Nat) : MpuAns :=
  match (List.range 32).find? fun r => regionHits (s.rd (R.MPU_REG_A m r)) (s.rd (R.MPU_REG_B m r)) mid block with
  | some r =>
    let closed := m == 24 && s.bit (F.MPU_REG_A_GLOCK m r) && !s.bit (F.MPU_DBG_TOKEN 24)
    if regionGrants (s.rd (R.MPU_REG_A m r)) priv op closed then .allow else .deny
  | none =>
    if !priv then .noMatch
    else match (List.range (min 32 (s.get (F.MPU_CFG_DEF_COUNT m)))).find? fun r =>
        regionHits (s.rd (R.MPU_DEF_A m r)) (s.rd (R.MPU_DEF_B m r)) mid block with
      | some r => if regionGrants (s.rd (R.MPU_DEF_A m r)) priv op false then .allow else .deny
      | none => .noMatch

/-- The decision for an access: permitted when every block is; otherwise what the first refused block gives. -/
def mpuCheck (s : State) (m mid : Nat) (priv : Bool) (op : AccOp) (addr len : Nat) : MpuAns :=
  let n := (addr + max 1 len - 1) / 64 - addr / 64 + 1
  (((List.range n).map fun i => mpuBlock s m mid priv op (addr / 64 + i)).find? fun x => x != .allow).getD .allow

/-- TYPE of MPU_FAULT. -/
def AccOp.code : AccOp → Nat
  | .read => 0
  | .write => 1
  | .fetch => 2
  | .add | .swap => 3

/-- A refusal is counted, latched and reported (R295). -/
def mpuRefused (s : State) (m mid : Nat) (priv : Bool) (op : AccOp) (addr : Nat) (x : MpuAns) : State :=
  let s := s.inc (if x = .noMatch then F.MPU_FAULT_CNT_NOMATCH m else F.MPU_FAULT_CNT_DENIED m)
  let s := if s.bit (F.MPU_FAULT_VALID m) then s
    else
      let s := ((s.put (F.MPU_FAULT_VALID m) 1).put (F.MPU_FAULT_TYPE m) op.code).putB (F.MPU_FAULT_PRIV m) priv
      (s.put (F.MPU_FAULT_MID m) mid).put (F.MPU_FAULT_ADDR m) addr
  s.raise (160 + m)

/-- Check an access at MPU m: the state, and whether it may go on. -/
def mpuPass (s : State) (m mid : Nat) (priv : Bool) (op : AccOp) (addr len : Nat) : State × Bool :=
  match mpuCheck s m mid priv op addr len with
  | .allow => (s, true)
  | x => (mpuRefused s m mid priv op addr x, false)

/-! ## Regions (R297, R299) -/

/-- Is a region closed to a writer? -/
def regionLocked (s : State) (m r mid : Nat) : Bool :=
  s.locked (R.MPU_REG_A m r).addr || s.bit (F.MPU_REG_A_GLOCK m r) && mid != midGov

/-- A write of word 0: it applies with the held word 1 in one step. -/
def wrRegA (m r : Nat) (w : Wr) (s : State) : State :=
  if regionLocked s m r w.mid then
    s.writeReg (R.MPU_REG_A m r) w (if s.bit (F.MPU_REG_A_GLOCK m r) && w.mid != midGov then BitVec.allOnes 64 else 0#64)
  else
    let s' := s.writeReg (R.MPU_REG_A m r) w
    let k := 32 * m + r
    match tget none s.mpu.held k with
    | some v => { s'.wr (R.MPU_REG_B m r) v with mpu := { s'.mpu with held := tput none s'.mpu.held k none } }
    | none => s'

/-- A write of word 1: it is held until word 0 is written. -/
def wrRegB (m r : Nat) (w : Wr) (s : State) : State :=
  if regionLocked s m r w.mid then s.writeReg (R.MPU_REG_B m r) w (BitVec.allOnes 64)
  else
    let k := 32 * m + r
    let old := (tget none s.mpu.held k).getD (s.rd (R.MPU_REG_B m r))
    let keep := bitsMask 63 52 ||| bitsMask 41 0
    let v := (old &&& ~~~(w.mask &&& keep)) ||| (w.v &&& w.mask &&& keep)
    { s with mpu := { s.mpu with held := tput none s.mpu.held k (some v) } }

/-- REGION_WORD0_WRITE (R299). -/
def execRegionWord0Write (mid : Mid) (m : Fin 29) (r : Fin 32) (v : Word) (s : State) : Host.Outcome State Fault Refusal :=
  .next (wrRegA m r (wrFull mid true v) s)

/-- REGION_WORD1_WRITE (R299). -/
def execRegionWord1Write (mid : Mid) (m : Fin 29) (r : Fin 32) (v : Word) (s : State) : Host.Outcome State Fault Refusal :=
  .next (wrRegB m r (wrFull mid true v) s)

/-! ## Fence (R301) -/

/-- Numbers of the accesses that a channel has open. -/
def chanOpen (c : HopCh) : List Nat :=
  let open_ := fun (l : List Piece) => (l.filter fun p => !p.ok).map fun p => p.id
  (c.work.flatMap fun d => d.bursts.flatMap fun b => open_ b.reads ++ open_ b.other ++ b.writes)
  ++ (match c.fetch with
      | some f => open_ f.reads
      | none => [])

/-- Packets of a host-window bridge under way to the pool, by number. -/
def bridgeOpen (s : State) (k : Nat) : List Nat :=
  let pick := fun (q : Pkt) => match q.src with
    | .bridge n => if n / 256 = k then [q.tag] else []
    | _ => []
  (s.mill.presented.flatMap fun x => pick x.pkt) ++ (s.mill.waiting.flatMap fun x => pick x.pkt)
  ++ (s.mill.queues.flatMap fun x => x.2.flatMap fun y => pick y.pkt) ++ (s.pool.chq.flatMap fun x => x.2.flatMap pick)
  ++ (s.coh.reqs.flatMap fun r => pick r.q) ++ (s.coh.waitq.flatMap fun r => pick r.q) ++ (s.coh.txns.flatMap fun t => pick t.r.q)

/-- Accesses that MPU m has checked and that have not retired. The accesses of cores and of the debug port retire in the
step that issues them. -/
def mpuOpen (s : State) (m : Nat) : List Nat :=
  if 8 ≤ m ∧ m < 24 then (s.hop.chs.filter fun x => x.1 / 64 == m - 8).flatMap fun x => chanOpen x.2
  else if 25 ≤ m then bridgeOpen s (m - 25)
  else []

/-- Accesses that the fence of MPU m still waits for. -/
def fenceOpen (s : State) (m : Nat) : List Nat := (tget [] s.mpu.fence m).filter (mpuOpen s m).contains

/-- A write of MPU_FENCE m; START while BUSY is refused. -/
def wrFence (m : Nat) (w : Wr) (s : State) : State :=
  if !w.sets (F.MPU_FENCE_START m) then s.writeReg (R.MPU_FENCE m) w
  else if s.bit (F.MPU_FENCE_BUSY m) then s.refuse (R.MPU_FENCE m).addr w.mid w.size
  else
    let l := mpuOpen s m
    let s := { s with mpu := { s.mpu with fence := tput [] s.mpu.fence m l } }
    (s.put (F.MPU_FENCE_BUSY m) 1).put (F.MPU_FENCE_INFLIGHT m) (min 0xFFFF l.length)

/-- MPU_FENCE (R301). -/
def execMpuFence (mid : Mid) (m : Fin 29) (s : State) : Host.Outcome State Fault Refusal :=
  .next (wrFence m (wrFull mid false 0x80000000#64) s)

/-- FENCE_COMPLETE (R301): the last access that the fence waits for has retired; otherwise the count of those left is
brought up to date. -/
def execFenceComplete (m : Fin 29) (s : State) : Host.Outcome State Fault Refusal :=
  .next (
    if !s.bit (F.MPU_FENCE_BUSY m) then s
    else
      let l := fenceOpen s m
      let s := { s with mpu := { s.mpu with fence := tput [] s.mpu.fence m l } }
      let s := s.put (F.MPU_FENCE_INFLIGHT m) (min 0xFFFF l.length)
      if l.isEmpty then (s.put (F.MPU_FENCE_BUSY m) 0).put F.MGT_DONE_MPU_FENCE 1 else s)

end Sys2Proof.Machine
end

