-- ==== Sys2Proof/Machine/Spd.lean ====
section
/-! DEFINITION. The scratchpad: bank accesses from both ports, collisions, check bits, ownership and power (R279 to R287). -/

namespace Sys2Proof.Machine

/-- Bank of a scratchpad address (R279). -/
def bankOf (a : Nat) : Nat := a / 0x40000

/-- Does an owner code let a port in: port A (true) or B? -/
def ownerLets (o : Nat) (a : Bool) : Bool := o == 0 || (o == 1 && a) || (o == 2 && !a)

/-- What a bank does with an access. -/
inductive BankAns | go | wait | refuse
deriving DecidableEq, Repr

/-- The rules of R286 and R287 for an access from port A (true) or B. -/
def bankAns (s : State) (b mid : Nat) (a : Bool) : BankAns :=
  let now := s.get (F.SPD_BANK_STATUS_PWR_NOW b)
  let cfg := s.get (F.SPD_BANK_CFG_PWR b)
  let new := fixedMaster mid || ownerLets (s.get (F.SPD_BANK_CFG_OWNER b)) a
  let old := fixedMaster mid || ownerLets (s.get (F.SPD_BANK_STATUS_OWNER_NOW b)) a
  if cfg ≠ 0 then .refuse
  else if !new then .refuse
  else if now ≠ 0 ∨ s.bit (F.SPD_BANK_STATUS_ZEROING b) ∨ !old then .wait
  else .go

/-- An access is refused (R287). -/
def bankRefused (s : State) : State := (s.inc F.SPD_CNT_REFUSED).raise 129

/-- Ticks of mtime in 1 ms. -/
def tick1ms : Nat := 32000

/-- A corrected word in bank b (R285). -/
def spdCe (s : State) (b : Nat) : State :=
  let now := s.get F.MGT_MTIME_TIME
  let old := (tget [] s.spdX.ce b).filter fun t => decide (now < t + tick1ms)
  let s := { s.inc F.SPD_ECC_CE with spdX := { s.spdX with ce := tput [] s.spdX.ce b (old ++ [now]) } }
  if old.length = max 1 (s.get F.SPD_CTRL_CE_LIMIT) then s.raise 131 else s

/-- Words of the bytes from a on, by address / 8. -/
def wordsOf (a n : Nat) : List Nat := (List.range ((a + max 1 n - 1) / 8 - a / 8 + 1)).map (a / 8 + ·)

/-- The check bits of a word. -/
def spdMark (s : State) (w : Nat) : Nat := injMark s 5 (bankOf (8 * w)) w

/-- Read words: corrected errors are counted, uncorrectable ones counted and reported; e is what the check bits show beside
an injected error. Answers whether the data may be used. -/
def spdCheck (s : State) (a n : Nat) (e : LineErr) : State × Bool :=
  let s := if e = .corrected then spdCe s (bankOf a) else s
  let x := (wordsOf a n).foldl (fun (x : State × Bool) w =>
    if spdMark x.1 w = 1 then (spdCe x.1 (bankOf (8 * w)), x.2)
    else if spdMark x.1 w = 2 then ((x.1.inc F.SPD_ECC_UE).raise 130, false) else x) (s, true)
  if e = .uncorrectable then
    ({ (x.1.inc F.SPD_ECC_UE).raise 130 with marks := tput 0 x.1.marks (injKey 5 (bankOf a) (a / 8)) 2 }, false)
  else x

/-- Store bytes in one word: a whole word gets good check bits (or an injected error); a partial write reads the word first,
and leaves it as it is when it is uncorrectable (R284, R285). Answers whether it was stored. -/
def spdWord (a : Nat) (d : Bytes) (skip : List Nat) (x : State × Bool) (w : Nat) : State × Bool :=
  if skip.contains w then x
  else
    let lo := max a (8 * w)
    let hi := min (a + d.length) (8 * w + 8)
    let part := decide (hi - lo < 8)
    let s := x.1
    if part ∧ spdMark s w = 2 then ((s.inc F.SPD_ECC_UE).raise 130, false)
    else
      let s := if part ∧ spdMark s w = 1 then spdCe s (bankOf (8 * w)) else s
      (injWrite (s.spdWr lo (slice d (lo - a) (hi - lo))) 5 (bankOf (8 * w)) w, x.2)

/-- Write bytes at a; words of skip are left out. -/
def spdPut (s : State) (a : Nat) (d : Bytes) (skip : List Nat) : State × Bool :=
  (wordsOf a d.length).foldl (spdWord a d skip) (s, true)

/-- The effect of an access on the array: state, error, data returned. -/
def spdDo (s : State) (op : AccOp) (a n : Nat) (d : Bytes) (e : LineErr) : State × Bool × Bytes :=
  match op with
  | .read | .fetch =>
    let x := spdCheck s a n e
    (x.1, !x.2, if x.2 then x.1.spdRd a n else List.replicate n 0#8)
  | .write =>
    let x := spdPut s a (d.take n) []
    (x.1, !x.2, [])
  | .add | .swap =>
    let x := spdCheck s a n e
    if !x.2 then (x.1, true, List.replicate n 0#8)
    else
      let old := x.1.spdRd a n
      let new := if op = .add then leBytes n (leN old 0 n + leN d 0 n) else d.take n
      ((spdPut x.1 a new []).1, false, old)

/-- Deliver the answer of a row access to its engine: status 0, or 8 for a refusal by the bank. -/
def hopDeliver (s : State) (r : PortB) (status : Nat) (bad : Bool) (d : Bytes) : State :=
  { s with hopIn := s.hopIn ++ [(r.eng,
    { cls := if r.write then .sNdr else .sDrs, op := if r.write then .cmp else .memData, tag := r.id, data := d, poison := bad,
      status := status, src := .hop r.eng r.ch })] }

/-- Take a row access off port B. -/
def portBTake (s : State) (r : PortB) : State := { s with spdX := { s.spdX with portB := s.spdX.portB.filter fun x => x.id != r.id } }

/-- The oldest row access that waits at port B of bank b. -/
def portBHead (s : State) (b : Nat) : Option PortB := s.spdX.portB.find? fun r => bankOf r.addr == b

/-- Serve a row access of port B alone. -/
def serveB (s : State) (r : PortB) (e : LineErr) (skip : List Nat) : State :=
  let s := portBTake s r
  if r.write then
    let x := spdPut s r.addr r.data skip
    hopDeliver x.1 r 0 false []
  else
    let x := spdDo s .read r.addr r.len [] e
    hopDeliver x.1 r 0 x.2.1 x.2.2

/-- May a waiting row access of port B be served, or is it refused? -/
def portBAns (s : State) (r : PortB) : BankAns :=
  if r.drain then .go else bankAns s (bankOf r.addr) r.mid false

/-- Present the oldest row access of port B of a bank in a cycle that port A leaves idle. -/
def cycleB (s : State) (b : Nat) (e : LineErr) : State :=
  match portBHead s b with
  | none => s
  | some r =>
    match portBAns s r with
    | .go => serveB s r e []
    | .wait => s
    | .refuse => hopDeliver (bankRefused (portBTake s r)) r 8 false []

/-- Is an access one that port A carries: a master of port A, within one row, an atomic aligned (R280, R284)? -/
def portAOk (a : Acc) : Bool :=
  ((mpuOfMid a.mid).isSome || fixedMaster a.mid) && decide (1 ≤ a.len) && decide (a.addr % 64 + a.len ≤ 64)
  && decide (a.addr < 0x1000000)
  && (!(a.op == .add || a.op == .swap) || (a.len == 4 || a.len == 8) && a.addr % a.len == 0)

/-- Answer an access of a port A master. -/
def answerA (s : State) (a : Acc) (err : Bool) (d : Bytes) : State := s.out (.acc a.mid err d)

/-- Zero bytes for a read that is refused, none for a write. -/
def zeroData (a : Acc) : Bytes := if a.op = .write then [] else List.replicate a.len 0#8

/-- An access of port A after its MPU: the bank's rules, then the array. Answers the state and whether it was performed. -/
def bankA (s : State) (a : Acc) (e : LineErr) : State × Bool :=
  match bankAns s (bankOf a.addr) a.mid true with
  | .refuse => (answerA (bankRefused s) a true (zeroData a), false)
  | .wait => (s, false)
  | .go =>
    let x := spdDo s a.op a.addr a.len a.data e
    (answerA x.1 a x.2.1 x.2.2, true)

/-- Both ports in one bank and cycle (R282): what becomes of port B's access once port A's has been performed. -/
def collide (s : State) (a : Acc) (r : PortB) (e : LineErr) : State :=
  if portBAns s r ≠ .go ∨ a.addr / 64 ≠ r.addr / 64 then s
  else if a.op = .read ∨ a.op = .fetch then (if r.write then s else serveB s r e [])
  else if !r.write then s
  else
    let hit := (wordsOf r.addr r.len).filter (wordsOf a.addr a.len).contains
    if hit.isEmpty then serveB s r e []
    else
      let s := serveB s r e hit
      let s := (s.put F.SPD_COLL_VALID 1).put F.SPD_COLL_WORDS (hit.foldl (fun m w => m ||| 2 ^ (w % 8)) 0)
      ((s.put F.SPD_COLL_MID r.mid).put F.SPD_COLL_ROW (r.addr / 64)).inc F.SPD_CNT_COLLIDED |>.raise 128

/-- SCRATCHPAD_ACCESS (R282): in one array cycle port A presents an access, and the oldest row access that waits at port B of
bank b is presented; e is what the check bits show of the first word read. -/
def execScratchpadAccess (a : Option Acc) (b : Option (Fin 64)) (e : LineErr) (s : State) : Host.Outcome State Fault Refusal :=
  .next (
    match a with
    | none =>
      (match b with
       | some b => cycleB s b e
       | none => s)
    | some a =>
      if !portAOk a then s
      else
        let pass := match mpuOfMid a.mid with
          | some m => mpuPass s m a.mid a.priv a.op a.addr a.len
          | none => (s, true)
        let x := if pass.2 then bankA pass.1 a e else (answerA pass.1 a true (zeroData a), false)
        match b with
        | none => x.1
        | some b =>
          if !x.2 ∨ bankOf a.addr ≠ b then cycleB x.1 b .ok
          else match portBHead x.1 b with
            | some r => collide x.1 a r .ok
            | none => x.1)

/-! ## Ownership and power (R286, R287) -/

/-- A write of SPD_BANK_CFG b. -/
def wrBankCfg (b : Nat) (w : Wr) (s : State) : State :=
  let pwr := w.val s (F.SPD_BANK_CFG_PWR b)
  let own := w.val s (F.SPD_BANK_CFG_OWNER b)
  let old := s.get (F.SPD_BANK_CFG_PWR b)
  if pwr = 3 ∨ old = 2 ∧ pwr = 1 then s.refuse (R.SPD_BANK_CFG b).addr w.mid w.size
  else
    let lose := pwr ≠ 0 ∨ !ownerLets own false
    let gone := fun (r : PortB) => bankOf r.addr == b && decide lose
    let s := { s with spdX := { s.spdX with portB := s.spdX.portB.map fun r => if gone r then { r with drain := true } else r } }
    let s := s.writeReg (R.SPD_BANK_CFG b) w
    if own ≠ s.get (F.SPD_BANK_STATUS_OWNER_NOW b) ∨ pwr ≠ s.get (F.SPD_BANK_STATUS_PWR_NOW b) then
      s.put (F.SPD_BANK_STATUS_CHANGING b) 1
    else s

/-- BANK_OWNER_WRITE (R286). -/
def execBankOwnerWrite (mid : Mid) (b : Fin 64) (o : BitVec 2) (s : State) : Host.Outcome State Fault Refusal :=
  .next (wrBankCfg b (wrField s mid false (F.SPD_BANK_CFG_OWNER b) o.toNat) s)

/-- BANK_POWER_WRITE (R287). -/
def execBankPowerWrite (mid : Mid) (b : Fin 64) (p : BitVec 2) (s : State) : Host.Outcome State Fault Refusal :=
  .next (wrBankCfg b (wrField s mid false (F.SPD_BANK_CFG_PWR b) p.toNat) s)

/-- The contents of a bank are lost: it will be zeroed with good check bits before it is used again. -/
def bankClear (s : State) (b : Nat) : State :=
  { s with
    spd := tdrop (fun a => bankOf a == b) s.spd
    marks := tdrop (fun k => k / 2 ^ 48 == 5 * 256 + b) s.marks }

/-- CHANGING once nothing is left to change. -/
def bankSettled (s : State) (b : Nat) : State :=
  if s.get (F.SPD_BANK_CFG_OWNER b) = s.get (F.SPD_BANK_STATUS_OWNER_NOW b)
      ∧ s.get (F.SPD_BANK_CFG_PWR b) = s.get (F.SPD_BANK_STATUS_PWR_NOW b) then
    (s.put (F.SPD_BANK_STATUS_CHANGING b) 0).put (F.SPD_BANK_STATUS_ZEROING b) 0
  else s

/-- OWNER_DRAIN_END (R286, R287): the accesses accepted before the write are done; the new owner takes effect, and a change
out of the on state. -/
def execOwnerDrainEnd (b : Fin 64) (s : State) : Host.Outcome State Fault Refusal :=
  .next (
    if !s.bit (F.SPD_BANK_STATUS_CHANGING b) ∨ s.spdX.portB.any fun r => bankOf r.addr == b.val && r.drain then s
    else
      let s := s.put (F.SPD_BANK_STATUS_OWNER_NOW b) (s.get (F.SPD_BANK_CFG_OWNER b))
      let p := s.get (F.SPD_BANK_CFG_PWR b)
      let s := if p = 0 then s else s.put (F.SPD_BANK_STATUS_PWR_NOW b) p
      let s := if p = 2 then bankClear s b else s
      bankSettled s b)

/-- BANK_READY (R287): a bank that changes towards on: from retention it is on; from off it begins to be zeroed, and with the
zeroing done it is on. -/
def execBankReady (b : Fin 64) (s : State) : Host.Outcome State Fault Refusal :=
  .next (
    let now := s.get (F.SPD_BANK_STATUS_PWR_NOW b)
    if s.get (F.SPD_BANK_CFG_PWR b) ≠ 0 ∨ now = 0 then s
    else if now = 2 ∧ !s.bit (F.SPD_BANK_STATUS_ZEROING b) then s.put (F.SPD_BANK_STATUS_ZEROING b) 1
    else bankSettled ((s.put (F.SPD_BANK_STATUS_PWR_NOW b) 0).put (F.SPD_BANK_STATUS_ZEROING b) 0) b)

end Sys2Proof.Machine
end

