-- ==== Sys2Proof/Machine/FnCore.lean ====
section
/-! DEFINITION. What the host-facing functions share with the engines: routing IDs, AER, MSI-X, shares and occupancy
(R225 to R237). -/

namespace Sys2Proof.Machine

/-- Bus Master Enable of function n. -/
def fnBme (s : State) (n : Nat) : Bool := (s.fx n).cmd.testBit 2

/-! ## Error reporting (R235 to R237) -/

/-- An uncorrectable error logged in function n, by its AER bit. -/
def fnUnc (s : State) (n bit : Nat) (h : Option Pkt) : State :=
  (s.modFx n fun x => { x with aer := x.aer.logUnc bit h }).raise (1984 + 2 * (n / 16) + 1)

/-- A correctable error logged in function n. -/
def fnCor (s : State) (n bit : Nat) : State :=
  (s.modFx n fun x => { x with aer := x.aer.logCor bit }).raise (1984 + 2 * (n / 16))

/-! ## MSI-X (R234) -/

/-- Reset of an MSI-X table entry as a 128-bit number: masked. -/
def msixRst : Nat := 2 ^ 96

/-- MSI-X table entry k of function n. -/
def msixEnt (s : State) (n k : Nat) : Nat := tget 0 (s.fx n).msix k ^^^ msixRst

/-- Present a memory write of function n to the host of its VCS. -/
def fnWrite (s : State) (n addr : Nat) (d : Bytes) : State :=
  match fnVcs s n with
  | none => s
  | some v => present s ⟨.fn n, { cls := .ioReq, op := .memWr, addr := addr, rid := fnRid s v n, data := d, len := 16 + d.length,
                                  rlen := d.length, src := .fn n }, some (uport s v), none⟩

/-- May function n send an MSI-X message: its vectors enabled and not masked as a whole? -/
def msixOn (s : State) (n : Nat) : Bool := (s.fx n).msixCtl.testBit 15

/-- Is vector k withheld: masked, Bus Master Enable 0, D3hot, frozen or freezing, in shutdown? -/
def msixHeld (s : State) (n k : Nat) : Bool :=
  let x := s.fx n
  x.msixCtl.testBit 14 || (msixEnt s n k).testBit 96 || !fnBme s n || x.d3 || x.frozen || x.freezing || x.shut.isSome

/-- Vector k of function n signals: its message is sent, or its pending bit is set. With VEC_COUNT 0 the table's one entry is
never sent. -/
def msixSend (s : State) (n k : Nat) : State :=
  if s.get (F.HEP_FN_CFG_VEC_COUNT n) = 0 ∨ !msixOn s n then s
  else if msixHeld s n k then s.modFx n fun x => { x with pba := x.pba ||| 2 ^ k }
  else
    let e := msixEnt s n k
    fnWrite s n (e % 2 ^ 64) (leBytes 4 (e / 2 ^ 64))

/-- Send the pending vectors that nothing withholds any more. -/
def msixFlush (s : State) (n : Nat) : State :=
  ((List.range 64).filter fun k => (s.fx n).pba.testBit k).foldl (fun s k =>
    if msixHeld s n k || !msixOn s n then s
    else msixSend (s.modFx n fun x => { x with pba := x.pba - 2 ^ k }) n k) s

/-! ## Occupancy and shares (R232, R233) -/

/-- Occupancy of function n. -/
def fnOcc (s : State) (n : Nat) : Nat := ((s.fx n).passed.map fun x => x.2).sum

/-- Share of function n. -/
def fnShare (s : State) (n : Nat) : Nat := s.get (F.HEP_FN_CFG_SHARE n)

/-- STATE of HEP_FN_STATUS. -/
def fnState (s : State) (n : Nat) : Nat :=
  let x := s.fx n
  if x.shut.isSome then 3
  else if (fnVcs s n).isNone then (if x.vfIdle then 1 else 0)
  else if x.frozen then 4
  else if x.d3 then 5
  else if fnOcc s n = 0 ∧ x.held.isEmpty then 1 else 2

/-- Bring HEP_FN_STATUS up to date; when FULL clears and SPACE_IRQ is set, vector 0 signals (R230). -/
def syncFn (n : Nat) (s : State) : State :=
  let full := decide (fnShare s n ≤ fnOcc s n)
  let was := s.bit (F.HEP_FN_STATUS_FULL n)
  let st := fnState s n
  let s := ((s.put (F.HEP_FN_STATUS_STATE n) st).putB (F.HEP_FN_STATUS_BME n) (fnBme s n)).put
    (F.HEP_FN_STATUS_HELD n) (min 0xFFFF (s.fx n).held.length)
  let s := (s.put (F.HEP_FN_STATUS_OCC n) (fnOcc s n)).putB (F.HEP_FN_STATUS_FULL n) (full && st != 0)
  if was && !full && (s.fx n).irq % 2 == 1 then msixSend s n 0 else s

/-- Engine and channel of queue q of function n. -/
def queueChan (s : State) (n q : Nat) : Option (Nat × Nat) :=
  match tget 0 (s.fx n).qmap q with
  | 0 => none
  | k + 1 => some (k / 64, k % 64)

/-- Slots of the ring of channel (e, c); 0 for none. -/
def ringSize (s : State) (e c : Nat) : Nat :=
  let n := s.get (F.HOP_CH_RING_SIZE e c)
  if n = 0 then 0 else 2 ^ n

/-- Pass one descriptor of queue q to its channel. -/
def passOne (s : State) (n q : Nat) : State :=
  match queueChan s n q with
  | none => s
  | some (e, c) =>
    let s := s.modFx n fun x => { x with passed := tmod 0 x.passed q (· + 1) }
    s.put (F.HOP_CH_PTR_PASSED e c) ((s.get (F.HOP_CH_PTR_PASSED e c) + 1) % max 1 (ringSize s e c))

/-- Pass held descriptors, in the order of submission, while the occupancy is below the share (R233). -/
def passHeld (n : Nat) : Nat → State → State
  | 0, s => s
  | fuel + 1, s =>
    let x := s.fx n
    if x.frozen || x.freezing || x.shut.isSome || decide (fnShare s n ≤ fnOcc s n) then s
    else match x.held with
      | [] => s
      | q :: qs => passHeld n fuel (passOne (s.modFx n fun x => { x with held := qs }) n q)

/-- Pass what the share lets pass, and show it. -/
def fnPass (s : State) (n : Nat) : State := syncFn n (passHeld n (s.fx n).held.length s)

/-- A descriptor of queue q of function n is completed. -/
def fnCompleted (s : State) (n q : Nat) : State :=
  fnPass (s.modFx n fun x => { x with passed := tmod 0 x.passed q (· - 1) }) n

end Sys2Proof.Machine
end

