-- ==== Sys2Proof/Machine/Xform.lean ====
section
/-! DEFINITION. Hopper descriptors: their fields (R257), their checks (R270) and the transforms (R266 to R269). -/

namespace Sys2Proof.Machine

/-! ## Fields (R257) -/

/-- Word k of a descriptor. -/
def HopDesc.w (d : HopDesc) (k : Nat) : Word := d.words.getD k 0#64
def HopDesc.op (d : HopDesc) : Nat := bitsGet (d.w 0) 7 0
def HopDesc.irq (d : HopDesc) : Bool := (d.w 0).getLsbD 8
def HopDesc.fence (d : HopDesc) : Bool := (d.w 0).getLsbD 9
def HopDesc.srcSp (d : HopDesc) : Nat := bitsGet (d.w 0) 13 12
def HopDesc.dstSp (d : HopDesc) : Nat := bitsGet (d.w 0) 15 14
def HopDesc.xform (d : HopDesc) : Nat := bitsGet (d.w 0) 19 16
/-- Element size in bytes. -/
def HopDesc.elem (d : HopDesc) : Nat := bitsGet (d.w 0) 23 20 + 1
/-- Interleave streams. -/
def HopDesc.streams (d : HopDesc) : Nat := bitsGet (d.w 0) 27 24 + 1
def HopDesc.tag (d : HopDesc) : Nat := bitsGet (d.w 0) 63 48
def HopDesc.src (d : HopDesc) : Nat := (d.w 1).toNat
def HopDesc.dst (d : HopDesc) : Nat := (d.w 2).toNat
def HopDesc.len (d : HopDesc) : Nat := bitsGet (d.w 3) 31 0
def HopDesc.atop (d : HopDesc) : Nat := bitsGet (d.w 3) 35 32
def HopDesc.stride (d : HopDesc) : Nat := bitsGet (d.w 4) 31 0
def HopDesc.next (d : HopDesc) : Nat := bitsGet (d.w 7) 63 6 * 64
def HopDesc.nextSp (d : HopDesc) : Nat := bitsGet (d.w 7) 2 1
def HopDesc.nextValid (d : HopDesc) : Bool := (d.w 7).getLsbD 0
/-- Does the descriptor work through a list? -/
def HopDesc.isList (d : HopDesc) : Bool := d.op == 5 || d.op == 6
/-- Does it read at SRC, does it use DST? -/
def HopDesc.usesSrc (d : HopDesc) : Bool := d.op == 1 || d.op == 3 || d.op == 4 || d.op == 5 || d.op == 6
def HopDesc.usesDst (d : HopDesc) : Bool := d.op == 1 || d.op == 2 || d.op == 3 || d.op == 5 || d.op == 6 || d.op == 8

/-- The unit of a transform (R266). -/
def xformUnit (d : HopDesc) : Nat :=
  if d.xform = 1 ∨ d.xform = 2 then d.streams * d.elem else if d.xform = 3 ∨ d.xform = 4 then 64 * d.elem
  else if d.xform = 8 ∨ d.xform = 9 then d.elem else 1

/-- Is a transform reserved, or not permitted in the engine's mode (R266)? -/
def xformBad (x : Nat) (maintenance : Bool) : Bool :=
  if x = 0 then false
  else if x = 1 ∨ x = 2 ∨ x = 3 ∨ x = 4 then maintenance
  else if x = 8 ∨ x = 9 then !maintenance
  else true

/-- Are ELEM and STREAMS permitted for the transform? -/
def elemOk (d : HopDesc) : Bool :=
  if d.xform = 1 ∨ d.xform = 2 then decide (2 ≤ d.streams)
  else if d.xform = 3 ∨ d.xform = 4 then d.elem == 1 || d.elem == 2 || d.elem == 4
  else if d.xform = 8 then d.elem == 2 || d.elem == 4 || d.elem == 8
  else if d.xform = 9 then d.elem == 4 || d.elem == 8
  else true

/-- A set reserved bit of a descriptor. -/
def reservedBits (d : HopDesc) : Bool :=
  bitsGet (d.w 0) 47 28 != 0 || bitsGet (d.w 0) 11 10 != 0 || bitsGet (d.w 3) 63 36 != 0 || d.w 6 != 0#64
  || bitsGet (d.w 7) 5 3 != 0

/-- The checks of R270 in the order of their codes; ok says which spaces the channel may use. -/
def descCheck (ok : Nat → Bool) (maintenance : Bool) (d : HopDesc) : Option Nat :=
  if !([0, 1, 2, 3, 4, 5, 6, 8].contains d.op) || (d.op == 8 && !(d.atop == 1 || d.atop == 2 || d.atop == 3)) then some 1
  else if (d.usesSrc && !ok d.srcSp) || (d.usesDst && !ok d.dstSp) || (d.nextValid && !ok d.nextSp)
      || (d.op == 8 && d.dstSp == 2) then some 2
  else if (if d.op = 1 then xformBad d.xform maintenance else d.xform != 0) then some 3
  else if d.op == 1 && !elemOk d then some 4
  else if (d.op == 1 && d.len % xformUnit d != 0) || (d.isList && (d.len == 0 || decide (65536 < d.len)))
      || (d.op == 8 && d.len != 8) then some 5
  else if (d.op == 8 && d.dst % 8 != 0) || (d.op == 5 && d.src % 16 != 0) || (d.op == 6 && d.dst % 16 != 0) then some 6
  else if reservedBits d then some 7
  else if (d.op == 1 && (d.xform == 1 || d.xform == 2) && decide (d.stride < d.len / d.streams)) then some 8
  else none

/-! ## Transforms (R267 to R269) -/

/-- Element j of e bytes. -/
def elemAt (b : Bytes) (e j : Nat) : Bytes := slice b (j * e) e

/-- Interleave: n streams one after the other become one. -/
def interleaveBytes (n e : Nat) (b : Bytes) : Bytes :=
  (List.range (b.length / e)).flatMap fun j => slice b (j % n * (b.length / n) + j / n * e) e

/-- De-interleave: the streams one after the other. -/
def deinterleaveBytes (n e : Nat) (b : Bytes) : Bytes :=
  (List.range n).flatMap fun s => (List.range (b.length / (n * e))).flatMap fun i => elemAt b e (i * n + s)

/-- A number from its bits, lowest first. -/
def ofBits (l : List Bool) : Nat := l.foldr (fun b n => b.toNat + 2 * n) 0

/-- One block to bit planes (R268). -/
def toPlanes (e : Nat) (b : Bytes) : Bytes :=
  (List.range (8 * e)).flatMap fun p =>
    leBytes 8 (ofBits ((List.range 64).map fun i => (leN b (i * e) e).testBit p))

/-- One block from bit planes. -/
def fromPlanes (e : Nat) (b : Bytes) : Bytes :=
  (List.range 64).flatMap fun i =>
    leBytes e (ofBits ((List.range (8 * e)).map fun p => (leN b (8 * p) 8).testBit i))

/-- Apply f to consecutive blocks of n bytes. -/
def byBlocks (n : Nat) (f : Bytes → Bytes) (b : Bytes) : Bytes := (List.range (b.length / n)).flatMap fun k => f (elemAt b n k)

/-- Half-word swap of an element. -/
def halfSwap (b : Bytes) : Bytes := (List.range (b.length / 2)).reverse.flatMap fun k => elemAt b 2 k

/-- The transform of a burst's data. -/
def xformData (d : HopDesc) (b : Bytes) : Bytes :=
  if d.xform = 1 then interleaveBytes d.streams d.elem b
  else if d.xform = 2 then deinterleaveBytes d.streams d.elem b
  else if d.xform = 3 then byBlocks (64 * d.elem) (toPlanes d.elem) b
  else if d.xform = 4 then byBlocks (64 * d.elem) (fromPlanes d.elem) b
  else if d.xform = 8 then byBlocks d.elem List.reverse b
  else if d.xform = 9 then byBlocks d.elem halfSwap b
  else b

/-- The pattern of FILL and COMPARE_PATTERN: n bytes from offset off. -/
def patternBytes (d : HopDesc) (off n : Nat) : Bytes :=
  let p := leBytes 8 (d.w 4).toNat
  (List.range n).map fun k => p.getD ((off + k) % 8) 0#8

/-- Offset of the first difference of two strings. -/
def firstDiff (a b : Bytes) : Option Nat := (List.range (min a.length b.length)).find? fun i => a.getD i 0#8 != b.getD i 0#8

end Sys2Proof.Machine
end

