-- ==== Sys2Proof/Machine/HopPath.lean ====
section
/-! DEFINITION. Hopper channels and how their accesses reach memory: spaces, checks, reads and writes (R253 to R256, R261). -/

namespace Sys2Proof.Machine

/-! ## Channels -/

/-- Channel c of engine e. -/
def State.hc (s : State) (e c : Nat) : HopCh := tget {} s.hop.chs (64 * e + c)

/-- Change a channel's own state. -/
def State.modHc (s : State) (e c : Nat) (f : HopCh → HopCh) : State :=
  { s with hop := { s.hop with chs := tmod {} s.hop.chs (64 * e + c) f } }

/-- STATE of a channel (R264). -/
def chState (s : State) (e c : Nat) : Nat := s.get (F.HOP_CH_STATUS_STATE e c)

/-- Set STATE; the engine counts its Active and Halted channels. -/
def setCh (s : State) (e c st : Nat) : State :=
  let old := chState s e c
  let one := fun (b : Bool) => if b then 1 else 0
  let s := s.put (F.HOP_ENG_STATUS_HALTED e) (s.get (F.HOP_ENG_STATUS_HALTED e) + one (st == 4) - one (old == 4))
  let s := s.put (F.HOP_ENG_STATUS_ACTIVE e) (s.get (F.HOP_ENG_STATUS_ACTIVE e) + one (st == 2) - one (old == 2))
  s.put (F.HOP_CH_STATUS_STATE e c) st

/-- The function of a function channel (R254). -/
def chFn (s : State) (e c : Nat) : Option Nat :=
  if s.bit (F.HOP_CH_CFG_FN_VALID e c) then some (s.get (F.HOP_CH_CFG_FN e c)) else none

/-- MID of a channel's accesses (R288). -/
def chMid (s : State) (e c : Nat) : Nat :=
  match chFn s e c with
  | some n => 0x400 + n
  | none => 0x010 + e

/-- May the channel use a space (R254)? -/
def spaceOk (s : State) (e c sp : Nat) : Bool :=
  match chFn s e c with
  | some _ => sp == 1 || sp == 2
  | none => sp == 0

/-- Is the channel in register mode? -/
def regMode (s : State) (e c : Nat) : Bool := s.bit (F.HOP_CH_CTRL_REGMODE e c)

/-- Has the engine failed? -/
def engFailed (s : State) (e : Nat) : Bool := s.bit (F.HOP_ENG_STATUS_FAILED e)

/-! ## Addresses (R255) -/

/-- Where an access goes, or the DETAIL of its bus error. -/
inductive Tgt
  | spd (a : Nat)
  | pool (a : Nat)
  | host (a : Nat)
  | bad (detail : Nat)
deriving DecidableEq, Repr

/-- An internal address. -/
def tgtInner (a n : Nat) : Tgt :=
  if a + n ≤ 0x1000000 then .spd a
  else if 0x100000000000 ≤ a ∧ a + n ≤ 0x160000000000 then .pool a
  else .bad 1

/-- Resolve n bytes at an address of a space. -/
def hopTgt (s : State) (e c sp a n : Nat) : Tgt :=
  if sp = 2 then .host a
  else if sp = 1 then
    (match chFn s e c with
     | some f => if winSize s f = 0 ∨ 2 ^ winSize s f < a + n then .bad 7 else tgtInner (s.get (F.HEP_FN_WIN_BASE f) * 4096 + a) n
     | none => .bad 1)
  else tgtInner a n

/-- Pieces of at most b bytes that do not cross a multiple of b. -/
def rowsOf (b : Nat) : Nat → Nat → Nat → List (Nat × Nat)
  | 0, _, _ => []
  | fuel + 1, a, n =>
    if n = 0 then []
    else
      let k := min n (b - a % b)
      (a, k) :: rowsOf b fuel (a + k) (n - k)

/-- Pieces of at most b bytes that do not cross 4 KiB. -/
def hostRows (b : Nat) : Nat → Nat → Nat → List (Nat × Nat)
  | 0, _, _ => []
  | fuel + 1, a, n =>
    if n = 0 then []
    else
      let k := min n (min b (4096 - a % 4096))
      (a, k) :: hostRows b fuel (a + k) (n - k)

/-- Size of a field of Device Control that counts 128 bytes times a power of two, at most 512 bytes (R67, R255). -/
def devSize (ctl lo : Nat) : Nat := min 512 (128 * 2 ^ (ctl / 2 ^ lo % 8))

/-- The next access number. -/
def hopId (s : State) : State × Nat := ({ s with hop := { s.hop with next := s.hop.next + 1 } }, s.hop.next)

/-- Number of a host read: by function and tag. -/
def hostId (n tag : Nat) : Nat := 2 ^ 64 + 1024 * n + tag

/-- The lowest free tag of a function. -/
def freeTag (s : State) (n : Nat) : Option Nat :=
  (List.range 1024).find? fun t => !((s.fx n).out.any fun x => x.1 == t) && !(s.fx n).reclaimed.contains t

/-- A packet of a channel for the pool region; decode resolves it at the Headrace (R212). -/
def hopPkt (e c id a : Nat) (op : Op) (data : Bytes) (be : BitVec 64) : Pkt :=
  { cls := if op = .mRd then .mReq else .mRwD, op := op, addr := a, tag := id, data := data, be := be,
    len := if op = .mRd then 64 else 128, src := .hop e c }

/-- Is a pool address one that decode misses, and is it in a proxied extent? -/
def poolMiss (s : State) (q : Pkt) : Bool := decPoolRegion s q == .miss

/-- Read one piece at port B of the scratchpad. -/
def readSpd (e c sp addr base : Nat) (x : State × List Piece) (r : Nat × Nat) : State × List Piece :=
  let i := hopId x.1
  let s := { i.1 with spdX := { i.1.spdX with portB := i.1.spdX.portB ++
    [{ id := i.2, eng := e, ch := c, mid := chMid x.1 e c, write := false, addr := r.1, len := r.2, data := [] }] } }
  (s, x.2 ++ [{ id := i.2, space := sp, addr := addr + (r.1 - base), skip := 0, len := r.2 }])

/-- Read one line of the pool. -/
def readPool (e c sp addr base : Nat) (x : State × List Piece) (r : Nat × Nat) : State × List Piece :=
  let i := hopId x.1
  let q := hopPkt e c i.2 (r.1 / 64 * 64) .mRd [] (BitVec.allOnes 64)
  (present i.1 ⟨.hop e c, q, none, none⟩,
   x.2 ++ [{ id := i.2, space := sp, addr := addr + (r.1 - base), skip := r.1 % 64, len := r.2 }])

/-- Read one piece of host memory. -/
def readHost (e c n v : Nat) (x : State × List Piece) (r : Nat × Nat) : State × List Piece :=
  match freeTag x.1 n with
  | none => x
  | some t =>
    let q : Pkt := { cls := .ioReq, op := .memRd, addr := r.1, tag := t, rid := fnRid x.1 v n, rlen := r.2, len := 16, src := .fn n }
    let s := x.1.modFx n fun y => { y with out := y.out ++ [(t, e, c)] }
    (present s ⟨.fn n, q, some (uport s v), none⟩, x.2 ++ [{ id := hostId n t, space := 2, addr := r.1, skip := 0, len := r.2 }])

/-- The outcome of starting accesses: they wait for free tags, they end in a bus error, or they are on their way. -/
inductive Started (α : Type)
  | wait
  | fail (s : State) (err : HopErr)
  | ok (s : State) (x : α)

/-- Start the reads of n bytes at an address of a space. dir is 0, or 2 for a fetch. -/
def hopRead (s : State) (e c sp addr n dir : Nat) : Started (List Piece) :=
  let fail := fun (s : State) (d : Nat) => Started.fail s { code := 3, detail := d, addr := addr, space := sp, dir := dir }
  let pass := fun (a : Nat) => mpuPass s (mpuEng e) (chMid s e c) (chFn s e c).isNone .read a n
  match hopTgt s e c sp addr n with
  | .bad d => fail s d
  | .spd a =>
    let p := pass a
    if !p.2 then fail p.1 6
    else
      let x := (rowsOf 64 (n + 1) a n).foldl (readSpd e c sp addr a) (p.1, [])
      .ok x.1 x.2
  | .pool a =>
    let p := pass a
    if !p.2 then fail p.1 6
    else
      let q := hopPkt e c 0 a .mRd [] (BitVec.allOnes 64)
      if poolMiss p.1 q then fail (p.1.inc F.RTE_CNT0_DECODE_MISS) 1
      else
        let x := (rowsOf 64 (n + 1) a n).foldl (readPool e c sp addr a) (p.1, [])
        .ok x.1 x.2
  | .host a =>
    match chFn s e c with
    | none => fail s 1
    | some f =>
      match fnVcs s f with
      | none => fail s 1
      | some v =>
        let rs := hostRows (devSize (s.fx f).devCtl 12) (n + 1) a n
        if 1024 < rs.length + (s.fx f).out.length + (s.fx f).reclaimed.length then .wait
        else
          let x := rs.foldl (readHost e c f v) (s, [])
          .ok x.1 x.2

/-- Write one row at port B of the scratchpad. -/
def writeSpd (e c base : Nat) (d : Bytes) (x : State × List Nat) (r : Nat × Nat) : State × List Nat :=
  let i := hopId x.1
  ({ i.1 with spdX := { i.1.spdX with portB := i.1.spdX.portB ++
      [{ id := i.2, eng := e, ch := c, mid := chMid x.1 e c, write := true, addr := r.1, len := r.2,
         data := slice d (r.1 - base) r.2 }] } }, x.2 ++ [i.2])

/-- Bytes at an offset of a line, and which bytes of the line they are. -/
def linePart (off : Nat) (d : Bytes) : Bytes × BitVec 64 :=
  (List.replicate off 0#8 ++ d ++ List.replicate (64 - off - d.length) 0#8, BitVec.ofNat 64 ((2 ^ d.length - 1) * 2 ^ off))

/-- Write one line of the pool, or part of it. -/
def writePool (e c base : Nat) (d : Bytes) (x : State × List Nat) (r : Nat × Nat) : State × List Nat :=
  let i := hopId x.1
  let l := linePart (r.1 % 64) (slice d (r.1 - base) r.2)
  let q := hopPkt e c i.2 (r.1 / 64 * 64) (if r.2 = 64 then .mWr else .mWrPtl) l.1 l.2
  (present i.1 ⟨.hop e c, q, none, none⟩, x.2 ++ [i.2])

/-- Write one piece of host memory. -/
def writeHost (n base : Nat) (d : Bytes) (s : State) (r : Nat × Nat) : State := fnWrite s n r.1 (slice d (r.1 - base) r.2)

/-- Issue the writes of bytes at an address of a space; the numbers are of those still to be accepted. -/
def hopWrite (s : State) (e c sp addr : Nat) (d : Bytes) : Started (List Nat) :=
  let n := d.length
  let fail := fun (s : State) (k : Nat) => Started.fail s { code := 3, detail := k, addr := addr, space := sp, dir := 1 }
  let pass := fun (a : Nat) => mpuPass s (mpuEng e) (chMid s e c) (chFn s e c).isNone .write a n
  match hopTgt s e c sp addr n with
  | .bad k => fail s k
  | .spd a =>
    let p := pass a
    if !p.2 then fail p.1 6
    else
      let x := (rowsOf 64 (n + 1) a n).foldl (writeSpd e c a d) (p.1, [])
      .ok x.1 x.2
  | .pool a =>
    let p := pass a
    if !p.2 then fail p.1 6
    else if poolMiss p.1 (hopPkt e c 0 a .mWr [] (BitVec.allOnes 64)) then
      fail (decodeMiss p.1 (hopPkt e c (2 ^ 70) a .mWr [] (BitVec.allOnes 64))) 1
    else
      let x := (rowsOf 64 (n + 1) a n).foldl (writePool e c a d) (p.1, [])
      .ok x.1 x.2
  | .host a =>
    match chFn s e c with
    | none => fail s 1
    | some f => .ok ((hostRows (devSize (s.fx f).devCtl 5) (n + 1) a n).foldl (writeHost f a d) s) []

/-- Issue the update of an ATOMIC descriptor: its answer is the old value (R261). -/
def hopAtomic (s : State) (e c : Nat) (d : HopDesc) : Started (List Piece) :=
  let fail := fun (s : State) (k : Nat) => Started.fail s { code := 3, detail := k, addr := d.dst, space := d.dstSp, dir := 1 }
  match hopTgt s e c d.dstSp d.dst 8 with
  | .bad k => fail s k
  | .host _ => fail s 1
  | .spd a =>
    let p := mpuPass s (mpuEng e) (chMid s e c) (chFn s e c).isNone .add a 8
    fail p.1 (if p.2 then 9 else 6)
  | .pool a =>
    let p := mpuPass s (mpuEng e) (chMid s e c) (chFn s e c).isNone .add a 8
    if !p.2 then fail p.1 6
    else
      let b := (a - 0x100000000000) / 2 ^ 28
      let i := hopId p.1
      let q := hopPkt e c i.2 a .atomic
        (BitVec.ofNat 8 d.atop :: (leBytes 8 (d.w 4).toNat ++ leBytes 8 (d.w 5).toNat)) (BitVec.allOnes 64)
      if poolMiss p.1 q then fail (p.1.inc F.RTE_CNT0_DECODE_MISS) 1
      else if dramExts s ≤ b then fail p.1 9
      else .ok (present i.1 ⟨.hop e c, q, none, none⟩) [{ id := i.2, space := d.dstSp, addr := d.dst, skip := 0, len := 8 }]

end Sys2Proof.Machine
end

