-- ==== Sys2Proof/Machine/Hopper.lean ====
section
/-! DEFINITION. The Hopper engines: fetch, hand-over, bursts, completion, halts, commands and engine failure (R253 to R278). -/

namespace Sys2Proof.Machine

/-! ## Completion records and interrupts (R262, R263) -/

/-- Slot of the record to be written, and its PHASE: HEAD, or the slot before it for a chain that runs again. -/
def recSlot (s : State) (e c : Nat) (again : Bool) : Nat × Bool :=
  let h := s.get (F.HOP_CH_PTR_HEAD e c)
  let n := max 1 (ringSize s e c)
  let p := (s.hc e c).phase
  if again then ((h + n - 1) % n, if h % n = 0 then !p else p) else (h % n, p)

/-- The 32 bytes of a completion record. -/
def recBytes (code detail : Nat) (phase irq : Bool) (tag descs residue result : Nat) : Bytes :=
  leBytes 1 code ++ leBytes 1 detail ++ leBytes 1 (phase.toNat + 2 * irq.toNat) ++ leBytes 1 0 ++ leBytes 2 tag
  ++ leBytes 2 (min 0xFFFF descs) ++ leBytes 4 residue ++ leBytes 4 0 ++ leBytes 8 result ++ leBytes 8 0

/-- RESULT of a descriptor. -/
def descResult (d : HopDesc) : Nat := if d.isList then d.index else d.result

/-- RESIDUE of a descriptor. -/
def descResidue (d : HopDesc) : Nat :=
  if d.isList then (match d.entry with
    | some x => x.2.2 - d.done
    | none => 0)
  else d.len - d.done

/-- Write a record to the completion ring, in ring mode and with the ring in use. Scratchpad words are stored at once. quiet
leaves out a ring in host memory (R245). -/
def writeRec (s : State) (e c slot : Nat) (b : Bytes) (quiet : Bool) : State × Option HopErr :=
  let sp := s.get (F.HOP_CH_CQ_SPACE e c)
  if regMode s e c ∨ !s.bit (F.HOP_CH_CQ_EN e c) ∨ quiet ∧ sp = 2 then (s, none)
  else
    let a := s.get (F.HOP_CH_CQ_BASE e c) * 32 + 32 * slot
    if !spaceOk s e c sp then (s, some { code := 3, detail := 1, addr := a, space := sp, dir := 1 })
    else match hopTgt s e c sp a 32 with
      | .spd i =>
        let p := mpuPass s (mpuEng e) (chMid s e c) (chFn s e c).isNone .write i 32
        if !p.2 then (p.1, some { code := 3, detail := 6, addr := a, space := sp, dir := 1 })
        else if bankAns p.1 (bankOf i) (chMid s e c) false = .refuse then
          (bankRefused p.1, some { code := 3, detail := 2, addr := a, space := sp, dir := 1 })
        else ((spdPut p.1 i b []).1, none)
      | _ =>
        match hopWrite s e c sp a b with
        | .ok t _ => (t, none)
        | .fail t err => (t, some err)
        | .wait => (s, none)

/-- Show a record in HOP_CH_LAST. -/
def putLast (s : State) (e c : Nat) (b : Bytes) : State :=
  ([0, 1, 2, 3] : List Nat).foldl (fun s k => s.wr (R.HOP_CH_LAST e c k) (BitVec.ofNat 64 (leN b (8 * k) 8))) s

/-- HEAD advances past a completed slot; PHASE inverts on each wrap. In register mode it counts chains. -/
def advanceHead (s : State) (e c : Nat) : State :=
  let h := s.get (F.HOP_CH_PTR_HEAD e c)
  if regMode s e c then s.put (F.HOP_CH_PTR_HEAD e c) ((h + 1) % 65536)
  else
    let n := max 1 (ringSize s e c)
    let s := s.put (F.HOP_CH_PTR_HEAD e c) ((h + 1) % n)
    if (h + 1) % n = 0 then s.modHc e c fun x => { x with phase := !x.phase } else s

/-- The channel's interrupt (R263). -/
def chIrq (s : State) (e c : Nat) : State :=
  match chFn s e c with
  | some n => msixSend s n (s.get (F.HOP_CH_CFG_QUEUE e c) % max 1 (s.get (F.HEP_FN_CFG_VEC_COUNT n)))
  | none => s.setBit (F.HOP_ENG_IRQ_CH e) c

/-- A slot of a channel is completed: its function's occupancy falls. -/
def slotDone (s : State) (e c : Nat) : State :=
  match chFn s e c with
  | some n => fnCompleted s n (s.get (F.HOP_CH_CFG_QUEUE e c))
  | none => s

/-- Descriptors of later chains, taken but not begun, wait to begin afresh; those of the same chain are dropped. -/
def laterChains (l : List HopDesc) : List HopDesc :=
  (l.dropWhile fun d => !d.first).map fun d =>
    { d with bursts := [], issued := 0, done := 0, index := 0, entry := none, moved := 0, result := 0, ended := none }

/-- Write the record that ends the chain of descriptor d, with its slot; answers an error of the write. -/
def endSlot (s : State) (e c : Nat) (d : HopDesc) (code detail residue : Nat) (irq quiet : Bool) : State × Option HopErr :=
  let k := recSlot s e c d.again
  let b := recBytes code detail k.2 irq d.tag d.n residue (descResult d)
  let x := if d.again && code != 0 && code != 1 then (s, none) else writeRec s e c k.1 b quiet
  let s := putLast x.1 e c b
  (if d.again then s else slotDone (advanceHead s e c) e c, x.2)

/-- The channel halts at descriptor d (R271): record, latches, interrupt. -/
def hopHalt (s : State) (e c : Nat) (d : HopDesc) (err : HopErr) (rest : List HopDesc) (residue : Nat) : State :=
  let s := (endSlot s e c d err.code err.detail residue true false).1
  let s := (s.put (F.HOP_CH_STATUS_CODE e c) err.code).put (F.HOP_CH_STATUS_DETAIL e c) err.detail
  let s := if err.code = 3 ∨ err.code = 5 then
      ((s.put (F.HOP_CH_STATUS_DIR e c) err.dir).put (F.HOP_CH_STATUS_SPACE e c) err.space).wr (R.HOP_CH_ERR_ADDR e c)
        (BitVec.ofNat 64 err.addr)
    else s
  let s := (setCh s e c 4).inc (F.HOP_ENG_CNT_HALTS e)
  let s := s.modHc e c fun x => { x with
    work := laterChains rest, abort := false, fetch := none
    shadow := (match x.shadow with
      | some d => if d.first && err.code != 2 then some d else none
      | none => none)
    halted := some { d with bursts := [], issued := d.done, again := true, ended := none } }
  chIrq s e c

/-! ## Bursts (R258 to R260) -/

/-- Is every burst of a descriptor issued? -/
def allIssued (d : HopDesc) : Bool :=
  if d.ended.isSome ∨ d.bursts.any (fun b => b.err.isSome) then true
  else if d.op = 0 then true
  else if d.isList then
    (match d.entry with
     | some x => d.index + 1 == d.len && d.issued == x.2.2
     | none => d.index == d.len)
  else decide (d.len ≤ d.issued)

/-- Is the work of a descriptor done? -/
def allDone (d : HopDesc) : Bool := d.bursts.isEmpty && allIssued d && (d.isList || d.op == 0 || decide (d.len ≤ d.done))

/-- Bytes of a plain burst: at most 512, across no 4 KiB boundary of either address. -/
def burstLen (left a b : Nat) : Nat := min (min 512 left) (min (4096 - a % 4096) (4096 - b % 4096))

/-- Length of the next data burst of a descriptor that works through no list. -/
def nextLen (d : HopDesc) : Nat :=
  let left := d.len - d.issued
  let src := d.src + d.issued
  let dst := d.dst + d.issued
  if d.op = 1 then
    (if d.xform = 0 then burstLen left src dst
     else
       let u := max 1 (xformUnit d)
       if d.xform = 8 ∨ d.xform = 9 then min left (max u (burstLen left src dst / u * u)) else min left (max u (512 / u * u)))
  else if d.op = 2 then burstLen left dst dst
  else if d.op = 3 then burstLen left src dst
  else burstLen left src src

/-- The reads of a data burst, as (space, address, bytes): of SRC, and of DST for COMPARE. -/
def burstReads (d : HopDesc) (off n : Nat) : List (Nat × Nat × Nat) × List (Nat × Nat × Nat) :=
  match d.op with
  | 1 =>
    if d.xform = 1 then
      ((List.range d.streams).map fun k => (d.srcSp, d.src + k * d.stride + off / d.streams, n / d.streams), [])
    else ([(d.srcSp, d.src + off, n)], [])
  | 3 => ([(d.srcSp, d.src + off, n)], [(d.dstSp, d.dst + off, n)])
  | 4 => ([(d.srcSp, d.src + off, n)], [])
  | 5 => (match d.entry with
    | some x => [(x.2.1, x.1 + off, n)]
    | none => [], [])
  | 6 => ([(d.srcSp, d.src + d.moved + off, n)], [])
  | _ => ([], [])

/-- The writes of a data burst, as (space, address, bytes), from the data read. -/
def burstWrites (d : HopDesc) (off n : Nat) (b : Bytes) : List (Nat × Nat × Bytes) :=
  match d.op with
  | 1 =>
    if d.xform = 2 then
      (List.range d.streams).map fun k =>
        (d.dstSp, d.dst + k * d.stride + off / d.streams, slice (xformData d b) (k * (n / d.streams)) (n / d.streams))
    else [(d.dstSp, d.dst + off, xformData d b)]
  | 2 => [(d.dstSp, d.dst + off, patternBytes d off n)]
  | 5 => [(d.dstSp, d.dst + d.moved + off, b)]
  | 6 =>
    match d.entry with
    | some x => [(x.2.1, x.1 + off, b)]
    | none => []
  | _ => []

/-- Start several reads, one after the other, until one fails. -/
def readAll (e c dir : Nat) : State → List Piece → List (Nat × Nat × Nat) → Started (List Piece)
  | s, ps, [] => .ok s ps
  | s, ps, (sp, a, n) :: rs =>
    match hopRead s e c sp a n dir with
    | .wait => .wait
    | .fail t err => .fail t err
    | .ok t qs => readAll e c dir t (ps ++ qs) rs

/-- Issue several writes, one after the other, until one fails. -/
def writeAll (e c : Nat) : State → List Nat → List (Nat × Nat × Bytes) → Started (List Nat)
  | s, ws, [] => .ok s ws
  | s, ws, (sp, a, b) :: rs =>
    match hopWrite s e c sp a b with
    | .wait => .wait
    | .fail t err => .fail t err
    | .ok t qs => writeAll e c t (ws ++ qs) rs

/-- Replace the descriptor at index i of a channel's work. -/
def putDesc (s : State) (e c i : Nat) (d : HopDesc) : State := s.modHc e c fun x => { x with work := x.work.set i d }

/-- Add a burst to a descriptor. -/
def addBurst (d : HopDesc) (b : Burst) : HopDesc := { d with bursts := d.bursts ++ [b], issued := d.issued + b.len }

/-- Issue the next burst of descriptor d, at index i: none where it must wait. -/
def issueDesc (s : State) (e c i : Nat) (d : HopDesc) : Option State :=
  let fin := fun (x : Started (List Piece)) (kind : BurstKind) (n : Nat) =>
    match x with
    | .wait => none
    | .fail t err => some (putDesc t e c i (addBurst d { kind := kind, off := d.issued, len := n, err := some err }))
    | .ok t ps => some (putDesc t e c i (addBurst d { kind := kind, off := d.issued, len := n, reads := ps }))
  let data := fun (n : Nat) =>
    let r := burstReads d d.issued n
    match readAll e c 0 s [] r.1 with
    | .wait => none
    | .fail t err => some (putDesc t e c i (addBurst d { kind := .data, off := d.issued, len := n, err := some err }))
    | .ok t ps =>
      match readAll e c 0 t [] r.2 with
      | .wait => none
      | .fail t err => some (putDesc t e c i (addBurst d { kind := .data, off := d.issued, len := n, err := some err }))
      | .ok t qs => some (putDesc t e c i (addBurst d { kind := .data, off := d.issued, len := n, reads := ps, other := qs }))
  if d.op = 8 then fin (hopAtomic s e c d) .atomic 8
  else if d.isList then
    (match d.entry with
     | none =>
       if !d.bursts.isEmpty then none
       else
         let sp := if d.op = 5 then d.srcSp else d.dstSp
         let a := (if d.op = 5 then d.src else d.dst) + 16 * d.index
         (match hopRead s e c sp a 16 0 with
          | .wait => none
          | .fail t err => some (putDesc t e c i { d with bursts := [{ kind := .list, off := 0, len := 0, err := some err }] })
          | .ok t ps => some (putDesc t e c i { d with bursts := [{ kind := .list, off := 0, len := 0, reads := ps }] }))
     | some x =>
       if x.2.2 ≤ d.issued then none
       else
         let other := (if d.op = 5 then d.dst else d.src) + d.moved + d.issued
         data (burstLen (x.2.2 - d.issued) (x.1 + d.issued) other))
  else data (nextLen d)

/-- The burst that a channel can issue now; none where it has none or must wait (R278). -/
def issueCh (s : State) (e c : Nat) : Option State :=
  let x := s.hc e c
  if chState s e c ≠ 2 ∨ x.abort ∨ engFailed s e then none
  else match (List.range x.work.length).find? fun i => !allIssued (x.work.getD i { words := [], loc := none, first := true, n := 0 }) with
    | none => none
    | some i =>
      match x.work[i]? with
      | none => none
      | some d => if d.fence && i != 0 then none else issueDesc s e c i d

/-- A list entry has been read (R259): its checks, and the entry in progress. -/
def takeEntry (ok : Nat → Bool) (d : HopDesc) (b : Bytes) : Except Nat HopDesc :=
  let sp := u8 b 12 % 4
  if !ok sp then .error 2
  else if leN b 8 4 = 0 then .error 5
  else if 4 ≤ u8 b 12 ∨ leN b 13 3 ≠ 0 then .error 7
  else if d.index < d.skip then .ok { d with index := d.index + 1, moved := d.moved + leN b 8 4 }
  else
    let k := if d.index = d.skip then d.start else 0
    .ok { d with entry := some (leN b 0 8, sp, leN b 8 4), issued := k, done := k }

/-- A list entry whose bytes are all written is complete. -/
def closeEntry (d : HopDesc) : HopDesc :=
  match d.entry with
  | some x => if d.bursts.isEmpty ∧ x.2.2 ≤ d.done then
      { d with entry := none, index := d.index + 1, moved := d.moved + x.2.2, issued := 0, done := 0 } else d
  | none => d

/-- What the bytes that a burst has read say: nothing, or that the chain ends with a difference at an offset. -/
def burstDiff (d : HopDesc) (b : Burst) (got other : Bytes) : Option Nat :=
  if d.op = 3 then firstDiff got other else if d.op = 4 then firstDiff got (patternBytes d b.off b.len) else none

/-- Is all that a burst reads there? -/
def burstRead (b : Burst) : Bool := (b.reads ++ b.other).all fun p => p.ok

/-- Bytes of pieces in order. -/
def pieceBytes (l : List Piece) : Bytes := l.flatMap fun p => p.got

/-- Bring the oldest descriptor of a channel as far as it goes: list entries, writes, the end of its work, halts. fuel
bounds the bursts and descriptors finished in one step. -/
def hopGo (e c : Nat) : Nat → State → State
  | 0, s => s
  | fuel + 1, s =>
    match (s.hc e c).work with
    | [] => s
    | d :: rest =>
      let put := fun (s : State) (d : HopDesc) => s.modHc e c fun x => { x with work := d :: rest }
      match d.bursts with
      | [] =>
        if d.ended.isSome ∨ !allDone d then s
        else if !d.nextValid then put s { d with ended := some 0 }
        else match rest with
          | [] => s
          | r :: _ => if r.first then s else hopGo e c fuel (s.modHc e c fun x => { x with work := rest })
      | b :: bs =>
        match b.err with
        | some err =>
          hopHalt s e c d err rest (if err.code = 5 then 0 else if err.code = 4 ∧ b.kind ≠ .list then d.len else descResidue d)
        | none =>
          if !burstRead b then s
          else match b.kind with
            | .atomic => hopGo e c fuel (put s { d with bursts := bs, done := 8, result := leN (pieceBytes b.reads) 0 8 })
            | .list =>
              (match takeEntry (spaceOk s e c) d (pieceBytes b.reads) with
               | .ok d' => put s { d' with bursts := bs }
               | .error k => hopHalt s e c { d with bursts := [] } { code := 4, detail := k } rest (descResidue d))
            | .data =>
              if b.issued then
                (if b.writes.isEmpty then
                   let w := if d.op = 3 ∨ d.op = 4 then 0 else b.len
                   hopGo e c fuel (put (s.inc (F.HOP_ENG_BYTES_BYTES e) w)
                     (closeEntry { d with bursts := bs, done := d.done + b.len }))
                 else s)
              else match burstDiff d b (pieceBytes b.reads) (pieceBytes b.other) with
                | some i => put s { d with bursts := [], ended := some 1, result := b.off + i }
                | none =>
                  match writeAll e c s [] (burstWrites d b.off b.len (pieceBytes b.reads)) with
                  | .wait => s
                  | .fail t err => hopHalt t e c d err rest (descResidue d)
                  | .ok t ws => hopGo e c fuel (put t { d with bursts := { b with issued := true, writes := ws } :: bs })

/-- Steps that one event can finish. -/
def goFuel : Nat := 4096

/-- A channel's oldest descriptor goes on. -/
def hopStep (s : State) (e c : Nat) : State := if chState s e c = 5 then s else hopGo e c goFuel s

/-- BURST_ISSUE (R278): engine e issues one burst for the highest-priority channel that can use the turn, in round robin. -/
def execBurstIssue (e : Fin 16) (s : State) : Host.Outcome State Fault Refusal :=
  .next (
    let t := tget 0 s.hop.turn e
    let order := ([3, 2, 1, 0] : List Nat).flatMap fun p =>
      ((List.range 64).map fun i => (t + i) % 64).filter fun c => s.get (F.HOP_CH_CFG_PRIO e c) == p
    match order.findSome? fun c => (issueCh s e c).map fun s => (c, s) with
    | none => s
    | some (c, s) => hopStep { s with hop := { s.hop with turn := tput 0 s.hop.turn e ((c + 1) % 64) } } e c)

/-! ## Fetch (R256, R265, R272) -/

/-- The last descriptor of a channel's work: the active one. -/
def lastDesc (x : HopCh) : Option HopDesc := x.work.getLast?

/-- CHAIN_LIMIT in effect. -/
def chainLimit (s : State) (e c : Nat) : Nat := min 65536 (max 1 (s.get (F.HOP_CH_CFG_CHAIN_LIMIT e c)))

/-- A fetch that cannot be served ends the channel's work as a descriptor that halts when its turn comes. -/
def fetchFailed (s : State) (e c : Nat) (d : HopDesc) (err : HopErr) : State :=
  let w0 := match lastDesc (s.hc e c) with
    | some p => [p.w 0 &&& bitsMask 63 48]
    | none => []
  let s := s.modHc e c fun x => { x with
    fetch := none, work := x.work ++ [{ d with words := w0, bursts := [{ kind := .data, off := 0, len := 0, err := some err }] }] }
  hopStep (if chState s e c = 3 then s else setCh s e c 2) e c

/-- Start the fetch of descriptor d at its place. -/
def fetchAt (s : State) (e c : Nat) (d : HopDesc) (sp a : Nat) (again : Bool) : State :=
  match hopRead s e c sp a 64 2 with
  | .wait => s
  | .fail t err => fetchFailed t e c d err
  | .ok t ps => t.modHc e c fun x => { x with fetch := some ⟨ps, d, again⟩ }

/-- Ring slots that a channel has taken and not completed. -/
def slotsTaken (x : HopCh) : Nat := (x.work.filter fun d => d.first && !d.again).length

/-- Fetch the next available slot of the ring. -/
def fetchRing (s : State) (e c : Nat) : State :=
  let n := ringSize s e c
  if n = 0 then s
  else
    let idx := (s.get (F.HOP_CH_PTR_HEAD e c) + slotsTaken (s.hc e c)) % n
    let fnc := (chFn s e c).isSome
    let stop := if fnc then s.get (F.HOP_CH_PTR_PASSED e c) else s.get (F.HOP_CH_PTR_TAIL e c) % n
    if idx = stop then s
    else
      let sp := if fnc then 1 else 0
      let a := s.get (F.HOP_CH_RING_BASE e c) * 64 + 64 * idx
      let d : HopDesc := { words := [], loc := some (a, sp), first := true, n := 1 }
      match hopTgt s e c sp a 64 with
      | .spd _ => fetchAt s e c d sp a false
      | .bad 7 => fetchFailed s e c d { code := 3, detail := 7, addr := a, space := sp, dir := 2 }
      | _ => fetchFailed s e c d { code := 3, detail := 8, addr := a, space := sp, dir := 2 }

/-- DESCRIPTOR_FETCH (R256, R272): the chain goes on at NEXT, or the next available slot of the ring is fetched. -/
def execDescriptorFetch (e : Fin 16) (c : Fin 64) (s : State) : Host.Outcome State Fault Refusal :=
  .next (
    let x := s.hc e c
    let st := chState s e c
    if !(st == 1 || st == 2) || s.get (F.HOP_CH_STATUS_PAUSED_BY e c) != 0 || engFailed s e || x.fetch.isSome
        || x.shadow.isSome || x.abort then s
    else match lastDesc x with
      | some d =>
        if d.nextValid ∧ d.ended.isNone then
          (if s.bit (F.HOP_CH_SHD_CTRL_ARM e c) then s
           else if d.n < chainLimit s e c then
             fetchAt s e c { words := [], loc := some (d.next, d.nextSp), first := false, n := d.n + 1, again := d.again } d.nextSp d.next false
           else if x.work.length = 1 ∧ allDone d then
             (hopHalt s e c d { code := 5, detail := 0, addr := d.next, space := d.nextSp, dir := 2 } [] 0).modHc e c fun x =>
               { x with limit := some (d.next, d.nextSp) }
           else s)
        else if regMode s e c then s else fetchRing s e c
      | none => if regMode s e c then s else fetchRing s e c)

/-- Show fetched words in the shadow registers. -/
def putShadow (s : State) (e c : Nat) (ws : List Word) : State :=
  ([0, 1, 2, 3, 4, 5, 6, 7] : List Nat).foldl (fun s k => s.wr (R.HOP_CH_SHD e c k) (ws.getD k 0#64)) s

/-- Words of 64 bytes. -/
def wordsOfBytes (b : Bytes) : List Word := (List.range 8).map fun k => BitVec.ofNat 64 (leN b (8 * k) 8)

/-- A fetch whose bytes are all there: the shadow is filled; a RETRY puts the descriptor back to work where it failed. -/
def fetchDone (s : State) (e c : Nat) : State :=
  match (s.hc e c).fetch with
  | none => s
  | some f =>
    if !(f.reads.all fun p => p.ok) then s
    else
      let d := { f.desc with words := wordsOfBytes (pieceBytes f.reads) }
      if f.again then hopStep (s.modHc e c fun x => { x with fetch := none, work := d :: x.work }) e c
      else (putShadow s e c d.words).modHc e c fun x => { x with fetch := none, shadow := some d }

/-- HAND_OVER (R265): the shadow becomes the active descriptor, with the checks of R270. -/
def execHandOver (e : Fin 16) (c : Fin 64) (s : State) : Host.Outcome State Fault Refusal :=
  .next (
    let x := s.hc e c
    let st := chState s e c
    let words := ([0, 1, 2, 3, 4, 5, 6, 7] : List Nat).map fun k => s.rd (R.HOP_CH_SHD e c k)
    let goes := match lastDesc x with
      | some d => d.nextValid && d.ended.isNone
      | none => false
    let next : Option HopDesc := match x.shadow with
      | some d => if d.first == !goes then some { d with words := words } else none
      | none => if regMode s e c && s.bit (F.HOP_CH_SHD_CTRL_ARM e c) && !goes then
          some { words := words, loc := none, first := true, n := 1 } else none
    if !(st == 1 || st == 2) || s.get (F.HOP_CH_STATUS_PAUSED_BY e c) != 0 || engFailed s e || x.abort
        || decide (2 < x.work.length) || !(x.work.all allIssued) then s
    else match next with
      | none => s
      | some d =>
        let s := ([0, 1, 2, 3, 4, 5, 6, 7] : List Nat).foldl (fun s k => s.wr (R.HOP_CH_ACT e c k) (d.w k)) s
        let s := (s.put (F.HOP_CH_SHD_CTRL_ARM e c) 0).put (F.HOP_CH_SWAP_COUNT e c) (s.get (F.HOP_CH_SWAP_COUNT e c) + 1)
        let d := match descCheck (spaceOk s e c) (s.bit (F.HOP_ENG_STATUS_MODE e)) d with
          | some k => { d with bursts := [{ kind := .data, off := 0, len := 0, err := some { code := 4, detail := k } }] }
          | none => d
        hopStep (setCh (s.modHc e c fun x => { x with work := x.work ++ [d], shadow := none }) e c 2) e c)

/-! ## Answers and timeouts (R255, R271) -/

/-- DETAIL that an answer carries: none where the data are good. -/
def answerDetail (q : Pkt) : Option Nat :=
  if q.status = 8 ∨ q.status = 4 then some 2 else if q.status ≠ 0 then some 1 else if q.poison then some 5 else none

/-- Give a piece its bytes. -/
def fillPiece (id : Nat) (d : Bytes) (bad : Bool) (p : Piece) : Piece :=
  if p.id ≠ id ∨ p.ok then p
  else if bad then { p with ok := true }
  else
    let g := (p.got ++ (if p.got.isEmpty then d.drop p.skip else d)).take p.len
    { p with got := g, ok := decide (p.len ≤ g.length) }

/-- The piece of a burst with a number, still open. -/
def openPiece (id : Nat) (l : List Piece) : Option Piece := l.find? fun p => p.id == id && !p.ok

/-- An answer reaches a burst. -/
def fillBurst (id : Nat) (d : Bytes) (bad : Option Nat) (b : Burst) : Burst :=
  match openPiece id (b.reads ++ b.other) with
  | some p =>
    { b with
      reads := b.reads.map (fillPiece id d bad.isSome), other := b.other.map (fillPiece id d bad.isSome)
      err := match b.err, bad with
        | some x, _ => some x
        | none, some k => some { code := 3, detail := k, addr := p.addr, space := p.space, dir := if b.kind = .atomic then 1 else 0 }
        | none, none => none }
  | none =>
    if b.writes.contains id then
      { b with writes := b.writes.erase id
               err := match bad with
                 | some k => some { code := 3, detail := k, dir := 1 }
                 | none => b.err }
    else b

/-- The channel of engine e that waits for access id. -/
def idChan (s : State) (e id : Nat) : Option Nat :=
  (s.hop.chs.find? fun x => x.1 / 64 == e && (chanOpen x.2).contains id).map fun x => x.1 % 64

/-- An answer reaches channel c. -/
def hopAnswer (s : State) (e c id : Nat) (d : Bytes) (bad : Option Nat) : State :=
  let s := (injWrite s 8 e 0).modHc e c fun x => { x with work := x.work.map fun w => { w with bursts := w.bursts.map (fillBurst id d bad) } }
  let s := match (s.hc e c).fetch with
    | some f =>
      (match openPiece id f.reads with
       | some p =>
         (match bad with
          | some k => fetchFailed s e c f.desc { code := 3, detail := k, addr := p.addr, space := p.space, dir := 2 }
          | none => fetchDone (s.modHc e c fun x =>
              { x with fetch := some { f with reads := f.reads.map (fillPiece id d false) } }) e c)
       | none => s)
    | none => s
  hopStep s e c

/-- A host completion for a read of function n frees its tag with the last of its bytes; in shutdown, and after the
channel has given the read up, it is discarded (R243). -/
def hostCpl (s : State) (e n : Nat) (q : Pkt) : State :=
  match (s.fx n).out.find? fun x => x.1 == q.tag with
  | none => s
  | some x =>
    let id := hostId n q.tag
    let free := fun (s : State) => s.modFx n fun y => { y with out := y.out.filter fun z => z.1 != q.tag }
    if (s.fx n).shut.isSome then free (s.inc F.HEP_CNT0_LATE_CPL)
    else if !(chanOpen (s.hc e x.2.2)).contains id then free s
    else
      let t := hopAnswer s e x.2.2 id q.data (answerDetail q)
      if (chanOpen (t.hc e x.2.2)).contains id then t else free t

/-- READ_DATA_ARRIVE (R260): the oldest answer that has come back to engine e. -/
def execReadDataArrive (e : Fin 16) (s : State) : Host.Outcome State Fault Refusal :=
  .next (
    match s.hopIn.find? fun x => x.1 == e.val with
    | none => s
    | some x =>
      let s := { s with hopIn := s.hopIn.erase x }
      let q := x.2
      if engFailed s e then s
      else if q.cls = .ioCpl then
        (match q.src with
         | .port p =>
           (match vcsOfPort s p with
            | some v =>
              (match fnOfRid s v q.rid with
               | some n => hostCpl s e n q
               | none => s)
            | none => s)
         | _ => s)
      else match idChan s e q.tag with
        | some c => hopAnswer s e c q.tag q.data (answerDetail q)
        | none => s)

/-- The oldest open read of a channel's bursts, internal or window. -/
def oldOpen (x : HopCh) : Option Nat :=
  ((x.work.flatMap fun d => d.bursts.flatMap fun b => b.reads ++ b.other).find? fun p => !p.ok && p.space != 2).map fun p => p.id

/-- DATA_TIMEOUT (R255): an internal or window read has not answered within DATA_TO. -/
def execDataTimeout (e : Fin 16) (c : Fin 64) (s : State) : Host.Outcome State Fault Refusal :=
  .next (
    match oldOpen (s.hc e c) with
    | some id => if engFailed s e then s else hopAnswer s e c id [] (some 3)
    | none => s)

/-- FETCH_TIMEOUT (R271): a descriptor fetch has not answered within FETCH_TO. -/
def execFetchTimeout (e : Fin 16) (c : Fin 64) (s : State) : Host.Outcome State Fault Refusal :=
  .next (
    match (s.hc e c).fetch with
    | some f =>
      (match f.reads.find? fun p => !p.ok with
       | some p => if engFailed s e then s
           else fetchFailed s e c f.desc { code := 3, detail := 4, addr := p.addr, space := p.space, dir := 2 }
       | none => s)
    | none => s)

/-- HOST_COMPLETION_TIMEOUT (R271): a host read of function n is unanswered within the function's Completion Timeout, which
applies outside shutdown only (R244). -/
def execHostCompletionTimeout (n : Fin 1024) (tag : Fin 1024) (s : State) : Host.Outcome State Fault Refusal :=
  .next (
    match (s.fx n).out.find? fun x => x.1 == tag.val with
    | none => s
    | some x =>
      if (s.fx n).shut.isSome then s
      else
        let s := s.modFx n fun y => { y with out := y.out.filter fun z => z.1 != tag.val }
        let s := fnUnc s n 14 none
        match (s.hc x.2.1 x.2.2).fetch with
        | some f =>
          (match openPiece (hostId n tag) f.reads with
           | some p => fetchFailed s x.2.1 x.2.2 f.desc { code := 3, detail := 4, addr := p.addr, space := p.space, dir := 2 }
           | none => hopAnswer s x.2.1 x.2.2 (hostId n tag) [] (some 3))
        | none => hopAnswer s x.2.1 x.2.2 (hostId n tag) [] (some 3))

/-! ## Completion (R260, R262) -/

/-- A channel with no descriptor active, and none that a RETRY fetches again, is Idle. -/
def restCh (s : State) (e c : Nat) : State :=
  let again : Bool := match (s.hc e c).fetch with
    | some f => f.again
    | none => false
  if (s.hc e c).work.isEmpty ∧ !again ∧ (chState s e c = 2 ∨ chState s e c = 3) then setCh s e c 1 else s

/-- CHAIN_COMPLETE (R262): every write of the oldest chain is accepted: record, HEAD, interrupt. -/
def execChainComplete (e : Fin 16) (c : Fin 64) (s : State) : Host.Outcome State Fault Refusal :=
  .next (
    match (s.hc e c).work with
    | [] => s
    | d :: rest =>
      match d.ended with
      | none => s
      | some code =>
        if engFailed s e then s
        else
          let x := endSlot s e c d code 0 (if code = 0 then 0 else descResidue d) d.irq false
          match x.2 with
          | some err => hopHalt { x.1 with hop := s.hop } e c { d with again := true } err rest 0
          | none =>
            let s := x.1.modHc e c fun y => { y with
              work := if code = 0 then rest else rest.dropWhile fun d => !d.first
              shadow := match y.shadow with
                | some z => if z.first then some z else none
                | none => none }
            let s := s.inc (F.HOP_ENG_CNT_CHAINS e)
            hopStep (restCh (if d.irq then chIrq s e c else s) e c) e c)

/-! ## Abort, pause, commands (R273 to R275) -/

/-- Is a burst of the oldest descriptor in progress? -/
def burstOpen (x : HopCh) : Bool := x.work.any fun d => d.bursts.any fun b => b.err.isNone && (!burstRead b || !b.writes.isEmpty)

/-- The record of an abort: the oldest chain ends. -/
def abortNow (s : State) (e c : Nat) : State :=
  match (s.hc e c).work with
  | d :: rest => hopHalt s e c { d with bursts := [] } { code := 2, detail := 0 } rest (descResidue d)
  | [] => s

/-- ABORT (R273). -/
def hopAbort (s : State) (e c : Nat) : State :=
  if chState s e c = 3 then abortNow s e c
  else if chState s e c = 2 then s.modHc e c fun x => { x with abort := true }
  else s

/-- ABORT_COMPLETE (R273): the burst in progress has finished. -/
def execAbortComplete (e : Fin 16) (c : Fin 64) (s : State) : Host.Outcome State Fault Refusal :=
  .next (if (s.hc e c).abort && chState s e c == 2 && !burstOpen (s.hc e c) then abortNow s e c else s)

/-- Set or clear a pause request (R274): bit 0 PAUSE, 1 D3hot, 2 freeze. -/
def pauseBit (s : State) (e c i : Nat) (on : Bool) : State :=
  let f := F.HOP_CH_STATUS_PAUSED_BY e c
  let s := if on then s.setBit f i else s.clrBit f i
  if s.get f ≠ 0 then (if chState s e c = 2 then setCh s e c 3 else s)
  else if chState s e c = 3 then
    match (s.hc e c).resume with
    | some d =>
      (match d.loc with
       | some (a, sp) => fetchAt (setCh (s.modHc e c fun x => { x with resume := none }) e c 2) e c d sp a true
       | none => s)
    | none => restCh (setCh s e c 2) e c
  else s

/-- SKIP (R275): the channel goes on with its next slot or the armed shadow. -/
def hopSkip (s : State) (e c : Nat) : State :=
  let s := s.modHc e c fun x => { x with halted := none, limit := none }
  let s := setCh s e c (if (s.hc e c).work.isEmpty then 1 else 2)
  if s.get (F.HOP_CH_STATUS_PAUSED_BY e c) ≠ 0 ∧ chState s e c = 2 then setCh s e c 3 else s

/-- The state of a channel that goes on: Active, or Paused while something asks it to pause (R274). -/
def goState (s : State) (e c : Nat) : Nat := if s.get (F.HOP_CH_STATUS_PAUSED_BY e c) = 0 then 2 else 3

/-- RETRY (R275). -/
def hopRetry (s : State) (e c : Nat) : State :=
  let x := s.hc e c
  if s.get (F.HOP_CH_STATUS_CODE e c) = 2 then hopSkip s e c
  else match x.limit, x.halted with
    | some (a, sp), _ =>
      let s := setCh (s.modHc e c fun x => { x with halted := none, limit := none }) e c (goState s e c)
      fetchAt s e c { words := [], loc := some (a, sp), first := true, n := 1, again := true } sp a true
    | none, some d =>
      let s := setCh (s.modHc e c fun x => { x with halted := none }) e c (goState s e c)
      (match d.loc with
       | some (a, sp) => fetchAt s e c d sp a true
       | none => s.modHc e c fun x => { x with work := d :: x.work })
    | none, none => hopSkip s e c

/-- CLEAR (R275). -/
def hopClear (s : State) (e c : Nat) : State :=
  let s := s.modHc e c fun x => { x with work := [], shadow := none, fetch := none, halted := none, limit := none, resume := none, abort := false }
  let n := max 1 (ringSize s e c)
  let s := if regMode s e c then s else s.put (F.HOP_CH_PTR_HEAD e c) (s.get (F.HOP_CH_PTR_TAIL e c) % n)
  let s := match chFn s e c with
    | some f =>
      let q := s.get (F.HOP_CH_CFG_QUEUE e c)
      let s := s.put (F.HOP_CH_PTR_PASSED e c) (s.get (F.HOP_CH_PTR_TAIL e c) % n)
      fnPass (s.modFx f fun x => { x with passed := tput 0 x.passed q 0, held := x.held.filter fun y => y != q }) f
    | none => s
  setCh s e c 1

/-- Perform CMD of HOP_CH_CTRL. -/
def hopCmd (s : State) (e c cmd : Nat) : State :=
  if engFailed s e then s
  else if cmd = 4 then hopAbort s e c
  else if chState s e c ≠ 4 then s
  else if cmd = 1 then hopRetry s e c
  else if cmd = 2 then hopSkip s e c
  else if cmd = 3 then hopClear s e c
  else s

/-- May the channel's mode and rings be written: Disabled, or Idle with HEAD equal to TAIL (R256)? -/
def ringFree (s : State) (e c : Nat) : Bool :=
  chState s e c == 0 || (chState s e c == 1 && s.get (F.HOP_CH_PTR_HEAD e c) == s.get (F.HOP_CH_PTR_TAIL e c))

/-- A write of HOP_CH_CTRL (R254, R256, R264, R274). -/
def wrChCtrl (e c : Nat) (w : Wr) (s : State) : State :=
  let st := chState s e c
  let pause := s.bit (F.HOP_CH_CTRL_PAUSE e c)
  let enOk := w.val s (F.HOP_CH_CTRL_EN e c) = 1 || st == 0 || st == 1 || st == 4
  let regOk := ringFree s e c && ((chFn s e c).isNone || w.val s (F.HOP_CH_CTRL_REGMODE e c) == 0)
  let s := s.writeReg (R.HOP_CH_CTRL e c) w ((if enOk then 0#64 else bitsMask 31 31) ||| (if regOk then 0#64 else bitsMask 26 26))
  let s := if s.bit (F.HOP_CH_CTRL_EN e c) then (if st = 0 then setCh s e c 1 else s)
    else if st = 1 ∨ st = 4 then
      setCh (s.modHc e c fun x => { x with work := [], shadow := none, fetch := none, halted := none, limit := none }) e c 0
    else s
  let now := s.bit (F.HOP_CH_CTRL_PAUSE e c)
  let s := if now = pause then s else pauseBit s e c 0 now
  let cmd := bitsGet (w.v &&& w.mask) 29 27
  if cmd = 0 then s else hopCmd s e c cmd

def execChannelEnable (mid : Mid) (e : Fin 16) (c : Fin 64) (s : State) : Host.Outcome State Fault Refusal :=
  .next (wrChCtrl e c (wrField s mid false (F.HOP_CH_CTRL_EN e c) 1) s)

def execChannelDisable (mid : Mid) (e : Fin 16) (c : Fin 64) (s : State) : Host.Outcome State Fault Refusal :=
  .next (wrChCtrl e c (wrField s mid false (F.HOP_CH_CTRL_EN e c) 0) s)

def execChannelPause (mid : Mid) (e : Fin 16) (c : Fin 64) (s : State) : Host.Outcome State Fault Refusal :=
  .next (wrChCtrl e c (wrField s mid false (F.HOP_CH_CTRL_PAUSE e c) 1) s)

def execChannelResume (mid : Mid) (e : Fin 16) (c : Fin 64) (s : State) : Host.Outcome State Fault Refusal :=
  .next (wrChCtrl e c (wrField s mid false (F.HOP_CH_CTRL_PAUSE e c) 0) s)

def execChannelRetry (mid : Mid) (e : Fin 16) (c : Fin 64) (s : State) : Host.Outcome State Fault Refusal :=
  .next (wrChCtrl e c (wrField s mid false (F.HOP_CH_CTRL_CMD e c) 1) s)

def execChannelSkip (mid : Mid) (e : Fin 16) (c : Fin 64) (s : State) : Host.Outcome State Fault Refusal :=
  .next (wrChCtrl e c (wrField s mid false (F.HOP_CH_CTRL_CMD e c) 2) s)

def execChannelClear (mid : Mid) (e : Fin 16) (c : Fin 64) (s : State) : Host.Outcome State Fault Refusal :=
  .next (wrChCtrl e c (wrField s mid false (F.HOP_CH_CTRL_CMD e c) 3) s)

def execChannelAbort (mid : Mid) (e : Fin 16) (c : Fin 64) (s : State) : Host.Outcome State Fault Refusal :=
  .next (wrChCtrl e c (wrField s mid false (F.HOP_CH_CTRL_CMD e c) 4) s)

/-! ## Other registers of a channel -/

/-- A write of HOP_CH_RING: SIZE 2 to 16, or 0 (R256). -/
def wrChRing (e c : Nat) (w : Wr) (s : State) : State :=
  let n := w.val s (F.HOP_CH_RING_SIZE e c)
  if !ringFree s e c ∨ n = 1 ∨ 16 < n then s.refuse (R.HOP_CH_RING e c).addr w.mid w.size else s.writeReg (R.HOP_CH_RING e c) w

/-- A write of HOP_CH_CQ. -/
def wrChCq (e c : Nat) (w : Wr) (s : State) : State :=
  if ringFree s e c then s.writeReg (R.HOP_CH_CQ e c) w else s.refuse (R.HOP_CH_CQ e c).addr w.mid w.size

/-- A write of HOP_CH_PTR: TAIL is refused for a function channel (R254). -/
def wrChPtr (e c : Nat) (w : Wr) (s : State) : State :=
  s.writeReg (R.HOP_CH_PTR e c) w (if (chFn s e c).isSome then bitsMask 31 16 else 0#64)

/-- TAIL_WRITE (R256). -/
def execTailWrite (mid : Mid) (e : Fin 16) (c : Fin 64) (t : BitVec 16) (s : State) : Host.Outcome State Fault Refusal :=
  .next (wrChPtr e c (wrField s mid true (F.HOP_CH_PTR_TAIL e c) t.toNat) s)

/-- A write of a shadow word: refused in ring mode (R265). -/
def wrChShd (e c k : Nat) (w : Wr) (s : State) : State :=
  if regMode s e c then
    (s.writeReg (R.HOP_CH_SHD e c k) w).put (F.HOP_CH_SHD_CTRL_WSWAP e c) (s.get (F.HOP_CH_SWAP_COUNT e c))
  else s.refuse (R.HOP_CH_SHD e c k).addr w.mid w.size

/-- SHADOW_WRITE (R265). -/
def execShadowWrite (mid : Mid) (e : Fin 16) (c : Fin 64) (k : Fin 8) (v : Word) (s : State) :
    Host.Outcome State Fault Refusal :=
  .next (wrChShd e c k (wrFull mid true v) s)

/-- A write of HOP_CH_SHD_CTRL: ARM is refused in ring mode. -/
def wrShdCtrl (e c : Nat) (w : Wr) (s : State) : State :=
  if regMode s e c then s.writeReg (R.HOP_CH_SHD_CTRL e c) w else s.refuse (R.HOP_CH_SHD_CTRL e c).addr w.mid w.size

/-- SHADOW_ARM (R265). -/
def execShadowArm (mid : Mid) (e : Fin 16) (c : Fin 64) (s : State) : Host.Outcome State Fault Refusal :=
  .next (wrShdCtrl e c (wrField s mid true (F.HOP_CH_SHD_CTRL_ARM e c) 1) s)

/-- SHADOW_DISARM (R265). -/
def execShadowDisarm (mid : Mid) (e : Fin 16) (c : Fin 64) (s : State) : Host.Outcome State Fault Refusal :=
  .next (wrShdCtrl e c (wrField s mid true (F.HOP_CH_SHD_CTRL_ARM e c) 0) s)

/-! ## Engine (R266, R276) -/

/-- The record of a chain that an engine failure ends (R276). -/
def faultRec (e c : Nat) (unreadable : Bool) (s : State) (d : HopDesc) : State :=
  let s := (endSlot s e c d 6 (if unreadable then 1 else 0) (if unreadable then d.len else descResidue d) true false).1
  chIrq s e c

/-- A channel of a failed engine: it enters Engine fault; each chain active or prefetched gets its record. -/
def faultCh (e : Nat) (unreadable : BitVec 64) (s : State) (c : Nat) : State :=
  let x := s.hc e c
  let chains := match x.work with
    | [] => x.shadow.toList.filter fun (d : HopDesc) => d.first
    | d :: rest => d :: ((rest ++ x.shadow.toList).filter fun d => d.first)
  let s := chains.foldl (faultRec e c (unreadable.getLsbD c)) s
  setCh (s.modHc e c fun x => { x with work := [], shadow := none, fetch := none, halted := none, limit := none, resume := none, abort := false }) e c 5

/-- Bytes whose write was under way when its engine failed hold a free value (R276). -/
def losePortB (s : State) (r : PortB) : State :=
  if r.write then ((spdPut s r.addr ((List.range r.len).map (Config.freeByte s.fresh)) []).1).bump else s

/-- Engine e fails (R276). -/
def engineFail (e : Nat) (unreadable : BitVec 64) (s : State) : State :=
  if engFailed s e then s
  else
    let s := (s.put (F.HOP_ENG_STATUS_FAILED e) 1).raise (1728 + 8 * e)
    let lost := s.spdX.portB.filter fun r => r.eng == e
    let s := lost.foldl losePortB { s with spdX := { s.spdX with portB := s.spdX.portB.filter fun r => r.eng != e } }
    let s := flushPort (108 + e) { s with hopIn := s.hopIn.filter fun x => x.1 != e }
    (List.range 64).foldl (faultCh e unreadable) s

/-- ENGINE_FAILED (R276): unreadable names channels whose context cannot be read. -/
def execEngineFailed (e : Fin 16) (unreadable : BitVec 64) (s : State) : Host.Outcome State Fault Refusal :=
  .next (engineFail e unreadable s)

/-- A write of HOP_ENG_CTRL: MODE is refused unless every channel is Disabled, Idle or Halted (R266). -/
def wrEngCtrl (e : Nat) (w : Wr) (s : State) : State :=
  let ok := (List.range 64).all fun c => chState s e c == 0 || chState s e c == 1 || chState s e c == 4
  let s := s.writeReg (R.HOP_ENG_CTRL e) w (if ok then 0#64 else bitsMask 30 30)
  let s := s.put (F.HOP_ENG_STATUS_MODE e) (s.get (F.HOP_ENG_CTRL_MODE e))
  if w.sets (F.HOP_ENG_CTRL_FAIL e) then engineFail e 0#64 s else s

/-- ENGINE_MODE_WRITE (R266). -/
def execEngineModeWrite (mid : Mid) (e : Fin 16) (m : Bool) (s : State) : Host.Outcome State Fault Refusal :=
  .next (wrEngCtrl e (wrField s mid false (F.HOP_ENG_CTRL_MODE e) m.toNat) s)

/-- ENGINE_FAIL (R276): FAIL is written with 1. -/
def execEngineFail (mid : Mid) (e : Fin 16) (s : State) : Host.Outcome State Fault Refusal :=
  .next (wrEngCtrl e (wrField s mid false (F.HOP_ENG_CTRL_FAIL e) 1) s)

end Sys2Proof.Machine
end

