-- ==== Sys2Proof/Machine/Ports.lean ====
section
/-! DEFINITION. Lane groups and PCIe/CXL ports: reference clocks, training, link control, power states, failed lanes
(R58 to R75). -/

namespace Sys2Proof.Machine

/-- Role of port p: 0 unused, 1 upstream, 2 downstream, 3 OFL. -/
def role (s : State) (p : Nat) : Nat := s.get (F.PORT_CFG_ROLE p)

/-- Is p a PCIe/CXL port? -/
def isPcie (s : State) (p : Nat) : Bool := role s p == 1 || role s p == 2

/-- LTSSM of port p (R63). -/
def ltssm (s : State) (p : Nat) : Nat := s.get (F.PORT_LINK_STATUS_LTSSM p)

/-- Is the link of port p disabled, by PORT_LINK_CTRL.DISABLE or by containment (R75, R238)? -/
def linkOff (s : State) (p : Nat) : Bool := s.bit (F.PORT_LINK_CTRL_DISABLE p) || (s.px p).dpc.isSome

/-- A PCIe/CXL link goes down (R75): the port takes LTSSM state st, its queues are flushed through the report, and the
event is raised when the link was up. -/
def pcieDown (s : State) (p st : Nat) (w : PortWait) : State :=
  let s := (s.put (F.PORT_LINK_STATUS_LTSSM p) st).put (F.PORT_LINK_STATUS_RATE p) 0
  let s := ((s.put (F.PORT_LINK_STATUS_LANES p) 0).put (F.PORT_LINK_STATUS_FULL_LANES p) 0).put (F.PORT_LINK_STATUS_FLIT p) 0
  let s := ((s.put (F.PORT_LINK_STATUS_PROTO p) 0).put (F.PORT_LINK_STATUS_L11 p) 0).put (F.PORT_LINK_STATUS_REVERSED p) 0
  let s := setWait s p w
  if (s.px p).up then (reportDown s p).raise (320 + 8 * p) else s

/-- A link of either kind goes down. -/
def linkDown (s : State) (p st : Nat) (w : PortWait) : State :=
  if role s p = 3 then
    let s := oflDown s p w
    if st = 6 then s.put (F.OFL_STATUS_STATE p) 6 else if w = .none ∨ w = .refclk then s.put (F.OFL_STATUS_STATE p) 0 else s
  else if isPcie s p then pcieDown s p st w
  else s

/-! ## Reference clocks (R62) -/

/-- REFCLK_LOST. -/
def execRefclkLost (g : Fin 16) (s : State) : Host.Outcome State Fault Refusal :=
  .next (
    let s := ((s.put (F.LG_STATUS_REFCLK_OK g) 0).put (F.LG_STATUS_PLL_LOCK g) 0).put (F.LG_STATUS_REFCLK_LOST g) 1
    (([0, 1, 2, 3, 4, 5] : List Nat).foldl (fun s k => linkDown s (6 * g + k) 0 .refclk) s).raise (256 + 4 * g))

/-- REFCLK_RESTORED: the PLL relocks and the used ports stand in Detect, free to train. -/
def execRefclkRestored (g : Fin 16) (s : State) : Host.Outcome State Fault Refusal :=
  .next (
    let s := (s.put (F.LG_STATUS_REFCLK_OK g) 1).put (F.LG_STATUS_PLL_LOCK g) (s.get (F.LG_CFG_USED g))
    ([0, 1, 2, 3, 4, 5] : List Nat).foldl (fun s k =>
      if (s.px (6 * g + k)).wait = .refclk then setWait s (6 * g + k) .none else s) s)

/-! ## Training (R63 to R66) -/

/-- May a PCIe/CXL port leave Detect (R15, R63, R75)? -/
def pcieReady (s : State) (p : Nat) : Bool :=
  isPcie s p && ltssm s p == 0 && !linkOff s p && groupReady s (p / 6)
  && (s.get (F.PORT_CFG_SLC p) == 0xFF || s.bit (F.SLC_STATUS_PGOOD (s.get (F.PORT_CFG_SLC p))))
  && (s.get (F.PORT_CFG_PERST p) == 0xFF || !s.hasBit F.CRP_PERST_ASSERTED (s.get (F.PORT_CFG_PERST p)))

/-- The largest width of at most w lanes that leaves out the failed lanes: lanes 0 up (false), or in reversed order (true)
when lane 0 has failed (R71, R73). -/
def bestWidth (w failed : Nat) : Nat × Bool :=
  let fits := fun (first n : Nat) => decide (n ≤ w) && (laneBits first n &&& failed) == 0
  match ([16, 8, 4, 2, 1] : List Nat).find? fun n => fits 0 n with
  | some n => (n, false)
  | none =>
    match ([16, 8, 4, 2, 1] : List Nat).find? fun n => fits (w - n) n with
    | some n => (n, true)
    | none => (0, true)

/-- Highest rate of this port: MAX_RATE limited by TARGET_RATE (R59). -/
def rateCap (s : State) (p : Nat) : Nat :=
  let m := s.get (F.PORT_CFG_MAX_RATE p)
  let t := s.get (F.PORT_LINK_CTRL_TARGET_RATE p)
  if t = 0 then m else min m t

/-- A training attempt that reaches no rate (R66). -/
def pcieTrainFail (s : State) (p : Nat) : State :=
  let n := (s.px p).fails + 1
  let s := s.modPx p fun x => { x with fails := n, wait := .retry }
  let s := if (s.px p).up then pcieDown s p 0 .retry else s.put (F.PORT_LINK_STATUS_LTSSM p) 0
  if n % 10 = 0 then s.raise (320 + 8 * p + 3) else s

/-- Training, or the end of a Recovery, with what partner and lanes show: width, rate, mode and protocol are fixed and
the link is up (R63 to R66, R69, R73). -/
def pcieTrain (s : State) (p : Nat) (t : PciePeer) : State :=
  let w := laneCount (min (widthLanes (s.get (F.PORT_CFG_WIDTH p))) t.width)
  let (full, rev) := bestWidth w (s.get (F.PORT_LANE_FAIL_LANE p))
  let common := min (min (rateCap s p) t.rate) (if t.flit then 6 else 5)
  let rate := min common t.okRate
  if full = 0 ∨ rate = 0 then pcieTrainFail s p
  else
    let proto := if s.bit (F.PORT_CFG_CXL_OK p) && decide (3 ≤ rate) then
        (if t.cxl256 then 2 else if t.cxl68 && decide (rate ≤ 5) then 1 else 0) else 0
    let s := ((s.put (F.PORT_LINK_STATUS_LTSSM p) 3).put (F.PORT_LINK_STATUS_RATE p) rate).put (F.PORT_LINK_STATUS_LANES p) full
    let s := ((s.put (F.PORT_LINK_STATUS_FULL_LANES p) full).putB (F.PORT_LINK_STATUS_FLIT p) t.flit).put
      (F.PORT_LINK_STATUS_PROTO p) proto
    let s := (s.putB (F.PORT_LINK_STATUS_REVERSED p) rev).put (F.PORT_LINK_STATUS_L11 p) 0
    let s := s.modPx p fun x => { x with
      wait := .none, fails := 0, l0p := t.l0p, l11 := t.l11
      stored := (List.range 8).filter fun r => 3 ≤ r && (x.stored.contains r || decide (r ≤ rate)) }
    let s := if rate < common then (s.put (F.PORT_LINK_STATUS_DEGRADED p) 1).raise (320 + 8 * p + 1) else s
    if (s.px p).up then s else reportUp s p

/-- LINK_TRAINING (R65): a port leaving Detect trains; a port in Recovery completes it. -/
def execLinkTraining (p : Fin 96) (t : PciePeer) (s : State) : Host.Outcome State Fault Refusal :=
  .next (
    if pcieReady s p && (s.px p).wait == .none then pcieTrain s p t
    else if isPcie s p && ltssm s p == 4 then pcieTrain s p t
    else s)

/-- TRAINING_RETRY (R66): 12 ms after a training that reached no rate. -/
def execTrainingRetry (p : Fin 96) (t : PciePeer) (s : State) : Host.Outcome State Fault Refusal :=
  .next (if pcieReady s p && (s.px p).wait == .retry then pcieTrain s p t else s)

/-! ## PORT_LINK_CTRL -/

/-- Recovery of a PCIe/CXL link whose link is up (R73). -/
def pcieRecovery (s : State) (p : Nat) : State :=
  if isPcie s p && (ltssm s p == 3 || ltssm s p == 5) then
    (s.put (F.PORT_LINK_STATUS_LTSSM p) 4).put (F.PORT_LINK_STATUS_L11 p) 0
  else s

/-- A write of PORT_LINK_CTRL; an unused port refuses every write. -/
def wrLinkCtrl (p : Nat) (w : Wr) (s : State) : State :=
  if role s p = 0 then s.refuse (R.PORT_LINK_CTRL p).addr w.mid w.size
  else
    let was := s.bit (F.PORT_LINK_CTRL_DISABLE p)
    let s := s.writeReg (R.PORT_LINK_CTRL p) w
    let now := s.bit (F.PORT_LINK_CTRL_DISABLE p)
    let s := if now && !was then linkDown s p 6 .none else s
    let s := if was && !now && (s.px p).wait == .none && (s.px p).dpc.isNone then
        (if role s p = 3 then s.put (F.OFL_STATUS_STATE p) 0 else s.put (F.PORT_LINK_STATUS_LTSSM p) 0) else s
    let s := if w.sets (F.PORT_LINK_CTRL_EQ_REDO p) then
        (s.modPx p fun x => { x with stored := [] }).modOx p fun x => { x with stored := [] } else s
    let s := if w.sets (F.PORT_LINK_CTRL_LANE_CLEAR p) then
        (s.put (F.PORT_LANE_FAIL_LANE p) 0).put (F.OFL_LANES_FAILED p) 0 else s
    let s := if w.sets (F.PORT_LINK_CTRL_LANE_CLEAR p) then s.modOx p fun x => { x with peerFailed := 0 } else s
    if w.sets (F.PORT_LINK_CTRL_LANE_CLEAR p) || w.sets (F.PORT_LINK_CTRL_RETRAIN p) then
      (if role s p = 3 then enterRecovery s p false else pcieRecovery s p)
    else s

def execLinkDisable (mid : Mid) (p : Fin 96) (s : State) : Host.Outcome State Fault Refusal :=
  .next (wrLinkCtrl p (wrField s mid false (F.PORT_LINK_CTRL_DISABLE p) 1) s)

def execRetrain (mid : Mid) (p : Fin 96) (s : State) : Host.Outcome State Fault Refusal :=
  .next (wrLinkCtrl p (wrField s mid false (F.PORT_LINK_CTRL_RETRAIN p) 1) s)

def execEqRedo (mid : Mid) (p : Fin 96) (s : State) : Host.Outcome State Fault Refusal :=
  .next (wrLinkCtrl p (wrField s mid false (F.PORT_LINK_CTRL_EQ_REDO p) 1) s)

def execLaneClear (mid : Mid) (p : Fin 96) (s : State) : Host.Outcome State Fault Refusal :=
  .next (wrLinkCtrl p (wrField s mid false (F.PORT_LINK_CTRL_LANE_CLEAR p) 1) s)

/-! ## L0p (R70, R71) -/

/-- L0p may run for power: enabled, in flit mode, at L0, and the partner supports it. -/
def l0pOn (s : State) (p : Nat) : Bool :=
  isPcie s p && ltssm s p == 3 && s.bit (F.PORT_PM_CTRL_L0P_EN p) && s.bit (F.PORT_LINK_STATUS_FLIT p) && (s.px p).l0p

/-- The active lanes change through L0p. -/
def l0pTo (s : State) (p n : Nat) : State := (s.put (F.PORT_LINK_STATUS_LANES p) n).out (.l0p p n)

def execL0pNarrow (p : Fin 96) (s : State) : Host.Outcome State Fault Refusal :=
  .next (
    let n := s.get (F.PORT_LINK_STATUS_LANES p) / 2
    if l0pOn s p && s.get (F.PORT_PM_CTRL_L0P_IDLE p) != 0 && 2 ^ (min 4 (s.get (F.PORT_PM_CTRL_L0P_MIN p))) ≤ n then
      l0pTo s p n
    else s)

def execL0pWiden (p : Fin 96) (s : State) : Host.Outcome State Fault Refusal :=
  .next (
    let n := s.get (F.PORT_LINK_STATUS_FULL_LANES p)
    if l0pOn s p && s.get (F.PORT_LINK_STATUS_LANES p) < n then l0pTo s p n else s)

/-- L0P_PARTNER_REQUEST: a widening is granted, up to the full width. -/
def execL0pPartnerRequest (p : Fin 96) (lanes : Fin 17) (s : State) : Host.Outcome State Fault Refusal :=
  .next (
    let n := laneCount (min lanes (s.get (F.PORT_LINK_STATUS_FULL_LANES p)))
    if l0pOn s p && s.get (F.PORT_LINK_STATUS_LANES p) < n then l0pTo s p n else s)

/-! ## Failed lanes (R71, R73) -/

/-- Lanes of lane group g that a bitmap of logical lanes of its port 6 * g + k names. -/
def groupLanes (s : State) (p lanes : Nat) : Nat :=
  let w := widthLanes (s.get (F.PORT_CFG_WIDTH p))
  (List.range w).foldl (fun a i =>
    if lanes.testBit i then a ||| 2 ^ (s.get (F.PORT_CFG_FIRST_LANE p) + (if s.bit (F.PORT_CFG_LANE_REV p) then w - 1 - i else i))
    else a) 0

/-- Lanes that the link uses now, as logical lanes in configured order. -/
def lanesUsed (s : State) (p : Nat) : Nat :=
  let n := s.get (F.PORT_LINK_STATUS_LANES p)
  if s.bit (F.PORT_LINK_STATUS_REVERSED p) then laneBits (widthLanes (s.get (F.PORT_CFG_WIDTH p)) - n) n else laneBits 0 n

/-- LG_LANE_STATUS of group g: the lanes that its ports have marked failed, and those that carry an active link. -/
def laneStatus (s : State) (g : Nat) : Word :=
  let x := ([0, 1, 2, 3, 4, 5] : List Nat).foldl (fun (a : Nat × Nat) k =>
    let p := 6 * g + k
    let ofl := role s p == 3
    let fail := if ofl then s.get (F.OFL_LANES_FAILED p) else s.get (F.PORT_LANE_FAIL_LANE p)
    let act := if ofl then s.get (F.OFL_LANES_ACTIVE p) else if (s.px p).up then lanesUsed s p else 0
    (a.1 ||| groupLanes s p fail, a.2 ||| groupLanes s p act)) (0, 0)
  BitVec.ofNat 64 (x.1 % 65536 * 65536 + x.2 % 65536)

/-- A lane is declared failed: marked and recorded; in flit mode with an L0p partner it is removed by L0p, or, for
logical lane 0, through Recovery with the order reversed; otherwise the link retrains through Recovery. -/
def laneFail (s : State) (p lane : Nat) : State :=
  let failed := s.get (F.PORT_LANE_FAIL_LANE p) ||| 2 ^ lane
  let s := (s.put (F.PORT_LANE_FAIL_LANE p) failed).raise (320 + 8 * p + 2)
  if s.bit (F.PORT_LINK_STATUS_FLIT p) && (s.px p).l0p then
    let (n, rev) := bestWidth (s.get (F.PORT_LINK_STATUS_FULL_LANES p)) failed
    if n = 0 then pcieDown s p 0 .none
    else l0pTo ((s.put (F.PORT_LINK_STATUS_FULL_LANES p) n).putB (F.PORT_LINK_STATUS_REVERSED p)
      (rev || s.bit (F.PORT_LINK_STATUS_REVERSED p))) p (min n (s.get (F.PORT_LINK_STATUS_LANES p)))
  else pcieRecovery s p

/-- LANE_FAILED: a lane outside the active width is not declared failed while it is idle (R71). -/
def execLaneFailed (p : Fin 96) (lane : Fin 16) (s : State) : Host.Outcome State Fault Refusal :=
  .next (if isPcie s p && ltssm s p == 3 && (lanesUsed s p).testBit lane then laneFail s p lane else s)

/-- WIDEN_LANE_TIMEOUT: a lane that a widening brought back has not locked by the end of the bound. -/
def execWidenLaneTimeout (p : Fin 96) (lane : Fin 16) (s : State) : Host.Outcome State Fault Refusal :=
  .next (if isPcie s p && ltssm s p == 3 && (lanesUsed s p).testBit lane then laneFail s p lane else s)

/-- RECOVERY_TIMEOUT: the port goes to Detect and its link is down. -/
def execRecoveryTimeout (p : Fin 96) (s : State) : Host.Outcome State Fault Refusal :=
  .next (if isPcie s p && ltssm s p == 4 then pcieDown s p 0 .none else s)

/-! ## L1 (R72) -/

/-- Enter L1, or L1.1 where enabled and supported. -/
def enterL1 (s : State) (p : Nat) : State :=
  ((s.put (F.PORT_LINK_STATUS_LTSSM p) 5).putB (F.PORT_LINK_STATUS_L11 p)
    (s.bit (F.PORT_PM_CTRL_L11_EN p) && (s.px p).l11)).out (.l1 p)

/-- L1_ENTRY: an upstream port that has been idle for L1_IDLE. hdmDb says that the port carries CXL.mem traffic of an
HDM-DB region of a downstream device. -/
def execL1Entry (p : Fin 96) (hdmDb : Bool) (s : State) : Host.Outcome State Fault Refusal :=
  .next (
    if role s p == 1 && ltssm s p == 3 && s.get (F.PORT_PM_CTRL_L1_IDLE p) != 0 && aspmL1 s p && hostIdle s p
        && !carriesHdmDb s p && !hdmDb then enterL1 s p
    else s)

/-- L1_REQUEST_ACCEPT: a downstream port whose partner requests L1. -/
def execL1RequestAccept (p : Fin 96) (hdmDb : Bool) (s : State) : Host.Outcome State Fault Refusal :=
  .next (if role s p == 2 && ltssm s p == 3 && aspmL1 s p && !hdmDb then enterL1 s p else s)

def execL1Exit (p : Fin 96) (s : State) : Host.Outcome State Fault Refusal :=
  .next (
    if isPcie s p && ltssm s p == 5 then (s.put (F.PORT_LINK_STATUS_LTSSM p) 3).put (F.PORT_LINK_STATUS_L11 p) 0 else s)

/-! ## Return to Detect after a Brake block reset (R356) -/

/-- PORT_REDETECT: a PCIe/CXL port taken down by a block reset of its own enters Detect again, unless DISABLE is set. -/
def execPortRedetect (p : Fin 96) (s : State) : Host.Outcome State Fault Refusal :=
  .next (
    if isPcie s p && (s.px p).wait == .block then
      (setWait s p .none).put (F.PORT_LINK_STATUS_LTSSM p) (if linkOff s p then 6 else 0)
    else s)

/-! ## Reset of a port's registers -/

/-- A port held in reset with its controller (R55, R356): its RW fields and status return to reset, its link is down. -/
def portClear (s : State) (p : Nat) : State :=
  let s := linkDown s p 0 .none
  let s := (s.clearRegs (0x42000000 + p * 0x10000 + 8) (0x42000000 + (p + 1) * 0x10000)).clearRegs
    (0x43000000 + p * 0x10000) (0x43000000 + (p + 1) * 0x10000)
  let s := s.put (F.PORT_LINK_STATUS_LTSSM p) (if role s p = 3 then 0xF else 0)
  (s.setPx p { dpc := (s.px p).dpc }).setOx p {}

end Sys2Proof.Machine
end

