-- ==== Sys2Proof/Machine/HostFn.lean ====
section
/-! DEFINITION. The host-facing functions: doorbells, their registers, shutdown, freeze, save and restore, containment of
vPPBs (R225 to R252). -/

namespace Sys2Proof.Machine

/-- Channels that serve function n: queue, engine, channel. -/
def fnChans (s : State) (n : Nat) : List (Nat × Nat × Nat) :=
  (s.fx n).qmap.map fun p => (p.1, (p.2 - 1) / 64, (p.2 - 1) % 64)

/-- Functions that are presented and that pass a test. -/
def fnsWhere (f : Nat → Bool) : List Nat := (List.range 1024).filter f

/-- Bring the status of several functions up to date. -/
def syncFns (s : State) (l : List Nat) : State := l.foldl (fun s n => syncFn n s) s

/-- A function is in shutdown, or its VCS in reset: configuration requests are answered with Retry Status (R246, R430). -/
def cfgHeld (s : State) (v n : Nat) : Bool := (s.fx n).shut.isSome || s.hasBit F.CRP_VCS_RESET_ACTIVE v

/-! ## Doorbells (R232, R233) -/

/-- A new tail of queue q of function n. -/
def doorbell (s : State) (n q t : Nat) : State :=
  let x := s.fx n
  if (fnVcs s n).isNone ∨ x.shut.isSome ∨ s.get (F.HEP_FN_CFG_QCOUNT n) ≤ q then s
  else if x.d3 then fnUnc s n 20 none
  else
    let old := tget 0 x.tails q
    let s := s.modFx n fun x => { x with tails := tput 0 x.tails q t }
    match queueChan s n q with
    | none => s
    | some (e, c) =>
      let k := ringSize s e c
      if k = 0 then s
      else
        let s := s.put (F.HOP_CH_PTR_TAIL e c) (t % k)
        fnPass (s.modFx n fun x => { x with held := x.held ++ List.replicate ((t % k + k - old % k) % k) q }) n

/-- DOORBELL (R232). -/
def execDoorbell (n : Fin 1024) (q : Fin 64) (t : BitVec 32) (s : State) : Host.Outcome State Fault Refusal :=
  .next (doorbell s n q t.toNat)

/-! ## Shutdown (R242 to R247) -/

/-- Is a packet a request of function n: its own, or of a channel that serves it (R243)? -/
def pktOf (s : State) (n : Nat) (q : Pkt) : Bool :=
  q.isReq && (match q.src with
    | .fn m => m == n
    | .hop e c => chFn s e c == some n
    | _ => false)

/-- No further request of function n passes the Headrace; those in the queues are marked (R243). -/
def shutPkts (s : State) (n : Nat) : State :=
  let mark := fun (q : Pkt) => if pktOf s n q then { q with dead := true } else q
  s.modMill fun m => { m with
    presented := m.presented.filter fun x => !pktOf s n x.pkt
    waiting := m.waiting.filter fun x => !pktOf s n x.pkt
    queues := m.queues.map fun x => (x.1, x.2.map fun y => { y with pkt := mark y.pkt })
    staged := m.staged.map fun x => { x with pkt := mark x.pkt }
    chains := m.chains.map fun x => (x.1, x.2.map fun l => l.map mark) }

/-- A channel of a function in shutdown is aborted at once: the record stays in its registers where the ring is in host
memory, and no interrupt is sent (R245). -/
def cutChan (s : State) (e c : Nat) : State :=
  let s := s.clrBit (F.HOP_CH_STATUS_PAUSED_BY e c) 2
  let x := s.hc e c
  let s := s.modHc e c fun x => { x with work := [], fetch := none, shadow := none, resume := none, abort := false }
  match (if chState s e c = 2 ∨ chState s e c = 3 then x.work ++ x.resume.toList else []) with
  | [] => s
  | d :: _ =>
    let s := (endSlot s e c { d with bursts := [] } 2 1 (descResidue d) false true).1
    let s := (s.put (F.HOP_CH_STATUS_CODE e c) 2).put (F.HOP_CH_STATUS_DETAIL e c) 1
    ((setCh s e c 4).inc (F.HOP_ENG_CNT_HALTS e)).modHc e c fun x =>
      { x with halted := some { d with bursts := [], issued := d.done, again := true, ended := none } }

/-- Which of two causes decides the state after a shutdown. -/
def ShutCause.join : ShutCause → ShutCause → ShutCause
  | .gone, _ => .gone
  | _, .gone => .gone
  | .bme, c => c
  | c, _ => c

/-- A migration operation of function n in progress ends with a result. -/
def migEnd (s : State) (result : Nat) : State :=
  ((s.put F.HEP_MIG_CMD_BUSY 0).put F.HEP_MIG_CMD_RESULT result).put F.MGT_DONE_HEP_MIG 1

/-- A shutdown starts (R243). -/
def shutStart (cause : ShutCause) (s : State) (n : Nat) : State :=
  match (s.fx n).shut with
  | some old => s.modFx n fun x => { x with shut := some (old.join cause) }
  | none =>
    let s := if s.bit F.HEP_MIG_CMD_BUSY && s.get F.HEP_MIG_CMD_FN == n then migEnd s 5 else s
    let s := shutPkts (s.modFx n fun x =>
      { x with shut := some cause, freezing := false, frozen := false, incomplete := false, held := [] }) n
    syncFn n ((fnChans s n).foldl (fun s y => cutChan s y.2.1 y.2.2) s)

/-- The VFs presented. -/
def vfsNow (s : State) : List Nat := fnsWhere fun n => isVf s n && (fnVcs s n).isSome

/-- VF Enable is cleared: every VF is shut down. -/
def vfDisable (s : State) : State :=
  let l := vfsNow s
  l.foldl (shutStart .vf) (s.modFx 0 fun x => { x with vfEnable := false })

/-- The state of a function after every shutdown but that of a cleared Bus Master Enable (R247). -/
def fnReset (s : State) (n : Nat) : State :=
  let s := if n = 0 ∧ (s.fx 0).vfEnable then vfDisable s else s
  let s := (fnChans s n).foldl (fun s y =>
    ((s.put (F.HOP_CH_PTR_HEAD y.2.1 y.2.2) 0).put (F.HOP_CH_PTR_TAIL y.2.1 y.2.2) 0).put (F.HOP_CH_PTR_PASSED y.2.1 y.2.2) 0) s
  let s := (fnChans s n).foldl (fun s y => s.modHc y.2.1 y.2.2 fun x => { x with phase := true }) s
  s.modFx n fun x => { aer := x.aer, qmap := x.qmap, reclaimed := x.reclaimed, winRds := x.winRds }

/-- A shutdown completes once no tag of the function is outstanding (R243, R247). -/
def shutDone (s : State) (n : Nat) : State :=
  match (s.fx n).shut with
  | none => s
  | some cause =>
    if !(s.fx n).out.isEmpty then s
    else
      let s := s.modFx n fun x => { x with shut := none, passed := [], held := [] }
      let s := if cause = .bme then s else fnReset s n
      syncFn n (s.modFx n fun x => { x with vfIdle := cause == .vf })

/-- SHUTDOWN_COMPLETE (R247). -/
def execShutdownComplete (n : Fin 1024) (s : State) : Host.Outcome State Fault Refusal := .next (shutDone s n)

/-- Every outstanding tag of function n is reclaimed and counted (R243 step 5). -/
def reclaim (s : State) (n : Nat) : State :=
  let k := (s.fx n).out.length
  (s.modFx n fun x => { x with out := [], reclaimed := x.reclaimed ++ x.out.map fun y => y.1 }).inc F.HEP_CNT0_TAG_RECLAIM k

/-- TAG_RECLAIM (R244): TAG_TO has passed in shutdown. -/
def execTagReclaim (n : Fin 1024) (s : State) : Host.Outcome State Fault Refusal :=
  .next (if (s.fx n).shut.isSome then reclaim s n else s)

/-- TAG_RELEASE (R244): a further TAG_TO has passed. -/
def execTagRelease (n : Fin 1024) (s : State) : Host.Outcome State Fault Refusal :=
  .next (s.modFx n fun x => { x with reclaimed := [] })

/-! ## Configuration of the functions (R227, R228, R246) -/

/-- Contents of an AER register. -/
def aerRd (a : Aer) : CfgReg → Option Nat
  | .uncSta => some a.unc
  | .uncMask => some a.uncMask
  | .uncSev => some a.uncSev
  | .corSta => some a.cor
  | .corMask => some a.corMask
  | .errPtr => some (a.first.getD 0)
  | .hdrLog i => some (match a.hdr with
    | some q => Config.tlpHeader q i
    | none => 0)
  | _ => none

/-- Bits of v out of n. -/
def clearBits (n v : Nat) : Nat := n &&& (n ^^^ (n &&& v))

/-- A write of an AER register: status bits clear by 1, and the log is free again once its bit is cleared (R237). -/
def aerWr (a : Aer) (v : Nat) : CfgReg → Aer
  | .uncSta =>
    { a with unc := clearBits a.unc v
             first := (match a.first with
               | some b => if v.testBit b then none else some b
               | none => none) }
  | .uncMask => { a with uncMask := v % 2 ^ 32 }
  | .uncSev => { a with uncSev := v % 2 ^ 32 }
  | .corSta => { a with cor := clearBits a.cor v }
  | .corMask => { a with corMask := v % 2 ^ 32 }
  | _ => a

/-- A configuration register of function n; absent ones read 0 (R228). -/
def fnCfgRd (s : State) (n : Nat) (r : CfgReg) : Nat :=
  let x := s.fx n
  let vf := isVf s n
  match r with
  | .id => if n = 0 then 0x14601F9A else if vf then 0xFFFFFFFF else 0x14621F9A
  | .cls => 0x08010001
  | .cmd => x.cmd
  | .bar0 => if vf then 0 else x.bar0
  | .bar2 => if vf then 0 else x.bar2
  | .pm => if x.d3 then 3 else 0
  | .devCtl => x.devCtl
  | .devCtl2 => x.devCtl2
  | .msixCtl => x.msixCtl + (max 1 (s.get (F.HEP_FN_CFG_VEC_COUNT n)) - 1)
  | .sriovCtl => if n = 0 then (if x.vfEnable then 1 else 0) + (if x.vfMse then 8 else 0) else 0
  | .numVfs => x.numVfs
  | .totalVfs => if n = 0 then s.get F.HEP_PF_TOTAL_VFS else 0
  | .vfDevId => if n = 0 then 0x1461 else 0
  | .vfBar0 => x.vfBar0
  | .vfBar2 => x.vfBar2
  | r => (aerRd x.aer r).getD 0

/-- Pause or go on for D3hot (R228). -/
def fnPower (s : State) (n : Nat) (d3 : Bool) : State :=
  if (s.fx n).d3 = d3 then s
  else
    let s := s.modFx n fun x => { x with d3 := d3 }
    let s := (fnChans s n).foldl (fun s y => pauseBit s y.2.1 y.2.2 1 d3) s
    syncFn n (if d3 then s else msixFlush s n)

/-- A write of the Command register: clearing Bus Master Enable starts a shutdown (R242). -/
def fnCmdWr (s : State) (n d : Nat) : State :=
  let was := fnBme s n
  let s := s.modFx n fun x => { x with cmd := d &&& (if isVf s n then 0x4 else 0x146) }
  if was && !fnBme s n then shutStart .bme s n
  else syncFn n (if !was && fnBme s n then msixFlush s n else s)

/-- A write of the SR-IOV control register. -/
def sriovWr (s : State) (d : Nat) : State :=
  let s := s.modFx 0 fun x => { x with vfMse := d.testBit 3 }
  if (s.fx 0).vfEnable && !d.testBit 0 then vfDisable s
  else if !(s.fx 0).vfEnable && d.testBit 0 then
    let s := s.modFx 0 fun x => { x with vfEnable := true }
    syncFns s (vfsNow s)
  else s

/-- A write of a configuration register of function n. -/
def fnCfgWr (s : State) (n : Nat) (r : CfgReg) (d : Nat) : State :=
  let vf := isVf s n
  let pf := n == 0
  match r with
  | .cmd => fnCmdWr s n d
  | .bar0 => if vf then s else s.modFx n fun x => { x with bar0 := d % 2 ^ 64 / 65536 * 65536 }
  | .bar2 =>
    if vf ∨ winSize s n = 0 then s
    else s.modFx n fun x => { x with bar2 := d % 2 ^ 64 / 2 ^ winSize s n * 2 ^ winSize s n }
  | .pm => if vf then s else if d % 4 = 3 then fnPower s n true else if d % 4 = 0 then fnPower s n false else s
  | .devCtl =>
    let s := s.modFx n fun x => { x with devCtl := d % 2 ^ 15 }
    if d.testBit 15 then shutStart .flr s n else s
  | .devCtl2 => s.modFx n fun x => { x with devCtl2 := d % 2 ^ 16 }
  | .msixCtl => msixFlush (s.modFx n fun x => { x with msixCtl := d &&& 0xC000 }) n
  | .sriovCtl => if pf then sriovWr s d else s
  | .numVfs => if pf ∧ !(s.fx 0).vfEnable then s.modFx 0 fun x => { x with numVfs := d % 2 ^ 16 } else s
  | .vfBar0 => if pf then s.modFx 0 fun x => { x with vfBar0 := d % 2 ^ 64 / 65536 * 65536 } else s
  | .vfBar2 =>
    if pf ∧ winSize s 1 ≠ 0 then s.modFx 0 fun x => { x with vfBar2 := d % 2 ^ 64 / 2 ^ winSize s 1 * 2 ^ winSize s 1 } else s
  | r => s.modFx n fun x => { x with aer := aerWr x.aer d r }

/-- A configuration request of VCS v to function n (R227, R246): performed, or answered with Retry Status or Unsupported
Request. -/
def fnCfg (s : State) (v n : Nat) (r : CfgReg) (w : Option Nat) : State :=
  let sets : Bool := match w with
    | some d => n == 0 && r == .sriovCtl && d.testBit 0 && !(s.fx 0).vfEnable
    | none => false
  let busy := sets && (fnsWhere fun m => isVf s m && (s.fx m).shut.isSome) != []
  if !fnIn s n v && !((s.fx n).shut.isSome && fnHome s n == v) then s.out (.cfg v 1 0)
  else if cfgHeld s v n || busy then (s.inc F.HEP_CNT1_CRS).out (.cfg v 2 0)
  else match w with
    | none => s.out (.cfg v 0 (fnCfgRd s n r))
    | some d => (fnCfgWr s n r d).out (.cfg v 0 0)

/-- FUNCTION_LEVEL_RESET (R243). -/
def execFunctionLevelReset (n : Fin 1024) (s : State) : Host.Outcome State Fault Refusal :=
  .next (fnCfg s (fnHome s n) n .devCtl (some ((s.fx n).devCtl % 2 ^ 15 + 2 ^ 15)))

/-- BUS_MASTER_ENABLE_CLEAR (R242). -/
def execBusMasterEnableClear (n : Fin 1024) (s : State) : Host.Outcome State Fault Refusal :=
  .next (fnCfg s (fnHome s n) n .cmd (some (clearBits (s.fx n).cmd 4)))

/-- VF_ENABLE_CLEAR (R242). -/
def execVfEnableClear (s : State) : Host.Outcome State Fault Refusal :=
  .next (fnCfg s (fnHome s 0) 0 .sriovCtl (some (if (s.fx 0).vfMse then 8 else 0)))

/-- D3HOT_ENTER (R228). -/
def execD3hotEnter (n : Fin 1024) (s : State) : Host.Outcome State Fault Refusal :=
  .next (fnCfg s (fnHome s n) n .pm (some 3))

/-- D0_RETURN (R228). -/
def execD0Return (n : Fin 1024) (s : State) : Host.Outcome State Fault Refusal :=
  .next (fnCfg s (fnHome s n) n .pm (some 0))

/-- Every function below the function vPPB of VCS v is shut down (R242). -/
def busShut (s : State) (v : Nat) : State := (fnsWhere fun n => fnIn s n v).foldl (shutStart .bus) s

/-- Link Disable set at vPPB k of VCS v: a managed unbind goes on (R161); on the function vPPB, the functions below it are
shut down. -/
def vppbDisable (s : State) (v k : Nat) : State :=
  let s := s.modVx v k fun x => { x with linkDisable := true }
  if isFnVppb s v k then busShut s v
  else match bindOf s v k with
    | some n => unbindGo s n
    | none => s

/-- VPPB_LINK_DISABLE (R161). -/
def execVppbLinkDisable (v : Fin 64) (k : Fin 256) (s : State) : Host.Outcome State Fault Refusal :=
  .next (vppbDisable s v k)

/-- SECONDARY_BUS_RESET (R242): Secondary Bus Reset, or Link Disable, on the function vPPB of VCS v. -/
def execSecondaryBusReset (v : Fin 64) (link : Bool) (s : State) : Host.Outcome State Fault Refusal :=
  .next (
    if !s.bit (F.HEP_VCS_EN v) then s
    else
      let k := s.get (F.HEP_VCS_FVPPB v)
      if link then vppbDisable s v k else busShut (s.modVx v k fun x => { x with busReset := true }) v)

/-! ## HEP registers (R226, R227, R231, R232, R234) -/

/-- Exported functions other than n, of VCS v. -/
def exportedIn (s : State) (v n : Nat) : List Nat :=
  fnsWhere fun m => m != n && s.bit (F.HEP_FN_CFG_EXPORT m) && s.get (F.HEP_FN_CFG_VCS m) == v

/-- May HEP_FN_CFG n take a word (R227, R234)? -/
def fnCfgOk (s : State) (n : Nat) (w : Wr) : Bool :=
  let ex := w.val s (F.HEP_FN_CFG_EXPORT n) == 1
  let v := w.val s (F.HEP_FN_CFG_VCS n)
  let slot := w.val s (F.HEP_FN_CFG_SLOT n)
  let was := s.bit (F.HEP_FN_CFG_EXPORT n)
  let others := exportedIn s v n
  let same := was && v == s.get (F.HEP_FN_CFG_VCS n) && slot == s.get (F.HEP_FN_CFG_SLOT n)
  let place := !ex || same
    || (decide (s.get F.HEP_PF_TOTAL_VFS < n) && v != s.get F.HEP_PF_VCS
        && !(others.any fun m => s.get (F.HEP_FN_CFG_SLOT m) == slot)
        && (slot == 0 || others.any fun m => s.get (F.HEP_FN_CFG_SLOT m) == 0))
  let leave := ex || !was || s.get (F.HEP_FN_CFG_SLOT n) != 0 || (exportedIn s (s.get (F.HEP_FN_CFG_VCS n)) n).isEmpty
  let b := w.val s (F.HEP_FN_CFG_VEC_BASE n)
  let k := w.val s (F.HEP_FN_CFG_VEC_COUNT n)
  let vec := b == s.get (F.HEP_FN_CFG_VEC_BASE n) && k == s.get (F.HEP_FN_CFG_VEC_COUNT n)
    || decide (b + k ≤ 16128)
      && !((fnsWhere fun m => m != n && (s.bit (F.HEP_FN_CFG_EXPORT m) || decide (m ≤ s.get F.HEP_PF_TOTAL_VFS))).any fun m =>
        k != 0 && s.get (F.HEP_FN_CFG_VEC_COUNT m) != 0
        && overlap b k (s.get (F.HEP_FN_CFG_VEC_BASE m)) (s.get (F.HEP_FN_CFG_VEC_COUNT m)))
  place && leave && vec

/-- A write of HEP_FN_CFG n: fields other than SHARE only in state absent or idle; clearing EXPORT shuts the function down. -/
def wrFnCfg (n : Nat) (w : Wr) (s : State) : State :=
  if 1 < fnState s n then
    let s := s.writeReg (R.HEP_FN_CFG n) w (bitsMask 63 49 ||| bitsMask 31 0)
    fnPass s n
  else if !fnCfgOk s n w then s.refuse (R.HEP_FN_CFG n).addr w.mid w.size
  else
    let was := (fnVcs s n).isSome
    let s := s.writeReg (R.HEP_FN_CFG n) w
    if was && (fnVcs s n).isNone then shutStart .gone s n else fnPass s n

/-- FN_CFG_WRITE (R227). -/
def execFnCfgWrite (mid : Mid) (n : Fin 1024) (v : Word) (s : State) : Host.Outcome State Fault Refusal :=
  .next (wrFnCfg n (wrFull mid true v) s)

/-- A write of HEP_VCS v (R226, R242). -/
def wrHepVcs (v : Nat) (w : Wr) (s : State) : State :=
  let en := s.bit (F.HEP_VCS_EN v)
  let k := if en then s.get (F.HEP_VCS_FVPPB v) else w.val s (F.HEP_VCS_FVPPB v)
  let ok := en || (decide (k < s.get (F.RTE_VCS_CFG_VPPBS v)) && (bindOf s v k).isNone)
  let l := fnsWhere fun n => fnIn s n v
  let s := s.writeReg (R.HEP_VCS v) w ((if ok then 0#64 else bitsMask 31 31) ||| (if en then bitsMask 7 0 else 0#64))
  let now := s.bit (F.HEP_VCS_EN v)
  if en = now then s
  else
    let s := s.modVx v k fun x => { x with present := now, linkUp := now }
    if now then syncFns s (fnsWhere fun n => fnIn s n v) else l.foldl (shutStart .gone) s

/-- A write of HEP_PF (R227). -/
def wrHepPf (w : Wr) (s : State) : State :=
  let t := w.val s F.HEP_PF_TOTAL_VFS
  let bad := (s.fx 0).vfEnable || (fnsWhere fun n => s.bit (F.HEP_FN_CFG_EXPORT n) && decide (n ≤ t)) != []
  let s := s.writeReg R.HEP_PF w ((if bad then bitsMask 25 16 else 0#64)
    ||| (if s.bit (F.HEP_VCS_EN (s.get F.HEP_PF_VCS)) then bitsMask 5 0 else 0#64))
  syncFns s [0]

/-- Does the internal map hold [a, a + n) within the scratchpad or the pool region? -/
def mapHolds (a n : Nat) : Bool :=
  decide (a + n ≤ 0x1000000) || decide (0x100000000000 ≤ a) && decide (a + n ≤ 0x160000000000)

/-- A write of HEP_FN_WIN n (R228, R231): the WIN_SIZE of a VF other than 1 takes no write. -/
def wrFnWin (n : Nat) (w : Wr) (s : State) : State :=
  let w := if isVf s n ∧ n ≠ 1 then { w with mask := w.mask &&& ~~~bitsMask 5 0 } else w
  let k := if isVf s n ∧ n ≠ 1 then winSize s n else w.val s (F.HEP_FN_WIN_WIN_SIZE n)
  let ok := k == 0 || decide (12 ≤ k) && decide (k ≤ 40) && mapHolds (w.val s (F.HEP_FN_WIN_BASE n) * 4096) (2 ^ k)
  if ok then s.writeReg (R.HEP_FN_WIN n) w else s.refuse (R.HEP_FN_WIN n).addr w.mid w.size

/-- Queue (n, q) takes channel (e, c), or none. -/
def mapQueue (s : State) (n q : Nat) (ch : Option (Nat × Nat)) : State :=
  let s := match queueChan s n q with
    | some (e, c) => s.put (F.HOP_CH_CFG_FN_VALID e c) 0
    | none => s
  match ch with
  | none => s.modFx n fun x => { x with qmap := tput 0 x.qmap q 0 }
  | some (e, c) =>
    let s := ((s.put (F.HOP_CH_CFG_FN_VALID e c) 1).put (F.HOP_CH_CFG_FN e c) n).put (F.HOP_CH_CFG_QUEUE e c) q
    s.modFx n fun x => { x with qmap := tput 0 x.qmap q (64 * e + c + 1) }

/-- The access that HEP_QMAP_CMD names (R232). -/
def qmapCmd (s : State) : State :=
  let n := s.get F.HEP_QMAP_CMD_FN
  let q := s.get F.HEP_QMAP_CMD_QUEUE
  let e := s.get F.HEP_QMAP_DATA_ENGINE
  let c := s.get F.HEP_QMAP_DATA_CHANNEL
  if s.get (F.HEP_FN_CFG_QCOUNT n) ≤ q then s.put F.HEP_QMAP_CMD_RESULT 3
  else if !s.bit F.HEP_QMAP_CMD_WRITE then
    let s := s.put F.HEP_QMAP_CMD_RESULT 0
    (match queueChan s n q with
     | some (e, c) => ((s.put F.HEP_QMAP_DATA_VALID 1).put F.HEP_QMAP_DATA_ENGINE e).put F.HEP_QMAP_DATA_CHANNEL c
     | none => ((s.put F.HEP_QMAP_DATA_VALID 0).put F.HEP_QMAP_DATA_ENGINE 0).put F.HEP_QMAP_DATA_CHANNEL 0)
  else if 1 < fnState s n then s.put F.HEP_QMAP_CMD_RESULT 2
  else if !s.bit F.HEP_QMAP_DATA_VALID then (mapQueue s n q none).put F.HEP_QMAP_CMD_RESULT 0
  else if (chFn s e c).isSome && queueChan s n q != some (e, c) then s.put F.HEP_QMAP_CMD_RESULT 1
  else (mapQueue s n q (some (e, c))).put F.HEP_QMAP_CMD_RESULT 0

/-- A write of HEP_QMAP_CMD. -/
def wrQmapCmd (w : Wr) (s : State) : State :=
  let s := s.writeReg R.HEP_QMAP_CMD w
  if w.sets F.HEP_QMAP_CMD_START then qmapCmd s else s

/-- The write of HEP_QMAP_CMD that accesses an entry. -/
def qmapWr (mid : Nat) (write : Bool) (n q : Nat) : Wr :=
  wrFull mid false (BitVec.ofNat 64 (2 ^ 31 + (if write then 2 ^ 30 else 0) + n * 64 + q))

/-- QMAP_READ (R232). -/
def execQmapRead (mid : Mid) (n : Fin 1024) (q : Fin 64) (s : State) : Host.Outcome State Fault Refusal :=
  .next (wrQmapCmd (qmapWr mid false n q) s)

/-- QMAP_WRITE (R232). -/
def execQmapWrite (mid : Mid) (n : Fin 1024) (q : Fin 64) (s : State) : Host.Outcome State Fault Refusal :=
  .next (wrQmapCmd (qmapWr mid true n q) s)

/-! ## Freeze (R248) -/

/-- Is a request of function n outstanding? -/
def fnBusy (s : State) (n : Nat) : Bool :=
  !(s.fx n).out.isEmpty || ((fnChans s n).any fun y => !(chanOpen (s.hc y.2.1 y.2.2)).isEmpty)
  || (s.mill.presented.any fun x => pktOf s n x.pkt) || (s.mill.waiting.any fun x => pktOf s n x.pkt)
  || (s.mill.queues.any fun x => x.2.any fun y => pktOf s n y.pkt && !y.pkt.dead)

/-- The freeze completes. -/
def freezeEnd (s : State) (n result : Nat) : State :=
  migEnd (syncFn n (s.modFx n fun x => { x with freezing := false, frozen := true, incomplete := decide (result = 2) })) result

/-- Start of a freeze. -/
def freeze (s : State) (n : Nat) : State :=
  let st := fnState s n
  if (fnVcs s n).isNone ∨ !(st == 1 || st == 2 || st == 5) ∨ (s.fx n).freezing then migEnd s 1
  else
    let s := (s.modFx n fun x => { x with freezing := true }).put F.HEP_MIG_CMD_BUSY 1
    let s := (fnChans s n).foldl (fun s y => pauseBit s y.2.1 y.2.2 2 true) s
    if fnBusy s n then s else freezeEnd s n 0

/-- FREEZE_COMPLETE (R248). -/
def execFreezeComplete (n : Fin 1024) (s : State) : Host.Outcome State Fault Refusal :=
  .next (if (s.fx n).freezing ∧ !fnBusy s n then freezeEnd s n 0 else s)

/-- FREEZE_TIMEOUT (R248): reads still outstanding at TAG_TO are reclaimed, and the freeze is incomplete. -/
def execFreezeTimeout (n : Fin 1024) (s : State) : Host.Outcome State Fault Refusal :=
  .next (
    if !(s.fx n).freezing then s
    else if (s.fx n).out.isEmpty then (if fnBusy s n then s else freezeEnd s n 0)
    else freezeEnd (reclaim s n) n 2)

/-! ## Save and restore (R249 to R251, R277) -/

/-- CRC-32, reflected, one bit. -/
def crc32Bit (c : Nat) : Nat := if c % 2 = 1 then c / 2 ^^^ 0xEDB88320 else c / 2

/-- CRC-32 of a byte string (R249). -/
def crc32 (b : Bytes) : Nat :=
  (b.foldl (fun c x => crc32Bit (crc32Bit (crc32Bit (crc32Bit (crc32Bit (crc32Bit (crc32Bit (crc32Bit (c ^^^ x.toNat)))))))))
    0xFFFFFFFF) ^^^ 0xFFFFFFFF

/-- The descriptor that a channel's context names. -/
def ctxDesc (s : State) (e c : Nat) : Option HopDesc :=
  match (s.hc e c).work with
  | d :: _ => some d
  | [] => (s.hc e c).resume.or (s.hc e c).halted

/-- The 40 bytes of a channel context (R277). -/
def ctxBytes (s : State) (e c : Nat) : Bytes :=
  let d := ctxDesc s e c
  let f := fun (g : HopDesc → Nat) => (d.map g).getD 0
  let cur := f fun d => match d.loc with
    | some (a, sp) => a / 64 * 64 + 2 * sp + 1
    | none => 0
  let code := if chState s e c = 4 then s.get (F.HOP_CH_STATUS_CODE e c) else 0
  leBytes 8 (s.rd (R.HOP_CH_CQ e c)).toNat ++ leBytes 8 cur ++ leBytes 4 (f fun d => if d.words = [] then d.start else d.done)
  ++ leBytes 4 (f fun d => if d.words = [] then d.skip else d.index) ++ leBytes 4 (f (fun d => d.n) % 2 ^ 17 + code * 2 ^ 24)
  ++ leBytes 4 (s.hc e c).phase.toNat ++ leBytes 8 (f fun d => d.result)

/-- The 64 bytes of queue q in a save record (R249). -/
def queueBytes (s : State) (n q : Nat) : Bytes :=
  match queueChan s n q with
  | none => List.replicate 16 0#8 ++ leBytes 4 (tget 0 (s.fx n).tails q) ++ List.replicate 44 0#8
  | some (e, c) =>
    leBytes 8 (s.get (F.HOP_CH_RING_BASE e c) * 64) ++ leBytes 4 (ringSize s e c) ++ leBytes 4 (s.get (F.HOP_CH_PTR_HEAD e c))
    ++ leBytes 4 (tget 0 (s.fx n).tails q)
    ++ leBytes 4 (if chState s e c = 3 ∧ (ctxDesc s e c).isSome then 1 else 0) ++ ctxBytes s e c

/-- The length of a save record. -/
def recLen (q v : Nat) : Nat := 72 + 64 * q + 16 * v

/-- The save record of function n with a value of its CRC field. -/
def saveRec (s : State) (n crc : Nat) : Bytes :=
  let x := s.fx n
  let q := s.get (F.HEP_FN_CFG_QCOUNT n)
  let v := s.get (F.HEP_FN_CFG_VEC_COUNT n)
  [0x4D#8, 0x47#8, 0x52#8, 0x54#8] ++ leBytes 2 1 ++ leBytes 2 n ++ leBytes 4 (recLen q v) ++ leBytes 1 q ++ leBytes 1 v
  ++ leBytes 2 (fnShare s n) ++ leBytes 4 x.irq ++ leBytes 2 x.cmd ++ leBytes 2 x.devCtl ++ leBytes 2 x.devCtl2
  ++ leBytes 2 (x.msixCtl + (max 1 v - 1)) ++ leBytes 4 0 ++ leBytes 4 crc ++ List.replicate 28 0#8
  ++ (List.range q).flatMap (queueBytes s n) ++ (List.range v).flatMap (fun k => leBytes 16 (msixEnt s n k)) ++ leBytes 8 x.pba

/-- Write one line of a record to a proxied extent. -/
def savePiece (n base : Nat) (b : Bytes) (s : State) (r : Nat × Nat) : State :=
  let l := linePart (r.1 % 64) (slice b (r.1 - base) r.2)
  present s ⟨.bridge n, { cls := .mRwD, op := if r.2 = 64 then .mWr else .mWrPtl, addr := r.1 / 64 * 64, data := l.1, be := l.2,
                          len := 128, src := .bridge n }, none, none⟩

/-- Is an internal address that of DRAM behind the pool region? -/
def inDram (s : State) (a : Nat) : Bool :=
  decide (0x100000000000 ≤ a) && decide (a < 0x100000000000 + dramExts s * 2 ^ 28)

/-- Store bytes at an internal address of the scratchpad or the pool. -/
def recPut (s : State) (n a : Nat) (b : Bytes) : State :=
  if a < 0x1000000 then (spdPut s a b []).1
  else if inDram s a then
    let o := a - 0x100000000000
    ((List.range ((b.length + 63) / 64)).map (o / 64 + ·)).foldl (fun s l => setPoison s l false) (dramWr s o b)
  else (rowsOf 64 (b.length + 1) a b.length).foldl (savePiece n a b) s

/-- n bytes at an internal address; ext are the bytes that an expander holds there. -/
def recGet (s : State) (a n : Nat) (ext : Bytes) : Bytes :=
  if a < 0x1000000 then s.spdRd a n else if inDram s a then dramRd s (a - 0x100000000000) n else slice ext 0 n

/-- Save (R249, R250). -/
def save (s : State) (n : Nat) : State :=
  let a := s.get F.HEP_MIG_ADDR_ADDR
  let len := recLen (s.get (F.HEP_FN_CFG_QCOUNT n)) (s.get (F.HEP_FN_CFG_VEC_COUNT n))
  if !(s.fx n).frozen then migEnd s 1
  else if (s.fx n).incomplete then migEnd s 2
  else if a % 64 ≠ 0 ∨ !mapHolds a len then migEnd s 6
  else migEnd (recPut s n a (saveRec s n (crc32 (saveRec s n 0)))) 0

/-- The descriptor of a context, to be fetched again. -/
def ctxLoad (b : Bytes) : Option HopDesc :=
  let cur := leN b 8 8
  if cur % 2 = 0 then none
  else some { words := [], loc := some (cur / 64 * 64, cur / 2 % 4), first := true, n := leN b 0x18 4 % 2 ^ 17,
              issued := leN b 0x10 4, done := leN b 0x10 4, result := leN b 0x20 8, skip := leN b 0x14 4, start := leN b 0x10 4 }

/-- Load queue q of a record, its 64 bytes being b. -/
def loadQueue (n : Nat) (rec : Bytes) (s : State) (q : Nat) : State :=
  match queueChan s n q with
  | none => s
  | some (e, c) =>
    let b := slice rec (0x40 + 64 * q) 64
    let x := slice b 24 40
    let d := ctxLoad x
    let code := u8 x 0x1B
    let size := leN b 8 4
    let head := leN b 12 4
    let tail := leN b 16 4
    let k := max 1 size
    let live := d.isSome && code == 0
    let pos := if live then (head + 1) % k else head % k
    let s := (s.put (F.HOP_CH_RING_BASE e c) (leN b 0 8 / 64)).put (F.HOP_CH_RING_SIZE e c) (if size = 0 then 0 else Nat.log2 size)
    let s := s.wr (R.HOP_CH_CQ e c) (BitVec.ofNat 64 (leN x 0 8) &&& ~~~(6#64))
    let s := ((s.put (F.HOP_CH_PTR_HEAD e c) head).put (F.HOP_CH_PTR_TAIL e c) (tail % k)).put (F.HOP_CH_PTR_PASSED e c) pos
    let s := s.put (F.HOP_CH_STATUS_CODE e c) code
    let s := s.modHc e c fun y => { y with
      phase := (leN x 0x1C 4).testBit 0, work := [], shadow := none, fetch := none, limit := none, abort := false
      resume := if live then d else none
      halted := if code ≠ 0 then d.map fun d => { d with again := true } else none }
    let s := if chState s e c = 0 ∨ chState s e c = 5 then s else setCh s e c (if code ≠ 0 then 4 else if live then 3 else 1)
    s.modFx n fun y => { y with
      tails := tput 0 y.tails q tail
      passed := tput 0 y.passed q (if live then 1 else 0)
      held := y.held ++ List.replicate ((tail % k + k - pos) % k) q }

/-- Restore (R251). -/
def restore (s : State) (n : Nat) (ext : Bytes) : State :=
  let a := s.get F.HEP_MIG_ADDR_ADDR
  let h := recGet s a 72 ext
  let q := u8 h 0x0C
  let v := u8 h 0x0D
  let len := recLen q v
  let r := recGet s a len ext
  if !(s.fx n).frozen then migEnd s 1
  else if a % 64 ≠ 0 ∨ !mapHolds a 72 then migEnd s 6
  else if slice h 0 4 ≠ [0x4D#8, 0x47#8, 0x52#8, 0x54#8] ∨ leN h 4 2 ≠ 1 ∨ 64 < q ∨ 64 < v ∨ leN h 8 4 ≠ len ∨ !mapHolds a len
      ∨ crc32 (r.take 0x20 ++ List.replicate 4 0#8 ++ r.drop 0x24) ≠ leN h 0x20 4 then migEnd s 3
  else if q ≠ s.get (F.HEP_FN_CFG_QCOUNT n) ∨ v ≠ s.get (F.HEP_FN_CFG_VEC_COUNT n)
      ∨ ((List.range q).any fun k => (queueChan s n k).isNone) then migEnd s 4
  else
    let s := s.put (F.HEP_FN_CFG_SHARE n) (leN h 0x0E 2)
    let s := s.modFx n fun x => { x with
      irq := leN h 0x10 4, cmd := leN h 0x14 2, devCtl := leN h 0x16 2 % 2 ^ 15, devCtl2 := leN h 0x18 2
      msixCtl := leN h 0x1A 2 &&& 0xC000, held := [], passed := [], tails := []
      msix := (List.range v).foldl (fun t k => tput 0 t k (leN r (0x40 + 64 * q + 16 * k) 16 ^^^ msixRst)) []
      pba := leN r (0x40 + 64 * q + 16 * v) 8, incomplete := false }
    migEnd (syncFn n ((List.range q).foldl (loadQueue n r) s)) 0

/-- Reads of a channel whose tags have been reclaimed are given up as its function goes on. -/
def dropLostReads (n : Nat) (s : State) (y : Nat × Nat × Nat) : State :=
  let lost := (chanOpen (s.hc y.2.1 y.2.2)).filter fun id =>
    decide (2 ^ 64 + 1024 * n ≤ id) && decide (id < 2 ^ 64 + 1024 * (n + 1)) && !((s.fx n).out.any fun t => hostId n t.1 == id)
  lost.foldl (fun s id => hopAnswer s y.2.1 y.2.2 id [] (some 3)) s

/-- Unfreeze (R251). -/
def unfreeze (s : State) (n : Nat) : State :=
  if !(s.fx n).frozen then migEnd s 1
  else
    let s := s.modFx n fun x => { x with frozen := false, incomplete := false }
    let s := (fnChans s n).foldl (fun s y => pauseBit (dropLostReads n s y) y.2.1 y.2.2 2 false) s
    migEnd (msixFlush (fnPass s n) n) 0

/-- Perform OP of HEP_MIG_CMD. -/
def migCmd (s : State) (ext : Bytes) : State :=
  let n := s.get F.HEP_MIG_CMD_FN
  let op := s.get F.HEP_MIG_CMD_OP
  if op = 0 ∨ 4 < op then s
  else if n = 0 then migEnd s 1
  else if op = 1 then freeze s n
  else if op = 2 then save s n
  else if op = 3 then restore s n ext
  else unfreeze s n

/-- A write of HEP_MIG_CMD; START while BUSY is refused. -/
def wrMigCmd (ext : Bytes) (w : Wr) (s : State) : State :=
  if w.sets F.HEP_MIG_CMD_START ∧ s.bit F.HEP_MIG_CMD_BUSY then s.refuse R.HEP_MIG_CMD.addr w.mid w.size
  else
    let s := s.writeReg R.HEP_MIG_CMD w
    if w.sets F.HEP_MIG_CMD_START then migCmd s ext else s

/-- The write of HEP_MIG_CMD that performs an OP on function n. -/
def migWr (mid op n : Nat) : Wr := wrFull mid false (BitVec.ofNat 64 (2 ^ 31 + op * 2 ^ 27 + n))

/-- FREEZE (R248). -/
def execFreeze (mid : Mid) (n : Fin 1024) (s : State) : Host.Outcome State Fault Refusal := .next (wrMigCmd [] (migWr mid 1 n) s)

/-- SAVE (R249). -/
def execSave (mid : Mid) (n : Fin 1024) (s : State) : Host.Outcome State Fault Refusal := .next (wrMigCmd [] (migWr mid 2 n) s)

/-- RESTORE (R251): ext are the bytes that an expander holds at HEP_MIG_ADDR. -/
def execRestore (mid : Mid) (n : Fin 1024) (ext : Bytes) (s : State) : Host.Outcome State Fault Refusal :=
  .next (wrMigCmd ext (migWr mid 3 n) s)

/-- UNFREEZE (R251). -/
def execUnfreeze (mid : Mid) (n : Fin 1024) (s : State) : Host.Outcome State Fault Refusal :=
  .next (wrMigCmd [] (migWr mid 4 n) s)

/-! ## Downstream port containment (R238 to R240) -/

/-- Does an error logged at a vPPB trigger containment: unmasked, and as severe as DPC Trigger Enable asks? -/
def dpcDue (x : VppbX) : Bool :=
  (List.range 32).any fun b =>
    x.aer.unc.testBit b && !x.aer.uncMask.testBit b
    && (x.dpcEnable == 2 || x.dpcEnable == 1 && x.aer.uncSev.testBit b)

/-- The port of a whole-device binding of vPPB k of VCS v. -/
def wholePort (s : State) (v k : Nat) : Option Nat :=
  match bindOf s v k with
  | none => none
  | some n =>
    if s.get (F.RTE_BIND_KIND n) = 0 ∧ s.get (F.RTE_BIND_LDID n) = 0xFFFF ∧ s.get (F.PORT_CFG_ROLE (s.get (F.RTE_BIND_PORT n))) = 2 then
      some (s.get (F.RTE_BIND_PORT n))
    else none

/-- Containment of vPPB k of VCS v; the Error Source ID is a free value, as no message names a source. -/
def contain (s : State) (v k reason : Nat) : State :=
  if (s.vx v k).contained ∨ isFnVppb s v k then s
  else
    let s := (s.modVx v k fun x =>
      { x with contained := true, dpcReason := reason, dpcSource := Config.freeNat s.fresh % 65536 }).bump
    match wholePort s v k with
    | none => s
    | some p => (linkDown s p 6 .none).modPx p fun x => { x with dpc := some (v, k) }

/-- DPC_TRIGGER (R238): by DPC Software Trigger, or by an unmasked uncorrectable error that is logged at the vPPB. -/
def execDpcTrigger (v : Fin 64) (k : Fin 256) (sw : Bool) (s : State) : Host.Outcome State Fault Refusal :=
  .next (
    if sw then (if (s.vx v k).dpcEnable = 0 then s else contain s v k 3)
    else if dpcDue (s.vx v k) then contain s v k 0 else s)

/-- May DPC Trigger Status be cleared: flush complete, no request outstanding (R240)? -/
def dpcClearOk (s : State) (v k : Nat) : Bool :=
  match bindOf s v k with
  | none => true
  | some n =>
    s.get (F.RTE_BIND_OUT_OUTSTANDING n) == 0
    && (match wholePort s v k with
        | some p => tget 0 s.mill.stop p != 1
        | none => true)

/-- A port whose containment is lifted enters Detect. -/
def dpcLift (v k : Nat) (s : State) (x : Nat × PortX) : State :=
  if x.2.dpc ≠ some (v, k) then s
  else
    let s := s.modPx x.1 fun y => { y with dpc := none }
    if ltssm s x.1 = 6 ∧ !linkOff s x.1 ∧ (s.px x.1).wait = .none then s.put (F.PORT_LINK_STATUS_LTSSM x.1) 0 else s

/-- Release of a contained vPPB. -/
def dpcClear (s : State) (v k : Nat) : State :=
  if !(s.vx v k).contained ∨ !dpcClearOk s v k then s
  else s.ports.foldl (dpcLift v k) (s.modVx v k fun x => { x with contained := false })

/-- DPC_CLEAR (R240). -/
def execDpcClear (v : Fin 64) (k : Fin 256) (s : State) : Host.Outcome State Fault Refusal := .next (dpcClear s v k)

end Sys2Proof.Machine
end

