-- ==== Sys2Proof/Machine/PortDown.lean ====
section
/-! DEFINITION. What follows a link that has gone down: the flush, surprise removal, the reset of a VCS (R130, R162, R192,
R236, R430). -/

namespace Sys2Proof.Machine

/-! ## VCS reset (R430) -/

/-- A vPPB after the reset of its VCS: sticky fields and what its slot and link show stay. -/
def VppbX.vcsReset (x : VppbX) : VppbX :=
  { aer := x.aer, contained := x.contained, dpcReason := x.dpcReason, dpcSource := x.dpcSource, present := x.present,
    linkUp := x.linkUp, presentChanged := x.presentChanged, linkChanged := x.linkChanged, attention := x.attention, powerFault := x.powerFault }

/-- The unlocked decoders of VCS v are no longer committed. -/
def uncommit (s : State) (v : Nat) : State :=
  (List.range (s.get (F.RTE_VCS_CFG_DEC_COUNT v))).foldl (fun s i =>
    let e := s.get (F.RTE_VCS_TBL_DEC_FIRST v) + i
    let b := tblEntry s 2 e
    if (u8 b 8).testBit 1 ∨ !(u8 b 8).testBit 0 then s
    else tblPut s 2 e (b.take 8 ++ [BitVec.ofNat 8 (u8 b 8 - 1)] ++ b.drop 9)) s

/-- A downstream port of a whole-device binding passes through Hot Reset. -/
def hotReset (s : State) (p : Nat) : State :=
  if (s.px p).up then (linkDown s p 0 .none).modPx p fun x => { x with hotReset := true } else s

/-- Downstream ports with a whole-device binding in VCS v. -/
def wholePorts (s : State) (v : Nat) : List Nat :=
  (List.range (min 256 (s.get (F.RTE_VCS_CFG_VPPBS v)))).filterMap (wholePort s v)

/-- Is pool LD n bound in VCS v (R229)? -/
def ldIn (s : State) (v n : Nat) : Bool :=
  (List.range 1024).any fun b =>
    s.bit (F.RTE_BIND_VALID b) && s.get (F.RTE_BIND_KIND b) == 1 && s.get (F.RTE_BIND_VCS b) == v && s.get (F.RTE_BIND_LDID b) == n

/-- FLR of pool LD n, whose configuration registers stand at 1024 + n beside those of the functions: no extent is dropped. -/
def ldReset (s : State) (n : Nat) : State := s.modFx (1024 + n) fun x => { aer := x.aer }

/-- The effects of the reset of VCS v. -/
def vcsResetDo (s : State) (v : Nat) : State :=
  let s := s.setBit F.CRP_VCS_RESET_ACTIVE v
  let s := s.modRte fun r => { r with
    vppb := (r.vppb.filter fun x => x.1 / 256 == v).foldl (fun t x => tput {} t x.1 x.2.vcsReset) r.vppb
    usp := tmod {} r.usp v fun u => { aer := u.aer } }
  let s := uncommit s v
  let s := (fnsWhere fun n => fnIn s n v).foldl (shutStart .flr) s
  let s := ((List.range 64).filter (ldIn s v)).foldl ldReset s
  (wholePorts s v).foldl hotReset s

/-- The reset of VCS v starts; a further cause joins one in progress. -/
def vcsReset (s : State) (v : Nat) : State := if s.hasBit F.CRP_VCS_RESET_ACTIVE v then s else vcsResetDo s v

/-! ## PORT_DOWN -/

/-- Binds that wait on port p end with code 3 (R158). -/
def dropBinds (s : State) (p : Nat) : State :=
  (s.rte.binds.filter fun b => bindWordGet b.entry (F.RTE_BIND_PORT 0) == p && bindWordGet b.entry (F.RTE_BIND_KIND 0) == 0).foldl
    (fun s b => bindEnd (bindDrop s b.n) b.cmd 3) s

/-- Was the link taken down on purpose: disabled, reset, or without slot power? -/
def expectedDown (s : State) (p : Nat) : Bool :=
  linkOff s p || (s.px p).hotReset
  || (s.get (F.PORT_CFG_SLC p) != 0xFF && !s.bit (F.SLC_CTRL_EN (s.get (F.PORT_CFG_SLC p))))

/-- Surprise Down at the vPPB of a whole-device binding of port p (R236). -/
def surpriseDown (s : State) (p : Nat) : State :=
  match (if expectedDown s p then none else bindFrom s p 0xFFFF) with
  | none => s
  | some n =>
    if s.get (F.RTE_BIND_LDID n) ≠ 0xFFFF ∨ s.get (F.PORT_CFG_ROLE p) ≠ 2 then s
    else
      let v := s.get (F.RTE_BIND_VCS n)
      (s.modVx v (s.get (F.RTE_BIND_VPPB n)) fun x => { x with aer := x.aer.logUnc 5 none }).raise (1856 + 2 * v + 1)

/-- An upstream port that is down: host removal, and the reset of its VCS. -/
def upstreamDown (s : State) (p : Nat) : State :=
  match (if s.get (F.PORT_CFG_ROLE p) = 1 then vcsOfPort s p else none) with
  | some v => vcsReset (autoRemove s p) v
  | none => s

/-- A request of MGT_DSA towards port p ends as the port goes down (R323). -/
def dsaCut (s : State) (p : Nat) : State :=
  if s.bit F.MGT_DSA_CMD_BUSY && s.get F.MGT_DSA_CMD_PORT == p then
    ((s.put F.MGT_DSA_CMD_BUSY 0).put F.MGT_DSA_CMD_RESULT 4).put F.MGT_DONE_DSA 1
  else s

/-- PORT_DOWN (R130): a port reported down is acted on. -/
def execPortDown (p : Fin 96) (s : State) : Host.Outcome State Fault Refusal :=
  .next (
    if !s.mill.reports.contains p.val then s
    else
      let s := s.modMill fun m => { m with reports := m.reports.erase p.val }
      let s := surpriseDown (dropBinds (flushPort p (dsaCut s p)) p) p
      upstreamDown (s.modPx p fun x => { x with hotReset := false }) p)

end Sys2Proof.Machine
end

