-- ==== Sys2Proof/Machine/Millwright.lean ====
section
/-! DEFINITION. Millwright: cores, interrupts, watchdogs, transports and MGT_DSA (R302 to R318, R323). -/

namespace Sys2Proof.Machine

def State.modMgt (s : State) (f : MgtSt → MgtSt) : State := { s with mgt := f s.mgt }

/-! ## Cores (R305, R307) -/

/-- Is core k released and not failed? -/
def coreAlive (s : State) (k : Nat) : Bool := s.hasBit F.MGT_STATUS_ALIVE k

/-- The eight cores. -/
def cores : List Nat := [0, 1, 2, 3, 4, 5, 6, 7]

/-- Lines that core k's L1 held are no longer there. -/
def l1Drop (s : State) (k : Nat) : State :=
  s.modMgt fun m => { m with cache := m.cache.map fun x => (x.1, x.2.map fun l => { l with l1 := clearBits l.l1 (2 ^ k) }) }

/-- Core k leaves reset at the entry address. -/
def coreStart (s : State) (k : Nat) : State :=
  ((s.setBit F.MGT_STATUS_ALIVE k).modMgt fun m => { m with resv := tput none m.resv k none }).out
    (.coreStart k (s.get F.MGT_BOOT_ENTRY))

/-- Step 9 of R47: the cores leave reset with their caches invalid. -/
def coresRelease (s : State) : State :=
  (cores.filter fun k => !s.hasBit F.MGT_STATUS_FAILED k).foldl coreStart (s.modMgt fun m => { m with cache := [] })

/-- A software interrupt becomes pending. -/
def swiSet (s : State) (k : Nat) : State := (s.setBit F.MGT_SWI_PEND k).out (.irq k 0)

/-- Core k is declared failed (R307). -/
def coreFail (s : State) (k : Nat) : State :=
  if s.hasBit F.MGT_STATUS_FAILED k then s
  else
    let s := ((s.setBit F.MGT_STATUS_FAILED k).clrBit F.MGT_STATUS_ALIVE k).raise (64 + k)
    let s := (l1Drop s k).modMgt fun m => { m with
      resv := tput none m.resv k none, reads := m.reads.filter fun r => r.core != k || r.write }
    let s := if s.get F.MGT_STATUS_ALIVE = 0 then s.put F.MGT_STATUS_READY 0 else s
    (cores.filter (coreAlive s)).foldl swiSet s

/-- CORE_FAILED (R307). -/
def execCoreFailed (k : Fin 8) (s : State) : Host.Outcome State Fault Refusal := .next (coreFail s k)

/-- A core that is not failed starts again, its L1 caches invalid. -/
def coreRestart (s : State) (k : Nat) : State :=
  if s.hasBit F.MGT_STATUS_FAILED k then s
  else coreStart ((l1Drop s k).modMgt fun m => { m with reads := m.reads.filter fun r => r.core != k || r.write }) k

/-- A write of MGT_CORE_CTRL. -/
def wrCoreCtrl (w : Wr) (s : State) : State :=
  let v := (w.v &&& w.mask).toNat
  let s := s.writeReg R.MGT_CORE_CTRL w
  let s := (cores.filter fun k => v.testBit (8 + k)).foldl coreFail s
  (cores.filter fun k => v.testBit k).foldl coreRestart s

/-- CORE_FAIL (R307). -/
def execCoreFail (mid : Mid) (k : Fin 8) (s : State) : Host.Outcome State Fault Refusal :=
  .next (wrCoreCtrl (wrFull mid false (BitVec.ofNat 64 (2 ^ (8 + k.val)))) s)

/-- CORE_RESTART (R307). -/
def execCoreRestart (mid : Mid) (k : Fin 8) (s : State) : Host.Outcome State Fault Refusal :=
  .next (wrCoreCtrl (wrFull mid false (BitVec.ofNat 64 (2 ^ k.val))) s)

/-! ## Interrupts (R306) -/

/-- Is the timer interrupt of core k pending? -/
def timerPending (s : State) (k : Nat) : Bool := decide (s.get (F.MGT_MTIMECMP_CMP k) ≤ s.get F.MGT_MTIME_TIME)

/-- TIMER_INTERRUPT (R306): mtime has reached MTIMECMP k. -/
def execTimerInterrupt (k : Fin 8) (s : State) : Host.Outcome State Fault Refusal :=
  .next (if timerPending s k ∧ coreAlive s k then s.out (.irq k 1) else s)

/-- A write of MGT_SWI_SET. -/
def wrSwiSet (w : Wr) (s : State) : State :=
  (cores.filter fun k => ((w.v &&& w.mask).toNat).testBit k).foldl swiSet (s.writeReg R.MGT_SWI_SET w)

/-- SOFTWARE_INTERRUPT (R306). -/
def execSoftwareInterrupt (mid : Mid) (set : BitVec 8) (s : State) : Host.Outcome State Fault Refusal :=
  .next (wrSwiSet (wrFull mid false (BitVec.ofNat 64 set.toNat)) s)

/-- Slots of a receive or transmit ring. -/
def ringSlots (n : Nat) : Nat := if 2 ≤ n ∧ n ≤ 10 then 2 ^ n else 4

/-- Scratchpad offset of slot i of the receive ring of transport t. -/
def rxSlot (s : State) (t i : Nat) : Nat := s.get (F.MGT_XPORT_RX_BASE t) * 2048 + 2048 * i

def txSlot (s : State) (t i : Nat) : Nat := s.get (F.MGT_XPORT_TX_BASE t) * 2048 + 2048 * i

/-- Does the slot at offset a belong to the device? -/
def slotOwn (s : State) (a : Nat) : Bool := (u8 (s.spdRd (a + 4) 1) 0).testBit 0

/-- Has the receive ring of transport t a full slot: one that has been filled and given to software? -/
def rxFull (s : State) (t : Nat) : Bool :=
  s.bit (F.MGT_XPORT_RX_EN t)
  && (List.range (ringSlots (s.get (F.MGT_XPORT_RX_SIZE t)))).any fun i =>
    !slotOwn s (rxSlot s t i) && leN (s.spdRd (rxSlot s t i) 2) 0 2 != 0

/-- Is the doorbell of the PF mailbox set? -/
def mboxRings (s : State) : Bool := (tget 0#8 s.mgt.mbox 4).getLsbD 0

/-- Summary of Brake's interrupts. -/
def brkSummary (s : State) : Nat := (List.range 64).foldl (fun a j => if s.get (F.BRK_IRQ_SRC j) = 0 then a else a + 2 ^ j) 0

/-- Is interrupt line i pending (R306)? -/
def linePending (s : State) (i : Nat) : Bool :=
  if i < 16 then s.get (F.HOP_ENG_IRQ_CH i) != 0
  else if i = 16 then brkSummary s != 0
  else if i = 17 then mboxRings s
  else if i = 18 then ([1, 2, 3, 4] : List Nat).any (rxFull s)
  else if i = 19 then s.mgt.eth
  else if i = 20 then s.rd R.MGT_DONE != 0#64
  else false

/-- MGT_IRQ_PEND. -/
def irqPend (s : State) : Nat := (List.range 32).foldl (fun a i => if linePending s i then a + 2 ^ i else a) 0

/-- The core that a line is delivered to: the routed one, or the lowest alive core where that one has failed. -/
def lineCore (s : State) (i : Nat) : Option Nat :=
  let k := s.get (F.MGT_IRQ_ROUTE_CORE i)
  if !s.bit (F.MGT_IRQ_ROUTE_EN i) then none
  else if s.hasBit F.MGT_STATUS_FAILED k then cores.find? (coreAlive s) else some k

/-- Brake's non-maskable trap reaches every alive core. -/
def nmiAll (s : State) : State :=
  (cores.filter (coreAlive s)).foldl (fun s k => s.out (.nmi k (s.get F.MGT_NMI_VECTOR * 2))) s

/-! ## Watchdogs (R308) -/

/-- A write of MGT_WDOG k. -/
def wrWdog (k : Nat) (w : Wr) (s : State) : State :=
  let s := s.writeReg (R.MGT_WDOG k) w
  if w.sets (F.MGT_WDOG_KICK k) then s.modMgt fun m => { m with wdog := tput 0 m.wdog k (s.get F.MGT_MTIME_TIME) } else s

/-- WATCHDOG_KICK (R308). -/
def execWatchdogKick (mid : Mid) (k : Fin 8) (s : State) : Host.Outcome State Fault Refusal :=
  .next (wrWdog k (wrField s mid false (F.MGT_WDOG_KICK k) 1) s)

/-- WATCHDOG_EXPIRE (R308). -/
def execWatchdogExpire (k : Fin 8) (s : State) : Host.Outcome State Fault Refusal :=
  .next (
    if s.bit (F.MGT_WDOG_EN k) then
      (s.raise (72 + k.val)).modMgt fun m => { m with wdog := tput 0 m.wdog k (s.get F.MGT_MTIME_TIME) }
    else s)

/-- READY_SET (R312). -/
def execReadySet (mid : Mid) (s : State) : Host.Outcome State Fault Refusal :=
  .next (s.writeReg R.MGT_STATUS (wrField s mid false F.MGT_STATUS_READY 1))

/-! ## Transports (R312 to R315) -/

/-- Place a packet in the receive ring of transport t, or discard it where the slot is not the device's. -/
def rxPlace (s : State) (t src : Nat) (d : Bytes) : State :=
  if !s.bit (F.MGT_XPORT_RX_EN t) then s
  else
    let i := tget 0 s.mgt.rxNext t
    let a := rxSlot s t i
    if !slotOwn s a then s.inc (F.MGT_XPORT_RX_DROPS t)
    else
      let own := BitVec.ofNat 8 (u8 (s.spdRd (a + 4) 1) 0 / 2 * 2)
      let s := (spdPut s a (leBytes 2 d.length ++ leBytes 2 src ++ [own]) []).1
      let s := (spdPut s (a + 16) (d.take 2032) []).1
      s.modMgt fun m => { m with rxNext := tput 0 m.rxNext t ((i + 1) % ringSlots (s.get (F.MGT_XPORT_RX_SIZE t))) }

/-- Is an MCTP packet of transport t accepted (R312, R313)? -/
def mctpOk (s : State) (x : McIn) : Bool :=
  s.bit F.MGT_STATUS_READY && (x.t != 3 || s.hasBit F.MGT_VDM_EN_VCS x.vcs)

/-- TRANSPORT_RECEIVE (R314): a packet as it arrives on I3C or SMBus (transport, source, bytes), or the oldest MCTP packet that
the Millrace has delivered. -/
def execTransportReceive (x : Option (Bool × BitVec 16 × Bytes)) (s : State) : Host.Outcome State Fault Refusal :=
  .next (
    match x with
    | some (smbus, src, d) =>
      let t := if smbus then 2 else 1
      if s.bit F.MGT_STATUS_READY then rxPlace s t src.toNat d else s.out (.nack t)
    | none =>
      match s.mgt.mctpIn with
      | [] => s
      | y :: ys =>
        let s := s.modMgt fun m => { m with mctpIn := ys }
        if mctpOk s y then rxPlace s y.t y.src y.data else s)

/-- Send the bytes of a transmit slot. -/
def txSend (s : State) (t dst : Nat) (d : Bytes) : State :=
  let q : Pkt := { cls := .mctp, op := .mctpMsg, data := d, len := 16 + d.length, src := .core 8 }
  if t = 4 then present s ⟨.none, { q with dpid := some (dst % 4096) }, none, none⟩
  else if t = 3 then present s ⟨.none, { q with rid := dst }, some (uport s (dst % 64)), none⟩
  else if t = 5 then (s.modMgt fun m => { m with eth := true }).out (.frame d)
  else s.out (.mctp t dst d)

/-- TRANSPORT_SEND (R314): the next slot of the transmit ring of transport t is sent once it belongs to the device. -/
def execTransportSend (t : Fin 6) (s : State) : Host.Outcome State Fault Refusal :=
  .next (
    if t.val = 0 ∨ !s.bit (F.MGT_XPORT_RX_EN t) then s
    else
      let i := tget 0 s.mgt.txNext t
      let a := txSlot s t i
      if !slotOwn s a then s
      else
        let h := s.spdRd a 16
        let s := txSend s t (leN h 2 2) (s.spdRd (a + 16) (min 2032 (leN h 0 2)))
        let s := (spdPut s (a + 4) [BitVec.ofNat 8 (u8 h 4 / 2 * 2)] []).1
        s.modMgt fun m => { m with txNext := tput 0 m.txNext t ((i + 1) % ringSlots (s.get (F.MGT_XPORT_TX_SIZE t))) })

/-- n bytes, most significant first. -/
def beN (b : Bytes) (i n : Nat) : Nat := ((b.drop i).take n).foldl (fun a x => a * 256 + x.toNat) 0

/-- The answer to an ARP request for the device's address: the frame with the roles exchanged. -/
def arpReply (mac ip : Nat) (f : Bytes) : Bytes :=
  slice f 6 6 ++ beBytes 6 mac ++ slice f 12 8 ++ beBytes 2 2 ++ beBytes 6 mac ++ beBytes 4 ip ++ slice f 22 10

/-- Is a frame an ARP request (Ethernet, IPv4) for address ip? -/
def isArp (ip : Nat) (f : Bytes) : Bool :=
  beN f 12 2 == 0x0806 && beN f 14 2 == 1 && beN f 16 2 == 0x0800 && beN f 20 2 == 1 && beN f 38 4 == ip

/-- Is a frame an unfragmented IPv4 UDP datagram to ip, port 7450, of the binding's version? Answers the offset of the UDP
header. -/
def udpAt (ip : Nat) (f : Bytes) : Option Nat :=
  let u := 14 + 4 * (u8 f 14 % 16)
  if beN f 12 2 = 0x0800 ∧ u8 f 14 / 16 = 4 ∧ u8 f 23 = 17 ∧ beN f 20 2 % 2 ^ 14 = 0 ∧ beN f 30 4 = ip
      ∧ beN f (u + 2) 2 = 7450 ∧ u8 f (u + 8) = 1 then some u else none

/-- ETHERNET_FRAME (R315): a received frame, fcs saying that its check sequence is good. -/
def execEthernetFrame (f : Bytes) (fcs : Bool) (s : State) : Host.Outcome State Fault Refusal :=
  .next (
    let dst := beN f 0 6
    let mac := s.get F.MGT_NET_CFG_MAC
    let ip := s.get F.MGT_NET_IP_ADDR
    if !fcs ∨ !s.bit F.MGT_NET_CFG_EN ∨ (dst ≠ mac ∧ dst ≠ 2 ^ 48 - 1) ∨ !s.bit F.MGT_STATUS_READY ∨ 1514 < f.length then s
    else
      let s := (rxPlace s 5 0 f).modMgt fun m => { m with eth := true }
      if !s.bit F.MGT_NET_IP_VALID then s
      else if isArp ip f then s.out (.frame (arpReply mac ip f))
      else match udpAt ip f with
        | some u => s.modMgt fun m => { m with peer := some ⟨beN f 6 6, beN f 26 4, beN f u 2, leN f (u + 10) 2⟩ }
        | none => s)

/-! ## MGT_DSA (R323) -/

/-- Is a request of OP and BE of a size that MGT_DSA issues? -/
def dsaSizeOk (op be : Nat) : Bool := be != 0 && (decide (2 ≤ op) || decide (be < 16))

/-- The request in the registers. -/
def dsaReq (s : State) : DsaReq :=
  { op := s.get F.MGT_DSA_CMD_OP, port := s.get F.MGT_DSA_CMD_PORT, ldid := s.get F.MGT_DSA_CMD_LDID,
    target := s.get F.MGT_DSA_CMD_TARGET, addr := s.get F.MGT_DSA_ADDR_ADDR, be := s.get F.MGT_DSA_CMD_BE,
    data := s.get F.MGT_DSA_DATA_DATA }

/-- Can a request be sent on port p: a downstream port whose link is up? -/
def dsaPortOk (s : State) (p : Nat) : Bool := role s p == 2 && (s.px p).up

/-- Show a request in the registers. -/
def dsaPut (s : State) (q : DsaReq) : State :=
  let s := ((s.put F.MGT_DSA_CMD_OP q.op).put F.MGT_DSA_CMD_PORT q.port).put F.MGT_DSA_CMD_LDID q.ldid
  let s := ((s.put F.MGT_DSA_CMD_TARGET q.target).put F.MGT_DSA_CMD_BE q.be).put F.MGT_DSA_ADDR_ADDR q.addr
  s.put F.MGT_DSA_DATA_DATA q.data

/-- MGT_DSA ends with a result. -/
def dsaResult (s : State) (r : Nat) : State :=
  ((s.put F.MGT_DSA_CMD_BUSY 0).put F.MGT_DSA_CMD_RESULT r).put F.MGT_DONE_DSA 1

/-- Issue the request in the registers. -/
def dsaIssue (s : State) : State :=
  let q := dsaReq s
  if dsaPortOk s q.port then (s.put F.MGT_DSA_CMD_BUSY 1).out (.dsa q) else dsaResult s 4

/-- A write of MGT_DSA_CMD: START is refused while BUSY, and for another size. -/
def wrDsaCmd (w : Wr) (s : State) : State :=
  if w.sets F.MGT_DSA_CMD_START
      ∧ (s.bit F.MGT_DSA_CMD_BUSY ∨ !dsaSizeOk (w.val s F.MGT_DSA_CMD_OP) (w.val s F.MGT_DSA_CMD_BE)) then
    s.refuse R.MGT_DSA_CMD.addr w.mid w.size
  else
    let s := s.writeReg R.MGT_DSA_CMD w
    if w.sets F.MGT_DSA_CMD_START then dsaIssue s else s

/-- The write of MGT_DSA_CMD that starts an OP. -/
def dsaWr (s : State) (mid op : Nat) : Wr :=
  wrFull mid true (bitsPut (bitsPut (s.rd R.MGT_DSA_CMD) 63 63 1) 58 57 op)

def execDsaConfigRead (mid : Mid) (s : State) : Host.Outcome State Fault Refusal := .next (wrDsaCmd (dsaWr s mid 0) s)

def execDsaConfigWrite (mid : Mid) (s : State) : Host.Outcome State Fault Refusal := .next (wrDsaCmd (dsaWr s mid 1) s)

def execDsaMemoryRead (mid : Mid) (s : State) : Host.Outcome State Fault Refusal := .next (wrDsaCmd (dsaWr s mid 2) s)

def execDsaMemoryWrite (mid : Mid) (s : State) : Host.Outcome State Fault Refusal := .next (wrDsaCmd (dsaWr s mid 3) s)

end Sys2Proof.Machine
end

