-- ==== Sys2Proof/Machine/Brake.lean ====
section
/-! DEFINITION. Brake: accepting events, reactions, the history queue, pins, injection (R348 to R370). -/

namespace Sys2Proof.Machine

def State.modBrk (s : State) (f : BrkSt → BrkSt) : State := { s with brk := f s.brk }

/-- Request a chip reset for a cause (R425): with one in progress the causes merge, a hold stands (R432), and halted Governor
cores serve none (R391). -/
def chipRequest (s : State) (cause : Fld) (src : Nat := 0xFFF) : State :=
  let s := s.put cause 1
  if s.pwr.req || s.bit F.GOV_STATUS_HALTED || s.get F.GOV_ALARM_LEVEL == 3 || s.get F.GOV_STATUS_THERM == 2 then s
  else { s.inc F.CRP_RESET_CAUSE_COUNT with pwr := { s.pwr with req := true, reqSrc := src } }

/-! ## Records (R361 to R364) -/

/-- Kind of the record of source n (R362). -/
def recKind (n : Nat) : Nat :=
  if n = 1345 ∨ n = 1360 ∨ n = 1721 then 1
  else if 320 ≤ n ∧ n < 1088 ∧ n % 8 = 7 then 2
  else if n = 1344 then 3
  else if n ≤ 1 then 4
  else if n = 1424 then 5
  else if n = 16 then 6
  else if 4032 ≤ n then 7
  else 0

/-- 4 bytes of a register. -/
def reg4 (s : State) (r : Reg) : Bytes := leBytes 4 (s.rd r).toNat

/-- 8 bytes of a register. -/
def reg8 (s : State) (r : Reg) : Bytes := leBytes 8 (s.rd r).toNat

/-- The registers that a record of kind 0 copies (R364). -/
def unitRegs (s : State) (n : Nat) : Bytes :=
  let z := List.replicate 8 0#8
  if 128 ≤ n ∧ n ≤ 131 then reg8 s R.SPD_COLL ++ reg8 s R.SPD_ECC
  else if 160 ≤ n ∧ n ≤ 188 then reg8 s (R.MPU_FAULT (n - 160)) ++ z
  else if 256 ≤ n ∧ n < 320 then reg4 s (R.LG_STATUS ((n - 256) / 4)) ++ leBytes 4 (laneStatus s ((n - 256) / 4)).toNat ++ z
  else if 320 ≤ n ∧ n < 1088 then
    let p := (n - 320) / 8
    reg4 s (R.PORT_LINK_STATUS p) ++ (if role s p = 3 then reg4 s (R.OFL_STATUS p) else z.take 4)
      ++ reg4 s (R.OFL_LANES p) ++ reg4 s (R.PORT_LANE_FAIL p)
  else if 1488 ≤ n ∧ n < 1624 then
    let k := (n - 1488) / 4
    reg4 s (R.COH_SL_STATUS k) ++ z.take 4 ++ reg8 s (R.COH_SL_DOUBT k)
  else if 1624 ≤ n ∧ n < 1720 then reg8 s R.POOL_LAST_ERR ++ reg8 s R.POOL_LAST_ADDR
  else if 1728 ≤ n ∧ n < 1856 then reg4 s (R.HOP_ENG_STATUS ((n - 1728) / 8)) ++ z.take 4 ++ z
  else if 2112 ≤ n ∧ n < 2144 then
    reg4 s (R.SLC_EVENT (n - 2112)) ++ reg4 s (R.SLC_STATUS (n - 2112)) ++ reg8 s (R.SLC_MEAS (n - 2112))
  else z ++ z

/-- log2 of an access size. -/
def sizeLog (n : Nat) : Nat := if n ≤ 1 then 0 else if n ≤ 2 then 1 else if n ≤ 4 then 2 else 3

/-- DATA of the record of an event (R362); a detail that the collector discarded is a free value. -/
def recData (s : State) (e : Ev) : Bytes :=
  match e.det with
  | .lost => (List.range 16).map (Config.freeByte s.fresh)
  | .unit => if recKind e.src = 0 then unitRegs s e.src else List.replicate 16 0#8
  | .dropped a t x d c tc | .unknown a t x d c tc =>
    leBytes 8 a ++ leBytes 2 t ++ leBytes 2 x ++ leBytes 2 d ++ leBytes 1 c ++ leBytes 1 (tc % 8)
  | .mcMiss p g => leBytes 12 p ++ leBytes 4 (g % 2 ^ 18)
  | .access a mid w n => leBytes 8 a ++ leBytes 2 mid ++ leBytes 1 ((if w then 1 else 0) + 2 * sizeLog n) ++ List.replicate 5 0#8
  | .poison h c => leBytes 8 (h % 2 ^ 46) ++ leBytes 1 c ++ List.replicate 7 0#8
  | .reset n => leBytes 8 (n % 4096) ++ List.replicate 8 0#8
  | .software d => leBytes 8 d ++ List.replicate 8 0#8

/-- A record of 32 bytes (R361). -/
def record (s : State) (e : Ev) (severe : Bool) (acts wincnt : Nat) : Bytes :=
  let w := e.src % 4096 + (if severe then 4096 else 0) + (if s.brk.ovf then 8192 else 0)
  leBytes 8 (s.get F.MGT_MTIME_TIME) ++ leBytes 2 w ++ leBytes 1 (recKind e.src) ++ leBytes 1 acts ++ leBytes 4 wincnt
    ++ recData s e

/-- The registers that show the history queue follow it (R360, R365). -/
def histShow (s : State) : State :=
  let n := s.brk.hist.length
  let h := s.brk.hist.headD []
  let s := (s.put F.BRK_STATUS_QUEUE n).put F.BRK_HIST_CTRL_COUNT n
  ([0, 1, 2, 3] : List Nat).foldl (fun s k => s.wr (R.BRK_HIST_REC k) (BitVec.ofNat 64 (leN h (8 * k) 8))) s

/-- The LOG action: the record enters the queue, or is lost because it is full (R363). -/
def histPut (s : State) (r : Bytes) : State :=
  if s.brk.hist.length < 1024 then histShow (s.modBrk fun b => { b with hist := b.hist ++ [r], ovf := false })
  else ((s.inc F.BRK_LOSS_QUEUE_DROPS).modBrk fun b => { b with ovf := true }).raise 2

/-! ## Actions (R351, R356 to R358) -/

/-- Bit i of the table that Brake keeps for source n, in the register of 64 sources f. -/
def srcBit (s : State) (f : Nat → Fld) (n : Nat) : Bool := s.hasBit (f (n / 64)) (n % 64)

def srcSet (s : State) (f : Nat → Fld) (n : Nat) : State := s.setBit (f (n / 64)) (n % 64)

def srcClr (s : State) (f : Nat → Fld) (n : Nat) : State := s.clrBit (f (n / 64)) (n % 64)

/-- Field FIRST k of BRK_PIN. -/
def pinFirst (k : Nat) : Fld :=
  if k = 0 then F.BRK_PIN_FIRST0 else if k = 1 then F.BRK_PIN_FIRST1 else if k = 2 then F.BRK_PIN_FIRST2
  else F.BRK_PIN_FIRST3

/-- The PIN action on FAULT_N k (R358): a deferred release of it is cancelled. -/
def pinAssert (s : State) (k src : Nat) : State :=
  if s.hasBit F.BRK_PIN_ASSERTED k then s.modBrk fun b => { b with deferred := b.deferred.filter (· != k) }
  else ((s.setBit F.BRK_PIN_ASSERTED k).put (pinFirst k) src).modBrk fun b =>
    { b with pinAt := tput 0 b.pinAt k (s.get F.MGT_MTIME_TIME) }

/-- Host signalling at the upstream switch port of every enabled VCS (R237). -/
def hostSignal (s : State) (unc : Bool) : State :=
  (List.range 64).foldl (fun s v =>
    if !s.bit (F.HEP_VCS_EN v) then s
    else if unc then (s.modUx v fun u => { u with aer := u.aer.logUnc 22 none }).raise (1856 + 2 * v + 1)
    else (s.modUx v fun u => { u with aer := u.aer.logCor 14 }).raise (1856 + 2 * v)) s

/-- What a block reset of source n resets (R356): the key of the thing in BrkSt.blocked; 0 to 15 lane groups, 16 + p ports,
112 + c cores. -/
def blockOf (n : Nat) : Option Nat :=
  if 72 ≤ n ∧ n < 80 then some (112 + (n - 72))
  else if 256 ≤ n ∧ n < 320 then some ((n - 256) / 4)
  else if 320 ≤ n ∧ n < 1088 then some (16 + (n - 320) / 8)
  else none

/-- Has Brake reset the thing within the last 100 ms? -/
def blockedNow (s : State) (k : Nat) : Bool :=
  match tget none s.brk.blocked k with
  | some t => decide (s.get F.MGT_MTIME_TIME < t + 3200000)
  | none => false

/-- Is the BLOCK action of source n taken? -/
def blockTaken (s : State) (n : Nat) : Bool :=
  match blockOf n with
  | some k => !blockedNow s k
  | none => false

/-- Record a block reset. -/
def blockMark (s : State) (k : Nat) : State :=
  s.modBrk fun b => { b with blocked := tput none b.blocked k (some (s.get F.MGT_MTIME_TIME)) }

/-- Block reset of lane group g: the group and its ports are held in reset, with the division kept. -/
def blockGroup (s : State) (g : Nat) : State :=
  let s := s.clearRegs (0x41000000 + g * 0x10000 + 8) (0x41000000 + (g + 1) * 0x10000)
  ([0, 1, 2, 3, 4, 5] : List Nat).foldl (fun s k =>
    blockMark (setWait (portClear s (6 * g + k)) (6 * g + k) .blockGroup) (16 + 6 * g + k)) (blockMark s g)

/-- The BLOCK action of source n. -/
def blockReset (s : State) (n : Nat) : State :=
  match blockOf n with
  | none => s
  | some k =>
    if k < 16 then blockGroup s k
    else if k < 112 then
      linkDown (blockMark s k) (k - 16) (if s.bit (F.PORT_LINK_CTRL_DISABLE (k - 16)) then 6 else 0) .block
    else coreRestart (blockMark s k) (k - 112)

/-- Has Brake asked for as many chip resets as RESET_MAX allows (R357)? -/
def chipSpent (s : State) : Bool :=
  s.get F.BRK_CTRL_RESET_MAX != 0 && decide (s.get F.BRK_CTRL_RESET_MAX ≤ s.get F.BRK_RESET_INFO_CHIP_RESETS)

/-- Actions taken out of a set, as the record shows them. -/
def actsTaken (s : State) (n set : Nat) : Nat :=
  let on := fun i => set.testBit i
  let chip := on 6 && !chipSpent s
  let pin := on 7 || (on 6 && chipSpent s)
  let log := on 0 && !(n == 2 && decide (1024 ≤ s.brk.hist.length))
  (if log then 1 else 0) + (if on 1 then 2 else 0) + (if on 2 then 4 else 0) + (if on 3 then 8 else 0)
    + (if on 4 then 16 else 0) + (if on 5 && blockTaken s n then 32 else 0) + (if chip then 64 else 0) + (if pin then 128 else 0)

/-- Take an action set for an event (R351, R355). -/
def react (s : State) (e : Ev) (severe : Bool) (set pin wincnt : Nat) : State :=
  let n := e.src
  let acts := actsTaken s n set
  let r := record s e severe acts wincnt
  let s := if e.det == .lost then s.bump else s
  let s := if acts.testBit 1 then srcSet s F.BRK_IRQ_SRC n else s
  let s := if acts.testBit 2 then nmiAll s else s
  let s := if set.testBit 7 then pinAssert s pin n else s
  let s := if set.testBit 6 && chipSpent s then pinAssert s 0 n else s
  let s := if acts.testBit 0 ∨ severe then { s with fan := { s.fan with logIn := s.fan.logIn ++ [r] } } else s
  let s := if severe then
      ([0, 1, 2, 3] : List Nat).foldl (fun s k => s.wr (R.BRK_LAST_SEV k) (BitVec.ofNat 64 (leN r (8 * k) 8))) s
    else s
  let s := if acts.testBit 0 then histPut s r else s
  let s := if acts.testBit 3 then hostSignal s false else s
  let s := if acts.testBit 4 then hostSignal s true else s
  let s := if acts.testBit 5 then blockReset s n else s
  if acts.testBit 6 then
    chipRequest ((s.inc F.BRK_RESET_INFO_CHIP_RESETS).put F.BRK_RESET_INFO_SRC n) F.CRP_RESET_CAUSE_BRAKE n
  else s

/-! ## Accepting an event (R349, R353, R370) -/

/-- Close the window of source n: its count returns to 0. -/
def windowClose (s : State) (n : Nat) : State :=
  (s.put (F.BRK_CNT_WIN_COUNT n) 0).modBrk fun b => { b with opened := b.opened.filter (· != n) }

/-- Count an event of source n in its window; severe at the threshold (R353). -/
def windowCount (s : State) (n : Nat) : State :=
  if s.get (F.BRK_REACT_WINDOW n) = 0 then s
  else
    let s := if s.brk.opened.contains n then s.inc (F.BRK_CNT_WIN_COUNT n)
      else (s.put (F.BRK_CNT_WIN_COUNT n) 1).modBrk fun b => { b with opened := b.opened ++ [n] }
    if s.get (F.BRK_REACT_THRESH n) ≤ s.get (F.BRK_CNT_WIN_COUNT n) then srcSet s F.BRK_SEV_SRC n else s

/-- The reaction of source n is found uncorrectable (R370). -/
def reactionLost (s : State) (n : Nat) : State :=
  if s.brk.broken.contains n then s
  else ((s.put F.BRK_STATUS_INT_ERR 1).modBrk fun b => { b with broken := b.broken ++ [n] }).raise 3

/-- What Brake finds in its own memories as it accepts an event of source n (R370). -/
def brkCheck (s : State) (n : Nat) : BrkErr → State
  | .none => s
  | .reaction => reactionLost s n
  | .count => windowClose s n
  | .record i =>
    if i < s.brk.hist.length then histShow (s.modBrk fun b => { b with hist := b.hist.eraseIdx i, ovf := true }) else s

/-- Brake accepts an event: counted, its class decided, its action set taken. -/
def brkAccept (s : State) (e : Ev) (err : BrkErr) : State :=
  let n := e.src
  let s := brkCheck s n err
  let s := srcSet ((s.inc (F.BRK_CNT_TOTAL n)).put F.BRK_STATUS_LAST_SRC n) F.BRK_PEND_SRC n
  if s.brk.broken.contains n then react s e false 0x83 0 (s.get (F.BRK_CNT_WIN_COUNT n))
  else
    let s := windowCount s n
    let sev := srcBit s F.BRK_SEV_SRC n && s.get (F.BRK_REACT_WINDOW n) != 0
    react s e sev (s.get (if sev then F.BRK_REACT_SEVERE n else F.BRK_REACT_NORMAL n)) (s.get (F.BRK_REACT_PIN_SEL n))
      (s.get (F.BRK_CNT_WIN_COUNT n))

/-- A link error of PCIe/CXL port p is logged where R235 says. -/
def linkErrLog (s : State) (p bit : Nat) (unc : Bool) : State :=
  let log := fun (a : Aer) => if unc then a.logUnc bit none else a.logCor bit
  if role s p = 1 then
    match vcsOfPort s p with
    | some v => (s.modUx v fun u => { u with aer := log u.aer }).raise (1856 + 2 * v + (if unc then 1 else 0))
    | none => s
  else
    match bindFrom s p 0xFFFF with
    | some n =>
      if s.get (F.RTE_BIND_LDID n) ≠ 0xFFFF then s
      else
      let v := s.get (F.RTE_BIND_VCS n)
      (s.modVx v (s.get (F.RTE_BIND_VPPB n)) fun x => { x with aer := log x.aer }).raise (1856 + 2 * v + (if unc then 1 else 0))
    | none => s

/-- An event of a unit for which the table has no command. -/
def unitEvent (s : State) : UnitEv → State
  | .link p bit unc =>
    if isPcie s p then linkErrLog (s.raise (320 + 8 * p + (if unc then 5 else 4))) p bit unc else s
  | .pll g => if s.bit (F.LG_CFG_USED g) then s.raise (256 + 4 * g + 1) else s
  | .stage e => s.raise (1728 + 8 * e + 1)
  | .l2 ue => s.raise (if ue then 81 else 80)

/-- BRAKE_EVENT (R353): the oldest event raised is accepted. -/
def execBrakeEvent (u : Option UnitEv) (e : BrkErr) (s : State) : Host.Outcome State Fault Refusal :=
  .next (
    let s := match u with
      | some u => unitEvent s u
      | none => s
    match s.brk.queue with
    | [] => s
    | x :: q => brkAccept (s.modBrk fun b => { b with queue := q }) x e)

/-- BLOCK_RESET_RELEASE (R356). -/
def execBlockResetRelease (g : Fin 16) (s : State) : Host.Outcome State Fault Refusal :=
  .next (([0, 1, 2, 3, 4, 5] : List Nat).foldl (fun s k =>
    let p := 6 * g.val + k
    if (s.px p).wait = .blockGroup then
      let s := setWait s p .none
      if role s p = 3 then s.put (F.OFL_STATUS_STATE p) 0 else s
    else s) s)

/-- WINDOW_CLOSE (R353): the window of source n has run out. -/
def execWindowClose (n : Fin 4096) (s : State) : Host.Outcome State Fault Refusal :=
  .next (if s.brk.opened.contains n.val then windowClose s n else s)

/-! ## Registers -/

/-- A write of BRK_SEV j (R354). -/
def wrSev (j : Nat) (w : Wr) (s : State) : State :=
  ((List.range 64).filter fun i => (w.v &&& w.mask).getLsbD i).foldl (fun s i => windowClose s (64 * j + i))
    (s.writeReg (R.BRK_SEV j) w)

/-- SEVERE_CLEAR (R354). -/
def execSevereClear (mid : Mid) (n : Fin 4096) (s : State) : Host.Outcome State Fault Refusal :=
  .next (wrSev (n / 64) (wrFull mid true (BitVec.ofNat 64 (2 ^ (n.val % 64)))) s)

/-- A write of BRK_REACT n (R352, R354). -/
def wrReact (n : Nat) (w : Wr) (s : State) : State :=
  let old := (s.rd (R.BRK_REACT n)).toNat
  let v := ((s.rd (R.BRK_REACT n) &&& ~~~w.mask) ||| (w.v &&& w.mask)).toNat
  if w.mid ≠ midGov then s.writeReg (R.BRK_REACT n) w
  else if !reactOk n v then s.refuse (R.BRK_REACT n).addr w.mid w.size
  else
    let s := (s.writeReg (R.BRK_REACT n) w).modBrk fun b => { b with broken := b.broken.filter (· != n) }
    if old / 2 ^ 24 = v / 2 ^ 24 then s else srcClr (windowClose s n) F.BRK_SEV_SRC n

/-- REACTION_WRITE (R354). -/
def execReactionWrite (n : Fin 4096) (v : BitVec 32) (s : State) : Host.Outcome State Fault Refusal :=
  .next (wrReact n (wrFull midGov false (v.setWidth 64)) s)

/-- REACTION_REWRITE (R370): the Governor rewrites a lost reaction from its copy of the map. -/
def execReactionRewrite (n : Fin 4096) (s : State) : Host.Outcome State Fault Refusal :=
  .next (
    if s.brk.broken.contains n.val then
      let v := if s.brk.copied then BitVec.ofNat 64 (tget 0 s.brk.copy n) else (R.BRK_REACT n).rst
      let s := (s.wr (R.BRK_REACT n) v).modBrk fun b => { b with broken := b.broken.filter (· != n.val) }
      srcClr (windowClose s n) F.BRK_SEV_SRC n
    else s)

/-- FAULT_N k is released. -/
def pinRelease (s : State) (k : Nat) : State :=
  (s.clrBit F.BRK_PIN_ASSERTED k).modBrk fun b => { b with
    pinAt := tput 0 b.pinAt k 0, deferred := b.deferred.filter (· != k) }

/-- A write of BRK_PIN (R358): a pin asserted less than 10 µs ago is released later. -/
def wrPin (w : Wr) (s : State) : State :=
  let v := bitsGet (w.v &&& w.mask) 3 0
  (([0, 1, 2, 3] : List Nat).filter fun k => v.testBit k && s.hasBit F.BRK_PIN_ASSERTED k).foldl (fun s k =>
    if s.get F.MGT_MTIME_TIME < tget 0 s.brk.pinAt k + 320 then
      (if s.brk.deferred.contains k then s else s.modBrk fun b => { b with deferred := b.deferred ++ [k] })
    else pinRelease s k) s

/-- PIN_RELEASE (R358). -/
def execPinRelease (mid : Mid) (k : Fin 4) (s : State) : Host.Outcome State Fault Refusal :=
  .next (wrPin (wrFull mid true (BitVec.ofNat 64 (2 ^ k.val))) s)

/-- PIN_RELEASE_DEFERRED (R358). -/
def execPinReleaseDeferred (k : Fin 4) (s : State) : Host.Outcome State Fault Refusal :=
  .next (if s.brk.deferred.contains k.val then pinRelease s k else s)

/-- Move the head of the queue on by n records. -/
def histDrop (s : State) (n : Nat) : State :=
  let h := (s.get F.BRK_HIST_CTRL_HEAD + n) % 1024
  histShow ((s.put F.BRK_HIST_CTRL_HEAD h).modBrk fun b => { b with hist := b.hist.drop n })

/-- A write of BRK_HIST_CTRL (R360). -/
def wrHistCtrl (w : Wr) (s : State) : State :=
  if w.sets F.BRK_HIST_CTRL_CLEAR then histDrop s s.brk.hist.length
  else if w.sets F.BRK_HIST_CTRL_POP then histDrop s (min 1 s.brk.hist.length)
  else s

/-- HISTORY_POP (R360). -/
def execHistoryPop (mid : Mid) (s : State) : Host.Outcome State Fault Refusal :=
  .next (wrHistCtrl (wrField s mid false F.BRK_HIST_CTRL_POP 1) s)

/-- HISTORY_CLEAR (R360). -/
def execHistoryClear (mid : Mid) (s : State) : Host.Outcome State Fault Refusal :=
  .next (wrHistCtrl (wrField s mid false F.BRK_HIST_CTRL_CLEAR 1) s)

/-! ## Injection (R367, R368) -/

/-- Instances of an injection target; 0 for a number that is no target. -/
def injCount (t : Nat) : Nat :=
  if t = 1 ∨ t = 2 then 256 else if t = 3 then 34 else if t = 4 ∨ t = 9 then 1 else if t = 5 then 64
  else if t = 6 ∨ t = 7 then 4 else if t = 8 then 16 else if t = 0xA then 8 else if t = 0xB then 12 else 0

/-- May an injection be armed so? -/
def injOk (t i : Nat) (m : Bool) : Bool :=
  (decide (i < injCount t) || (t == 0xB && m)) && (!m || injForm t)

/-- A write of BRK_INJ_CTRL. -/
def wrInjCtrl (w : Wr) (s : State) : State :=
  if w.sets F.BRK_INJ_CTRL_ARM
      && (s.bit F.BRK_INJ_CTRL_ARM
        || !injOk (w.val s F.BRK_INJ_CTRL_TARGET) (w.val s F.BRK_INJ_CTRL_INDEX) (w.val s F.BRK_INJ_CTRL_MATCH != 0)) then
    s.refuse R.BRK_INJ_CTRL.addr w.mid w.size
  else s.writeReg R.BRK_INJ_CTRL w

/-- INJECTION_ARM (R367). -/
def execInjectionArm (mid : Mid) (target : BitVec 8) (index : BitVec 8) (ue : Bool) (m : Bool) (bit : Fin 64) (s : State) :
    Host.Outcome State Fault Refusal :=
  let v := bitsPut (bitsPut (bitsPut 0#64 63 63 1) 47 40 target.toNat) 39 32 index.toNat
  let v := bitsPut (bitsPut (bitsPut v 60 60 (if ue then 1 else 0)) 61 61 (if m then 1 else 0)) 5 0 bit
  .next (wrInjCtrl (wrFull mid true v) s)

/-- INJECTION_DISARM (R367). -/
def execInjectionDisarm (mid : Mid) (s : State) : Host.Outcome State Fault Refusal :=
  .next (wrInjCtrl (wrField s mid true F.BRK_INJ_CTRL_ARM 0) s)

/-! ## Software sources (R369) -/

/-- A write of BRK_SW_RAISE. -/
def wrSwRaise (w : Wr) (s : State) : State :=
  let s := s.writeReg R.BRK_SW_RAISE w
  if w.sets F.BRK_SW_RAISE_RAISE then
    s.raise (4032 + s.get F.BRK_SW_RAISE_INDEX) (.software (s.get F.BRK_SW_DATA_DATA))
  else s

/-- SOFTWARE_RAISE (R369). -/
def execSoftwareRaise (mid : Mid) (i : Fin 64) (s : State) : Host.Outcome State Fault Refusal :=
  .next (wrSwRaise (wrFull mid false (bitsPut (bitsPut 0#64 31 31 1) 5 0 i)) s)

end Sys2Proof.Machine
end

