-- ==== Sys2Proof/Machine/Sluice.lean ====
section
/-! DEFINITION. The Sluice controllers (R325 to R346). Feeds are 0 for A and 1 for B. -/

namespace Sys2Proof.Machine

def State.sx (s : State) (n : Nat) : SlcX := tget {} s.slc n

def State.modSx (s : State) (n : Nat) (f : SlcX → SlcX) : State := { s with slc := tmod {} s.slc n f }

/-- STATE of controller n: 0 no limits, 1 off, 2 ramping, 3 on, 4 latched, 5 switching, 6 waiting for a bus. -/
def slcState (s : State) (n : Nat) : Nat := s.get (F.SLC_STATUS_STATE n)

/-- BUS_A_OK or BUS_B_OK. -/
def busField (n x : Nat) : Fld := if x = 0 then F.SLC_STATUS_BUS_A_OK n else F.SLC_STATUS_BUS_B_OK n

/-- Is the bus of feed x good (R330)? -/
def busOk (s : State) (n x : Nat) : Bool := s.bit (busField n x)

/-- FORCE, with 3 acting as 0 (R331). -/
def force (s : State) (n : Nat) : Nat := s.get (F.SLC_CTRL_FORCE n) % 3

/-- The preferred feed. -/
def pref (s : State) (n : Nat) : Nat := s.get (F.SLC_LIM3_PRIO n)

/-- Choice of feed (R331); none where the slot waits for a bus. -/
def chooseFeed (s : State) (n : Nat) : Option Nat :=
  let ok := fun x => if busOk s n x then some x else none
  if force s n = 1 then ok 0 else if force s n = 2 then ok 1
  else (ok (pref s n)).or (ok (1 - pref s n))

/-- Set an event bit, which raises the controller's source (R336). -/
def slcEvent (s : State) (n : Nat) (f : Nat → Fld) : State := (s.put (f n) 1).raise (2112 + n)

/-- The vPPBs bound to the slot's device as a whole: (VCS, vPPB). -/
def slotVppbs (s : State) (n : Nat) : List (Nat × Nat) :=
  (List.range 96).filterMap fun p =>
    if s.get (F.PORT_CFG_ROLE p) = 2 ∧ s.get (F.PORT_CFG_SLC p) = n then
      match bindFrom s p 0xFFFF with
      | some i => if s.get (F.RTE_BIND_LDID i) = 0xFFFF then some (s.get (F.RTE_BIND_VCS i), s.get (F.RTE_BIND_VPPB i)) else none
      | none => none
    else none

/-- Are both feeds of controller n off? -/
def slcOff (s : State) (n : Nat) : Bool := (s.sx n).gate.isNone && (s.sx n).next.isNone

/-- Both feeds off; the controller takes STATE st. -/
def feedsOff (s : State) (n st : Nat) : State :=
  ((s.put (F.SLC_STATUS_STATE n) st).put (F.SLC_STATUS_PGOOD n) 0).modSx n fun x => { coolAt := x.coolAt }

/-- The conditions of R332, but for the choice of a feed. -/
def slotWanted (s : State) (n : Nat) : Bool :=
  s.bit (F.SLC_CTRL_EN n) && s.bit (F.SLC_LIM3_VALID n) && slcState s n != 4 && !s.pwr.slcOut
  && (s.bit (F.SLC_STATUS_PRESENT n) || !s.bit (F.SLC_CTRL_PRSNT_GATE n))

/-- Power ends where a condition of R332 has ceased to hold. -/
def slotCheck (s : State) (n : Nat) : State :=
  if slotWanted s n ∨ slcState s n = 4 ∨ slcState s n = 0 then s else feedsOff s n 1

/-- A slot latches (R336). -/
def slcLatch (s : State) (n cause : Nat) (ev : Nat → Fld) : State :=
  let was := slcState s n == 4
  let s := (feedsOff s n 4).put (F.SLC_STATUS_CAUSE n) cause
  let s := if was then s else
    (((s.put (F.SLC_STATUS_ARMED n) 0).put (F.SLC_STATUS_COOL_LEFT n) (s.get (F.SLC_LIM1_COOL n))).inc (F.SLC_CNT_TRIPS n)).modSx n
      fun x => { x with coolAt := s.get F.MGT_MTIME_TIME }
  (slotVppbs s n).foldl (fun s x => s.modVx x.1 x.2 fun y => { y with powerFault := true }) (slcEvent s n ev)

/-- Turn feed x on: ramping, with the fault timer cleared (R333). -/
def feedRamp (s : State) (n x : Nat) : State :=
  ((s.put (F.SLC_STATUS_STATE n) 2).put (F.SLC_STATUS_FEED n) x).modSx n fun y =>
    { y with gate := some x, next := none, blk := true, limit := false, ft := 0, ftAt := s.get F.MGT_MTIME_TIME }

/-- SLOT_POWER_UP (R331, R333): with the conditions met a feed is chosen and the ramp starts, or the slot waits for a bus; a
ramp under way reaches its end. -/
def execSlotPowerUp (n : Fin 32) (s : State) : Host.Outcome State Fault Refusal :=
  .next (
    if !slotWanted s n then s
    else if slcState s n = 1 ∨ slcState s n = 6 then
      match chooseFeed s n with
      | some x => feedRamp s n x
      | none => s.put (F.SLC_STATUS_STATE n) 6
    else if slcState s n = 2 ∧ (s.sx n).gate.isSome then (s.put (F.SLC_STATUS_STATE n) 3).put (F.SLC_STATUS_PGOOD n) 1
    else s)

/-- RAMP_FAIL (R333). -/
def execRampFail (n : Fin 32) (s : State) : Host.Outcome State Fault Refusal :=
  .next (if slcState s n = 2 ∧ (s.sx n).gate.isSome then slcLatch s n 3 F.SLC_EVENT_RAMP_FAIL else s)

/-! ## Current limit and trips (R334, R335) -/

/-- The fault timer now. -/
def faultTimer (s : State) (n : Nat) : Nat :=
  let x := s.sx n
  let d := s.get F.MGT_MTIME_TIME - x.ftAt
  if x.limit then x.ft + d / 32 else x.ft - d / 512

/-- CURRENT_LIMIT (R334): the feed in use reaches its limit, or leaves it. -/
def execCurrentLimit (n : Fin 32) (on : Bool) (s : State) : Host.Outcome State Fault Refusal :=
  .next (
    if (s.sx n).gate.isSome then
      s.modSx n fun x => { x with ft := faultTimer s n, ftAt := s.get F.MGT_MTIME_TIME, limit := on }
    else s)

/-- SLOW_TRIP (R334). -/
def execSlowTrip (n : Fin 32) (s : State) : Host.Outcome State Fault Refusal :=
  .next (if (s.sx n).gate.isSome ∧ (s.sx n).limit then slcLatch s n 2 F.SLC_EVENT_SLOW else s)

/-- FAST_TRIP (R335). -/
def execFastTrip (n : Fin 32) (s : State) : Host.Outcome State Fault Refusal :=
  .next (if (s.sx n).gate.isSome ∨ slcState s n = 5 then slcLatch s n 1 F.SLC_EVENT_FAST else s)

/-- COOL_DOWN_EXPIRE (R337). -/
def execCoolDownExpire (n : Fin 32) (s : State) : Host.Outcome State Fault Refusal :=
  .next (s.put (F.SLC_STATUS_COOL_LEFT n) 0)

/-- COOL_LEFT as it is read: ms left of a cool-down that runs. -/
def coolLeft (s : State) (n : Nat) : Nat :=
  let c := s.get (F.SLC_STATUS_COOL_LEFT n)
  if c = 0 then 0 else max 1 (c - (s.get F.MGT_MTIME_TIME - (s.sx n).coolAt) / 32000)

/-! ## Presence (R329, R338) -/

/-- A change of the filtered presence. -/
def presence (s : State) (n : Nat) (on : Bool) : State :=
  if s.bit (F.SLC_STATUS_PRESENT n) = on then s
  else
    let s := slcEvent (s.putB (F.SLC_STATUS_PRESENT n) on) n F.SLC_EVENT_PRSNT_CHG
    slotCheck ((slotVppbs s n).foldl (fun s x => s.modVx x.1 x.2 fun y => { y with present := on, presentChanged := true }) s) n

def execPresenceInsert (n : Fin 32) (s : State) : Host.Outcome State Fault Refusal := .next (presence s n true)

def execPresenceRemove (n : Fin 32) (s : State) : Host.Outcome State Fault Refusal := .next (presence s n false)

/-! ## Reverse current (R339) -/

/-- REVERSE_CURRENT (R339). -/
def execReverseCurrent (n : Fin 32) (s : State) : Host.Outcome State Fault Refusal :=
  .next (
    if (s.sx n).gate.isSome then
      slcEvent ((s.inc (F.SLC_CNT_REVERSE n)).modSx n fun x => { x with blk := false }) n F.SLC_EVENT_REVERSE
    else s)

/-- REVERSE_RECOVER (R339). -/
def execReverseRecover (n : Fin 32) (s : State) : Host.Outcome State Fault Refusal :=
  .next (if (s.sx n).gate.isSome then s.modSx n fun x => { x with blk := true } else s)

/-! ## Loss of a bus, switchover (R340 to R343) -/

/-- May the other feed than x be used: allowed by FORCE, and its bus good? -/
def otherOk (s : State) (n x : Nat) : Bool := (force s n == 0 || force s n == 2 - x) && busOk s n (1 - x)

/-- Decision to switch to feed y: the old feed is still on. -/
def decide5 (s : State) (n y : Nat) : State :=
  (s.put (F.SLC_STATUS_STATE n) 5).modSx n fun x => { x with next := some y, hold := false }

/-- The bus of feed x stops being good (R340, R345); high says overvoltage. -/
def busLost (s : State) (n x : Nat) (high : Bool) : State :=
  if !busOk s n x then s
  else
    let s := s.put (busField n x) 0
    if (s.sx n).gate ≠ some x ∨ slcState s n = 5 then s
    else
      let s := if high then slcEvent s n F.SLC_EVENT_OV else (slcEvent s n F.SLC_EVENT_UV).inc (F.SLC_CNT_UV n)
      if slcState s n = 2 then
        (if otherOk s n x then s.modSx n fun y => { y with gate := none, next := some (1 - x), blk := false, limit := false, ft := 0 }
         else feedsOff s n 6)
      else if otherOk s n x then decide5 s n (1 - x)
      else if high then feedsOff s n 6
      else s.modSx n fun y => { y with hold := true }

def execBusUndervoltage (n : Fin 32) (x : Fin 2) (s : State) : Host.Outcome State Fault Refusal := .next (busLost s n x false)

def execBusOvervoltage (n : Fin 32) (x : Fin 2) (s : State) : Host.Outcome State Fault Refusal := .next (busLost s n x true)

/-- UV_HOLD_EXPIRE (R340): below says that the bus is still below UV. -/
def execUvHoldExpire (n : Fin 32) (below : Bool) (s : State) : Host.Outcome State Fault Refusal :=
  .next (
    if !(s.sx n).hold then s
    else if below then feedsOff s n 6
    else s.modSx n fun x => { x with hold := false })

/-- The feed that a running slot moves to of itself: the forced one (R343), or the preferred one (R342). -/
def moveTo (s : State) (n : Nat) : Option Nat :=
  match (s.sx n).gate with
  | none => none
  | some x =>
    if slcState s n ≠ 3 ∨ !busOk s n (1 - x) then none
    else if force s n = 2 - x then some (1 - x)
    else if force s n = 0 ∧ pref s n ≠ x ∧ !s.bit (F.SLC_CTRL_NO_RETURN n) then some (1 - x)
    else none

/-- Decide a switch where the slot is to move. -/
def moveCheck (s : State) (n : Nat) : State :=
  match moveTo s n with
  | some y => decide5 s n y
  | none => s

/-- BUS_GOOD (R330): the slot powers up again, or moves to its feed. -/
def execBusGood (n : Fin 32) (x : Fin 2) (s : State) : Host.Outcome State Fault Refusal :=
  .next (
    if !s.bit (F.SLC_LIM3_VALID n) then s
    else
      let s := s.put (busField n x) 1
      let s := if (s.sx n).gate = some x.val then s.modSx n fun y => { y with hold := false } else s
      if slcState s n = 6 ∧ slotWanted s n then
        match chooseFeed s n with
        | some y => feedRamp s n y
        | none => s
      else moveCheck s n)

/-- SWITCHOVER (R341): the old feed is turned off and the dead time starts. -/
def execSwitchover (n : Fin 32) (s : State) : Host.Outcome State Fault Refusal :=
  .next (
    let s := moveCheck s n
    if slcState s n = 5 ∧ (s.sx n).next.isSome then
      s.modSx n fun x => { x with gate := none, blk := false, limit := false, ft := 0 }
    else s)

/-- DEAD_TIME_EXPIRE (R341, R345): the new feed is turned on. low: VOUT is below 50 % of the new bus; held: it stayed at or
above UV. -/
def execDeadTimeExpire (n : Fin 32) (low : Bool) (held : Bool) (s : State) : Host.Outcome State Fault Refusal :=
  .next (
    match (s.sx n).gate, (s.sx n).next with
    | none, some y =>
      if !busOk s n y then
        (match chooseFeed s n with
         | some z => feedRamp (s.put (F.SLC_STATUS_PGOOD n) 0) n z
         | none => feedsOff s n 6)
      else if slcState s n ≠ 5 then feedRamp s n y
      else
        let s := slcEvent ((feedRamp s n y).inc (F.SLC_CNT_SWITCHES n)) n F.SLC_EVENT_SWITCH
        if low then s.put (F.SLC_STATUS_PGOOD n) 0
        else (s.put (F.SLC_STATUS_STATE n) 3).putB (F.SLC_STATUS_PGOOD n) (s.bit (F.SLC_STATUS_PGOOD n) && held)
    | _, _ => s)

/-! ## SLC_CTRL (R332, R337, R343) -/

/-- A write of EN, as it was presented, to a latched slot (R337). -/
def latchWrite (s : State) (n : Nat) (en : Bool) : State :=
  if slcState s n ≠ 4 then s
  else if !en then s.put (F.SLC_STATUS_ARMED n) 1
  else if s.get (F.SLC_STATUS_COOL_LEFT n) ≠ 0 then s.put (F.SLC_STATUS_ARMED n) 0
  else if s.bit (F.SLC_STATUS_ARMED n) ∧ s.get (F.SLC_STATUS_CAUSE n) ≤ 3 then
    ((s.put (F.SLC_STATUS_STATE n) 1).put (F.SLC_STATUS_ARMED n) 0).put (F.SLC_STATUS_CAUSE n) 0
  else s

/-- A write of SLC_CTRL. -/
def wrSlcCtrl (n : Nat) (w : Wr) (s : State) : State :=
  let s := s.writeReg (R.SLC_CTRL n) w
  moveCheck (slotCheck (latchWrite s n (s.bit (F.SLC_CTRL_EN n))) n) n

/-- SLOT_ENABLE (R337). -/
def execSlotEnable (mid : Mid) (n : Fin 32) (s : State) : Host.Outcome State Fault Refusal :=
  .next (wrSlcCtrl n (wrField s mid false (F.SLC_CTRL_EN n) 1) s)

/-- SLOT_DISABLE (R332). -/
def execSlotDisable (mid : Mid) (n : Fin 32) (s : State) : Host.Outcome State Fault Refusal :=
  .next (wrSlcCtrl n (wrField s mid false (F.SLC_CTRL_EN n) 0) s)

/-- FORCE_WRITE (R343). -/
def execForceWrite (mid : Mid) (n : Fin 32) (f : Fin 4) (s : State) : Host.Outcome State Fault Refusal :=
  .next (wrSlcCtrl n (wrField s mid false (F.SLC_CTRL_FORCE n) f) s)

/-- Power Controller Control of vPPB k of VCS v is written (R163, R332). -/
def slotPower (s : State) (v k : Nat) (on : Bool) : State :=
  let s := s.modVx v k fun x => { x with powerOff := !on }
  match wholePort s v k with
  | none => s
  | some p =>
    let n := s.get (F.PORT_CFG_SLC p)
    if n < 32 then wrSlcCtrl n (wrField s 0 false (F.SLC_CTRL_EN n) (if on then 1 else 0)) s else s

/-- SLOT_POWER_CONTROL (R163). -/
def execSlotPowerControl (v : Fin 64) (k : Fin 256) (on : Bool) (s : State) : Host.Outcome State Fault Refusal :=
  .next (slotPower s v k on)

/-! ## Shorted pass transistor (R344) -/

/-- PASS_TRANSISTOR_SHORT (R344). -/
def execPassTransistorShort (n : Fin 32) (x : Fin 2) (s : State) : Host.Outcome State Fault Refusal :=
  .next (
    if s.bit (F.SLC_LIM3_VALID n) ∧ (s.sx n).gate ≠ some x.val then slcLatch s n (4 + x.val) F.SLC_EVENT_FET_SHORT else s)

/-! ## Limits (R327, R328) -/

/-- Limit register i of controller n. -/
def slcLim (n i : Nat) : Reg :=
  if i = 0 then R.SLC_LIM0 n else if i = 1 then R.SLC_LIM1 n else if i = 2 then R.SLC_LIM2 n else R.SLC_LIM3 n

/-- VALID is set: a bus in its window, as it was last measured, is good at once (R330). -/
def slcValid (s : State) (n : Nat) : State :=
  let within := fun (v : Nat) => decide (s.get (F.SLC_LIM2_UV n) ≤ v) && decide (v ≤ s.get (F.SLC_LIM2_OV n))
  let s := (s.putB (busField n 0) (within (s.get (F.SLC_MEAS_VBUS_A n)))).putB (busField n 1) (within (s.get (F.SLC_MEAS_VBUS_B n)))
  if slcState s n = 0 then s.put (F.SLC_STATUS_STATE n) 1 else s

/-- A write of SLC_LIM0 to SLC_LIM3: refused as a whole from the Governor while a feed is on. -/
def wrSlcLim (n i : Nat) (w : Wr) (s : State) : State :=
  if w.mid = midGov ∧ (s.sx n).gate.isSome then s.refuse (slcLim n i).addr w.mid w.size
  else
    let was := s.bit (F.SLC_LIM3_VALID n)
    let s := s.writeReg (slcLim n i) w
    let now := s.bit (F.SLC_LIM3_VALID n)
    if now && !was then slcValid s n
    else if was && !now then (if slcState s n = 4 then s else feedsOff s n 0)
    else s

/-- LIMIT_WRITE (R328): the Governor writes limit register i. -/
def execLimitWrite (n : Fin 32) (i : Fin 4) (v : BitVec 32) (s : State) : Host.Outcome State Fault Refusal :=
  .next (wrSlcLim n i (wrFull midGov false (v.setWidth 64)) s)

/-- MEASUREMENT_REFRESH (R346). -/
def execMeasurementRefresh (n : Fin 32) (vout : BitVec 16) (busA : BitVec 16) (busB : BitVec 16) (iout : BitVec 16) (s : State) :
    Host.Outcome State Fault Refusal :=
  .next ((((s.put (F.SLC_MEAS_VOUT n) vout.toNat).put (F.SLC_MEAS_VBUS_A n) busA.toNat).put (F.SLC_MEAS_VBUS_B n) busB.toNat).put
    (F.SLC_MEAS_IOUT n) iout.toNat)

/-! ## Supply of the controllers (R420) -/

/-- Every feed is turned off without a latch. -/
def slcAllOff (s : State) : State :=
  (List.range 32).foldl (fun s n => if slcState s n = 4 ∨ slcState s n = 0 then s else feedsOff s n 1) s

end Sys2Proof.Machine
end

