-- ==== Sys2Proof/Machine/ResetCore.lean ====
section
/-! DEFINITION. What a reset of the device clears and keeps, and its release (R365, R406, R421 to R427). -/

namespace Sys2Proof.Machine

/-- Registers that every reset but a power-on reset keeps (R365, R421), those of the Governor that its running cores keep, and
those that show clocks, rails and pins. -/
def keptReg (a : Nat) : Bool :=
  a == 0x40000000 || a == 0x40000010 || a == 0x40000018 || (decide (0x40000020 ≤ a) && decide (a < 0x40000040))
  || a == 0x40000060 || a == 0x40000068 || a == 0x40200004 || a == 0x4B000030
  || a == 0x40100008 || a == 0x40100010 || a == 0x40100018 || a == 0x40100030
  || (decide (0x40100060 ≤ a) && decide (a < 0x40100080))
  || (decide (0x40300000 ≤ a) && decide (a < 0x40300028)) || a == 0x40300038

/-- Every unit but the Governor is held in reset and cleared (R424, R426): memories are zero, and DRAM keeps nothing. -/
def unitsReset (s : State) : State :=
  let t : State := {}
  let t : State := { t with
    regs := tdrop (fun a => !keptReg a) s.regs
    img := { flash := s.img.flash, density := s.img.density }
    fuse := s.fuse
    brk := { hist := s.brk.hist, pinAt := s.brk.pinAt, deferred := s.brk.deferred }
    gov := { s.gov with lim := {}, ide := [], ideOn := [] }
    pwr := { s.pwr with loaderUp := false, poolUp := false, held := true }
    outs := s.outs, fresh := s.fresh, pending := s.pending }
  histShow (t.put F.GOV_STATUS_POLICY 0)

/-- A hold: the units are in reset until it ends (R424). -/
def unitsHold (s : State) : State := unitsReset s

/-- Does something keep the units in reset? -/
def resetStays (s : State) : Bool :=
  s.pwr.pinLow || s.pwr.brown || s.pwr.sysLost || s.get F.GOV_STATUS_THERM == 2 || s.get F.GOV_ALARM_LEVEL == 3

/-- A buffer bank that fails its start-up test is mapped out (R406). -/
def bankTestFail (s : State) (b : Fin 256) : State :=
  let s := (s.setBit (F.SWC_BANK_OUT_OUT (b / 64)) (b % 64)).put F.SWC_STATUS_BANKS_OUT (s.get F.SWC_STATUS_BANKS_OUT + 1)
  (s.put F.SWC_STATUS_FREE (s.get F.SWC_STATUS_FREE - 2048)).raise 192

/-- The assignment of logical slices to the physical slices that pass (R180). -/
def sliceAssign (s : State) (bad : List (Fin 34)) : State :=
  let good := (List.range 34).filter fun p => !bad.any fun b => b.val == p
  let s := (List.range 34).foldl (fun s p =>
    match good.findIdx? (· == p) with
    | some l =>
      if l < 32 then (putLmap (s.put (F.COH_SL_STATUS_ROLE p) 0) l p).put (F.COH_SL_STATUS_LOGICAL p) l
      else s.put (F.COH_SL_STATUS_ROLE p) 1
    | none => (s.put (F.COH_SL_STATUS_ROLE p) 2).raise 192) s
  s

/-- Results of the start-up self-tests (R406). -/
def selfTests (s : State) (t : SelfTest) : State :=
  let s := t.banks.eraseDups.foldl bankTestFail s
  let s := if t.slices.isEmpty then s else sliceAssign s t.slices.eraseDups
  (t.engines.map (·.val)).eraseDups.foldl (fun s e => (s.put (F.HOP_ENG_STATUS_FAILED e) 1).raise 192) s

/-- Region 0 of MPU 24, which decides every debug access (R380). -/
def debugRegion (s : State) : State :=
  (s.wr (R.MPU_REG_B 24 0) 0x000003FFFFFFFFFF#64).wr (R.MPU_REG_A 24 0) 0xEC00000000000000#64

/-- Steps 2 to 5 of the power-up timeline (R427): the loader, Brake and the pool front end are released. -/
def releaseUnits (s : State) (t : SelfTest) : State :=
  let s := debugRegion ((s.put F.CRP_AVS_REQUEST (s.get F.CRP_AVS_TARGET)).put F.CRP_STATUS_PLL_LOCK 1)
  let s := s.put F.IMG_ARB_COUNT s.fuse.arb
  selfTests { s with pwr := { s.pwr with loaderUp := true, poolUp := true, held := false, req := false, reqSrc := 0xFFF } } t

/-- The units leave reset where nothing keeps them there; Brake records the reset (R357). -/
def tryRelease (s : State) (t : SelfTest) : State :=
  if resetStays s then s
  else (releaseUnits s t).raise 16 (.reset s.pwr.reqSrc)

end Sys2Proof.Machine
end

