-- ==== Sys2Proof/Machine/Alarm.lean ====
section
/-! DEFINITION. The security alarm, debug tokens and sensors (R379, R384 to R387, R391). -/

namespace Sys2Proof.Machine

def State.modGov (s : State) (f : GovSt → GovSt) : State := { s with gov := f s.gov }

/-- The debug token is withdrawn (R379). -/
def tokenDrop (s : State) : State :=
  ((((s.put F.GOV_DBG_VALID 0).put F.GOV_DBG_INTERNAL 0).put F.GOV_DBG_RUNCTL 0).put F.GOV_DBG_LEFT 0).put (F.MPU_DBG_TOKEN 24) 0

/-- The result of a request of either path (R377). -/
def govResult (s : State) (req : Bool) (code : Nat) : State :=
  if req then (s.put F.GOV_REQ_CMD_RESULT code).put F.GOV_REQ_CMD_BUSY 0
  else s.out (.govcmd ((List.range 4).flatMap fun k => leBytes 8 (s.get (F.GOV_CHAL_CHAL k))) code)

/-- GOV_FUSE shows the fuses. -/
def fuseShow (s : State) : State :=
  let bits := fun (f : KeySet → Bool) => (List.range 4).foldl (fun a k => if f (s.fuse.keys.getD k {}) then a + 2 ^ k else a) 0
  ((s.put F.GOV_FUSE_PROGRAMMED (bits (·.prog))).put F.GOV_FUSE_REVOKED (bits (·.rev))).putB F.GOV_FUSE_SEED s.fuse.seed.isSome

/-- Change a key set of the fuses. -/
def setKey (s : State) (i : Nat) (f : KeySet → KeySet) : State :=
  { s with fuse := { s.fuse with keys := s.fuse.keys.modify i f } }

/-- A fuse burn is cut short (R392): the bit in hand is completed, the rest abandoned. -/
def burnAbort (s : State) (code : Nat) : State :=
  match s.gov.burn with
  | none => s
  | some b =>
    let s := s.modGov fun g => { g with burn := none }
    let s := if b.op = 1 then (setKey s b.set fun k => { k with part := true, digest := (List.range 48).map (Config.freeByte s.fresh) }).bump
      else if b.op = 2 then setKey s b.set fun k => { k with rev := true }
      else { s with fuse := { s.fuse with seedPart := true } }
    govResult (fuseShow s) b.req code

/-- Alarm level 2: every IDE key set and session is erased (R386). -/
def keysErase (s : State) : State := s.modGov fun g => { g with ide := [], ideOn := [], sessions := [] }

/-- A trigger of the alarm (R385, R386): cause is its bit in GOV_ALARM.CAUSE. -/
def alarmTo (s : State) (level cause : Nat) : State :=
  let old := s.get F.GOV_ALARM_LEVEL
  let first := s.get F.GOV_ALARM_CAUSE = 0
  let s := (burnAbort s 6).setBit F.GOV_ALARM_CAUSE cause
  let s := if first ∧ 0 < level then s.put F.GOV_ALARM_TIME (s.get F.MGT_MTIME_TIME) else s
  if level ≤ old then s
  else
    let s := (s.put F.GOV_ALARM_LEVEL level).put F.GOV_STATUS_ALARM level
    let s := if old = 0 then tokenDrop (s.raise 43) else s
    let s := if 2 ≤ level ∧ old < 2 then keysErase s else s
    if level = 3 then unitsHold s else s

/-- Once the image's policy applies, a tamper input that was seen raises the alarm to the policy's level (R385). -/
def tamperToPolicy (s : State) : State :=
  if s.get F.GOV_TAMPER_SEEN = 0 then s else alarmTo s (s.get F.GOV_POLICY_TAMPER) 0

/-- TAMPER_INPUT (R384): an input has been low, or high again, for its filter time. -/
def execTamperInput (i : Fin 4) (low : Bool) (s : State) : Host.Outcome State Fault Refusal :=
  .next (
    if low then alarmTo (((s.setBit F.GOV_TAMPER_NOW i).setBit F.GOV_TAMPER_SEEN i).raise (32 + i)) (s.get F.GOV_POLICY_TAMPER) 0
    else s.clrBit F.GOV_TAMPER_NOW i)

/-- Was there an event at t within the last second? -/
def withinSec (s : State) (t : Option Nat) : Bool :=
  match t with
  | some t => decide (s.get F.MGT_MTIME_TIME ≤ t + 32000000)
  | none => false

/-- A glitch (R385). -/
def glitch (s : State) (cause : Nat) : State :=
  let second := withinSec s s.gov.glitch
  let s := s.modGov fun g => { g with glitch := some (s.get F.MGT_MTIME_TIME) }
  alarmTo s (if second then 2 else 1) cause

def execVoltageGlitch (s : State) : Host.Outcome State Fault Refusal := .next (glitch (s.raise 36) 1)

def execClockGlitch (s : State) : Host.Outcome State Fault Refusal := .next (glitch (s.raise 37) 2)

/-- A new challenge (R375). -/
def newChallenge (s : State) : State :=
  let b := Config.drbg s.fresh
  ([0, 1, 2, 3] : List Nat).foldl (fun s k => s.put (F.GOV_CHAL_CHAL k) (leN b (8 * k) 8)) s.bump

/-- LOCKSTEP_MISMATCH (R391). -/
def execLockstepMismatch (s : State) : Host.Outcome State Fault Refusal :=
  .next (
    let second := withinSec s s.gov.mismatch
    let s := burnAbort s 0xA
    let s := s.modGov fun g => { g with mismatch := some (s.get F.MGT_MTIME_TIME), sessions := [] }
    let s := newChallenge (tokenDrop (s.raise 40))
    let s := if second then s.put F.GOV_STATUS_HALTED 1 else s.inc F.GOV_STATUS_RESTARTS
    alarmTo s 1 3)

end Sys2Proof.Machine
end

