-- ==== Sys2Proof/Machine/Governor.lean ====
section
/-! DEFINITION. The Governor's requests: signed commands, SPDM, IDE keys; the load-step limiter and thermal control (R375 to
R383, R388 to R390). -/

namespace Sys2Proof.Machine

/-! ## Signed commands (R375, R376) -/

/-- The bytes of a signed command. -/
def cmdBytes (s : State) : CmdPath → Bytes
  | .req _ => s.spdRd (s.get F.GOV_REQ_ADDR_OFFSET) 320
  | .jtag c => c
  | .session _ c => c

/-- Is it well formed? -/
def cmdShape (c : Bytes) : Bool :=
  c.length == 320 && slice c 0 4 == [0x4F#8, 0x43#8, 0x4D#8, 0x44#8] && leN c 4 2 == 1 && decide (u8 c 6 < 4)
  && decide (1 ≤ u8 c 7) && decide (u8 c 7 ≤ 5) && (decide (2 < u8 c 7) || decide (u8 c 8 < 4)) && zeros c 9 7 && zeros c 0x38 8

/-- Key set i of the fuses. -/
def keySet (s : State) (i : Nat) : KeySet := s.fuse.keys.getD i {}

/-- Is key set i usable (R373)? -/
def keyUsable (s : State) (i : Nat) : Bool := (keySet s i).prog && !(keySet s i).rev

/-- Is no fuse of key set i burnt? -/
def keyBlank (s : State) (i : Nat) : Bool := keySet s i == {}

/-- The key index of the running image; none where none runs. -/
def runningKey (s : State) : Option Nat :=
  if s.get F.IMG_STATUS_STATE = 4 then some (u8 (flashRd s (s.get F.IMG_STATUS_SLOT * 0x2000000 + 0xA) 1) 0) else none

/-- The condition of an operation (R376, R379). -/
def cmdCond (s : State) (path : CmdPath) (c : Bytes) : Bool :=
  let t := u8 c 8
  match u8 c 7 with
  | 1 => keyBlank s t
  | 2 => (keySet s t).prog && runningKey s != some t && u8 c 6 != t
      && ([0, 1, 2, 3] : List Nat).any fun i => i != t && keyUsable s i
  | 3 => s.fuse.seed.isNone
      && (match path with
          | .session p _ => s.gov.sessions.contains p.val
          | _ => false)
  | 4 => s.get F.GOV_ALARM_LEVEL == 1
  | _ => (s.get F.IMG_STATUS_STATE == 6 || (s.bit F.GOV_STATUS_POLICY && s.bit F.GOV_POLICY_DEBUG))
      && decide (leN c 0x40 4 < 4) && decide (1 ≤ leN c 0x44 4) && decide (leN c 0x44 4 ≤ 86400)

/-- The RESULT of a command's checks: 0 where it is accepted. -/
def cmdCode (s : State) (path : CmdPath) (c : Bytes) : Nat :=
  let k := u8 c 6
  let free := u8 c 7 == 1 && u8 c 8 == 0 && ([0, 1, 2, 3] : List Nat).all fun i => !(keySet s i).prog
  let chal := (List.range 4).flatMap fun k => leBytes 8 (s.get (F.GOV_CHAL_CHAL k))
  if !cmdShape c then 1
  else if leN c 0x10 8 ≠ s.get F.GOV_SERIAL_SERIAL ∨ slice c 0x18 32 ≠ chal then 2
  else if !free && !keyUsable s k then 3
  else if !free && (Config.sha384 (slice c 0x80 96) != (keySet s k).digest
      || !Config.ecdsaOk (slice c 0x80 96) (slice c 0 0x80) (slice c 0xE0 48) (slice c 0x110 48)) then 4
  else if (if u8 c 7 = 4 then 2 else 1) ≤ s.get F.GOV_ALARM_LEVEL then 6
  else if !cmdCond s path c then 5
  else 0

/-- A refused command is counted; the eighth raises the alarm (R378). -/
def cmdFail (s : State) : State :=
  let s := s.inc F.GOV_STATUS_FAILS
  if s.get F.GOV_STATUS_FAILS = 8 then alarmTo s 1 4 else s

/-- A debug token is issued (R379). -/
def tokenIssue (s : State) (perm life : Nat) : State :=
  let s := (((s.put F.GOV_DBG_VALID 1).putB F.GOV_DBG_INTERNAL (perm.testBit 0)).putB F.GOV_DBG_RUNCTL (perm.testBit 1)).put
    F.GOV_DBG_LEFT life
  ((s.putB (F.MPU_DBG_TOKEN 24) (perm.testBit 0)).modGov fun g => { g with tokenAt := s.get F.MGT_MTIME_TIME }).raise 42

/-- An accepted command takes effect: a burn starts, the alarm is cleared, a token is issued. -/
def cmdRun (s : State) (req : Bool) (c : Bytes) : State :=
  if u8 c 7 ≤ 3 then
    let s := s.modGov fun g => { g with burn := some ⟨u8 c 7, u8 c 8, slice c 0x40 64, req⟩ }
    if req then (s.put F.GOV_REQ_CMD_BUSY 1).put F.GOV_REQ_CMD_RESULT 0 else s
  else
    let s := if u8 c 7 = 4 then (s.put F.GOV_ALARM_LEVEL 0).put F.GOV_STATUS_ALARM 0
      else tokenIssue s (leN c 0x40 4) (leN c 0x44 4)
    govResult s req 0

/-- Is the path that of GOV_REQ_CMD? A command in a secure session arrives in a request too. -/
def CmdPath.isReq : CmdPath → Bool
  | .jtag _ => false
  | _ => true

/-- A signed command is checked and, where it is accepted, performed. -/
def signedCmd (s : State) (path : CmdPath) : State :=
  if s.bit F.GOV_STATUS_HALTED then govResult s path.isReq 0xA
  else
    let c := cmdBytes s path
    let n := cmdCode s path c
    let s := newChallenge s
    if n = 0 then cmdRun s path.isReq c else govResult (cmdFail s) path.isReq n

/-- Is a request in progress? -/
def govBusy (s : State) : Bool := s.gov.burn.isSome

/-! ## SPDM (R381) -/

/-- The Governor answers an SPDM message, or issues one where LEN is 0. -/
def spdmRun (s : State) : State :=
  let p := s.get F.GOV_REQ_CMD_PORT
  let a := s.get F.GOV_REQ_ADDR_OFFSET
  let n := s.get F.GOV_REQ_CMD_LEN
  if s.bit F.GOV_STATUS_HALTED then govResult s true 0xA
  else if 4096 < n ∨ a % 64 ≠ 0 then govResult s true 1
  else
    let x := Config.spdm s.fresh p (s.spdRd a n)
    let s := s.bump
    let code := if x.result = 1 ∨ x.result = 8 ∨ x.result = 9 then x.result else 0
    if x.opens ∧ 2 ≤ s.get F.GOV_ALARM_LEVEL then govResult s true 6
    else
      let rsp := x.rsp.take 4096
      let s := ((spdPut s (a + 0x1000) rsp []).1).put F.GOV_REQ_RSP_LEN rsp.length
      let s := s.modGov fun g => { g with
        sessions := if x.ends then g.sessions.filter (· != p) else if x.opens ∧ !g.sessions.contains p then g.sessions ++ [p] else g.sessions }
      govResult s true code

/-- A write of GOV_REQ_CMD (R377). -/
def wrReqCmd (w : Wr) (s : State) : State :=
  if w.sets F.GOV_REQ_CMD_START ∧ govBusy s then s.refuse R.GOV_REQ_CMD.addr w.mid w.size
  else
    let s := s.writeReg R.GOV_REQ_CMD w
    if !w.sets F.GOV_REQ_CMD_START then s
    else if s.get F.GOV_REQ_CMD_OP = 1 then
      (if s.get F.GOV_REQ_CMD_LEN = 320 then signedCmd s (.req (Fin.ofNat 4096 w.mid)) else govResult (cmdFail (newChallenge s)) true 1)
    else if s.get F.GOV_REQ_CMD_OP = 2 then spdmRun s
    else s

/-- A signed command whose OP is op arrives: by its request, by JTAG, or inside a session. -/
def cmdArrive (op : Nat) (path : CmdPath) (s : State) : State :=
  let c := cmdBytes s path
  if cmdShape c ∧ u8 c 7 ≠ op then s
  else match path with
    | .req mid => wrReqCmd (wrFull mid false (bitsPut (bitsPut (bitsPut 0#64 31 31 1) 29 28 1) 12 0 320)) s
    | .jtag _ => if govBusy s then govResult s false 0xB else signedCmd s path
    | .session p _ =>
      if govBusy s then s else if s.gov.sessions.contains p.val then signedCmd s path else govResult s true 9

/-- PROGRAM_KEY_SET (R376). -/
def execProgramKeySet (path : CmdPath) (s : State) : Host.Outcome State Fault Refusal := .next (cmdArrive 1 path s)

/-- REVOKE_KEY_SET (R376). -/
def execRevokeKeySet (path : CmdPath) (s : State) : Host.Outcome State Fault Refusal := .next (cmdArrive 2 path s)

/-- PROGRAM_IMAGE_SEED (R376). -/
def execProgramImageSeed (path : CmdPath) (s : State) : Host.Outcome State Fault Refusal := .next (cmdArrive 3 path s)

/-- CLEAR_ALARM (R387). -/
def execClearAlarm (path : CmdPath) (s : State) : Host.Outcome State Fault Refusal := .next (cmdArrive 4 path s)

/-- DEBUG_TOKEN (R379). -/
def execDebugToken (path : CmdPath) (s : State) : Host.Outcome State Fault Refusal := .next (cmdArrive 5 path s)

/-- FUSE_BURN_DONE (R376): the burn completes, or fails part of the way. -/
def execFuseBurnDone (ok : Bool) (s : State) : Host.Outcome State Fault Refusal :=
  .next (
    match s.gov.burn with
    | none => s
    | some b =>
      if !ok then burnAbort s 7
      else
        let s := s.modGov fun g => { g with burn := none }
        let s := if b.op = 1 then setKey s b.set fun k => { k with digest := b.arg.take 48, prog := true }
          else if b.op = 2 then setKey s b.set fun k => { k with rev := true }
          else if s.fuse.seedPart then
            { s with fuse := { s.fuse with seed := some ((List.range 32).map (Config.freeByte s.fresh)) } }.bump
          else { s with fuse := { s.fuse with seed := some (b.arg.take 32) } }
        govResult (fuseShow s) b.req 0)

/-- TOKEN_EXPIRE (R379). -/
def execTokenExpire (s : State) : Host.Outcome State Fault Refusal :=
  .next (if s.bit F.GOV_DBG_VALID then tokenDrop s else s)

/-- Seconds left of a token as they are read. -/
def tokenLeft (s : State) : Nat :=
  if s.bit F.GOV_DBG_VALID then s.get F.GOV_DBG_LEFT - (s.get F.MGT_MTIME_TIME - s.gov.tokenAt) / 32000000 else 0

/-- SPDM_MESSAGE (R381). -/
def execSpdmMessage (mid : Mid) (p : Fin 96) (len : Fin 4097) (s : State) : Host.Outcome State Fault Refusal :=
  .next (wrReqCmd (wrFull mid false
    (bitsPut (bitsPut (bitsPut (bitsPut 0#64 31 31 1) 29 28 2) 23 17 p) 12 0 len)) s)

/-! ## IDE keys (R382, R383) -/

/-- Number of a key set. -/
def ideKey (p dir sub stream kset : Nat) : Nat := ideStream p dir sub stream * 2 + kset

/-- A write of GOV_KPROG (R382): START writes or erases a key set in the engine of a PCIe/CXL port. -/
def wrKprog (w : Wr) (s : State) : State :=
  if w.mid ≠ midGov then s.writeReg R.GOV_KPROG w
  else if 9 < w.val s F.GOV_KPROG_STREAM then s.refuse R.GOV_KPROG.addr w.mid w.size
  else
    let s := (s.writeReg R.GOV_KPROG w).put F.GOV_KPROG_START 0
    if !w.sets F.GOV_KPROG_START ∨ !isPcie s (s.get F.GOV_KPROG_PORT) then s
    else
      let st := ideStream (s.get F.GOV_KPROG_PORT) (s.get F.GOV_KPROG_DIR) (s.get F.GOV_KPROG_SUB) (s.get F.GOV_KPROG_STREAM)
      let i := st * 2 + s.get F.GOV_KPROG_KSET
      if s.bit F.GOV_KPROG_ERASE then
        s.modGov fun g => { g with
          ide := tput none g.ide i none
          ideOn := if tget 0 g.ideOn st = s.get F.GOV_KPROG_KSET + 1 then tput 0 g.ideOn st 0 else g.ideOn }
      else
        s.modGov fun g => { g with
          ide := tput none g.ide i (some ⟨(List.range 4).map fun k => s.rd (R.GOV_KSTAGE k), s.rd R.GOV_KIV⟩) }

/-- KEY_PROGRAM (R382): the Governor writes GOV_KPROG with START. -/
def execKeyProgram (v : BitVec 32) (s : State) : Host.Outcome State Fault Refusal :=
  .next (wrKprog (wrFull midGov false (v.setWidth 64 ||| 0x80000000#64)) s)

/-- The Governor stages a key and IV and programs them. -/
def keyProg (s : State) (p : Nat) (dir : Bool) (sub stream kset : Nat) (key : List Word) (iv : Word) : State :=
  let s := ([0, 1, 2, 3] : List Nat).foldl (fun s k => s.wr (R.GOV_KSTAGE k) (key.getD k 0#64)) s
  let v := bitsPut (bitsPut (bitsPut (bitsPut (bitsPut (bitsPut 0#64 31 31 1) 28 28 dir.toNat) 27 27 kset) 26 25 sub) 24 21 stream) 6 0 p
  wrKprog (wrFull midGov false v) (s.wr R.GOV_KIV iv)

/-- KEY_PROG (R382): from the host of an upstream port, inside a secure session. -/
def execKeyProg (p : Fin 96) (dir : Bool) (sub : Fin 4) (stream : Fin 10) (kset : Fin 2) (key : Vector Word 4) (iv : Word)
    (s : State) : Host.Outcome State Fault Refusal :=
  .next (if role s p = 1 ∧ s.gov.sessions.contains p.val then keyProg s p dir sub stream kset key.toList iv else s)

/-- K_SET_GO (R382): a programmed key set takes effect. -/
def execKSetGo (p : Fin 96) (dir : Bool) (sub : Fin 4) (stream : Fin 10) (kset : Fin 2) (s : State) :
    Host.Outcome State Fault Refusal :=
  .next (
    if s.gov.sessions.contains p.val ∧ (tget none s.gov.ide (ideKey p dir.toNat sub stream kset)).isSome then
      s.modGov fun g => { g with ideOn := tput 0 g.ideOn (ideStream p dir.toNat sub stream) (kset + 1) }
    else s)

/-- K_SET_STOP (R382). -/
def execKSetStop (p : Fin 96) (dir : Bool) (sub : Fin 4) (stream : Fin 10) (kset : Fin 2) (s : State) :
    Host.Outcome State Fault Refusal :=
  .next (
    if s.gov.sessions.contains p.val ∧ tget 0 s.gov.ideOn (ideStream p dir.toNat sub stream) = kset + 1 then
      s.modGov fun g => { g with ideOn := tput 0 g.ideOn (ideStream p dir.toNat sub stream) 0 }
    else s)

/-! ## Load-step limiter (R388, R389) -/

/-- Move a toward b by at most d. -/
def stepTo (a b d : Nat) : Nat := if a ≤ b then min b (a + d) else max b (a - d)

/-- One tick of 100 ns: want is the demand and step the limit in tenths of an ampere, lead the lead time in ns. -/
def limiterTick (want step lead : Nat) (l : Limiter) : Limiter :=
  let past := (l.est :: l.hist).take 10
  let lo := past.foldl min l.est
  let hi := past.foldl max l.est
  let wide := decide (lo + 160 < want) || decide (want + 160 < hi)
  let led := match l.warn with
    | some t => decide (lead ≤ 100 * t)
    | none => false
  let cand := stepTo l.est want step
  let est := if led then cand else max (min cand (lo + 160)) (hi - 160)
  let now := (est :: past).take 11
  let calm := decide (now.foldl max est < now.foldl min est + 160) && !wide
  { est := est, hist := past
    warn := if calm then none else match l.warn with
      | some t => some (t + 1)
      | none => if wide then some 1 else none
    waiting := decide (est < want) }

/-- LIMITER_TICK (R388): the units' demand, in amperes. -/
def execLimiterTick (want : Fin 512) (s : State) : Host.Outcome State Fault Refusal :=
  .next (
    let old := s.gov.lim
    let l := limiterTick (10 * want.val) (s.get F.GOV_POLICY_STEP) (s.get F.GOV_POLICY_LEAD) old
    let s := ((s.modGov fun g => { g with lim := l }).put F.GOV_LIMIT_EST (l.est / 10)).putB F.GOV_LIMIT_WARN l.warn.isSome
    let s := if l.warn.isSome && old.warn.isNone then s.inc F.GOV_LIMIT_WARNS else s
    let s := if l.waiting then s.inc F.GOV_LIMIT_ENGAGED else s
    if l.waiting && !old.waiting then s.raise 41 else s)

/-! ## Thermal control (R390) -/

/-- THERMAL_SAMPLE (R390): the highest temperature and its sensor. -/
def execThermalSample (t : Fin 256) (sensor : Fin 24) (s : State) : Host.Outcome State Fault Refusal :=
  .next (
    let s := ((s.put F.GOV_THERM_NOW t).put F.GOV_THERM_SENSOR sensor).put F.GOV_THERM_PEAK (max t.val (s.get F.GOV_THERM_PEAK))
    let th := s.get F.GOV_STATUS_THERM
    let warn := s.get F.GOV_POLICY_WARN
    if th = 2 then
      s.modGov fun g => { g with
        cool := if t.val + 10 ≤ warn then some (g.cool.getD (s.get F.MGT_MTIME_TIME)) else none }
    else if 135 ≤ t.val then (unitsHold (s.put F.GOV_STATUS_THERM 2)).modGov fun g => { g with cool := none }
    else if s.get F.GOV_POLICY_SHUT ≤ t.val then
      (unitsHold ((brkAccept s ⟨39, .unit⟩ .none).put F.GOV_STATUS_THERM 2)).modGov fun g => { g with cool := none }
    else if th = 0 ∧ warn ≤ t.val then (s.put F.GOV_STATUS_THERM 1).raise 38
    else if th = 1 ∧ t.val + 3 ≤ warn then s.put F.GOV_STATUS_THERM 0
    else s)

/-- THERMAL_HOLD_END (R390): the hold ends in a chip reset. -/
def execThermalHoldEnd (s : State) : Host.Outcome State Fault Refusal :=
  .next (
    if s.get F.GOV_STATUS_THERM = 2 ∧ s.gov.cool.isSome then
      chipRequest ((s.put F.GOV_STATUS_THERM 0).modGov fun g => { g with cool := none }) F.CRP_RESET_CAUSE_THERMAL
    else s)

end Sys2Proof.Machine
end

