-- ==== Sys2Proof/Machine/Pmc.lean ====
section
/-! DEFINITION. Performance counters, snapshots and sampling (R408 to R416). -/

namespace Sys2Proof.Machine

/-! ## Events (R409) -/

/-- Does the table list event e of instance i of a unit? Unit 0 counts nothing. -/
def evListed (u i e : Nat) : Bool :=
  let has := fun (ni ne : Nat) => decide (i < ni) && decide (1 ≤ e) && decide (e ≤ ne)
  match u with
  | 0 => true
  | 1 => has 96 7
  | 2 => has 96 5
  | 3 => has 127 8
  | 4 => has 1 4
  | 5 => has 1 3
  | 6 => has 34 7
  | 7 => has 12 5
  | 8 => has 16 4
  | 9 => has 64 3
  | 10 => has 8 8
  | 11 => has 1 3
  | 12 => has 64 4
  | 13 => has 1 2
  | 14 => has 4 3
  | 15 => has 1 1
  | _ => false

/-- Does TC_MASK apply to the event? -/
def evTc (u e : Nat) : Bool := (u == 3) || (u == 4 && e == 2)

/-- Events that permit PRECISE. -/
def evPrecise (u e : Nat) : Bool := u == 10 && decide (2 ≤ e) && decide (e ≤ 7)

/-- Is the instance out of service, so that it presents 0? -/
def evOut (s : State) (u i : Nat) : Bool :=
  match u with
  | 1 => role s i == 0
  | 2 => role s i != 3
  | 3 => decide (i < 96) && role s i == 0
  | 6 => s.get (F.COH_SL_STATUS_ROLE i) == 2
  | 8 => s.bit (F.HOP_ENG_STATUS_FAILED i)
  | 10 => !s.hasBit F.MGT_STATUS_ALIVE i
  | _ => s.pwr.held

/-- Classes of a mask; 0 names every class. -/
def maskOf (m : Nat) : List Nat := (List.range 8).filter fun c => m == 0 || m.testBit c

/-- The level of an occupancy event, and the events that show a state of the unit in each tick; none for an event whose
occurrences the unit presents. -/
def evLevel (s : State) (u i e m : Nat) : Option Nat :=
  match u, e with
  | 1, 5 => if role s i = 3 then some (s.ox i).used.sum else none
  | 1, 7 => some (if s.get (F.PORT_LINK_STATUS_LANES i) < s.get (F.PORT_LINK_STATUS_FULL_LANES i) then 1 else 0)
  | 2, 4 => some (s.ox i).held.length
  | 2, 5 => some (s.get (F.OFL_STATUS_WINDOW_FULL i))
  | 3, 3 => some ((maskOf m).map fun c => queueOcc s (queueNo i c)).sum
  | 3, 5 => some ((maskOf m).filter fun c => isCongested s (queueNo i c)).length
  | 3, 7 => some ((maskOf m).map fun c => (tget [] s.mill.chains (queueNo i c)).length).sum
  | 4, 1 => some (s.get F.SWC_STATUS_FREE)
  | 4, 2 => some (s.mill.waiting.filter fun x => (maskOf m).contains (classOf s x.pkt)).length
  | 6, 4 => some (s.get (F.COH_SL_TRACK_INFLIGHT i))
  | 6, 5 => some (s.get (F.COH_SL_TRACK_EVBUF i))
  | 6, 6 => some (s.get (F.COH_SL_TRACK_WAITING i))
  | 7, 3 => some (tget [] s.pool.chq i).length
  | 8, 3 => some (((List.range 64).map fun c => ((s.hc i c).work.map fun d => (d.bursts.map fun b =>
      ((b.reads ++ b.other).filter fun p => !p.ok).length).sum).sum).sum)
  | 8, 4 => some ((List.range 64).filter fun c => chState s i c == 2).length
  | 9, 3 => some ((fnsWhere fun n => fnIn s n i).map fun n => (s.fx n).held.length).sum
  | 13, 1 => some (s.get F.GOV_LIMIT_EST)
  | 13, 2 => some (if s.gov.lim.waiting then 1 else 0)
  | 15, 1 => some 1
  | _, _ => none

/-- The tick value of counter n's event (R408). -/
def tickVal (s : State) (ev : List PmcEv) (n : Nat) : Nat :=
  let u := s.get (F.PMC_SEL_UNIT n)
  let i := s.get (F.PMC_SEL_INSTANCE n)
  let e := s.get (F.PMC_SEL_EVENT n)
  let m := s.get (F.PMC_SEL_TC_MASK n)
  if u = 0 ∨ evOut s u i then 0
  else match evLevel s u i e m with
    | some v => v
    | none => ((ev.filter fun x => x.unit == u && x.inst == i && x.event == e
        && (!evTc u e || (maskOf m).contains x.cls)).map fun x => x.n).sum

/-! ## COUNTER_TICK -/

/-- What a mode adds for tick value v after p (R408). -/
def modeAdd (mode thresh p v : Nat) : Nat :=
  match mode with
  | 0 => v
  | 1 => if thresh ≤ v then 1 else 0
  | 2 => if v < thresh then 1 else 0
  | 3 => if thresh ≤ v ∧ p < thresh then 1 else 0
  | _ => 0

/-- Does counter n count the wraps of the counter below it (R411)? -/
def chained (s : State) (n : Nat) : Bool := n % 2 == 1 && s.bit (F.PMC_SEL_CHAIN n)

/-- A core sample at an overflow of counter n (R413, R416). -/
def coreSample (s : State) (n : Nat) (cs : List CoreAt) : State :=
  let k := s.get (F.PMC_SEL_INSTANCE n)
  let x := cs.getD k ⟨0, 0, 0, 0⟩
  let pr := s.bit (F.PMC_SEL_PRECISE n)
  let e := s.get (F.PMC_SEL_EVENT n)
  let addr := if pr ∧ (e = 3 ∨ e = 4 ∨ e = 6 ∨ e = 7) then x.addr.toNat else 0
  let w := n + k * 1024 + (if pr then 8192 else 0) + x.priv.val * 16384
  smpPut s (leBytes 8 (s.get F.MGT_MTIME_TIME) ++ leBytes 2 w ++ leBytes 1 1 ++ leBytes 1 (if pr then 0 else min 255 x.skid)
    ++ leBytes 4 0 ++ leBytes 8 x.pc.toNat ++ leBytes 8 addr)

/-- The overflow of counter n (R410); a freeze takes effect at the end of the tick. -/
def overflow (cs : List CoreAt) (s : State) (n : Nat) : State :=
  let act := s.get (F.PMC_SEL_OVF_ACT n)
  let s := if act.testBit 0 then (s.setBit (F.PMC_OVF_CNT (n / 64)) (n % 64)).raise 224 else s
  if s.bit (F.PMC_SEL_SAMPLE n) ∧ s.get (F.PMC_SEL_UNIT n) = 10 then coreSample s n cs else s

/-- Counter n in one tick, given how often the counter below it has wrapped; answers how often it wraps. -/
def tickOne (ev : List PmcEv) (s0 : State) (x : State × Nat × List Nat) (n : Nat) : State × Nat × List Nat :=
  let (s, below, ovf) := x
  if !s0.bit (F.PMC_SEL_EN n) then (s, 0, ovf)
  else
    let v := tickVal s0 ev n
    let add := if chained s0 n then below
      else modeAdd (s0.get (F.PMC_SEL_MODE n)) (s0.get (F.PMC_SEL_THRESH n)) (tget 0 s0.pmc.prev n) v
    let c := s0.get (F.PMC_CNT_COUNT n) + add
    let s := (s.put (F.PMC_CNT_COUNT n) (c % 2 ^ 48)).modPmc fun p => { p with prev := tput 0 p.prev n v }
    (s, c / 2 ^ 48, if 2 ^ 48 ≤ c ∧ !(n % 2 == 0 && chained s0 (n + 1)) then ovf ++ [n] else ovf)

/-- Previous values while no counter advances. -/
def tickIdle (ev : List PmcEv) (s : State) : State :=
  ((List.range 1024).filter fun n => s.bit (F.PMC_SEL_EN n)).foldl (fun t n =>
    t.modPmc fun p => { p with prev := tput 0 p.prev n (tickVal s ev n) }) s

/-- COUNTER_TICK (R408): one tick, with the occurrences that units present and what the cores show. -/
def execCounterTick (ev : List PmcEv) (cs : List CoreAt) (s : State) : Host.Outcome State Fault Refusal :=
  .next (
    if !s.bit F.PMC_CTRL_EN ∨ s.bit F.PMC_STATUS_FROZEN then tickIdle ev s
    else
      let x := (List.range 1024).foldl (tickOne ev s) (s, 0, [])
      let t := x.2.2.foldl (overflow cs) x.1
      if x.2.2.any fun n => (s.get (F.PMC_SEL_OVF_ACT n)).testBit 1 then t.put F.PMC_STATUS_FROZEN 1 else t)

/-! ## Snapshots, clearing, selectors (R409 to R413) -/

/-- A snapshot of all counters (R412). -/
def snapshot (s : State) : State :=
  let t := (List.range 1024).foldl (fun t n => t.put (F.PMC_SNAP_COUNT n) (s.get (F.PMC_CNT_COUNT n))) s
  t.put F.PMC_STATUS_SNAPS ((s.get F.PMC_STATUS_SNAPS + 1) % 65536)

/-- A write of PMC_CTRL. -/
def wrPmcCtrl (w : Wr) (s : State) : State :=
  let s := s.writeReg R.PMC_CTRL w
  let s := if w.sets F.PMC_CTRL_SNAP then snapshot s else s
  if w.sets F.PMC_CTRL_CLEAR then (List.range 1024).foldl (fun t n => t.put (F.PMC_CNT_COUNT n) 0) s else s

/-- SNAPSHOT (R412). -/
def execSnapshot (mid : Mid) (s : State) : Host.Outcome State Fault Refusal :=
  .next (wrPmcCtrl (wrField s mid false F.PMC_CTRL_SNAP 1) s)

/-- COUNTER_CLEAR (R408). -/
def execCounterClear (mid : Mid) (s : State) : Host.Outcome State Fault Refusal :=
  .next (wrPmcCtrl (wrField s mid false F.PMC_CTRL_CLEAR 1) s)

/-- May PMC_SEL n hold what a write leaves in it (R408, R409, R411, R413)? -/
def selOk (s : State) (n : Nat) (w : Wr) : Bool :=
  let u := w.val s (F.PMC_SEL_UNIT n)
  let e := w.val s (F.PMC_SEL_EVENT n)
  decide (w.val s (F.PMC_SEL_MODE n) < 4) && evListed u (w.val s (F.PMC_SEL_INSTANCE n)) e
  && (w.val s (F.PMC_SEL_CHAIN n) == 0 || n % 2 == 1) && (w.val s (F.PMC_SEL_SAMPLE n) == 0 || u == 10)
  && (w.val s (F.PMC_SEL_PRECISE n) == 0 || evPrecise u e)

/-- A write of PMC_SEL n. -/
def wrSel (n : Nat) (w : Wr) (s : State) : State :=
  if selOk s n w then s.writeReg (R.PMC_SEL n) w else s.refuse (R.PMC_SEL n).addr w.mid w.size

/-- SELECTOR_WRITE (R409). -/
def execSelectorWrite (mid : Mid) (n : Fin 1024) (v : Word) (s : State) : Host.Outcome State Fault Refusal :=
  .next (wrSel n (wrFull mid true v) s)

/-! ## Samples (R414, R415) -/

/-- SAMPLE_TIMEOUT (R414). -/
def execSampleTimeout (k : Fin 8) (s : State) : Host.Outcome State Fault Refusal := .next (tsEnd s k true false)

/-- A write of PMC_SMP_CTRL. -/
def wrSmpCtrl (w : Wr) (s : State) : State :=
  let s := s.writeReg R.PMC_SMP_CTRL w
  if w.sets F.PMC_SMP_CTRL_CLEAR then smpShow (s.modPmc fun p => { p with samples := [] })
  else if w.sets F.PMC_SMP_CTRL_POP then smpShow (s.modPmc fun p => { p with samples := p.samples.drop 1 })
  else s

/-- SAMPLE_POP (R415). -/
def execSamplePop (mid : Mid) (s : State) : Host.Outcome State Fault Refusal :=
  .next (wrSmpCtrl (wrField s mid false F.PMC_SMP_CTRL_POP 1) s)

/-- SAMPLE_CLEAR (R415). -/
def execSampleClear (mid : Mid) (s : State) : Host.Outcome State Fault Refusal :=
  .next (wrSmpCtrl (wrField s mid false F.PMC_SMP_CTRL_CLEAR 1) s)

end Sys2Proof.Machine
end

