-- ==== Sys2Proof/Machine/Fantail.lean ====
section
/-! DEFINITION. Fantail: scrubbing, adaptation, the flash log, telemetry, the in-service test (R393 to R407); spare lanes of the
tile crossings (R14). -/

namespace Sys2Proof.Machine

def State.modFan (s : State) (f : FanSt → FanSt) : State := { s with fan := f s.fan }

/-! ## SRAM scrub (R394, R395) -/

/-- Place of a word in the order of a pass. -/
def scrubKey : ScrubWord → Nat
  | .cell b w => b * 2 ^ 32 + w
  | .link b w => 2 ^ 48 + b * 2 ^ 32 + w
  | .dir p w => 2 * 2 ^ 48 + p * 2 ^ 32 + w
  | .tbl w => 3 * 2 ^ 48 + w
  | .spd w => 4 * 2 ^ 48 + w
  | .replay p n => 5 * 2 ^ 48 + p * 2 ^ 32 + (match n with | some q => q + 1 | none => 0)
  | .staging e w => 6 * 2 ^ 48 + e * 2 ^ 32 + w
  | .l2 w => 7 * 2 ^ 48 + w

/-- Is the word skipped: its bank, slice, port, engine or memory is out of service? -/
def scrubSkip (s : State) : ScrubWord → Bool
  | .cell b _ | .link b _ => bankOut s b
  | .dir p _ => s.get (F.COH_SL_STATUS_ROLE p) == 2
  | .spd w => s.get (F.SPD_BANK_STATUS_PWR_NOW (bankOf (8 * w))) != 0 || s.bit (F.SPD_BANK_STATUS_CHANGING (bankOf (8 * w)))
  | .replay p _ => role s p != 3 || !(s.get (F.OFL_STATUS_STATE p) == 4 || s.get (F.OFL_STATUS_STATE p) == 5)
  | .staging e _ => s.bit (F.HOP_ENG_STATUS_FAILED e)
  | _ => false

/-- The key of a word in State.marks. -/
def scrubMark : ScrubWord → Nat
  | .cell b w => injKey 1 b w
  | .link b w => injKey 2 b w
  | .dir p w => injKey 3 p w
  | .tbl w => injKey 4 0 w
  | .spd w => injKey 5 (bankOf (8 * w)) w
  | .replay p n => injKey 6 (p / 24) (p * 65536 + n.getD 65535)
  | .staging e _ => injKey 8 e 0
  | .l2 w => injKey 9 0 w

/-- What the finding of an uncorrectable word leads to (R394). -/
def scrubFound (s : State) (w : ScrubWord) : State :=
  match w with
  | .cell b _ | .link b _ => bankFail b s
  | .dir p i => entryUe s (131072 * p.val + i.val)
  | .tbl _ => { s with marks := tput 0 s.marks (scrubMark w) 2 }
  | .spd _ => { (s.inc F.SPD_ECC_UE).raise 130 with marks := tput 0 s.marks (scrubMark w) 2 }
  | .replay p n =>
    (match n with
     | some q => if (s.ox p).held.any fun f => f.seq == q then oflDown s p .oflDown else s
     | none => s)
  | .staging e _ => engineFail e 0#64 s
  | .l2 _ => s.raise 81

/-- SRAM_SCRUB_READ (R394): the scrub reads word w, which lies after the one that it read last; the check bits show e, or an
injected error. last says that the pass ends. -/
def execSramScrubRead (w : ScrubWord) (e : LineErr) (last : Bool) (s : State) : Host.Outcome State Fault Refusal :=
  .next (
    let later := match s.fan.scrub with
      | some x => decide (scrubKey x < scrubKey w)
      | none => true
    if !s.bit F.FAN_CTRL_SCRUB_EN || !later then s
    else
      let s := s.modFan fun f => { f with scrub := if last then none else some w }
      let s := if last then s.inc F.FAN_SCRUB_CNT_PASSES else s
      let m := tget 0 s.marks (scrubMark w)
      if scrubSkip s w then s
      else if m = 2 ∨ e = .uncorrectable then
        scrubFound ((s.inc F.FAN_SCRUB_CNT_UE).raise 194) w
      else if m = 1 ∨ e = .corrected then
        { s.inc F.FAN_SCRUB_CNT_CORRECTED with marks := tput 0 s.marks (scrubMark w) 0 }
      else s)

/-! ## SerDes adaptation (R397) -/

/-- ADAPTATION_VISIT (R397): the controller of tile t changes a setting of an active lane, 16 * group in the tile + lane. -/
def execAdaptationVisit (t : Fin 4) (lane : Fin 64) (cdr : Bool) (more : Bool) (s : State) : Host.Outcome State Fault Refusal :=
  .next (
    let l := 64 * t.val + lane.val
    if !s.bit F.FAN_CTRL_ADAPT_EN || (tget none s.fan.adapt t).isSome || !(laneStatus s (l / 16)).getLsbD (l % 16) then s
    else s.modFan fun f => { f with
      adapt := tput none f.adapt t (some (l, cdr, more))
      codes := tmod 0 f.codes (2 * l + cdr.toNat) (· + (if more then 1 else -1)) })

/-- ADAPTATION_DECIDE (R397): after the measurement the change is kept, or reverted where the margin fell. -/
def execAdaptationDecide (t : Fin 4) (keep : Bool) (s : State) : Host.Outcome State Fault Refusal :=
  .next (
    match tget none s.fan.adapt t with
    | none => s
    | some (l, cdr, more) =>
      let s := s.modFan fun f => { f with adapt := tput none f.adapt t none }
      if keep then s.inc F.FAN_ADAPT_CNT_KEPT
      else (s.inc F.FAN_ADAPT_CNT_REVERTED).modFan fun f => { f with
        codes := tmod 0 f.codes (2 * l + cdr.toNat) (· - (if more then 1 else -1)) })

/-! ## The flash fault log (R398 to R400) -/

/-- Flash address of the log region. -/
def logBase : Nat := 0x4100000

/-- Sectors of the log region (R398). -/
def logSectors (s : State) : Nat := (min s.img.density 0x100000000 - logBase) / 65536

/-- Flash address of a sector. -/
def sectorAt (i : Nat) : Nat := logBase + 65536 * i

/-- Header of sector i for a lap. -/
def logHeader (s : State) (i lap : Nat) : Bytes :=
  let b := fun (c : Nat) => [0x4F#8, 0x43#8, 0x4C#8, 0x47#8] ++ leBytes 2 1 ++ leBytes 2 0 ++ leBytes 4 lap ++ leBytes 4 i
    ++ leBytes 8 s.fuse.serial.toNat ++ leBytes 4 c
  b (crc32 (b 0))

/-- The lap of sector i where its header is valid. -/
def sectorLap (s : State) (i : Nat) : Option Nat :=
  let h := flashRd s (sectorAt i) 28
  if slice h 0 4 = [0x4F#8, 0x43#8, 0x4C#8, 0x47#8] ∧ leN h 4 2 = 1 ∧ leN h 12 4 = i
      ∧ leN h 24 4 = crc32 (h.take 24 ++ [0#8, 0#8, 0#8, 0#8]) then some (leN h 8 4) else none

/-- The next sector after sector i that is not bad, with the lap that follows; none where every sector is bad. -/
def nextSector (s : State) (i lap : Nat) : Option (Nat × Nat) :=
  let n := logSectors s
  ((List.range n).map fun k => (i + 1 + k)).findSome? fun j =>
    if s.fan.bad.contains (j % n) then none else some (j % n, if n ≤ j then lap + 1 else lap)

/-- The registers that show the log writer. -/
def logShow (s : State) : State :=
  ((s.put F.FAN_LOG_STATUS_CURRENT s.fan.sector).put F.FAN_LOG_STATUS_BAD (min 255 s.fan.bad.length)).put F.FAN_LOG_POS_LAP s.fan.lap

/-- Make a sector ready for writing: it is erased, then its header is written. -/
def logPrepare (s : State) (x : Option (Nat × Nat)) : State :=
  match x with
  | some (i, lap) => s.modFan fun f => { f with next := some (i, lap), op := some (.erase i) }
  | none => s

/-- LOG_START (R400): the sector headers are read, and the writer resumes after the newest. -/
def execLogStart (s : State) : Host.Outcome State Fault Refusal :=
  .next (
    let n := logSectors s
    let s := s.put F.FAN_LOG_STATUS_SECTORS n
    if !s.bit F.FAN_CTRL_LOG_EN ∨ s.get F.IMG_STATUS_STATE ≠ 4 ∨ s.fan.logging ∨ s.bit F.IMG_FLASH_CTRL_BUSY ∨ n = 0 then s
    else
      let best := (List.range n).foldl (fun (b : Option (Nat × Nat)) i =>
        match sectorLap s i, b with
        | some l, some (l', _) => if l' ≤ l then some (l, i) else b
        | some l, none => some (l, i)
        | none, _ => b) none
      let s := s.modFan fun f => { f with logging := true, page := 256 }
      match best with
      | some (l, i) => logShow (logPrepare (s.modFan fun f => { f with sector := i, lap := l }) (nextSector s i l))
      | none => logShow (logPrepare (s.modFan fun f => { f with sector := n - 1 }) (some (0, 0))))

/-- LOG_RECORD (R399): the oldest copy of a record is staged, dropped where the buffer is full, or not kept. -/
def execLogRecord (s : State) : Host.Outcome State Fault Refusal :=
  .next (
    match s.fan.logIn with
    | [] => s
    | r :: rs =>
      let s := s.modFan fun f => { f with logIn := rs }
      if !s.bit F.FAN_CTRL_LOG_EN ∨ logSectors s = 0 ∨ (s.bit F.FAN_LOG_CFG_SEVERE_ONLY ∧ !(u8 r 9).testBit 4) then s
      else if 128 ≤ s.fan.staged.length then s.inc F.FAN_LOG_STATUS_DROPS
      else s.modFan fun f => { f with staged := f.staged ++ [r] })

/-- Move to the prepared sector once the current one is full. -/
def logTurn (s : State) : State :=
  if 256 ≤ s.fan.page ∧ s.fan.op.isNone then
    match s.fan.next with
    | some (i, lap) => logShow (s.modFan fun f => { f with sector := i, lap := lap, page := 1, next := none })
    | none => s
  else s

/-- Program a page with the oldest staged records. -/
def logProgram (s : State) : State :=
  let s := logTurn s
  if !s.bit F.FAN_CTRL_LOG_EN ∨ !s.fan.logging ∨ s.fan.op.isSome ∨ s.bit F.IMG_FLASH_CTRL_BUSY ∨ 256 ≤ s.fan.page
      ∨ s.fan.staged.isEmpty then s
  else s.modFan fun f => { f with op := some (.page f.sector f.page (f.staged.take 8)), staged := f.staged.drop 8 }

/-- LOG_PAGE_PROGRAM (R399): eight records wait. -/
def execLogPageProgram (s : State) : Host.Outcome State Fault Refusal :=
  .next (if 8 ≤ s.fan.staged.length then logProgram s else s)

/-- LOG_FLUSH_TIMEOUT (R399): the oldest waiting record has waited for FLUSH seconds. -/
def execLogFlushTimeout (s : State) : Host.Outcome State Fault Refusal := .next (logProgram s)

/-- Program flash bytes: programming clears bits. -/
def logFlash (s : State) (a : Nat) (b : Bytes) : State :=
  let old := flashRd s a b.length
  { s with img := { s.img with flash := tputs 0xFF#8 s.img.flash a ((old.zip b).map fun p => p.1 &&& p.2) } }

/-- A sector is bad: the writer moves on to another. -/
def logBad (s : State) (i : Nat) (recs : List Bytes) : State :=
  let s := (s.raise 195).modFan fun f => { f with bad := f.bad ++ [i], staged := recs ++ f.staged, op := none }
  let cur := s.fan.sector == i
  let s := if cur then s.modFan fun f => { f with page := 256 } else s
  let s := if cur ∧ s.fan.next.isSome then s
    else logPrepare (s.modFan fun f => { f with next := none }) (nextSector s i (match s.fan.next with
      | some (j, l) => if j = i then l else s.fan.lap
      | none => s.fan.lap))
  logShow s

/-- LOG_FLASH_DONE (R399): the operation of the log writer ends, or fails. -/
def execLogFlashDone (ok : Bool) (s : State) : Host.Outcome State Fault Refusal :=
  .next (
    match s.fan.op with
    | none => s
    | some (.erase i) =>
      if !ok then logBad s i []
      else
        let s := { s with img := { s.img with
          flash := tdrop (fun a => decide (sectorAt i ≤ a) && decide (a < sectorAt (i + 1))) s.img.flash } }
        s.modFan fun f => { f with op := some (.header i ((f.next.map (·.2)).getD f.lap)) }
    | some (.header i lap) =>
      if !ok then logBad s i []
      else logTurn ((logFlash s (sectorAt i) (logHeader s i lap)).modFan fun f => { f with op := none })
    | some (.page i k recs) =>
      if !ok then logBad s i recs
      else
        let s := (logFlash s (sectorAt i + 256 * k) recs.flatten).inc F.FAN_LOG_POS_WRITTEN recs.length
        let s := s.modFan fun f => { f with op := none, page := k + 1 }
        let s := if k + 1 = 128 ∧ s.fan.next.isNone then logPrepare s (nextSector s i s.fan.lap) else s
        logTurn s)

/-! ## Telemetry (R401) -/

/-- TELEMETRY_SNAPSHOT (R401). -/
def execTelemetrySnapshot (s : State) : Host.Outcome State Fault Refusal :=
  .next (if s.bit F.FAN_CTRL_TELEM_EN then (snapshot s).put F.FAN_TELEM_SEQ ((s.get F.FAN_TELEM_SEQ + 1) % 65536) else s)

/-! ## Rotation and slice test (R403) -/

/-- Is a slice under test? -/
def sliceTested (s : State) : Bool := (List.range 34).any fun p => s.get (F.COH_SL_STATUS_ROLE p) == 3

/-- Fantail starts a rotation; a refused start is counted as skipped and tried again. -/
def fanRotate (s : State) : State :=
  if !s.bit F.FAN_CTRL_TEST_EN ∨ !s.bit F.COH_CTRL_ROT_EN ∨ sliceTested s then s
  else
    let l := rotPick s
    let busy := s.coh.rot.isSome
    let t := if busy then s else rotStart s l
    if !busy && t.coh.rot.isSome then t.modFan fun f => { f with rotMine := true, rotRetry := false }
    else fanResult (t.modFan fun f => { f with rotRetry := true }) 1 2 (physOf s l)

/-- ROTATION_DUE (R403). -/
def execRotationDue (s : State) : Host.Outcome State Fault Refusal := .next (fanRotate s)

/-- ROTATION_RETRY (R403): 60 s after a skipped start. -/
def execRotationRetry (s : State) : Host.Outcome State Fault Refusal := .next (if s.fan.rotRetry then fanRotate s else s)

/-- Seconds to the next rotation as they are read. -/
def rotLeft (s : State) : Nat :=
  let p := min 1440 (max 1 (s.get F.FAN_ROT_PERIOD)) * 60
  min 65535 (p - (s.get F.MGT_MTIME_TIME - s.fan.rotAt) / 32000000)

/-- SLICE_TEST_DONE (R403): the test of the slice rotated out ends. -/
def execSliceTestDone (ok : Bool) (s : State) : Host.Outcome State Fault Refusal :=
  .next (
    match (List.range 34).find? fun p => s.get (F.COH_SL_STATUS_ROLE p) == 3 with
    | none => s
    | some p =>
      let s := s.modCoh fun c => { c with order := c.order.filter (· != p) ++ [p] }
      fanResult (s.put (F.COH_SL_STATUS_ROLE p) (if ok then 1 else 2)) 1 (if ok then 0 else 1) p)

/-! ## Engine test (R404) -/

/-- Is engine e eligible: every channel Disabled, Halted, or Idle with nothing to do? -/
def engEligible (s : State) (e : Nat) : Bool := (List.range 64).all fun c => ringFree s e c || chState s e c == 4

/-- The next engine in ascending order that has not failed. -/
def engNext (s : State) : Option Nat :=
  ((List.range 16).map fun k => (s.fan.turn + k) % 16).find? fun e => !engFailed s e

/-- Start the test of engine e. -/
def engStart (s : State) (e : Nat) : State :=
  s.modFan fun f => { f with due := none, test := some { eng := e, mode := s.get (F.HOP_ENG_STATUS_MODE e) } }

/-- ENGINE_TEST_TURN (R404): the next engine's turn comes; it is tested, or waits until it is eligible. -/
def execEngineTestTurn (s : State) : Host.Outcome State Fault Refusal :=
  .next (
    if !s.bit F.FAN_CTRL_TEST_EN ∨ s.fan.test.isSome then s
    else match engNext s with
      | none => s
      | some e =>
        let s := s.modFan fun f => { f with turn := (e + 1) % 16 }
        if engEligible s e then engStart s e else s.modFan fun f => { f with due := some e })

/-- ENGINE_TEST_SLICE (R404): a slice of the test runs, or is ended by work of the engine; fault says that it finds one. -/
def execEngineTestSlice (fault : Bool) (s : State) : Host.Outcome State Fault Refusal :=
  .next (
    if !s.bit F.FAN_CTRL_TEST_EN then s
    else
      let s := match s.fan.test, s.fan.due with
        | none, some e => if engEligible s e then engStart s e else s
        | _, _ => s
      match s.fan.test with
      | none => s
      | some t =>
        let put := fun (x : Option EngTest) => s.modFan fun f => { f with test := x }
        let mode := s.get (F.HOP_ENG_STATUS_MODE t.eng)
        if engFailed s t.eng then put none
        else if !engEligible s t.eng then
          (if t.paused then s else (put (some { t with paused := true })).inc F.FAN_TEST_CNT_YIELDS)
        else if fault then fanResult (engineFail t.eng 0#64 (put none)) 2 1 t.eng
        else
          let t := if mode = t.mode then t else { t with mode := mode, slices := 0 }
          if 200 ≤ t.slices + 1 then fanResult (put none) 2 0 t.eng
          else put (some { t with slices := t.slices + 1, paused := false }))

/-- ENGINE_TEST_SKIP (R404): 60 minutes have passed since the turn of an engine that was not eligible. -/
def execEngineTestSkip (s : State) : Host.Outcome State Fault Refusal :=
  .next (
    match s.fan.due with
    | none => s
    | some e => fanResult (s.modFan fun f => { f with due := none }) 2 2 e)

/-! ## Tile crossings (R14, R405) -/

/-- The lowest spare lane of a crossing that is neither used nor withdrawn. -/
def spareLane (s : State) (t : Nat) : Option Nat :=
  (List.range (min 16 Config.crossingSpares)).find? fun l => !s.fan.lanes.contains (16 * t + l)

/-- SPARE_LANE_TEST (R405): a spare that fails is withdrawn. -/
def execSpareLaneTest (tile : Fin 4) (lane : Fin 16) (ok : Bool) (s : State) : Host.Outcome State Fault Refusal :=
  .next (
    let k := 16 * tile.val + lane.val
    if !s.bit F.FAN_CTRL_TEST_EN ∨ Config.crossingSpares ≤ lane.val ∨ s.fan.lanes.contains k then s
    else if ok then fanResult s 3 0 k
    else fanResult (s.modFan fun f => { f with lanes := f.lanes ++ [k] }) 3 1 k)

/-- TILE_CROSSING_LANE_FAIL (R14): the traffic of the lane moves to a spare; with none left the fault is reported. -/
def execTileCrossingLaneFail (tile : Fin 4) (s : State) : Host.Outcome State Fault Refusal :=
  .next (
    match spareLane s tile with
    | some l => (s.modFan fun f => { f with lanes := f.lanes ++ [16 * tile.val + l] }).raise (4 + tile.val)
    | none => s.raise (8 + tile.val))

end Sys2Proof.Machine
end

