-- ==== Sys2Proof/Machine/Reset.lean ====
section
/-! DEFINITION. Resets, holds, rails, clocks, PERST_N and pool standby (R417 to R432). -/

namespace Sys2Proof.Machine

def State.modPwr (s : State) (f : PwrSt → PwrSt) : State := { s with pwr := f s.pwr }

/-! ## Power-on reset and power-up (R421, R427) -/

/-- POWER_ON_RESET: everything but fuses and flash is cleared. -/
def execPowerOnReset (s : State) : Host.Outcome State Fault Refusal :=
  .next {
    img := { flash := s.img.flash }
    fuse := s.fuse
    outs := s.outs, fresh := s.fresh, pending := s.pending }

/-- MAIN_OK follows the rails. -/
def railShow (s : State) : State := s.putB F.CRP_STATUS_MAIN_OK (s.get F.CRP_STATUS_RAIL_OK == 0xFF)

/-- The fuses as the Governor senses them. -/
def fusesSensed (s : State) : State :=
  ((fuseShow s).put F.GOV_SERIAL_SERIAL s.fuse.serial.toNat).put F.CRP_AVS_TARGET s.fuse.avs

/-- POWER_UP: with rails and SYSCLK valid, the Governor brings the device up. -/
def execPowerUp (t : SelfTest) (s : State) : Host.Outcome State Fault Refusal :=
  .next (
    if s.pwr.booted ∨ s.pwr.brown ∨ s.pwr.sysLost then s
    else
      let s := newChallenge (debugRegion (fusesSensed (s.modPwr fun p => { p with booted := true })))
      let s := (railShow (s.put F.CRP_STATUS_RAIL_OK 0xFF)).put F.CRP_STATUS_SYSCLK_OK 1
      let s := s.putB F.CRP_STATUS_AOCLK_OK (!s.bit F.CRP_CLK_AOCLK_LOST)
      if resetStays s then s else releaseUnits s t)

/-- A release that the Governor attempts once it runs. -/
def releaseAgain (s : State) (t : SelfTest) : State := if s.pwr.booted then tryRelease s t else s

/-! ## Chip reset (R425, R426) -/

/-- The units are held and cleared, and the CRP block with them but for what shows pins, rails and clocks. -/
def chipClear (s : State) : State :=
  let s := unitsReset s
  let mv := s.get F.CRP_RAIL_CORE_MV
  let hold := s.get F.CRP_CLK_HOLDOVER
  let s := ((s.wr R.CRP_RAIL 0).wr R.CRP_CLK 0).put F.CRP_AVS_REQUEST 0x2EE
  (s.put F.CRP_RAIL_CORE_MV mv).put F.CRP_CLK_HOLDOVER hold

/-- CHIP_RESET: a request is carried out once no flash operation is in progress; the units stay held while a hold or RESET_N
keeps them. -/
def execChipReset (t : SelfTest) (s : State) : Host.Outcome State Fault Refusal :=
  .next (
    if !s.pwr.req ∨ s.bit F.GOV_STATUS_HALTED ∨ s.img.op.isSome ∨ s.fan.op.isSome then s
    else releaseAgain (chipClear s) t)

/-- RESET_PIN (R425): RESET_N has been low, or high again, for 1 µs. -/
def execResetPin (low : Bool) (s : State) : Host.Outcome State Fault Refusal :=
  .next (
    let s := s.modPwr fun p => { p with pinLow := low }
    if low then chipRequest s F.CRP_RESET_CAUSE_RESET_PIN else s)

/-- A write of CRP_SW_RESET. -/
def wrSwReset (w : Wr) (s : State) : State :=
  let s := s.writeReg R.CRP_SW_RESET w
  if s.bit F.CRP_SW_RESET_CHIP then chipRequest (s.put F.CRP_SW_RESET_CHIP 0) F.CRP_RESET_CAUSE_SOFTWARE else s

def execSoftwareChipReset (mid : Mid) (s : State) : Host.Outcome State Fault Refusal :=
  .next (wrSwReset (wrField s mid false F.CRP_SW_RESET_CHIP 1) s)

/-! ## Rails (R419, R420) -/

/-- Monitor m finds its rail in or out of tolerance. -/
def railOk (s : State) (m : Nat) (ok : Bool) : State :=
  railShow (if ok then s.setBit F.CRP_STATUS_RAIL_OK m else s.clrBit F.CRP_STATUS_RAIL_OK m)

/-- An event for Brake, which accepts none while it is held in reset. -/
def raiseUp (s : State) (n : Nat) : State := if s.pwr.held then s else s.raise n

/-- RAIL_FAULT: a rail out of tolerance for 5 µs, or back within it. -/
def execRailFault (m : Fin 8) (bad : Bool) (s : State) : Host.Outcome State Fault Refusal :=
  .next (if bad then raiseUp ((railOk s m false).setBit F.CRP_RAIL_FAULT m) (48 + m) else railOk s m true)

/-- A hold that ends like a chip reset: its cause counts once with a reset in progress. -/
def holdCause (s : State) (cause : Fld) : State :=
  let s := s.put cause 1
  if s.pwr.req then s else (s.inc F.CRP_RESET_CAUSE_COUNT).modPwr fun p => { p with req := true, reqSrc := 0xFFF }

/-- BROWN_OUT: every unit but the Governor is held at once. -/
def execBrownOut (m : Fin 7) (s : State) : Host.Outcome State Fault Refusal :=
  .next (
    let s := (railOk (unitsHold s) m false).setBit F.CRP_RAIL_BROWN m
    (holdCause s F.CRP_RESET_CAUSE_BROWNOUT).modPwr fun p => { p with brown := true })

/-- BROWN_OUT_END: every rail has been within tolerance for 1 ms. -/
def execBrownOutEnd (t : SelfTest) (s : State) : Host.Outcome State Fault Refusal :=
  .next (
    if !s.pwr.brown then s
    else
      let s := (List.range 8).foldl (fun s m => railOk s m (m < 7 || !s.pwr.slcOut)) s
      releaseAgain (s.modPwr fun p => { p with brown := false }) t)

/-- SLC_SUPPLY_LOSS: VDD_SLC leaves its band; every feed goes off without a latch. -/
def execSlcSupplyLoss (s : State) : Host.Outcome State Fault Refusal :=
  .next (slcAllOff ((railOk s 7 false).modPwr fun p => { p with slcOut := true }))

/-- SLC_SUPPLY_RESTORE: the controllers act again. -/
def execSlcSupplyRestore (s : State) : Host.Outcome State Fault Refusal :=
  .next (if s.pwr.slcOut then (railOk s 7 true).modPwr fun p => { p with slcOut := false } else s)

/-- The request for VDD_CORE, clamped (R419). -/
def avsRequest (s : State) (mv : Int) : State :=
  if mv < 650 then raiseUp (s.put F.CRP_AVS_REQUEST 650) 57
  else if 850 < mv then raiseUp (s.put F.CRP_AVS_REQUEST 850) 57
  else s.put F.CRP_AVS_REQUEST mv.toNat

/-- AVS_ADJUST: the Governor moves its request by steps of 5 mV. -/
def execAvsAdjust (up : Bool) (steps : Fin 64) (s : State) : Host.Outcome State Fault Refusal :=
  .next (
    let d : Int := 5 * steps.val
    if !s.pwr.booted || s.bit F.GOV_STATUS_HALTED then s
    else avsRequest s (s.get F.CRP_AVS_REQUEST + (if up then d else -d)))

/-- A write of CRP_AVS, which only the Governor makes. -/
def wrAvs (w : Wr) (s : State) : State :=
  let s := s.writeReg R.CRP_AVS w
  avsRequest s (s.get F.CRP_AVS_REQUEST)

/-! ## Clocks (R423) -/

/-- SYSCLK_LOSS: SYSCLK lost, or a core PLL out of lock; every unit but the Governor is held once the record of SRC 56 is made. -/
def execSysclkLoss (pll : Bool) (s : State) : Host.Outcome State Fault Refusal :=
  .next (
    let s := if s.pwr.held then s else brkAccept s ⟨56, .unit⟩ .none
    let s := unitsHold s
    let s := if pll then s.put F.CRP_STATUS_PLL_LOCK 0 else s.put F.CRP_STATUS_SYSCLK_OK 0
    let s := (s.put F.CRP_CLK_SYSCLK_LOST 1).put F.CRP_CLK_HOLDOVER 1
    (holdCause s F.CRP_RESET_CAUSE_SYSCLK_LOSS).modPwr fun p => { p with sysLost := true })

/-- SYSCLK_RESTORE: SYSCLK has been valid for 1 ms. -/
def execSysclkRestore (t : SelfTest) (s : State) : Host.Outcome State Fault Refusal :=
  .next (
    if !s.pwr.sysLost then s
    else
      let s := (s.put F.CRP_STATUS_SYSCLK_OK 1).put F.CRP_CLK_HOLDOVER 0
      releaseAgain (s.modPwr fun p => { p with sysLost := false }) t)

def execAoclkLoss (s : State) : Host.Outcome State Fault Refusal :=
  .next ((s.put F.CRP_STATUS_AOCLK_OK 0).put F.CRP_CLK_AOCLK_LOST 1)

def execAoclkRestore (s : State) : Host.Outcome State Fault Refusal := .next (s.put F.CRP_STATUS_AOCLK_OK 1)

/-! ## PERST_N and the reset of a VCS (R428, R430) -/

/-- Upstream ports that name input i. -/
def perstPorts (s : State) (i : Nat) : List Nat :=
  (List.range 96).filter fun p => s.get (F.PORT_CFG_ROLE p) == 1 && s.get (F.PORT_CFG_PERST p) == i

/-- PERST_ASSERT: the ports of the input fall back to Detect, and their VCSs are reset. -/
def execPerstAssert (i : Fin 32) (s : State) : Host.Outcome State Fault Refusal :=
  .next (
    let s := s.setBit F.CRP_PERST_ASSERTED i
    (perstPorts s i).foldl (fun s p => upstreamDown (linkDown s p 0 .none) p) s)

/-- PERST_RELEASE: the ports of the input may leave Detect. -/
def execPerstRelease (i : Fin 32) (s : State) : Host.Outcome State Fault Refusal := .next (s.clrBit F.CRP_PERST_ASSERTED i)

/-- HOT_RESET: Hot Reset received on an upstream link. -/
def execHotReset (p : Fin 96) (s : State) : Host.Outcome State Fault Refusal :=
  .next (if s.get (F.PORT_CFG_ROLE p) = 1 ∧ (s.px p).up then upstreamDown (linkDown s p 0 .none) p else s)

/-- Has every cause of the reset of VCS v ended: PERST_N released, the upstream link up? -/
def vcsCauseEnded (s : State) (v : Nat) : Bool :=
  let p := s.get (F.RTE_VCS_CFG_UPORT v)
  !s.bit (F.RTE_VCS_CFG_PRESENT v) || s.get (F.PORT_CFG_ROLE p) != 1
  || ((s.px p).up && (s.get (F.PORT_CFG_PERST p) == 0xFF || !s.hasBit F.CRP_PERST_ASSERTED (s.get (F.PORT_CFG_PERST p))))

/-- VCS_RESET_COMPLETE. -/
def execVcsResetComplete (v : Fin 64) (s : State) : Host.Outcome State Fault Refusal :=
  .next (
    if vcsCauseEnded s v && (fnsWhere fun n => fnIn s n v && (s.fx n).shut.isSome).isEmpty then s.clrBit F.CRP_VCS_RESET_ACTIVE v
    else s)

/-! ## Pool standby (R431) -/

/-- May the pool enter standby? -/
def standbyOk (s : State) : Bool :=
  s.get F.POOL_STATUS_STATE == 1
  && s.pool.ext.all (fun e => !(decide (1 ≤ e.2.state) && decide (e.2.state ≤ 4)))
  && decide (s.pool.zeroEnd ≤ s.pool.zeroFrom) && s.pool.zeroing.isEmpty && !s.pool.leatDirty && s.get F.SWC_LEAT_CFG_MASK == 0

/-- Standby ends on every channel. -/
def standbyExit (s : State) : State := (s.put F.CRP_PWR_STBY_NOW 0).put F.CRP_PWR_POOL_STBY 0

/-- A write of CRP_PWR. -/
def wrCrpPwr (w : Wr) (s : State) : State :=
  let want := w.val s F.CRP_PWR_POOL_STBY
  if want = 1 then
    if s.bit F.CRP_PWR_STBY_NOW then s
    else if standbyOk s then (s.put F.CRP_PWR_POOL_STBY 1).put F.CRP_PWR_STBY_NOW 1
    else s.refuse R.CRP_PWR.addr w.mid w.size
  else standbyExit s

def execPoolStandbyEnter (mid : Mid) (s : State) : Host.Outcome State Fault Refusal :=
  .next (wrCrpPwr (wrField s mid false F.CRP_PWR_POOL_STBY 1) s)

/-- POOL_STANDBY_EXIT: by a write of 0, or (none) by an access that has reached a channel. -/
def execPoolStandbyExit (mid : Option Mid) (s : State) : Host.Outcome State Fault Refusal :=
  .next (
    match mid with
    | some m => wrCrpPwr (wrField s m false F.CRP_PWR_POOL_STBY 0) s
    | none => if s.bit F.CRP_PWR_STBY_NOW && s.pool.chq.any (fun q => !q.2.isEmpty) then standbyExit s else s)

end Sys2Proof.Machine
end

