-- ==== Sys2Proof/Machine/ImageLoad.lean ====
section
/-! DEFINITION. The image loader, second part: applying the sections (R49, R53), the full load (R47, R48), boot
confirmation, anti-rollback, group reload (R54, R55) and the flash operations (R57). -/

namespace Sys2Proof.Machine

/-- Fold a state over 0 to n - 1. -/
def forN (n : Nat) (f : State → Nat → State) (s : State) : State := (List.range n).foldl f s

/-! ## Applying sections (R49, R53) -/

/-- Governor policy; a tamper input seen before now raises the alarm to the policy level (R384). -/
def applyPolicy (b : Bytes) (s : State) : State :=
  let s := (((((((s.put F.GOV_POLICY_LEAD (leN b 10 2)).put F.GOV_POLICY_STEP (leN b 8 2)).put F.GOV_POLICY_SHUT
    (leN b 6 2)).put F.GOV_POLICY_WARN (leN b 4 2)).put F.GOV_POLICY_TAMPER (u8 b 2)).put F.GOV_POLICY_IDE
    (u8 b 1)).put F.GOV_POLICY_DEBUG (u8 b 0)).put F.GOV_STATUS_POLICY 1
  tamperToPolicy s

/-- Brake reaction map; the Governor keeps the map as its own copy (R370). -/
def applyBrake (b : Bytes) (s : State) : State :=
  let s := forN 4096 (fun s n => s.wr (R.BRK_REACT n) (BitVec.ofNat 64 (leN b (4 * n) 4))) (s.put F.BRK_STATUS_IMAGE_MAP 1)
  { s with brk := { s.brk with
      copied := true
      copy := (List.range 4096).foldl (fun t n => tput 0 t n (leN b (4 * n) 4)) [] } }

/-- MPU default maps of the MPUs that the section names (R296). -/
def applyMpu (b : Bytes) (s : State) : State :=
  ((mpuMaps b (leN b 0 2) 4).getD []).foldl (fun s m =>
    let s := s.put (F.MPU_CFG_DEF_COUNT m.1) m.2.2
    forN 32 (fun s r =>
      let w := fun o => if r < m.2.2 then BitVec.ofNat 64 (leN b (m.2.1 + 16 * r + o) 8) else 0#64
      (s.wr (R.MPU_DEF_A m.1 r) (w 0)).wr (R.MPU_DEF_B m.1 r) (w 8)) s) s

/-- Table-store split. -/
def applySplit (b : Bytes) (s : State) : State :=
  forN (u8 b 0) (fun s k =>
    let o := 4 + 8 * k
    (s.put (F.RTE_TBL_BASE (u8 b o)) (leN b (o + 2) 2)).put (F.RTE_TBL_UNITS (u8 b o)) (leN b (o + 4) 2)) s

/-- Table preload. -/
def applyPreload (b : Bytes) (s : State) : State :=
  let t := u8 b 0
  let a := s.get (F.RTE_TBL_BASE t) * 65536 + leN b 4 4 * tblSize t
  { s with rte := { s.rte with store := tputs 0#8 s.rte.store a (b.drop 16) } }

/-- Buffer shares, weir levels and Leat. -/
def applyShares (b : Bytes) (s : State) : State :=
  let s := forN 8 (fun s c =>
    let s := (s.put (F.SWC_CLASS_SHARE_MIN c) (leN b (4 * c) 4)).put (F.SWC_CLASS_SHARE_MAX c) (leN b (0x20 + 4 * c) 4)
    let s := (s.putB (F.SWC_CLASS_SHARE_COHERENT c) ((u8 b (0x40 + c)).testBit 0)).putB (F.SWC_CLASS_SHARE_LATENCY c)
      ((u8 b (0x40 + c)).testBit 1)
    (s.putB (F.SWC_CLASS_SHARE_LEAT c) ((u8 b 0x50).testBit c)).put (F.SWC_CLASS_CTRL_WEIR c) (u8 b (0x48 + c))) s
  let s := ((s.put F.SWC_LEAT_CFG_SIZE (leN b 0x52 2)).put F.SWC_LEAT_CFG_CAP (u8 b 0x51)).put F.SWC_LEAT_CFG_MASK
    (u8 b 0x50)
  leatPlace (s.put F.POOL_LEAT_SIZE (leN b 0x52 2))

/-- Sluice limits, applied by the Governor, which then sets VALID (R327). -/
def applySluice (b : Bytes) (s : State) : State :=
  forN (u8 b 0) (fun s k =>
    let o := 4 + 32 * k
    let n := u8 b o
    let s := ((s.put (F.SLC_LIM3_PRIO n) (u8 b (o + 1))).put (F.SLC_LIM3_DEAD n) (leN b (o + 2) 2)).put
      (F.SLC_LIM3_RAMP n) (leN b (o + 20) 2)
    let s := (s.put (F.SLC_LIM0_RSNS n) (leN b (o + 4) 4)).put (F.SLC_LIM0_ILIM n) (leN b (o + 8) 4)
    let s := (s.put (F.SLC_LIM1_FAULT_T n) (leN b (o + 12) 2)).put (F.SLC_LIM1_COOL n) (leN b (o + 14) 2)
    let s := (s.put (F.SLC_LIM2_UV n) (leN b (o + 16) 2)).put (F.SLC_LIM2_OV n) (leN b (o + 18) 2)
    slcValid (s.put (F.SLC_LIM3_VALID n) 1) n) s

/-- Lane-group division: the LK fields of LG g and of its six ports; used ports then stand in Detect. -/
def applyLane (b : Bytes) (s : State) : State :=
  let g := u8 b 0
  let ks := (List.range 6).filter fun k => u8 b (4 + 8 * k + 1) != 0
  let s := (s.put (F.LG_CFG_REFCLK_MODE g) (u8 b 1)).putB (F.LG_CFG_USED g) (!ks.isEmpty)
  let s := s.put (F.LG_CFG_PLL_RATE g) ((ks.map fun k => u8 b (4 + 8 * k + 3)).foldl max 0)
  let s := s.putB (F.LG_STATUS_PLL_LOCK g) (!ks.isEmpty && s.bit (F.LG_STATUS_REFCLK_OK g))
  forN 6 (fun s k =>
    let o := 4 + 8 * k
    let p := 6 * g + k
    if u8 b (o + 1) = 0 then
      (s.wr (R.PORT_CFG p) (R.PORT_CFG p).rst).put (F.PORT_LINK_STATUS_LTSSM p) 0
    else
      let s := (s.put (F.PORT_CFG_FIRST_LANE p) (u8 b o)).put (F.PORT_CFG_WIDTH p) (u8 b (o + 1))
      let s := (s.put (F.PORT_CFG_ROLE p) (u8 b (o + 2))).put (F.PORT_CFG_MAX_RATE p) (u8 b (o + 3))
      let s := (s.putB (F.PORT_CFG_LANE_REV p) ((u8 b (o + 4)).testBit 0)).putB (F.PORT_CFG_CXL_OK p)
        ((u8 b (o + 4)).testBit 1)
      let s := (s.put (F.PORT_CFG_PERST p) (u8 b (o + 5))).put (F.PORT_CFG_SLC p) (u8 b (o + 6))
      s.put (F.PORT_LINK_STATUS_LTSSM p) (if u8 b (o + 2) = 3 then 0xF else 0)) s

/-- VCS skeleton: the VCS fields, and the initial bindings, which wait for their downstream ports to train (R42). -/
def applyVcs (b : Bytes) (s : State) : State :=
  let v := u8 b 0
  let s := s.put F.RTE_CFG_VCS_COUNT v
  let s := forN v (fun s k =>
    let o := 8 + 16 * k
    let n := u8 b o
    let s := (s.put (F.RTE_VCS_CFG_PRESENT n) 1).put (F.RTE_VCS_CFG_UPORT n) (u8 b (o + 1))
    (s.put (F.RTE_VCS_CFG_HOSTID n) (u8 b (o + 2))).put (F.RTE_VCS_CFG_VPPBS n) (leN b (o + 4) 2)) s
  let bs := (List.range (leN b 2 2)).map fun k =>
    let o := 8 + 16 * v + 8 * k
    ({ vcs := u8 b o, vppb := leN b (o + 2) 2, port := u8 b (o + 4), ld := leN b (o + 6) 2 } : InitBind)
  { s with rte := { s.rte with initial := bs } }

/-- Firmware: the code at its load offset and the boot vector. -/
def applyFw (b : Bytes) (s : State) : State :=
  let s := s.spdWr (leN b 0 4) (b.drop 64)
  s.put F.MGT_BOOT_ENTRY (leN b 0 4 + leN b 8 4)

/-- Apply the sections of one type, in manifest order. -/
def applyAll (ss : List Sec) (t : Nat) (f : Bytes → State → State) (s : State) : State :=
  (bodies ss t).foldl (fun s b => f b s) s

/-- Bytes of a division body for group g. -/
def laneBody (ss : List Sec) (g : Nat) : List Bytes := (bodies ss 1).filter fun b => u8 b 0 == g

/-- The order of R49. -/
def applyImage (ss : List Sec) (s : State) : State :=
  let s := applyAll ss 6 applyBrake (applyAll ss 8 applyPolicy s)
  let s := applyAll ss 4 applyPreload (applyAll ss 3 applySplit (applyAll ss 7 applyMpu s))
  let s := applyAll ss 9 applySluice (applyAll ss 5 applyShares s)
  let s := forN 16 (fun s g => (laneBody ss g).foldl (fun s b => applyLane b s) s) s
  applyAll ss 10 applyFw (applyAll ss 2 applyVcs s)

/-! ## Full load (R47, R48) -/

/-- First bytes of the image in a slot: header, 64 manifest entries, signature block. -/
def slotFront (s : State) (slot : Nat) : Bytes := flashRd s (slot * 0x2000000) 0x11C0

/-- Does a slot lie wholly within the flash density (R32)? -/
def slotFits (density slot : Nat) : Bool := (slot + 1) * 0x2000000 ≤ density

/-- The slot tried first (R48): 0 A, 1 B. -/
def firstSlot (s : State) (density : Nat) : Nat :=
  let bad := fun k => !slotFits density k || hdrFirst 1 (slotFront s k) != 0
  let un := fun k => s.bit (if k = 0 then F.IMG_SLOT_STATUS_A_UNCONFIRMED else F.IMG_SLOT_STATUS_B_UNCONFIRMED)
  let seq := fun k => leN (slotFront s k) 0x18 4
  if bad 0 != bad 1 then (if bad 0 then 1 else 0)
  else if un 0 != un 1 then (if un 0 then 1 else 0)
  else if seq 0 < seq 1 then 1 else 0

/-- Check one slot. -/
def slotCode (s : State) (density slot : Nat) : Nat × List Sec :=
  if !slotFits density slot then (1, [])
  else imageCode s 1 (slotFront s slot) fun o n => flashRd s (slot * 0x2000000 + o) n

/-- Record a slot's code. -/
def putSlotCode (s : State) (slot c : Nat) : State :=
  s.put (if slot = 0 then F.IMG_SLOT_STATUS_A_CODE else F.IMG_SLOT_STATUS_B_CODE) c

/-- Scratchpad banks lo to hi - 1 written with zero. -/
def zeroBanks (s : State) (lo hi : Nat) : State :=
  { s with spd := tdrop (fun a => decide (lo * 0x40000 ≤ a) && decide (a < hi * 0x40000)) s.spd }

/-- Steps 8 and 9 of R47: the accepted image of a slot is applied and runs. -/
def runImage (s : State) (slot : Nat) (fallback : Bool) (ss : List Sec) : State :=
  let b := slotFront s slot
  let s := zeroBanks (applyImage ss s) 0 32
  let s := ((s.put F.IMG_STATUS_STATE 4).put F.IMG_STATUS_SLOT slot).putB F.IMG_STATUS_FALLBACK fallback
  let s := (s.put F.IMG_RUN_ID_SEQ (leN b 0x18 4)).put F.IMG_RUN_ID_STRUCT (leN b 0x1C 4)
  let s := (s.put F.IMG_ARB_RUN_SVN (leN b 0x14 4)).put F.IMG_BOOT_OK_LEFT (leN b 0x20 2)
  let s := if fallback then s.raise 12 else s
  coresRelease s

/-- The recovery state (R48): the pool returns to reset and SRC 0013 is raised. -/
def enterRecoveryState (s : State) : State := (poolToReset (s.put F.IMG_STATUS_STATE 6)).raise 13

/-- The whole full load. sfdp is what the flash answers: its density in bytes, or none when it cannot be read. -/
def fullLoad (sfdp : Option Nat) (s : State) : State :=
  match sfdp with
  | none => enterRecoveryState ((putSlotCode (putSlotCode s 0 1) 1 1).put F.IMG_STATUS_CODE 1)
  | some d =>
    let s := { s with img := { s.img with density := d } }
    let a := firstSlot s d
    let x := slotCode s d a
    let s := putSlotCode s a x.1
    if x.1 = 0 then runImage (s.put F.IMG_STATUS_CODE 0) a false x.2
    else
      let s := zeroBanks (s.put F.IMG_STATUS_CODE x.1) 0 64
      let y := slotCode s d (1 - a)
      let s := putSlotCode s (1 - a) y.1
      if y.1 = 0 then runImage s (1 - a) true y.2
      else enterRecoveryState ((s.put F.IMG_STATUS_FALLBACK 0).put F.IMG_STATUS_CODE y.1)

/-- FULL_LOAD (R47): the loader, released by the Governor and idle, loads an image. -/
def execFullLoad (sfdp : Option (BitVec 32)) (s : State) : Host.Outcome State Fault Refusal :=
  .next (if s.pwr.loaderUp ∧ s.get F.IMG_STATUS_STATE = 0 then fullLoad (sfdp.map (·.toNat)) s else s)

/-! ## Boot confirmation and anti-rollback (R50, R51) -/

/-- A write of IMG_BOOT_OK: OK set stops the confirmation timer. -/
def wrBootOk (w : Wr) (s : State) : State :=
  let s := s.writeReg R.IMG_BOOT_OK w
  if s.bit F.IMG_BOOT_OK_OK then s.put F.IMG_BOOT_OK_LEFT 0 else s

def execBootOk (mid : Mid) (s : State) : Host.Outcome State Fault Refusal :=
  .next (wrBootOk (wrField s mid false F.IMG_BOOT_OK_OK 1) s)

/-- BOOT_CONFIRM_TIMEOUT: with an image running unconfirmed, the slot is marked and a chip reset starts. -/
def execBootConfirmTimeout (s : State) : Host.Outcome State Fault Refusal :=
  .next (
    if s.get F.IMG_STATUS_STATE = 4 ∧ s.get F.IMG_BOOT_OK_OK = 0 then
      let s := (s.put F.IMG_BOOT_OK_LEFT 0).put
        (if s.get F.IMG_STATUS_SLOT = 0 then F.IMG_SLOT_STATUS_A_UNCONFIRMED else F.IMG_SLOT_STATUS_B_UNCONFIRMED) 1
      chipRequest (s.raise 14) F.CRP_RESET_CAUSE_BOOT_TO
    else s)

/-- A write of IMG_ARB: COMMIT is refused as a whole without OK or while a burn runs (R51). -/
def wrArb (w : Wr) (s : State) : State :=
  if w.sets F.IMG_ARB_COMMIT then
    if !s.bit F.IMG_BOOT_OK_OK || s.bit F.IMG_ARB_BUSY then s.refuse R.IMG_ARB.addr w.mid w.size
    else if s.fuse.arb < s.get F.IMG_ARB_RUN_SVN then s.put F.IMG_ARB_BUSY 1
    else s
  else s.writeReg R.IMG_ARB w

def execAntiRollbackCommit (mid : Mid) (s : State) : Host.Outcome State Fault Refusal :=
  .next (wrArb (wrField s mid false F.IMG_ARB_COMMIT 1) s)

/-- ARB_BURN_DONE: the counter equals the running image's security version. -/
def execArbBurnDone (s : State) : Host.Outcome State Fault Refusal :=
  .next (
    if s.bit F.IMG_ARB_BUSY then
      let n := s.get F.IMG_ARB_RUN_SVN
      let s := { s with fuse := { s.fuse with arb := n } }
      ((s.put F.IMG_ARB_COUNT n).put F.IMG_ARB_BUSY 0).put F.MGT_DONE_IMG_ARB 1
    else s)

/-! ## Group reload (R54 to R56) -/

/-- Sluice controllers named by the current division of group g. -/
def slcCurrent (s : State) (g : Nat) : List Nat :=
  ((List.range 6).map fun k => s.get (F.PORT_CFG_SLC (6 * g + k))).filter (· != 0xFF)

/-- Is port p disabled, and bound to no vPPB? -/
def portFree (s : State) (p : Nat) : Bool :=
  s.get (F.PORT_CFG_ROLE p) == 0
  || (s.bit (F.PORT_LINK_CTRL_DISABLE p)
      && !(List.range 1024).any fun n => s.bit (F.RTE_BIND_VALID n) && s.get (F.RTE_BIND_PORT n) == p)

/-- The preconditions of R54 that lie outside the image. -/
def reloadPre (s : State) (g : Nat) (ss : List Sec) : Bool :=
  let named := (bodies ss 1).flatMap slcNamed
  let lim := (bodies ss 9).flatMap fun b => (List.range (u8 b 0)).map fun k => u8 b (4 + 32 * k)
  let others := (List.range 96).filter fun p => p / 6 != g
  let roles := others.map (fun p => s.get (F.PORT_CFG_ROLE p)) ++ (List.range 6).map fun k => roleIn ss (6 * g + k)
  ((List.range 6).all fun k => portFree s (6 * g + k))
  && ((named ++ lim ++ slcCurrent s g).all (slcOff s))
  && (named.all fun n => !others.any fun p => s.get (F.PORT_CFG_SLC p) == n)
  && decide named.Nodup
  && decide ((roles.filter (· == 1)).length ≤ 64) && decide ((roles.filter (· == 3)).length ≤ 32)

/-- The result code of a group reload of the image at scratchpad offset a, with its group and sections (R52, R54). -/
def reloadCode (s : State) (a : Nat) : Nat × Nat × List Sec :=
  let rd := fun o n => tgets 0#8 s.spd (a + o) n
  let b := rd 0 0x11C0
  let g := leN b 0x22 2 % 16
  if s.get F.IMG_STATUS_STATE ∈ [1, 2, 3] then (0x12, g, [])
  else
    let x := imageCode s 2 b rd
    if x.1 ≠ 0 then (x.1, g, [])
    else if s.get F.IMG_STATUS_STATE ≠ 4 ∨ leN b 0x1C 4 ≠ s.get F.IMG_RUN_ID_STRUCT then (0x11, g, [])
    else if !reloadPre s g x.2 then (0x10, g, [])
    else (0, g, x.2)

/-- Steps 3 to 5 of R55: the group's registers return to reset, the division and the limits are applied, and the used
ports enter Detect. -/
def reloadApply (g : Nat) (ss : List Sec) (s : State) : State :=
  let s := s.clearRegs (0x41000000 + g * 0x10000 + 8) (0x41000000 + (g + 1) * 0x10000)
  let s := forN 6 (fun s k => portClear s (6 * g + k)) s
  let s := applyAll ss 9 applySluice (applyAll ss 1 applyLane s)
  s.raise (256 + 4 * g + 2)

/-- A write of IMG_LOAD_CTRL: START runs a group reload. -/
def wrLoadCtrl (w : Wr) (s : State) : State :=
  if w.sets F.IMG_LOAD_CTRL_START then
    let x := reloadCode s (s.get F.IMG_LOAD_SRC_OFFSET)
    let s := if x.1 = 0 then reloadApply x.2.1 x.2.2 s else s
    ((s.put F.IMG_LOAD_STATUS_CODE x.1).put F.IMG_LOAD_STATUS_GROUP x.2.1).put F.MGT_DONE_IMG_LOAD 1
  else s.writeReg R.IMG_LOAD_CTRL w

def execGroupReload (mid : Mid) (s : State) : Host.Outcome State Fault Refusal :=
  .next (wrLoadCtrl (wrField s mid false F.IMG_LOAD_CTRL_START 1) s)

/-! ## Flash operations (R57) -/

/-- Flash bytes [a, a + n) touch the slot of the running image. -/
def touchesRun (s : State) (a n : Nat) : Bool :=
  let lo := s.get F.IMG_STATUS_SLOT * 0x2000000
  s.get F.IMG_STATUS_STATE == 4 && decide (a < lo + 0x2000000) && decide (lo < a + n)

/-- Start the operation that the registers hold; its result is set at once where it is not performed. -/
def flashStart (s : State) : State :=
  let op := s.get F.IMG_FLASH_CTRL_OP
  let a0 := s.get F.IMG_FLASH_ADDR_FLASH
  let a := if op = 1 then a0 / 65536 * 65536 else a0
  let n := if op = 1 then 65536 else s.get F.IMG_FLASH_CTRL_LENGTH
  let stop := fun (c : Nat) => (s.put F.IMG_FLASH_CTRL_RESULT c).put F.MGT_DONE_IMG_FLASH 1
  if op = 0 then s
  else if op ≠ 3 ∧ (touchesRun s a n ∨ s.bit F.IMG_LOCK_LOCK ∨ s.get F.IMG_STATUS_STATE ∈ [1, 2, 3]) then stop 2
  else if s.img.density < a + n ∨ n = 0 ∨ 65536 < n then stop 1
  else
    { s.put F.IMG_FLASH_CTRL_BUSY 1 with
      img := { s.img with op := some { op := op, addr := a, spd := s.get F.IMG_FLASH_ADDR_SPD, len := n } } }

/-- A write of IMG_FLASH_CTRL. Under the lock the RWL fields refuse; an erase or program then also completes with
result 2 (R57). -/
def wrFlashCtrl (w : Wr) (s : State) : State :=
  let start := w.sets F.IMG_FLASH_CTRL_START
  if start ∧ s.bit F.IMG_FLASH_CTRL_BUSY then s.refuse R.IMG_FLASH_CTRL.addr w.mid w.size
  else
    let op := w.val s F.IMG_FLASH_CTRL_OP
    let t := (s.writeReg R.IMG_FLASH_CTRL w).put F.IMG_FLASH_CTRL_START 0
    if !start then t
    else if s.bit F.IMG_LOCK_LOCK then
      (if op = 1 ∨ op = 2 then (t.put F.IMG_FLASH_CTRL_RESULT 2).put F.MGT_DONE_IMG_FLASH 1 else t)
    else flashStart t

/-- The write of IMG_FLASH_CTRL that starts operation op on len bytes. -/
def flashCmd (mid : Nat) (op len : Nat) (s : State) : State :=
  let v := bitsPut (bitsPut (bitsPut (s.rd R.IMG_FLASH_CTRL) 31 31 1) 29 28 op) 16 0 len
  wrFlashCtrl (wrFull mid false v) s

def execFlashErase (mid : Mid) (s : State) : Host.Outcome State Fault Refusal :=
  .next (flashCmd mid 1 (s.get F.IMG_FLASH_CTRL_LENGTH) s)

def execFlashProgram (mid : Mid) (len : Fin 131072) (s : State) : Host.Outcome State Fault Refusal :=
  .next (flashCmd mid 2 len s)

def execFlashRead (mid : Mid) (len : Fin 131072) (s : State) : Host.Outcome State Fault Refusal :=
  .next (flashCmd mid 3 len s)

/-- What a finished operation leaves in flash and scratchpad. Programming clears bits; on a flash error the bytes of
the target are free values. -/
def flashEffect (ok : Bool) (o : FlashOp) (s : State) : State :=
  let free := (List.range o.len).map (Config.freeByte s.fresh)
  let src := tgets 0#8 s.spd o.spd o.len
  let old := flashRd s o.addr o.len
  let new := if !ok then free
    else if o.op = 1 then List.replicate o.len 0xFF#8
    else (old.zip src).map fun p => p.1 &&& p.2
  let s := if ok then s else s.bump
  if o.op = 3 then s.spdWr o.spd (if ok then old else free)
  else { s with img := { s.img with flash := tputs 0xFF#8 s.img.flash o.addr new } }

/-- FLASH_OP_DONE: the operation in progress ends, ok or with a flash error. -/
def execFlashOpDone (ok : Bool) (s : State) : Host.Outcome State Fault Refusal :=
  .next (
    match (if s.fan.op.isSome then none else s.img.op) with
    | none => s
    | some o =>
      let s := flashEffect ok o s
      let s := { s with img := { s.img with op := none } }
      ((s.put F.IMG_FLASH_CTRL_RESULT (if ok then 0 else 1)).put F.IMG_FLASH_CTRL_BUSY 0).put F.MGT_DONE_IMG_FLASH 1)

end Sys2Proof.Machine
end

