-- ==== Sys2Proof/Machine/MgtCmd.lean ====
section
/-! DEFINITION. Psihaust's commands: their queue, what carries them out, and MGT_DSA on their behalf (R214, R215, R312, R316 to
R324). -/

namespace Sys2Proof.Machine

/-! ## Answers -/

/-- Psihaust's accesses carry the MID of a core (R288). -/
def mgtMid : Nat := 1

/-- The PF mailbox shows the end of a command: doorbell clear, return code, background operation (R317). -/
def mboxShow (s : State) (rc : Nat) : State :=
  s.modMgt fun m => { m with
    mbox := tput 0#8 (tput 0#8 (tput 0#8 m.mbox 4 (tget 0#8 m.mbox 4 &&& 0xFE#8)) 0x10 (if rc = 1 then 1#8 else 0#8)) 0x14
      (BitVec.ofNat 8 rc) }

/-- The answer to a command of transport t; from 8 on, of the mailbox of pool LD t - 8. -/
def mgtAnswer (s : State) (t rc : Nat) (d : List Nat) : State :=
  let s := s.out (.cci t rc d)
  if t = 0 then mboxShow s rc
  else if t = 5 then (match s.mgt.peer with
    | some p => s.out (.udp p)
    | none => s)
  else s

/-- A command on transport t: not taken while READY is 0, and answered Unsupported where the transport is shut (R312, R318). -/
def mgtTake (t : Fin 6) (s : State) (f : State → State) : State :=
  if !s.bit F.MGT_STATUS_READY then (if t.val = 1 ∨ t.val = 2 then s.out (.nack t) else s)
  else if !s.hasBit F.MGT_FMAPI_CTRL_EN t then mgtAnswer s t 3 []
  else f s

/-- A command that only reads. -/
def mgtRead (t : Fin 6) (s : State) (d : List Nat) : State := mgtTake t s fun s => mgtAnswer s t 0 d

/-- The command that holds the writer's position ends with an answer, or as a background operation. -/
def bgAnswer (s : State) (t rc : Nat) (d : List Nat) : State :=
  let s := s.modMgt fun m => { m with bg := none }
  if 8 ≤ t then s else mgtAnswer s t rc d

def bgEnd (s : State) (t rc : Nat) (d : List Nat) : State :=
  let s := s.modMgt fun m => { m with bg := none }
  if 8 ≤ t then s
  else
    let s := s.out (.bgDone t rc d)
    if t = 0 then s.modMgt fun m => { m with mbox := tput 0#8 (tput 0#8 m.mbox 0x10 0#8) 0x1C (BitVec.ofNat 8 rc) } else s

/-- A command takes the writer's position, answering that its background operation has started. -/
def bgStart (s : State) (t : Nat) (k : BgKind) : State :=
  (if 8 ≤ t then s else mgtAnswer s t 1 []).modMgt fun m => { m with bg := some (t, k) }

/-- A command holds the writer's position until it can answer. -/
def bgHold (s : State) (t : Nat) (k : BgKind) : State := s.modMgt fun m => { m with bg := some (t, k) }

/-- Return code of a RESULT of RTE_BIND_CMD (R320). -/
def bindRc (r : Nat) : Nat := if r = 0 ∨ r = 0xA ∨ r = 0xB then 0 else if r = 8 then 4 else if r = 9 then 6 else 2

/-! ## Capacity (R209, R213 to R215) -/

/-- Write an LD map slot. -/
def mapWrite (s : State) (i v : Nat) : State :=
  wrMapCmd (wrFull mgtMid false (BitVec.ofNat 64 (2 ^ 31 + 2 ^ 30 + i)))
    (s.writeReg R.POOL_MAP_DATA (wrFull mgtMid false (BitVec.ofNat 64 v)))

/-- The host of pool LD n. -/
def ldHost (s : State) (n : Nat) : Option Nat :=
  if s.bit (F.POOL_LD_REMOTE n) then
    (List.range 64).find? fun h => s.bit (F.COH_HOST_REMOTE h) && s.get (F.COH_HOST_PID h) == s.get (F.POOL_LD_RPID n)
  else
    ((List.range 1024).find? fun b => s.bit (F.RTE_BIND_VALID b) && s.get (F.RTE_BIND_KIND b) == 1 && s.get (F.RTE_BIND_LDID b) == n).map
      fun b => s.get (F.RTE_VCS_CFG_HOSTID (s.get (F.RTE_BIND_VCS b)))

/-- The pool LDs that own an extent of a grant. -/
def ownersOf (s : State) (shared : Bool) (owner : Nat) : List Nat :=
  if !shared then (if owner < 64 then [owner] else [])
  else (List.range 64).filter fun n => s.bit (F.POOL_LD_EN n)
    && (match ldHost s n, shareGroup s owner with
        | some h, some m => m.testBit h
        | _, _ => false)

/-- Is pool LD n an owner of an extent? -/
def ownsExt (s : State) (n : Nat) (x : Ext) : Bool := (ownersOf s x.shared x.owner).contains n

/-- GRANT of an extent. -/
def extGrant (s : State) (b : Nat) (shared : Bool) (owner dpa : Nat) : State :=
  wrExtCmd (wrFull mgtMid true (BitVec.ofNat 64
    (2 ^ 63 + 2 ^ 59 + (if shared then 2 ^ 55 else 0) + owner * 2 ^ 32 + dpa * 2 ^ 16 + b))) s

/-- Grants in order; on a refusal those made are cancelled. Answers the RESULT. -/
def grantAll (shared : Bool) (owner : Nat) : List (Nat × Nat) → State → State × Nat
  | [], s => (s, 0)
  | (b, dpa) :: xs, s =>
    let s := extGrant s b shared owner dpa
    let r := s.get F.POOL_EXT_CMD_RESULT
    if r ≠ 0 then (s, r)
    else
      let y := grantAll shared owner xs s
      if y.2 ≠ 0 then (wrExtCmd (extCmd mgtMid 3 b) y.1, y.2) else y

/-- Return code of a RESULT of POOL_EXT_CMD. -/
def extRc (r : Nat) : Nat := if r = 5 then 4 else if r = 4 then 6 else 2

/-- Vector 0 of pool LD n signals: every vector is masked, so its pending bit is set. -/
def ldSignal (s : State) (n : Nat) : State :=
  if (s.fx (1024 + n)).msixCtl.testBit 15 then s.modFx (1024 + n) fun x => { x with pba := x.pba ||| 1 } else s

/-- Post an event to pool LDs: 0 Add Capacity, 1 Release Capacity. -/
def postEvents (s : State) (ns : List Nat) (kind : Nat) (bs : List Nat) : State :=
  (ns.foldl ldSignal s).modMgt fun m => { m with events := m.events ++ ns.flatMap fun n => bs.map fun b => (n, kind, b) }

/-- Pool LD n accepts an extent: its slot is written, then the extent is activated if it is still pending. -/
def acceptOne (n : Nat) (s : State) (b : Nat) : State :=
  let x := extAt s b
  if !ownsExt s n x ∨ (x.state ≠ 1 ∧ !(x.shared && x.state == 2)) then s
  else
    let i := s.get (F.POOL_LD_MAP_MAP_BASE n) + x.dpaIndex
    let s := if x.dpaIndex < s.get (F.POOL_LD_MAP_MAP_COUNT n) ∧ i < 65536 then mapWrite s i b else s
    if x.state = 1 then wrExtCmd (extCmd mgtMid 2 b) s else s

/-- Pool LD n rejects an extent: a private one is cancelled. -/
def rejectOne (n : Nat) (s : State) (b : Nat) : State :=
  let x := extAt s b
  if x.state = 1 ∧ !x.shared ∧ x.owner = n then wrExtCmd (extCmd mgtMid 3 b) s else s

/-- A host's answer to an offer (R214). -/
def dcAnswer (s : State) (n : Nat) (acc rej : List Nat) : State :=
  let s := rej.foldl (rejectOne n) (acc.foldl (acceptOne n) s)
  match s.mgt.bg with
  | some (t, .dcAdd left exts) =>
    bgHold s t (.dcAdd (left.filter fun x => x.1 != n || !(acc.contains x.2 || rej.contains x.2)) exts)
  | _ => s

/-- The entries of the LD maps: (LD, index, extent). -/
def mapEntries (s : State) (n : Nat) : List (Nat × Nat × Nat) :=
  (List.range (s.get (F.POOL_LD_MAP_MAP_COUNT n))).filterMap fun i =>
    let b := mapSlot s (s.get (F.POOL_LD_MAP_MAP_BASE n) + i)
    if b = 0xFFFF ∨ 65536 ≤ s.get (F.POOL_LD_MAP_MAP_BASE n) + i then none else some (n, i, b)

/-- Every slot that maps extent b is emptied. -/
def unmapAll (s : State) (b : Nat) : State :=
  ((List.range 65536).filter fun i => mapSlot s i == b).foldl (fun s i => mapWrite s i 0xFFFF) s

/-- The next piece of work of a release (R215). -/
def relAdvance (s : State) (t : Nat) (await todo : List Nat) (cur : Option (Nat × RelStage)) (all : List Nat)
    (snap : List (Nat × Nat × Nat)) : State :=
  let busy := s.bit F.POOL_EXT_CMD_BUSY
  let put := fun (s : State) (todo : List Nat) (cur : Option (Nat × RelStage)) => bgHold s t (.dcRelease await todo cur all snap)
  match cur, todo with
  | none, [] =>
    if await.isEmpty && all.all (fun b => (extAt s b).state != 3 && (extAt s b).state != 4) then bgEnd s t 0 [] else s
  | none, b :: rest =>
    if busy then s
    else
      let s := wrExtCmd (extCmd mgtMid 4 b) s
      put s rest (if s.get F.POOL_EXT_CMD_RESULT = 0 then some (b, .drain) else none)
  | some (b, .drain), _ =>
    if busy ∨ s.bit F.COH_FLUSH_CMD_BUSY then s
    else
      let s := unmapAll s b
      if (extAt s b).shared then
        put (wrFlushCmd (wrFull mgtMid true (BitVec.ofNat 64 (2 ^ 63 + 2 ^ 60 + extHla s b / 2 ^ 22 * 2 ^ 16 + 1))) s) todo
          (some (b, .flush))
      else put s todo (some (b, .zero))
  | some (b, .flush), _ => if s.bit F.COH_FLUSH_CMD_BUSY then s else put s todo (some (b, .zero))
  | some (b, .zero), _ =>
    if busy ∨ 4 ≤ s.pool.zeroing.length then s else put (wrExtCmd (extCmd mgtMid 5 b) s) todo none

/-! ## Carrying out state-changing commands (R319 to R324) -/

/-- A write of PORT_LINK_CTRL for Physical Port Control. -/
def portControl (s : State) (p : Nat) (disable : Option Bool) : State :=
  match disable with
  | some d => wrLinkCtrl p (wrField s mgtMid false (F.PORT_LINK_CTRL_DISABLE p) (if d then 1 else 0)) s
  | none => wrLinkCtrl p (wrField s mgtMid false (F.PORT_LINK_CTRL_RETRAIN p) 1) s

/-- Generate AER Event: the error is set at the vPPB, where an error of a vPPB is logged and recorded. -/
def aerEvent (s : State) (v k bit : Nat) (unc : Bool) : State :=
  if unc then (s.modVx v k fun x => { x with aer := x.aer.logUnc bit none }).raise (1856 + 2 * v + 1)
  else (s.modVx v k fun x => { x with aer := x.aer.logCor bit }).raise (1856 + 2 * v)

/-- Set a parameter of a local pool LD. -/
def ldParam (s : State) (n : Nat) : LdParam → State
  | .alloc en base count =>
    let s := s.writeReg (R.POOL_LD n) (wrField s mgtMid true (F.POOL_LD_EN n) 0)
    let s := wrLdMap n (wrFull mgtMid true
      (bitsPut (bitsPut (s.rd (R.POOL_LD_MAP n)) 31 16 count) 15 0 base)) s
    if en then s.writeReg (R.POOL_LD n) (wrField s mgtMid true (F.POOL_LD_EN n) 1) else s
  | .qosControl o m sv =>
    s.writeReg R.POOL_DEVLOAD (wrFull mgtMid false (bitsPut (bitsPut (bitsPut (s.rd R.POOL_DEVLOAD) 31 24 sv) 23 16 m) 15 8 o))
  | .bwAlloc v => s.writeReg (R.POOL_LD n) (wrField s mgtMid true (F.POOL_LD_BW_ALLOC n) v)
  | .bwLimit v => s.writeReg (R.POOL_LD n) (wrField s mgtMid true (F.POOL_LD_BW_LIMIT n) v)

/-- Write an entry of the sharing-groups table. -/
def sharingWrite (s : State) (g members : Nat) (valid : Bool) : State :=
  let s := ([(0, members), (1, if valid then 1 else 0), (2, 0), (3, 0)] : List (Nat × Nat)).foldl
    (fun s x => s.writeReg (R.RTE_TBL_DATA x.1) (wrFull mgtMid true (BitVec.ofNat 64 x.2))) s
  wrTblCmd (tblCmd mgtMid true 5 g) s

/-- COH_PROXY n and POOL_PROXY k as Set Proxy Expander writes them. -/
def proxyWords (s : State) (n port ldid k base count dpaBase : Nat) (valid : Bool) : Word × Word :=
  let c := bitsPut (bitsPut (bitsPut (s.rd (R.COH_PROXY n)) 63 63 (if valid then 1 else 0)) 62 56 port) 55 40 ldid
  let p := bitsPut (bitsPut (bitsPut (bitsPut (bitsPut (s.rd (R.POOL_PROXY k)) 63 63 (if valid then 1 else 0)) 62 58 n) 54 40 base)
    39 25 count) 17 0 dpaBase
  (c, p)

/-- The two registers are written. -/
def proxyWrite (s : State) (n k : Nat) (c p : Word) : State :=
  wrPoolProxy k (wrFull mgtMid true p) (wrCohProxy n (wrFull mgtMid true c) s)

/-- A request of MGT_DSA waits for its turn. -/
def dsaQueue (s : State) (w : DsaFor) (j : DsaJob) : State := s.modMgt fun m => { m with dsaWait := m.dsaWait ++ [(w, j)] }

/-- A flash operation through IMG_FLASH_CTRL. -/
def flashOp (s : State) (op addr len spd : Nat) : State :=
  let s := s.writeReg R.IMG_FLASH_ADDR (wrFull mgtMid true
    (bitsPut (bitsPut (s.rd R.IMG_FLASH_ADDR) F.IMG_FLASH_ADDR_FLASH.hi F.IMG_FLASH_ADDR_FLASH.lo addr)
      F.IMG_FLASH_ADDR_SPD.hi F.IMG_FLASH_ADDR_SPD.lo spd))
  flashCmd mgtMid op len s

/-- Start a group reload from the scratchpad. -/
def reloadFrom (s : State) (spd : Nat) : State :=
  let s := s.writeReg R.IMG_LOAD_SRC (wrField s mgtMid false F.IMG_LOAD_SRC_OFFSET spd)
  wrLoadCtrl (wrField s mgtMid false F.IMG_LOAD_CTRL_START 1) s

/-- A state-changing command that has the writer's position is carried out, as far as it goes at once. -/
def mgtRun (s : State) (t : Nat) : MgtReq → State
  | .portControl p d => mgtAnswer (portControl s p d) t 0 []
  | .bind w =>
    if s.bit F.RTE_BIND_CMD_BUSY then mgtAnswer s t 6 []
    else
      let u := wrBindCmd (bindCmd mgtMid w 1) s
      let r := u.get F.RTE_BIND_CMD_RESULT
      if u.bit F.RTE_BIND_CMD_BUSY ∨ r = 0 then
        bgStart u t (.bind (bindWordGet w F.RTE_BIND_CMD_VCS) (bindWordGet w F.RTE_BIND_CMD_VPPB))
      else mgtAnswer u t (bindRc r) []
  | .unbind w =>
    if s.bit F.RTE_BIND_CMD_BUSY then mgtAnswer s t 6 []
    else
      let u := wrBindCmd (bindCmd mgtMid w 2) s
      let r := u.get F.RTE_BIND_CMD_RESULT
      if u.bit F.RTE_BIND_CMD_BUSY ∨ bindRc r = 0 then
        bgStart u t (.unbind (bindWordGet w F.RTE_BIND_CMD_VCS) (bindWordGet w F.RTE_BIND_CMD_VPPB))
      else mgtAnswer u t (bindRc r) []
  | .aer v k bit unc => mgtAnswer (aerEvent s v k bit unc) t 0 []
  | .ldParam n p => mgtAnswer (ldParam s n p) t 0 []
  | .dcRegion n base count sf =>
    if s.bit (F.POOL_LD_EN n) then mgtAnswer s t 2 []
    else
      mgtAnswer (wrLdMap n (wrFull mgtMid true
        (bitsPut (bitsPut (bitsPut (s.rd (R.POOL_LD_MAP n)) 47 32 sf) 31 16 count) 15 0 base)) s) t 0 []
  | .dcAdd owner shared exts =>
    let ns := ownersOf s shared owner
    if s.bit F.POOL_EXT_CMD_BUSY then mgtAnswer s t 6 []
    else if ns.any fun n => exts.any fun x => decide (s.get (F.POOL_LD_MAP_MAP_COUNT n) ≤ x.2) then mgtAnswer s t 2 []
    else
      let y := grantAll shared owner exts s
      if y.2 ≠ 0 then mgtAnswer y.1 t (extRc y.2) []
      else
        let bs := exts.map (·.1)
        bgStart (postEvents y.1 ns 0 bs) t (.dcAdd (ns.flatMap fun n => bs.map fun b => (n, b)) bs)
  | .dcRelease exts forced =>
    if exts.any fun b => (extAt s b).state != 2 then mgtAnswer s t 2 []
    else
      let snap := ((List.range 64).flatMap (mapEntries s)).filter fun x => exts.contains x.2.2
      let s := if forced then s
        else exts.foldl (fun s b => postEvents s (ownersOf s (extAt s b).shared (extAt s b).owner) 1 [b]) s
      bgStart s t (.dcRelease (if forced then [] else exts) (if forced then exts else []) none exts snap)
  | .dcAnswer n acc rej => dcAnswer s n acc rej
  | .flash op addr len spd data =>
    if s.bit F.IMG_FLASH_CTRL_BUSY then mgtAnswer s t 6 []
    else if op < 1 ∨ 3 < op ∨ (op ≠ 1 ∧ 65536 < len) ∨ (op = 2 ∧ data.length ≠ len) then mgtAnswer s t 2 []
    else
      let s := flashOp (if op = 2 then s.spdWr spd data else s) op addr len spd
      if s.bit F.IMG_FLASH_CTRL_BUSY then bgHold s t .flash else mgtAnswer s t 0 [s.get F.IMG_FLASH_CTRL_RESULT]
  | .arbCommit =>
    if !s.bit F.IMG_BOOT_OK_OK || s.bit F.IMG_ARB_BUSY then mgtAnswer s t 4 []
    else
      let s := wrArb (wrField s mgtMid false F.IMG_ARB_COMMIT 1) s
      if s.bit F.IMG_ARB_BUSY then bgHold s t .arb else mgtAnswer s t 0 [s.get F.IMG_ARB_COUNT]
  | .groupReload addr spd =>
    if addr % 65536 ≠ 0 ∨ addr < 0x4000000 ∨ 0x40FFFFF < addr then mgtAnswer s t 2 []
    else if s.bit F.IMG_FLASH_CTRL_BUSY then mgtAnswer s t 6 []
    else
      let s := flashOp s 3 addr 65536 spd
      if s.bit F.IMG_FLASH_CTRL_BUSY then bgHold s t (.group spd) else mgtAnswer s t 4 []
  | .hostCoh op h =>
    if s.bit F.COH_HOST_CMD_BUSY then mgtAnswer s t 6 []
    else if op < 1 ∨ 2 < op ∨ 63 < h then mgtAnswer s t 2 []
    else
      let s := wrHostCmd (wrFull mgtMid false (BitVec.ofNat 64 (2 ^ 31 + op * 2 ^ 28 + h))) s
      if s.bit F.COH_HOST_CMD_BUSY then bgStart s t (.remove h)
      else mgtAnswer s t 0 [s.get F.COH_HOST_CMD_RESULT]
  | .sharing g members valid =>
    if 2 ^ 18 ≤ g then mgtAnswer s t 2 []
    else
      let s := sharingWrite s g members valid
      mgtAnswer s t (if s.get F.RTE_TBL_CMD_RESULT = 0 then 0 else 2) []
  | .proxy n port ldid k base count dpaBase valid prep =>
    if 32 ≤ n ∨ 8 ≤ k ∨ 96 ≤ port then mgtAnswer s t 2 []
    else
      let w := proxyWords s n port ldid k base count dpaBase valid
      match (if valid then prep else []) with
      | [] => mgtAnswer (proxyWrite s n k w.1 w.2) t 0 []
      | q :: rest => dsaQueue (bgHold s t (.proxy n k w.1 w.2 rest)) .bg (.req q)
  | .tunnel port inner => dsaQueue (bgHold s t .tunnel) .bg (.tunnel port inner)

/-- The command that holds the writer's position goes on, and ends where what it waits for has ended. -/
def bgAdvance (s : State) : State :=
  match s.mgt.bg with
  | none => s
  | some (t, .bind _ _) =>
    if s.bit F.RTE_BIND_CMD_BUSY then s else bgEnd s t (bindRc (s.get F.RTE_BIND_CMD_RESULT)) [s.get F.RTE_BIND_CMD_RESULT]
  | some (t, .unbind _ _) =>
    if s.bit F.RTE_BIND_CMD_BUSY then s else bgEnd s t (bindRc (s.get F.RTE_BIND_CMD_RESULT)) [s.get F.RTE_BIND_CMD_RESULT]
  | some (t, .remove _) => if s.bit F.COH_HOST_CMD_BUSY then s else bgEnd s t 0 [s.get F.COH_HOST_CMD_RESULT]
  | some (t, .dcAdd left _) => if left.isEmpty then bgEnd s t 0 [] else s
  | some (t, .dcRelease await todo cur all snap) => relAdvance s t await todo cur all snap
  | some (t, .flash) =>
    if s.bit F.IMG_FLASH_CTRL_BUSY then s
    else
      let r := s.get F.IMG_FLASH_CTRL_RESULT
      let d := if s.get F.IMG_FLASH_CTRL_OP = 3 then s.spdRd (s.get F.IMG_FLASH_ADDR_SPD) (s.get F.IMG_FLASH_CTRL_LENGTH) else []
      bgAnswer s t 0 (d.map (·.toNat) ++ [r])
  | some (t, .arb) => if s.bit F.IMG_ARB_BUSY then s else bgAnswer s t 0 [s.get F.IMG_ARB_COUNT]
  | some (t, .group spd) =>
    if s.bit F.IMG_FLASH_CTRL_BUSY then s
    else if s.get F.IMG_FLASH_CTRL_RESULT ≠ 0 then bgAnswer s t 4 []
    else
      let s := reloadFrom s spd
      bgAnswer s t 0 [s.get F.IMG_LOAD_STATUS_CODE]
  | some (_, .proxy _ _ _ _ _) => s
  | some (_, .tunnel) => s

/-! ## MGT_DSA for commands (R323, R324) -/

/-- A request on behalf of the command that holds the writer's position has ended. -/
def bgDsa (s : State) (r : Nat) (d : List Nat) : State :=
  match s.mgt.bg with
  | some (t, .proxy n k c p left) =>
    if r ≠ 0 then bgAnswer s t 4 [r]
    else match left with
      | [] => bgAnswer (proxyWrite s n k c p) t 0 []
      | q :: rest => dsaQueue (bgHold s t (.proxy n k c p rest)) .bg (.req q)
  | some (t, .tunnel) => if r = 0 then bgAnswer s t 0 d else bgAnswer s t 4 [r]
  | _ => s

/-- Start a request, or a tunnelled command, on MGT_DSA. -/
def dsaStart (s : State) : DsaJob → State
  | .req q =>
    if dsaSizeOk q.op q.be then dsaIssue (dsaPut s q) else dsaResult (dsaPut s q) 2
  | .tunnel p inner =>
    let s := s.put F.MGT_DSA_CMD_PORT p
    if dsaPortOk s p then (s.put F.MGT_DSA_CMD_BUSY 1).out (.tunnel p inner) else dsaResult s 4

/-- MGT_DSA, idle, ends what it was used for, or takes what waits for it. -/
def dsaAdvance (s : State) : State :=
  if s.bit F.MGT_DSA_CMD_BUSY then s
  else match s.mgt.dsaFor with
    | some (w, j) =>
      let r := s.get F.MGT_DSA_CMD_RESULT
      let d := match j with
        | .req q => if q.op % 2 = 0 then [s.get F.MGT_DSA_DATA_DATA] else []
        | .tunnel _ _ => s.mgt.dsaAns.map (·.toNat)
      let s := s.modMgt fun m => { m with dsaFor := none, dsaAns := [] }
      match w with
      | .answer t => if r = 0 then mgtAnswer s t 0 d else mgtAnswer s t 4 [r]
      | .bg => bgDsa s r d
    | none =>
      match s.mgt.dsaWait with
      | [] => s
      | (w, j) :: xs => dsaStart (s.modMgt fun m => { m with dsaFor := some (w, j), dsaWait := xs }) j

/-! ## The writer's position (R322) -/

/-- One piece of Psihaust's work: MGT_DSA, then the command in progress, then the next one that waits. -/
def mgtStep (s : State) : State :=
  let s := bgAdvance (dsaAdvance s)
  match s.mgt.bg, s.mgt.wait with
  | none, (t, q) :: rest => mgtRun (s.modMgt fun m => { m with wait := rest }) t q
  | _, _ => s

/-- n pieces of work. -/
def mgtSteps : Nat → State → State
  | 0, s => s
  | n + 1, s => mgtSteps n (mgtStep s)

/-- Psihaust does what there is to do. -/
def mgtServe (s : State) : State :=
  if !s.bit F.MGT_STATUS_READY ∨ (s.mgt.bg.isNone ∧ s.mgt.wait.isEmpty ∧ s.mgt.dsaFor.isNone ∧ s.mgt.dsaWait.isEmpty) then s
  else
    let k := match s.mgt.bg with
      | some (_, .dcRelease _ todo _ _ _) => todo.length
      | some (_, .proxy _ _ _ _ left) => left.length
      | _ => 0
    mgtSteps (8 + 4 * (k + s.mgt.wait.length + s.mgt.dsaWait.length)) s

/-- What passes while no command waits: one tick of mtime at 32 MHz (R305), and what Psihaust has begun and can end. -/
def idle (s : State) : State := mgtServe (s.put F.MGT_MTIME_TIME (s.get F.MGT_MTIME_TIME + 1))

/-- A state-changing command: carried out, or put behind those before it. -/
def mgtPut (s : State) (t : Nat) (q : MgtReq) : State :=
  let s := mgtServe s
  mgtServe (if s.mgt.bg.isNone ∧ s.mgt.wait.isEmpty then mgtRun s t q else s.modMgt fun m => { m with wait := m.wait ++ [(t, q)] })

/-- A state-changing command on transport t. -/
def mgtCmd (t : Fin 6) (q : MgtReq) (s : State) : State := mgtTake t s fun s => mgtPut s t q

/-- A command that only reads sees the state after what has ended. -/
def mgtGet (t : Fin 6) (s : State) (d : State → List Nat) : State :=
  let s := mgtServe s
  mgtRead t s (d s)

/-- A command that only uses MGT_DSA. -/
def mgtDsa (t : Fin 6) (j : DsaJob) (s : State) : State := mgtTake t s fun s => mgtServe (dsaQueue s (.answer t) j)

end Sys2Proof.Machine
end

