-- ==== Sys2Proof/Machine/MgtRows.lean ====
section
/-! DEFINITION. The rows of Psihaust: management commands, MCTP control, the mailbox of a pool LD, and the ends of MGT_DSA
(R229, R316, R319 to R324). -/

namespace Sys2Proof.Machine

/-! ## Ends (R322, R323) -/

/-- RESULT of a completion. -/
def DsaStatus.code : DsaStatus → Nat
  | .ok => 0
  | .ur => 1
  | .ca => 2
  | .crs => 5

/-- DSA_COMPLETE (R323). -/
def execDsaComplete (st : DsaStatus) (data : Bytes) (s : State) : Host.Outcome State Fault Refusal :=
  .next (
    if !s.bit F.MGT_DSA_CMD_BUSY then s
    else
      let tunnelled := match s.mgt.dsaFor with
        | some (_, .tunnel _ _) => true
        | _ => false
      let s := if tunnelled then s.modMgt fun m => { m with dsaAns := data }
        else if st = .ok ∧ s.get F.MGT_DSA_CMD_OP % 2 = 0 then s.put F.MGT_DSA_DATA_DATA (leN data 0 8) else s
      mgtServe (dsaResult s st.code))

/-- DSA_TIMEOUT (R323). -/
def execDsaTimeout (s : State) : Host.Outcome State Fault Refusal :=
  .next (if s.bit F.MGT_DSA_CMD_BUSY then mgtServe (dsaResult s 3) else s)

/-- COMMAND_WAIT_TIMEOUT (R322): the command that has waited longest has waited 1 s. -/
def execCommandWaitTimeout (s : State) : Host.Outcome State Fault Refusal :=
  .next (
    let s := mgtServe s
    match s.mgt.wait with
    | (t, _) :: rest =>
      let s := s.modMgt fun m => { m with wait := rest }
      if 8 ≤ t then s else mgtAnswer s t 6 []
    | [] => s)

/-- UNSUPPORTED_COMMAND (R319). -/
def execUnsupportedCommand (t : Fin 6) (_opcode : BitVec 16) (s : State) : Host.Outcome State Fault Refusal :=
  .next (mgtTake t s fun s => mgtAnswer s t 3 [])

/-! ## Commands that read (R319, R321) -/

/-- Bit i set for every i below n that satisfies f. -/
def maskWhere (n : Nat) (f : Nat → Bool) : Nat := (List.range n).foldl (fun a i => if f i then a + 2 ^ i else a) 0

def execIdentifySwitchDevice (t : Fin 6) (s : State) : Host.Outcome State Fault Refusal :=
  .next (mgtGet t s fun s =>
    let vs := (List.range 64).filter fun v => s.bit (F.RTE_VCS_CFG_PRESENT v)
    [96, s.get F.RTE_CFG_VCS_COUNT, maskWhere 96 fun p => s.get (F.PORT_CFG_ROLE p) != 0, maskWhere 64 fun v => s.bit (F.RTE_VCS_CFG_PRESENT v),
      (vs.map fun v => s.get (F.RTE_VCS_CFG_VPPBS v)).foldl (· + ·) 0,
      ((List.range 1024).filter fun n => s.bit (F.RTE_BIND_VALID n)).length] ++ Config.switchId)

/-- Registers of a port. -/
def portInfo (s : State) (p : Nat) : List Nat :=
  [p, (s.rd (R.PORT_CFG p)).toNat, (s.rd (R.PORT_LINK_CTRL p)).toNat, (s.rd (R.PORT_LINK_STATUS p)).toNat, (s.rd (R.OFL_STATUS p)).toNat]

def execGetPhysicalPortState (t : Fin 6) (ps : List (Fin 96)) (s : State) : Host.Outcome State Fault Refusal :=
  .next (mgtGet t s fun s => (ps.map (·.val)).flatMap (portInfo s))

/-- Does a background Bind or Unbind work on vPPB k of VCS v? -/
def vppbBusy (s : State) (v k : Nat) : Bool :=
  match s.mgt.bg with
  | some (_, .bind v' k') => v' == v && k' == k
  | some (_, .unbind v' k') => v' == v && k' == k
  | _ => false

/-- A vPPB: 0 unbound, 1 bind or unbind in progress, 2 bound to a port, 3 bound to an LD; port; LD-ID. -/
def vppbInfo (s : State) (v k : Nat) : List Nat :=
  match bindOf s v k with
  | some n =>
    [if vppbBusy s v k then 1 else if s.get (F.RTE_BIND_LDID n) = 0xFFFF then 2 else 3, s.get (F.RTE_BIND_PORT n), s.get (F.RTE_BIND_LDID n)]
  | none => [if vppbBusy s v k then 1 else 0, 0, 0]

def vcsInfo (s : State) (v : Nat) : List Nat :=
  [v, s.get (F.RTE_VCS_CFG_PRESENT v), s.get (F.RTE_VCS_CFG_UPORT v), s.get (F.RTE_VCS_CFG_VPPBS v)]
  ++ (List.range (s.get (F.RTE_VCS_CFG_VPPBS v))).flatMap (vppbInfo s v)

def execGetVirtualCxlSwitchInfo (t : Fin 6) (vs : List (Fin 64)) (s : State) : Host.Outcome State Fault Refusal :=
  .next (mgtGet t s fun s => (vs.map (·.val)).flatMap (vcsInfo s))

def execGetLdInfo (t : Fin 6) (s : State) : Host.Outcome State Fault Refusal :=
  .next (mgtGet t s fun s => [s.get F.POOL_LEAT_FIRST * 2 ^ 28, 64])

/-- n to n + count - 1, below 64. -/
def ldRange (n count : Nat) : List Nat := ((List.range count).map (n + ·)).filter (· < 64)

def execGetLdAllocations (t : Fin 6) (n : Fin 64) (count : Fin 65) (s : State) : Host.Outcome State Fault Refusal :=
  .next (mgtGet t s fun s => (ldRange n count).flatMap fun k =>
    [s.get (F.POOL_LD_EN k), s.get (F.POOL_LD_MAP_MAP_BASE k), s.get (F.POOL_LD_MAP_MAP_COUNT k)])

def execGetQosControl (t : Fin 6) (s : State) : Host.Outcome State Fault Refusal :=
  .next (mgtGet t s fun s => [s.get F.POOL_DEVLOAD_OPTIMAL, s.get F.POOL_DEVLOAD_MODERATE, s.get F.POOL_DEVLOAD_SEVERE])

def execGetQosStatus (t : Fin 6) (s : State) : Host.Outcome State Fault Refusal :=
  .next (mgtGet t s fun s => (List.range 12).map fun c => (tget [] s.pool.chq c).length)

def execGetQosAllocatedBw (t : Fin 6) (n : Fin 64) (count : Fin 65) (s : State) : Host.Outcome State Fault Refusal :=
  .next (mgtGet t s fun s => (ldRange n count).map fun k => s.get (F.POOL_LD_BW_ALLOC k))

def execGetQosBwLimit (t : Fin 6) (n : Fin 64) (count : Fin 65) (s : State) : Host.Outcome State Fault Refusal :=
  .next (mgtGet t s fun s => (ldRange n count).map fun k => s.get (F.POOL_LD_BW_LIMIT k))

/-- LDs, regions of an LD, extent size, capacity outside the Leat region. -/
def execGetDcdInfo (t : Fin 6) (s : State) : Host.Outcome State Fault Refusal :=
  .next (mgtGet t s fun s => [64, 2, 2 ^ 28, s.get F.POOL_LEAT_FIRST * 2 ^ 28])

/-- Regions of pool LD n: enable, slots, first shared index. -/
def dcConfig (s : State) (n : Nat) : List Nat :=
  [s.get (F.POOL_LD_EN n), s.get (F.POOL_LD_MAP_MAP_BASE n), s.get (F.POOL_LD_MAP_MAP_COUNT n), s.get (F.POOL_LD_MAP_SHARED_FIRST n)]

def execGetHostDcRegionConfiguration (t : Fin 6) (n : Fin 64) (s : State) : Host.Outcome State Fault Refusal :=
  .next (mgtGet t s fun s => dcConfig s n)

/-- Entries of the LD map of pool LD n as they stood before the capacity command in progress. -/
def mapBefore (s : State) (n : Nat) : List (Nat × Nat × Nat) :=
  match s.mgt.bg with
  | some (_, .dcAdd _ exts) => (mapEntries s n).filter fun x => !exts.contains x.2.2
  | some (_, .dcRelease _ _ _ all snap) =>
    ((mapEntries s n).filter fun x => !all.contains x.2.2) ++ snap.filter fun x => x.1 == n
  | _ => mapEntries s n

/-- An extent list: index and extent of each entry. -/
def extList (s : State) (n : Nat) : List Nat := (mapBefore s n).flatMap fun x => [x.2.1, x.2.2]

def execGetDcRegionExtentLists (t : Fin 6) (n : Fin 64) (s : State) : Host.Outcome State Fault Refusal :=
  .next (mgtGet t s fun s => extList s n)

/-- GET_TELEMETRY (R321): counters, then mtime. -/
def execGetTelemetry (t : Fin 6) (first count : BitVec 16) (s : State) : Host.Outcome State Fault Refusal :=
  .next (mgtTake t (mgtServe s) fun s =>
    if count.toNat = 0 ∨ 1024 < first.toNat + count.toNat then mgtAnswer s t 2 []
    else mgtAnswer s t 0 (((List.range count.toNat).map fun i => s.get (F.PMC_CNT_COUNT (first.toNat + i))) ++ [s.get F.MGT_MTIME_TIME]))

/-- GET_FAULT_HISTORY (R321): the oldest records. -/
def execGetFaultHistory (t : Fin 6) (n : BitVec 16) (s : State) : Host.Outcome State Fault Refusal :=
  .next (mgtGet t s fun s => (s.brk.hist.take n.toNat).flatMap fun r => r.map (·.toNat))

/-! ## Commands that change state -/

def execPhysicalPortControl (t : Fin 6) (p : Fin 96) (disable : Option Bool) (s : State) : Host.Outcome State Fault Refusal :=
  .next (mgtCmd t (.portControl p disable) s)

def execBindVppb (t : Fin 6) (v : Word) (s : State) : Host.Outcome State Fault Refusal := .next (mgtCmd t (.bind v) s)

def execUnbindVppb (t : Fin 6) (v : Word) (s : State) : Host.Outcome State Fault Refusal := .next (mgtCmd t (.unbind v) s)

def execGenerateAerEvent (t : Fin 6) (v : Fin 64) (k : Fin 256) (bit : Fin 32) (unc : Bool) (s : State) :
    Host.Outcome State Fault Refusal :=
  .next (mgtCmd t (.aer v k bit unc) s)

/-- A command for the local pool, or tunnelled to an external device. -/
def localOr (ext : Option (Fin 96 × Bytes)) (q : MgtReq) : MgtReq :=
  match ext with
  | some (p, b) => .tunnel p b
  | none => q

def execSetLdAllocations (t : Fin 6) (ext : Option (Fin 96 × Bytes)) (n : Fin 64) (en : Bool) (base count : BitVec 16) (s : State) :
    Host.Outcome State Fault Refusal :=
  .next (mgtCmd t (localOr ext (.ldParam n (.alloc en base.toNat count.toNat))) s)

def execSetQosControl (t : Fin 6) (ext : Option (Fin 96 × Bytes)) (optimal moderate severe : BitVec 8) (s : State) :
    Host.Outcome State Fault Refusal :=
  .next (mgtCmd t (localOr ext (.ldParam 0 (.qosControl optimal.toNat moderate.toNat severe.toNat))) s)

def execSetQosAllocatedBw (t : Fin 6) (ext : Option (Fin 96 × Bytes)) (n : Fin 64) (v : BitVec 8) (s : State) :
    Host.Outcome State Fault Refusal :=
  .next (mgtCmd t (localOr ext (.ldParam n (.bwAlloc v.toNat))) s)

def execSetQosBwLimit (t : Fin 6) (ext : Option (Fin 96 × Bytes)) (n : Fin 64) (v : BitVec 8) (s : State) :
    Host.Outcome State Fault Refusal :=
  .next (mgtCmd t (localOr ext (.ldParam n (.bwLimit v.toNat))) s)

def execSetDcRegionConfiguration (t : Fin 6) (n : Fin 64) (base count sharedFirst : BitVec 16) (s : State) :
    Host.Outcome State Fault Refusal :=
  .next (mgtCmd t (.dcRegion n base.toNat count.toNat sharedFirst.toNat) s)

def execInitiateDynamicCapacityAdd (t : Fin 6) (shared : Bool) (owner : BitVec 16) (exts : List (Fin 32768 × BitVec 16)) (s : State) :
    Host.Outcome State Fault Refusal :=
  .next (mgtCmd t (.dcAdd owner.toNat shared (exts.map fun x => (x.1.val, x.2.toNat))) s)

def execInitiateDynamicCapacityRelease (t : Fin 6) (exts : List (Fin 32768)) (forced : Bool) (s : State) :
    Host.Outcome State Fault Refusal :=
  .next (mgtCmd t (.dcRelease (exts.map (·.val)) forced) s)

def execFlashOperation (t : Fin 6) (op : BitVec 8) (addr len : BitVec 32) (spd : Fin 16777216) (data : Bytes) (s : State) :
    Host.Outcome State Fault Refusal :=
  .next (mgtCmd t (.flash op.toNat addr.toNat len.toNat spd data) s)

def execCommitAntiRollback (t : Fin 6) (s : State) : Host.Outcome State Fault Refusal := .next (mgtCmd t .arbCommit s)

def execGroupReloadCommand (t : Fin 6) (addr : BitVec 32) (spd : Fin 16777216) (s : State) : Host.Outcome State Fault Refusal :=
  .next (mgtCmd t (.groupReload addr.toNat spd) s)

def execHostCoherence (t : Fin 6) (op h : BitVec 8) (s : State) : Host.Outcome State Fault Refusal :=
  .next (mgtCmd t (.hostCoh op.toNat h.toNat) s)

def execSetSharingGroup (t : Fin 6) (g : BitVec 32) (members : BitVec 64) (valid : Bool) (s : State) :
    Host.Outcome State Fault Refusal :=
  .next (mgtCmd t (.sharing g.toNat members.toNat valid) s)

/-- SET_PROXY_EXPANDER (R324): prep is what Psihaust asks of the expander before. -/
def execSetProxyExpander (t : Fin 6) (n port : BitVec 8) (ldid : BitVec 16) (k : BitVec 8) (base count : BitVec 16) (dpaBase : BitVec 32)
    (valid : Bool) (prep : List DsaReq) (s : State) : Host.Outcome State Fault Refusal :=
  .next (mgtCmd t (.proxy n.toNat port.toNat ldid.toNat k.toNat base.toNat count.toNat dpaBase.toNat valid prep) s)

/-! ## Downstream access (R319, R323) -/

def execSendPpbCxlIoConfigRequest (t : Fin 6) (p : Fin 96) (write : Bool) (target : BitVec 16) (addr : BitVec 12) (be : BitVec 4)
    (data : BitVec 32) (s : State) : Host.Outcome State Fault Refusal :=
  .next (mgtDsa t (.req ⟨if write then 1 else 0, p, 0xFFFF, target.toNat, addr.toNat, be.toNat, data.toNat⟩) s)

def execSendLdCxlIoConfigRequest (t : Fin 6) (p : Fin 96) (ld : BitVec 16) (write : Bool) (target : BitVec 16) (addr : BitVec 12)
    (be : BitVec 4) (data : BitVec 32) (s : State) : Host.Outcome State Fault Refusal :=
  .next (mgtDsa t (.req ⟨if write then 1 else 0, p, ld.toNat, target.toNat, addr.toNat, be.toNat, data.toNat⟩) s)

def execSendLdCxlIoMemoryRequest (t : Fin 6) (p : Fin 96) (ld : BitVec 16) (write : Bool) (addr : BitVec 64) (be : BitVec 8)
    (data : BitVec 64) (s : State) : Host.Outcome State Fault Refusal :=
  .next (mgtDsa t (.req ⟨if write then 3 else 2, p, ld.toNat, 0, addr.toNat, be.toNat, data.toNat⟩) s)

/-- TUNNEL_MANAGEMENT_COMMAND: an inner command that changes state takes the writer's position. -/
def execTunnelManagementCommand (t : Fin 6) (p : Fin 96) (inner : Bytes) (changes : Bool) (s : State) :
    Host.Outcome State Fault Refusal :=
  .next (if changes then mgtCmd t (.tunnel p inner) s else mgtDsa t (.tunnel p inner) s)

/-! ## MCTP control (R313, R316, R318) -/

/-- An MCTP control command of transport t, which is answered whatever MGT_FMAPI_CTRL holds; the PF mailbox carries none. -/
def mctpCtl (t : Fin 6) (s : State) (f : State → State) : State :=
  if !s.bit F.MGT_STATUS_READY then (if t.val = 1 ∨ t.val = 2 then s.out (.nack t) else s)
  else if t.val = 0 then s
  else f s

/-- The null and the broadcast endpoint ID are not assigned. -/
def execSetEndpointId (t : Fin 6) (eid : BitVec 8) (s : State) : Host.Outcome State Fault Refusal :=
  .next (mctpCtl t s fun s =>
    if eid = 0 ∨ eid = 0xFF then mgtAnswer s t 2 []
    else mgtAnswer (s.modMgt fun m => { m with eid := tput 0 m.eid t eid.toNat }) t 0 [eid.toNat])

def execGetEndpointId (t : Fin 6) (s : State) : Host.Outcome State Fault Refusal :=
  .next (mctpCtl t s fun s => mgtAnswer s t 0 [tget 0 s.mgt.eid t])

def execGetEndpointUuid (t : Fin 6) (s : State) : Host.Outcome State Fault Refusal :=
  .next (mctpCtl t s fun s => mgtAnswer s t 0 Config.uuid)

def execGetMctpVersionSupport (t : Fin 6) (s : State) : Host.Outcome State Fault Refusal :=
  .next (mctpCtl t s fun s => mgtAnswer s t 0 Config.mctpVersions)

def execGetMessageTypeSupport (t : Fin 6) (s : State) : Host.Outcome State Fault Refusal :=
  .next (mctpCtl t s fun s => mgtAnswer s t 0 [0x00, 0x07, 0x08])

/-! ## Mailbox of a pool LD (R214, R215, R229) -/

/-- A command in the mailbox of pool LD n, which Psihaust serves for an enabled LD. -/
def ldMbox (n : Nat) (s : State) (f : State → State) : State :=
  if s.bit F.MGT_STATUS_READY && s.bit (F.POOL_LD_EN n) then f (mgtServe s) else s

def ldRead (n : Nat) (s : State) (d : State → List Nat) : State := ldMbox n s fun s => mgtAnswer s (8 + n) 0 (d s)

def execIdentifyMemoryDevice (n : Fin 64) (s : State) : Host.Outcome State Fault Refusal :=
  .next (ldRead n s fun s => [s.get (F.POOL_LD_MAP_MAP_COUNT n) * 2 ^ 28, 0x1463])

/-- Event records of pool LD n, oldest first. -/
def ldEvents (s : State) (n : Nat) : List (Nat × Nat × Nat) := s.mgt.events.filter fun e => e.1 == n

def execGetEventRecords (n : Fin 64) (s : State) : Host.Outcome State Fault Refusal :=
  .next (ldRead n s fun s => (ldEvents s n).flatMap fun e => [e.2.1, e.2.2, (extAt s e.2.2).dpaIndex])

/-- CLEAR_EVENT_RECORDS: the oldest count records. -/
def execClearEventRecords (n : Fin 64) (count : Fin 65536) (s : State) : Host.Outcome State Fault Refusal :=
  .next (ldMbox n s fun s =>
    mgtAnswer (s.modMgt fun m => { m with
      events := (m.events.filter fun e => e.1 != n.val) ++ (ldEvents s n).drop count }) (8 + n) 0 [])

def execGetDynamicCapacityConfiguration (n : Fin 64) (s : State) : Host.Outcome State Fault Refusal :=
  .next (ldRead n s fun s => dcConfig s n)

def execGetDynamicCapacityExtentList (n : Fin 64) (s : State) : Host.Outcome State Fault Refusal :=
  .next (ldRead n s fun s => extList s n)

/-- ADD_DYNAMIC_CAPACITY_RESPONSE (R214): within the Add in progress, or in the order of R322. -/
def execAddDynamicCapacityResponse (n : Fin 64) (accept reject : List (Fin 32768)) (s : State) : Host.Outcome State Fault Refusal :=
  .next (ldMbox n s fun s =>
    let acc := accept.map (·.val)
    let rej := reject.map (·.val)
    let s := mgtAnswer s (8 + n) 0 []
    match s.mgt.bg with
    | some (_, .dcAdd left _) =>
      if left.any fun x => x.1 == n.val && (acc.contains x.2 || rej.contains x.2) then mgtServe (dcAnswer s n acc rej)
      else mgtPut s (8 + n) (.dcAnswer n acc rej)
    | _ => mgtPut s (8 + n) (.dcAnswer n acc rej))

/-- RELEASE_DYNAMIC_CAPACITY (R215): the host of pool LD n gives up granted extents of its LD, those that a release in progress
waits for within that release. -/
def execReleaseDynamicCapacity (n : Fin 64) (exts : List (Fin 32768)) (s : State) : Host.Outcome State Fault Refusal :=
  .next (ldMbox n s fun s =>
    let bs := exts.map (·.val)
    if bs.any fun b => (extAt s b).state != 2 || !ownsExt s n (extAt s b) then mgtAnswer s (8 + n) 2 []
    else
      let s := mgtAnswer s (8 + n) 0 []
      let now := match s.mgt.bg with
        | some (_, .dcRelease await _ _ _ _) => bs.filter await.contains
        | _ => []
      let s := match s.mgt.bg with
        | some (t, .dcRelease await todo cur all snap) =>
          mgtServe (bgHold s t (.dcRelease (await.filter fun b => !now.contains b) (todo ++ now) cur all snap))
        | _ => s
      let rest := bs.filter fun b => !now.contains b
      if rest.isEmpty then s else mgtPut s (8 + n) (.dcRelease rest true))

/-- Failed channels, corrected and uncorrectable errors of the pool. -/
def execGetHealthInfo (n : Fin 64) (s : State) : Host.Outcome State Fault Refusal :=
  .next (ldRead n s fun s => [s.get F.POOL_STATUS_STATE, s.get F.POOL_STATUS_FAILED])

def execGetSupportedLogs (n : Fin 64) (s : State) : Host.Outcome State Fault Refusal :=
  .next (ldRead n s fun _ => Config.supportedLogs)

def execGetLog (n : Fin 64) (log : Fin 4) (s : State) : Host.Outcome State Fault Refusal :=
  .next (ldRead n s fun _ => Config.logData log)

end Sys2Proof.Machine
end

