-- ==== Sys2Proof/Machine/Bus.lean ====
section
/-! DEFINITION. Register accesses by address (R4 to R11, R309, R310, R450): the handler of each register that acts on a write,
what registers show, split accesses, accesses that are in error. -/

namespace Sys2Proof.Machine

/-! ## Handlers -/

/-- A register (array) whose writes act: its first address, its dimensions, what a write does given the indices. -/
structure WrRow where
  base : Nat
  dims : List (Nat × Nat)
  act : List Nat → Wr → State → State

/-- The indices of the register at distance d, if one starts there. -/
def dimIx : List (Nat × Nat) → Nat → Option (List Nat)
  | [], d => if d = 0 then some [] else none
  | (n, st) :: ds, d => if d / st < n then (dimIx ds (d % st)).map (d / st :: ·) else none

/-- Index i of a list of indices. -/
def ix (l : List Nat) (i : Nat) : Nat := l.getD i 0

def wrRowsA : List WrRow := [
  ⟨R.IMG_BOOT_OK.addr, [], fun _ => wrBootOk⟩,
  ⟨R.IMG_ARB.addr, [], fun _ => wrArb⟩,
  ⟨R.IMG_LOAD_CTRL.addr, [], fun _ => wrLoadCtrl⟩,
  ⟨R.IMG_FLASH_CTRL.addr, [], fun _ => wrFlashCtrl⟩,
  ⟨(R.PORT_LINK_CTRL 0).addr, [(96, 0x10000)], fun l => wrLinkCtrl (ix l 0)⟩,
  ⟨(R.OFL_LANE_CMD 0).addr, [(96, 0x10000)], fun l => wrLaneCmd (ix l 0)⟩,
  ⟨R.SWC_TC_MAP.addr, [], fun _ => wrTcMap⟩,
  ⟨(R.SWC_CLASS_CTRL 0).addr, [(8, 4)], fun l => wrClassCtrl (ix l 0)⟩,
  ⟨R.SWC_BANK_CTRL.addr, [], fun _ => wrBankCtrl⟩,
  ⟨R.RTE_TBL_CMD.addr, [], fun _ => wrTblCmd⟩,
  ⟨(R.RTE_VCS_CFG 0).addr, [(64, 0x10)], fun l => wrVcsCfg (ix l 0)⟩,
  ⟨(R.RTE_VCS_TBL 0).addr, [(64, 0x10)], fun l => wrVcsTbl (ix l 0)⟩,
  ⟨R.RTE_BIND_CMD.addr, [], fun _ => wrBindCmd⟩,
  ⟨R.RTE_WIN_COMMIT.addr, [], fun _ => wrWinCommit⟩,
  ⟨R.RTE_PATH_CMD.addr, [], fun _ => wrPathCmd⟩,
  ⟨R.COH_HOST_CMD.addr, [], fun _ => wrHostCmd⟩,
  ⟨R.COH_FLUSH_CMD.addr, [], fun _ => wrFlushCmd⟩,
  ⟨R.COH_ROT_CTRL.addr, [], fun _ => wrRotCtrl⟩,
  ⟨(R.COH_HOST 0).addr, [(64, 4)], fun l => wrCohHost (ix l 0)⟩,
  ⟨(R.COH_PROXY 0).addr, [(32, 8)], fun l => wrCohProxy (ix l 0)⟩]

def wrRowsB : List WrRow := [
  ⟨R.POOL_EXT_CMD.addr, [], fun _ => wrExtCmd⟩,
  ⟨R.POOL_MAP_CMD.addr, [], fun _ => wrMapCmd⟩,
  ⟨(R.POOL_LD_MAP 0).addr, [(64, 0x10)], fun l => wrLdMap (ix l 0)⟩,
  ⟨(R.POOL_PROXY 0).addr, [(8, 8)], fun l => wrPoolProxy (ix l 0)⟩,
  ⟨(R.HEP_FN_CFG 0).addr, [(1024, 0x20)], fun l => wrFnCfg (ix l 0)⟩,
  ⟨(R.HEP_VCS 0).addr, [(64, 4)], fun l => wrHepVcs (ix l 0)⟩,
  ⟨R.HEP_PF.addr, [], fun _ => wrHepPf⟩,
  ⟨(R.HEP_FN_WIN 0).addr, [(1024, 0x20)], fun l => wrFnWin (ix l 0)⟩,
  ⟨R.HEP_QMAP_CMD.addr, [], fun _ => wrQmapCmd⟩,
  ⟨R.HEP_MIG_CMD.addr, [], fun _ w s => wrMigCmd ((List.range 0x10000).map (Config.freeByte s.fresh)) w s.bump⟩,
  ⟨(R.HOP_ENG_CTRL 0).addr, [(16, 0x10000)], fun l => wrEngCtrl (ix l 0)⟩,
  ⟨(R.HOP_CH_CTRL 0 0).addr, [(16, 0x10000), (64, 0x100)], fun l => wrChCtrl (ix l 0) (ix l 1)⟩,
  ⟨(R.HOP_CH_RING 0 0).addr, [(16, 0x10000), (64, 0x100)], fun l => wrChRing (ix l 0) (ix l 1)⟩,
  ⟨(R.HOP_CH_CQ 0 0).addr, [(16, 0x10000), (64, 0x100)], fun l => wrChCq (ix l 0) (ix l 1)⟩,
  ⟨(R.HOP_CH_PTR 0 0).addr, [(16, 0x10000), (64, 0x100)], fun l => wrChPtr (ix l 0) (ix l 1)⟩,
  ⟨(R.HOP_CH_SHD 0 0 0).addr, [(16, 0x10000), (64, 0x100), (8, 8)], fun l => wrChShd (ix l 0) (ix l 1) (ix l 2)⟩,
  ⟨(R.HOP_CH_SHD_CTRL 0 0).addr, [(16, 0x10000), (64, 0x100)], fun l => wrShdCtrl (ix l 0) (ix l 1)⟩,
  ⟨(R.SPD_BANK_CFG 0).addr, [(64, 4)], fun l => wrBankCfg (ix l 0)⟩,
  ⟨(R.MPU_REG_A 0 0).addr, [(16, 0x10000), (32, 0x10)], fun l => wrRegA (ix l 0) (ix l 1)⟩,
  ⟨(R.MPU_REG_B 0 0).addr, [(16, 0x10000), (32, 0x10)], fun l => wrRegB (ix l 0) (ix l 1)⟩,
  ⟨(R.MPU_FENCE 0).addr, [(16, 0x10000)], fun l => wrFence (ix l 0)⟩,
  ⟨(R.MPU_REG_A 16 0).addr, [(13, 0x10000), (32, 0x10)], fun l => wrRegA (16 + ix l 0) (ix l 1)⟩,
  ⟨(R.MPU_REG_B 16 0).addr, [(13, 0x10000), (32, 0x10)], fun l => wrRegB (16 + ix l 0) (ix l 1)⟩,
  ⟨(R.MPU_FENCE 16).addr, [(13, 0x10000)], fun l => wrFence (16 + ix l 0)⟩]

def wrRowsC : List WrRow := [
  ⟨R.MGT_CORE_CTRL.addr, [], fun _ => wrCoreCtrl⟩,
  ⟨R.MGT_SWI_SET.addr, [], fun _ => wrSwiSet⟩,
  ⟨(R.MGT_WDOG 0).addr, [(8, 8)], fun l => wrWdog (ix l 0)⟩,
  ⟨R.MGT_DSA_CMD.addr, [], fun _ => wrDsaCmd⟩,
  ⟨(R.SLC_CTRL 0).addr, [(32, 0x10000)], fun l => wrSlcCtrl (ix l 0)⟩,
  ⟨(R.SLC_LIM0 0).addr, [(32, 0x10000), (4, 4)], fun l => wrSlcLim (ix l 0) (ix l 1)⟩,
  ⟨(R.BRK_SEV 0).addr, [(64, 8)], fun l => wrSev (ix l 0)⟩,
  ⟨(R.BRK_REACT 0).addr, [(4096, 4)], fun l => wrReact (ix l 0)⟩,
  ⟨R.BRK_PIN.addr, [], fun _ => wrPin⟩,
  ⟨R.BRK_HIST_CTRL.addr, [], fun _ => wrHistCtrl⟩,
  ⟨R.BRK_INJ_CTRL.addr, [], fun _ => wrInjCtrl⟩,
  ⟨R.BRK_SW_RAISE.addr, [], fun _ => wrSwRaise⟩,
  ⟨R.GOV_REQ_CMD.addr, [], fun _ => wrReqCmd⟩,
  ⟨R.GOV_KPROG.addr, [], fun _ => wrKprog⟩,
  ⟨R.PMC_CTRL.addr, [], fun _ => wrPmcCtrl⟩,
  ⟨(R.PMC_SEL 0).addr, [(1024, 8)], fun l => wrSel (ix l 0)⟩,
  ⟨R.PMC_SMP_CTRL.addr, [], fun _ => wrSmpCtrl⟩,
  ⟨R.CRP_SW_RESET.addr, [], fun _ => wrSwReset⟩,
  ⟨R.CRP_AVS.addr, [], fun _ => wrAvs⟩,
  ⟨R.CRP_PWR.addr, [], fun _ => wrCrpPwr⟩]

/-- The handler of the register at address a. -/
def handlerAt (a : Nat) : Option (Wr → State → State) :=
  (wrRowsA ++ wrRowsB ++ wrRowsC).findSome? fun r =>
    if a < r.base then none else (dimIx r.dims (a - r.base)).map r.act

/-! ## Contents -/

/-- Does address a belong to the registers of a port that is unused, or in the OFL block of one that is not an OFL port? -/
def portShut (s : State) (a : Nat) : Bool :=
  if 0x42000000 ≤ a ∧ a < 0x42600000 then s.get (F.PORT_CFG_ROLE ((a - 0x42000000) / 0x10000)) == 0
  else if 0x43000000 ≤ a ∧ a < 0x43600000 then s.get (F.PORT_CFG_ROLE ((a - 0x43000000) / 0x10000)) != 3
  else false

/-- SWC_QSTAT: the queue that SWC_QSEL names. -/
def qstat (s : State) : Word :=
  let k := s.get F.SWC_QSEL_QUEUE
  let b := fun (x : Bool) => if x then 1 else 0
  let v := bitsPut (bitsPut (bitsPut 0#64 63 63 (b (s.mill.congested.contains k))) 62 62 (b (isSpilling s k))) 61 61
    (b (tget 0 s.mill.stop (k / 8) == 1))
  bitsPut (bitsPut v 44 24 (tget [] s.mill.chains k).length) 19 0 (queueOcc s k)

/-- Contents of registers that show other state at the moment of the read. -/
def regView (s : State) (mid a : Nat) : Option Word :=
  let field := fun (f : Fld) (n : Nat) => some (bitsPut (s.rd f.reg) f.hi f.lo n)
  if a = (F.MGT_IRQ_PEND_LINE).reg.addr then field F.MGT_IRQ_PEND_LINE (irqPend s)
  else if a = (F.BRK_SUMMARY_IRQ).reg.addr then field F.BRK_SUMMARY_IRQ (brkSummary s)
  else if a = R.SWC_QSTAT.addr then some (qstat s)
  else if a = R.GOV_DBG.addr then field F.GOV_DBG_LEFT (tokenLeft s)
  else if a = R.FAN_ROT.addr then field F.FAN_ROT_LEFT (rotLeft s)
  else if 0x40000100 ≤ a ∧ a ≤ 0x40000120 then (if mid = midGov then none else some 0)
  else if 0x41000008 ≤ a ∧ a < 0x41100000 ∧ a % 0x10000 = 8 then some (laneStatus s ((a - 0x41000008) / 0x10000))
  else if 0x4A000000 ≤ a ∧ a < 0x4A200000 ∧ a % 0x10000 = (F.SLC_STATUS_COOL_LEFT 0).reg.addr % 0x10000 then
    field (F.SLC_STATUS_COOL_LEFT ((a - 0x4A000000) / 0x10000)) (coolLeft s ((a - 0x4A000000) / 0x10000))
  else none

/-- What a register reads as. -/
def regShow (s : State) (mid : Nat) (r : Reg) : Word :=
  if portShut s r.addr then r.rst
  else match regView s mid r.addr with
    | some v => v
    | none => s.rd r

/-- A read of the bits of mask clears the RC fields that lie there (R6, R9). -/
def clearRc (s : State) (row : RegRow) (r : Reg) (mask : Word) : State :=
  let m := (row.flds.filter fun f => f.ty == .rc && bitsMask f.hi f.lo &&& mask != 0#64).foldl (fun m f => m ||| bitsMask f.hi f.lo) 0#64
  s.wr r (s.rd r &&& ~~~m)

/-- A write of a register. -/
def regWrite (s : State) (r : Reg) (w : Wr) : State :=
  if portShut s r.addr then s.refuse r.addr w.mid w.size
  else match handlerAt r.addr with
    | some f => f w s
    | none => s.writeReg r w

/-! ## Accesses (R4, R5) -/

/-- How an access meets a register. -/
inductive AccKind
  | bad
  | whole (row : RegRow) (r : Reg)
  | low (row : RegRow) (r : Reg)
  | high (row : RegRow) (r : Reg)

/-- An access of size bytes at address a. -/
def accKind (a size : Nat) : AccKind :=
  match regAt a with
  | none => .bad
  | some (row, start) =>
    let r := regOf (row, start)
    if row.wide then
      (if size = 8 ∧ a = start then .whole row r
       else if size = 4 ∧ a = start then .low row r
       else if size = 4 ∧ a = start + 4 then .high row r
       else .bad)
    else if size = 4 ∧ a = start then .whole row r else .bad

/-- The holding register of a master. -/
def holdOf (s : State) (mid : Nat) : Option Hold := tget none s.hold mid

def holdPut (s : State) (mid : Nat) (h : Option Hold) : State := { s with hold := tput none s.hold mid h }

/-- An access that no register takes: error response and the register-access event (R4). -/
def accErr (s : State) (mid a size : Nat) (write : Bool) : State := s.raise 0 (.access a mid write size)

/-- Does address a lie in the table store debug window (R150)? -/
def inTblWin (a : Nat) : Bool := decide (0x60000000 ≤ a) && decide (a < 0x61000000)

/-- Half of a word. -/
def hiHalf (v : Word) : Nat := v.toNat / 2 ^ 32

def loHalf (v : Word) : Nat := v.toNat % 2 ^ 32

/-- Bits of the two halves. -/
def loMask : Word := 0xFFFFFFFF#64

def hiMask : Word := 0xFFFFFFFF00000000#64

/-- A read: the state, whether it is an error, the data. -/
def busRead (s : State) (mid a size : Nat) : State × Bool × Nat :=
  if inTblWin a ∧ (size = 4 ∨ size = 8) ∧ a % size = 0 then
    (s, false, leN (tgets 0#8 s.rte.store (a - 0x60000000) size) 0 size)
  else match accKind a size with
    | .bad => (accErr s mid a size false, true, 0)
    | .whole row r =>
      let v := regShow s mid r
      let s := clearRc s row r (if row.wide then BitVec.allOnes 64 else loMask)
      (if row.wide then holdPut s mid none else s, false, v.toNat)
    | .low row r =>
      let v := regShow s mid r
      (holdPut (clearRc s row r (BitVec.allOnes 64)) mid (some ⟨hiHalf v, r.addr, true⟩), false, loHalf v)
    | .high row r =>
      match holdOf s mid with
      | some ⟨val, ha, true⟩ =>
        if ha = r.addr then (holdPut s mid none, false, val)
        else (holdPut (clearRc s row r hiMask) mid none, false, hiHalf (regShow s mid r))
      | _ => (holdPut (clearRc s row r hiMask) mid none, false, hiHalf (regShow s mid r))

/-- A write: the state, and whether it is an error. -/
def busWrite (s : State) (mid a size v : Nat) : State × Bool :=
  if inTblWin a then (s.refuse a mid size, false)
  else match accKind a size with
    | .bad => (accErr s mid a size true, true)
    | .whole row r =>
      let s := if row.wide then holdPut s mid none else s
      (regWrite s r (wrFull mid row.wide (BitVec.ofNat 64 v)), false)
    | .low _ r => (holdPut s mid (some ⟨v % 2 ^ 32, r.addr, false⟩), false)
    | .high _ r =>
      let whole := match holdOf s mid with
        | some ⟨val, ha, false⟩ => if ha = r.addr then some val else none
        | _ => none
      let s := holdPut s mid none
      match whole with
      | some val => (regWrite s r { wrFull mid true (BitVec.ofNat 64 (v % 2 ^ 32 * 2 ^ 32 + val)) with size := 4 }, false)
      | none => (regWrite s r { mid := mid, v := BitVec.ofNat 64 (v % 2 ^ 32 * 2 ^ 32), mask := hiMask, size := 4 }, false)

/-- The debug access port is checked by its MPU; every other access comes after its MPU (R291, R295). -/
def busPass (s : State) (mid : Nat) (write : Bool) (a size : Nat) : State × Bool :=
  if mid = 0x020 then mpuPass s 24 mid true (if write then .write else .read) a size else (s, true)

/-- A read and its answer. -/
def busReadRow (s : State) (mid a size : Nat) : State :=
  let p := busPass s mid false a size
  if !p.2 then p.1.out (.resp mid true 0)
  else
    let x := busRead p.1 mid a size
    x.1.out (.resp mid x.2.1 x.2.2)

/-- A write and its answer. -/
def busWriteRow (s : State) (mid a size v : Nat) : State :=
  let p := busPass s mid true a size
  if !p.2 then p.1.out (.resp mid true 0)
  else
    let x := busWrite p.1 mid a size v
    x.1.out (.resp mid x.2 0)

/-! ## Rows -/

/-- REGISTER_WRITE (R450): of 64 bits, or of 32. -/
def execRegisterWrite (mid : Mid) (addr : BitVec 48) (wide : Bool) (v : Word) (s : State) : Host.Outcome State Fault Refusal :=
  .next (busWriteRow s mid addr.toNat (if wide then 8 else 4) v.toNat)

/-- REGISTER_ACCESS_ERROR (R4): an access of any size, read (none) or write. -/
def execRegisterAccessError (mid : Mid) (addr : BitVec 48) (size : Nat) (write : Option Word) (s : State) :
    Host.Outcome State Fault Refusal :=
  .next (match write with
    | none => busReadRow s mid addr.toNat size
    | some v => busWriteRow s mid addr.toNat size v.toNat)

/-- LOW_HALF_WRITE, HIGH_HALF_WRITE, LOW_HALF_READ, HIGH_HALF_READ (R5): a 32-bit access at the address given. -/
def execLowHalfWrite (mid : Mid) (addr : BitVec 48) (v : BitVec 32) (s : State) : Host.Outcome State Fault Refusal :=
  .next (busWriteRow s mid addr.toNat 4 v.toNat)

def execHighHalfWrite (mid : Mid) (addr : BitVec 48) (v : BitVec 32) (s : State) : Host.Outcome State Fault Refusal :=
  .next (busWriteRow s mid addr.toNat 4 v.toNat)

def execLowHalfRead (mid : Mid) (addr : BitVec 48) (s : State) : Host.Outcome State Fault Refusal :=
  .next (busReadRow s mid addr.toNat 4)

def execHighHalfRead (mid : Mid) (addr : BitVec 48) (s : State) : Host.Outcome State Fault Refusal :=
  .next (busReadRow s mid addr.toNat 4)

/-- READ_CLEAR_FIELD (R9). -/
def execReadClearField (mid : Mid) (addr : BitVec 48) (wide : Bool) (s : State) : Host.Outcome State Fault Refusal :=
  .next (busReadRow s mid addr.toNat (if wide then 8 else 4))

/-- The lock bit of a block. -/
def LockBlk.fld : LockBlk → Fld
  | .img => F.IMG_LOCK_LOCK
  | .swc => F.SWC_LOCK_LOCK
  | .rte => F.RTE_LOCK_LOCK
  | .coh => F.COH_LOCK_LOCK
  | .pool => F.POOL_LOCK_LOCK
  | .hep => F.HEP_LOCK_LOCK
  | .hop e => F.HOP_LOCK_LOCK e
  | .spd => F.SPD_LOCK_LOCK
  | .mpu m => F.MPU_LOCK_LOCK m
  | .mgt => F.MGT_LOCK_LOCK
  | .slc n => F.SLC_LOCK_LOCK n
  | .brk => F.BRK_LOCK_LOCK
  | .fan => F.FAN_LOCK_LOCK
  | .pmc => F.PMC_LOCK_LOCK
  | .crp => F.CRP_LOCK_LOCK

/-- BLOCK_LOCK (R8). -/
def execBlockLock (mid : Mid) (b : LockBlk) (s : State) : Host.Outcome State Fault Refusal :=
  .next (busWriteRow s mid b.fld.reg.addr 4 1)

end Sys2Proof.Machine
end

