-- ==== Sys2Proof/Machine/CoreAccess.lean ====
section
/-! DEFINITION. Accesses of the Millwright cores to the internal address map: the MPU's check, caches, atomics, and the parts of
the map (R292, R302 to R304, R307, R310). -/

namespace Sys2Proof.Machine

/-! ## What a core asks for -/

/-- An access of core k: privilege, address, length, data. -/
structure CoreAcc where
  k : Nat
  op : CoreOp
  priv : Bool
  addr : Nat
  len : Nat
  data : Bytes

/-- The type of access that the MPU checks (R292, R294). -/
def CoreOp.acc : CoreOp → AccOp
  | .load => .read
  | .fetch => .fetch
  | .amo _ | .lr | .sc => .add
  | .store | .zero | .clean | .flush | .inval => .write

/-- Is it one of cbo.clean, cbo.flush and cbo.inval? -/
def CoreOp.manages : CoreOp → Bool
  | .clean | .flush | .inval => true
  | _ => false

/-- Is it one of the A extension? -/
def CoreOp.atomic : CoreOp → Bool
  | .amo _ | .lr | .sc => true
  | _ => false

/-- Cache-block operations take the whole line; data are of the access's length. -/
def CoreAcc.whole (a : CoreAcc) : CoreAcc :=
  if a.op.manages || a.op == .zero then { a with addr := a.addr / 64 * 64, len := 64, data := List.replicate 64 0#8 }
  else { a with data := (a.data ++ List.replicate a.len 0#8).take a.len }

/-- MID of a core (R288). -/
def CoreAcc.mid (a : CoreAcc) : Nat := a.k + 1

/-- The core's MPU. A cache-block management operation passes where a load would (PRESUMED, its refusal is that of a store). -/
def corePass (s : State) (a : CoreAcc) : State × Bool :=
  if a.op.manages && mpuCheck s a.k a.mid a.priv .read a.addr a.len == .allow then (s, true)
  else mpuPass s a.k a.mid a.priv a.op.acc a.addr a.len

/-- What the core gets: data, or an access fault with zero for a read. -/
def coreAns (s : State) (a : CoreAcc) (d : Bytes) : State := s.out (.acc a.mid false d)

def coreFault (s : State) (a : CoreAcc) : State :=
  s.out (.acc a.mid true (if a.op.acc = .write then [] else List.replicate a.len 0#8))

/-! ## Caches (R302 to R304) -/

/-- The line that the cores' caches hold at an address. -/
def lineAt (s : State) (l : Nat) : Option CLine := tget none s.mgt.cache l

def linePut (s : State) (l : Nat) (x : Option CLine) : State :=
  s.modMgt fun m => { m with cache := tput none m.cache l x }

/-- A line in the L2 is written: an injection strikes it, or its check bits are good. -/
def l2Put (s : State) (l : Nat) (x : CLine) : State := injWrite (linePut s l (some x)) 9 0 l

/-- Reservations on a line other than core k's are lost. -/
def resvLose (s : State) (l : Nat) (k : Option Nat) : State :=
  s.modMgt fun m => { m with resv := m.resv.filter fun x => x.2 != some l || some x.1 == k }

/-- The L2 array is read at a line: an uncorrectable error is reported. Answers whether the data may be used. -/
def l2Check (s : State) (l : Nat) : State × Bool :=
  if injMark s 9 0 l = 2 then (s.raise 81, false) else (s, true)

/-- Write a dirty line back to its bank. What an uncorrectable error of the L2 has lost is a free value. -/
def lineBack (s : State) (l : Nat) (x : CLine) : State :=
  if !x.dirty then s
  else
    let y := l2Check s l
    let d := if y.2 then x.data else (List.range 64).map (Config.freeByte y.1.fresh)
    let s := if y.2 then y.1 else y.1.bump
    match bankAns s (bankOf (64 * l)) 1 true with
    | .refuse => bankRefused s
    | _ => (spdPut s (64 * l) d []).1

/-- A line leaves the caches, written back. -/
def lineEvict (s : State) (l : Nat) : State :=
  match lineAt s l with
  | none => s
  | some x => resvLose (linePut (lineBack s l x) l none) l none

/-- cbo.clean, cbo.flush, cbo.inval of a line, whatever its bank's caching is now. -/
def lineManage (s : State) (op : CoreOp) (l : Nat) : State :=
  match lineAt s l with
  | none => s
  | some x =>
    match op with
    | .clean => linePut (lineBack s l x) l (some { x with dirty := false })
    | .flush => lineEvict s l
    | .inval => resvLose (linePut s l none) l none
    | _ => s

/-- The answer of the caches for a line. -/
inductive LineAns
  | got (s : State) (x : CLine)
  | wait
  | fault (s : State)

/-- The line in the L2, filled from its bank where it is not there. -/
def lineFill (s : State) (l : Nat) (e : LineErr) : LineAns :=
  match lineAt s l with
  | some x =>
    let y := l2Check s l
    if y.2 then .got y.1 x else .fault y.1
  | none =>
    match bankAns s (bankOf (64 * l)) 1 true with
    | .refuse => .fault (bankRefused s)
    | .wait => .wait
    | .go =>
      let y := spdDo s .read (64 * l) 64 [] e
      if y.2.1 then .fault y.1
      else
        let x : CLine := { data := y.2.2 }
        .got (l2Put y.1 l x) x

/-- Bytes with d in place of those from i on. -/
def bytesPut (b : Bytes) (i : Nat) (d : Bytes) : Bytes := b.take i ++ d ++ b.drop (i + d.length)

/-- Does core k's L1 data cache hold the line? -/
def l1Has (x : CLine) (k : Nat) : Bool := x.l1.testBit k

/-- A store of core k in a cached line: the L1 is written through, other copies are gone. -/
def lineStore (s : State) (k l : Nat) (x : CLine) (off : Nat) (d : Bytes) : State :=
  let own := if l1Has x k then 2 ^ k else 0
  let s := l2Put s l { data := bytesPut x.data off d, dirty := true, l1 := own }
  resvLose (if own = 0 then s else injWrite s 0x0A k l) l (some k)

/-- A signed number of n bytes. -/
def signedN (n v : Nat) : Int := if v < 2 ^ (8 * n - 1) then v else (v : Int) - 2 ^ (8 * n)

/-- The new value of an AMO on n bytes. -/
def AmoFn.val (f : AmoFn) (n old v : Nat) : Nat :=
  match f with
  | .swap => v
  | .add => (old + v) % 2 ^ (8 * n)
  | .xor => old ^^^ v
  | .and => old &&& v
  | .or => old ||| v
  | .min => if signedN n old ≤ signedN n v then old else v
  | .max => if signedN n v ≤ signedN n old then old else v
  | .minu => Nat.min old v
  | .maxu => Nat.max old v

/-- Is an atomic of 4 or 8 bytes, naturally aligned? -/
def amoFits (a : CoreAcc) : Bool := (a.len == 4 || a.len == 8) && a.addr % a.len == 0

/-- One line's part of an access to a cached bank: none where the bank makes it wait; otherwise the state, whether it
faulted, its data. -/
def cachedPart (a : CoreAcc) (s : State) (e : LineErr) (addr len : Nat) : Option (State × Bool × Bytes) :=
  let l := addr / 64
  let off := addr % 64
  match a.op with
  | .zero =>
    let x : CLine := { data := List.replicate 64 0#8, dirty := true }
    some (resvLose (l2Put s l x) l (some a.k), false, [])
  | .load =>
    match lineAt s l with
    | some x =>
      if l1Has x a.k then
        (if injMark s 0x0A a.k l = 2 then some (coreFail s a.k, true, []) else some (s, false, slice x.data off len))
      else cachedLoad l off
    | none => cachedLoad l off
  | .fetch =>
    match lineFill s l e with
    | .got s x => some (s, false, slice x.data off len)
    | .wait => none
    | .fault s => some (s, true, [])
  | .store =>
    match lineFill s l e with
    | .got s x => some (lineStore s a.k l x off (slice a.data (addr - a.addr) len), false, [])
    | .wait => none
    | .fault s => some (s, true, [])
  | .amo f =>
    match lineFill s l e with
    | .got s x =>
      let old := slice x.data off len
      some (lineStore s a.k l x off (leBytes len (f.val len (leN old 0 len) (leN a.data 0 len))), false, old)
    | .wait => none
    | .fault s => some (s, true, [])
  | .lr =>
    match lineFill s l e with
    | .got s x =>
      some (s.modMgt fun m => { m with resv := tput none m.resv a.k (some l) }, false, slice x.data off len)
    | .wait => none
    | .fault s => some (s, true, [])
  | .sc =>
    let held := tget none s.mgt.resv a.k == some l
    let clear := fun (s : State) => s.modMgt fun m => { m with resv := tput none m.resv a.k none }
    if !held then some (clear s, false, leBytes len 1)
    else match lineFill s l e with
      | .got s x => some (clear (lineStore s a.k l x off (a.data.take len)), false, leBytes len 0)
      | .wait => none
      | .fault s => some (clear s, true, [])
  | .clean | .flush | .inval => some (s, false, [])
where
  /-- A load that misses the L1: the L2 answers, and the L1 takes the line. -/
  cachedLoad (l off : Nat) : Option (State × Bool × Bytes) :=
    match lineFill s l e with
    | .got s x =>
      let s := linePut s l (some { x with l1 := x.l1 ||| 2 ^ a.k })
      some (injWrite s 0x0A a.k l, false, slice x.data off len)
    | .wait => none
    | .fault s => some (s, true, [])

/-! ## Scratchpad -/

/-- Are accesses to a bank cached (R303)? -/
def bankCached (s : State) (b : Nat) : Bool := s.hasBit F.MGT_CACHE_BANKS b

/-- The bank's own atomic, if an operation is one (R284). -/
def CoreOp.portA : CoreOp → Option AccOp
  | .load => some .read
  | .fetch => some .fetch
  | .store | .zero => some .write
  | .amo .add => some .add
  | .amo .swap => some .swap
  | _ => none

/-- One row's part of an access to a bank that is not cached. -/
def uncachedPart (a : CoreAcc) (s : State) (e : LineErr) (addr len : Nat) : Option (State × Bool × Bytes) :=
  match a.op.portA with
  | none => some (s, true, [])
  | some op =>
    match bankAns s (bankOf addr) a.mid true with
    | .refuse => some (bankRefused s, true, [])
    | .wait => none
    | .go => some (spdDo s op addr len (slice a.data (addr - a.addr) len) e)

/-- An access to the scratchpad, line by line; nothing happens to the device where a bank makes it wait: the access is given
again. -/
def coreSpd (s : State) (a : CoreAcc) (e : LineErr) : Option (State × Bool × Bytes) :=
  (rowsOf 64 (a.len + 1) a.addr a.len).foldl (fun x r =>
    match x with
    | none => none
    | some (s, true, d) => some (s, true, d)
    | some (s, false, d) =>
      let y := (if bankCached s (bankOf r.1) then cachedPart a s (if r.1 = a.addr then e else .ok) r.1 r.2
        else uncachedPart a s (if r.1 = a.addr then e else .ok) r.1 r.2)
      y.map fun z => (z.1, z.2.1, d ++ z.2.2)) (some (s, false, []))

/-! ## Registers and pool -/

/-- An access to a register block or the table store debug window, or to no region (R303, R310). -/
def coreReg (s : State) (a : CoreAcc) : State :=
  if a.op.atomic then coreFault s a
  else if a.op.acc = .write then
    let x := busWrite s a.mid a.addr a.len (leN a.data 0 a.len)
    if x.2 then coreFault x.1 a else coreAns x.1 a []
  else
    let x := busRead s a.mid a.addr a.len
    if x.2.1 then coreFault x.1 a else coreAns x.1 a (leBytes a.len x.2.2)

/-- Does an address lie in the DRAM pool region (R309)? -/
def inPool (a : Nat) : Bool := decide (0x100000000000 ≤ a) && decide (a < 0x160000000000)

/-- An access to the pool: a request of 1 to 64 bytes within a line; its answer comes back through egress point 125. -/
def corePool (s : State) (a : CoreAcc) : State :=
  if a.op.atomic || decide (64 < a.addr % 64 + a.len) then coreFault s a
  else
    let i := hopId s
    let wr := decide (a.op.acc = .write)
    let l := linePart (a.addr % 64) (a.data.take a.len)
    let q : Pkt := { cls := if wr then .mRwD else .mReq, op := if !wr then .mRd else if a.len = 64 then .mWr else .mWrPtl
                     addr := a.addr / 64 * 64, tag := i.2, data := if wr then l.1 else [], be := if wr then l.2 else BitVec.allOnes 64
                     len := if wr then 128 else 64, src := .core a.k }
    let s := i.1.modMgt fun m => { m with reads := m.reads ++ [⟨i.2, a.k, a.addr % 64, a.len, wr⟩] }
    present s ⟨.core a.k, q, none, none⟩

/-- An access of a core (R303): the MPU first; then, by region, caches, bank, registers or pool. -/
def coreDo (s : State) (a : CoreAcc) (e : LineErr) : State :=
  let p := corePass s a
  if !p.2 then coreFault p.1 a
  else
    let s' := p.1
    if a.op.manages then coreAns (lineManage s' a.op (a.addr / 64)) a []
    else if a.op.atomic && !amoFits a then coreFault s' a
    else if a.addr < 0x1000000 then
      match coreSpd s' a e with
      | none => s
      | some (t, true, _) => if coreAlive t a.k then coreFault t a else t
      | some (t, false, d) => coreAns t a d
    else if inPool a.addr then corePool s' a
    else coreReg s' a

/-- CORE_ACCESS (R302 to R304, R310): core k's access; evict names the lines that leave the caches to make place; e is what the
check bits of the first word read from a bank show. A core in reset makes no access. -/
def execCoreAccess (k : Fin 8) (op : CoreOp) (priv : Bool) (addr : BitVec 48) (len : Fin 65) (data : Bytes) (evict : List Nat)
    (e : LineErr) (s : State) : Host.Outcome State Fault Refusal :=
  .next (
    let a : CoreAcc := ({ k := k.val, op := op, priv := priv, addr := addr.toNat, len := len.val, data := data } : CoreAcc).whole
    if !coreAlive s k ∨ a.len = 0 then s
    else coreDo (evict.foldl lineEvict s) a e)

end Sys2Proof.Machine
end

