-- ==== Sys2Proof/Machine/HostAccess.lean ====
section
/-! DEFINITION. Accesses of hosts: configuration requests to functions, pool LDs and switch ports, and accesses to the register
page and the window of a function (R154, R228 to R231, R236 to R246). -/

namespace Sys2Proof.Machine

/-! ## Configuration of switch ports and pool LDs -/

/-- One bit as a number. -/
def bitN (b : Bool) (i : Nat) : Nat := if b then 2 ^ i else 0

/-- A range register: base, and limit above bit 64. -/
def rangeRd (r : Nat × Nat) : Nat := r.1 + r.2 * 2 ^ 64

def rangeOf (d : Nat) : Nat × Nat := (d % 2 ^ 64, d / 2 ^ 64 % 2 ^ 64)

/-- A configuration register of vPPB k of VCS v. -/
def vppbRd (s : State) (v k : Nat) (r : CfgReg) : Nat :=
  let x := s.vx v k
  let fn := isFnVppb s v k
  match r with
  | .id => Config.portId true
  | .cls => 0x06040001
  | .cmd => x.cmd
  | .busNums => (s.ux v).sec + x.sec * 2 ^ 8 + x.sub * 2 ^ 16
  | .io => rangeRd x.io
  | .mem => rangeRd x.mem
  | .pref => rangeRd x.pref
  | .bridgeCtl => bitN x.busReset 6
  | .acsCtl => x.acs
  | .egressVec => x.egress
  | .linkCtl => bitN x.aspmL1 1 + bitN x.linkDisable 4
  | .linkSta => bitN (fn || x.linkUp) 13
  | .slotCtl => bitN x.hotplug 5 + bitN x.powerOff 10
  | .slotSta => bitN x.attention 0 + bitN x.powerFault 1 + bitN x.presentChanged 3 + bitN (fn || x.present) 6 + bitN x.linkChanged 8
  | .dpcCtl => if fn then 0 else x.dpcEnable + bitN x.dpcAbort 2
  | .dpcSta => bitN x.contained 0 + x.dpcReason * 2
  | .dpcSource => x.dpcSource
  | r => (aerRd x.aer r).getD 0

/-- Secondary Bus Reset set at a vPPB: shutdown of the functions below it, FLR of a pool LD, or Hot Reset on the link of a
whole-device binding. -/
def busResetSet (s : State) (v k : Nat) : State :=
  if isFnVppb s v k then busShut s v
  else match wholePort s v k with
    | some p => hotReset s p
    | none =>
      match bindOf s v k with
      | some n => if s.get (F.RTE_BIND_KIND n) = 1 then ldReset s (s.get (F.RTE_BIND_LDID n)) else s
      | none => s

/-- A write of a configuration register of vPPB k of VCS v. -/
def vppbWr (s : State) (v k : Nat) (r : CfgReg) (d : Nat) : State :=
  let x := s.vx v k
  let set := fun (f : VppbX → VppbX) => s.modVx v k f
  match r with
  | .cmd => set fun x => { x with cmd := d &&& 0x147 }
  | .busNums => set fun x => { x with sec := d / 2 ^ 8 % 2 ^ 8, sub := d / 2 ^ 16 % 2 ^ 8 }
  | .io => set fun x => { x with io := rangeOf d }
  | .mem => set fun x => { x with mem := rangeOf d }
  | .pref => set fun x => { x with pref := rangeOf d }
  | .bridgeCtl =>
    let s := set fun x => { x with busReset := d.testBit 6 }
    if d.testBit 6 && !x.busReset then busResetSet s v k else s
  | .acsCtl => set fun x => { x with acs := d &&& 0x6D }
  | .egressVec => set fun x => { x with egress := d % 2 ^ 256 }
  | .linkCtl =>
    let s := set fun x => { x with aspmL1 := d.testBit 1, linkDisable := d.testBit 4 }
    if d.testBit 4 && !x.linkDisable then vppbDisable s v k else s
  | .slotCtl =>
    let s := set fun x => { x with hotplug := d.testBit 5 }
    if d.testBit 10 = x.powerOff then s else slotPower s v k (!d.testBit 10)
  | .slotSta => set fun x => { x with
      attention := x.attention && !d.testBit 0, powerFault := x.powerFault && !d.testBit 1
      presentChanged := x.presentChanged && !d.testBit 3, linkChanged := x.linkChanged && !d.testBit 8 }
  | .dpcCtl =>
    if isFnVppb s v k then s
    else
      let s := set fun x => { x with dpcEnable := d % 4, dpcAbort := d.testBit 2 }
      if d.testBit 6 && d % 4 != 0 then contain s v k 3 else s
  | .dpcSta => if d.testBit 0 then dpcClear s v k else s
  | r => set fun x => { x with aer := aerWr x.aer d r }

/-- A configuration register of the upstream switch port of VCS v. -/
def uspRd (s : State) (v : Nat) (r : CfgReg) : Nat :=
  let x := s.ux v
  match r with
  | .id => Config.portId false
  | .cls => 0x06040001
  | .cmd => x.cmd
  | .busNums => x.prim + x.sec * 2 ^ 8 + x.sub * 2 ^ 16
  | .io => rangeRd x.io
  | .mem => rangeRd x.mem
  | .pref => rangeRd x.pref
  | .linkCtl => bitN x.aspmL1 1
  | .linkSta => bitN (s.px (s.get (F.RTE_VCS_CFG_UPORT v))).up 13
  | r => (aerRd x.aer r).getD 0

def uspWr (s : State) (v : Nat) (r : CfgReg) (d : Nat) : State :=
  s.modUx v fun x =>
    match r with
    | .cmd => { x with cmd := d &&& 0x147 }
    | .busNums => { x with prim := d % 2 ^ 8, sec := d / 2 ^ 8 % 2 ^ 8, sub := d / 2 ^ 16 % 2 ^ 8 }
    | .io => { x with io := rangeOf d }
    | .mem => { x with mem := rangeOf d }
    | .pref => { x with pref := rangeOf d }
    | .linkCtl => { x with aspmL1 := d.testBit 1 }
    | r => { x with aer := aerWr x.aer d r }

/-- A configuration register of pool LD n (R229). -/
def ldRd (s : State) (n : Nat) (r : CfgReg) : Nat :=
  let x := s.fx (1024 + n)
  match r with
  | .id => 0x14631F9A
  | .cls => 0x05021001
  | .cmd => x.cmd
  | .bar0 => x.bar0
  | .devCtl => x.devCtl
  | .devCtl2 => x.devCtl2
  | .msixCtl => x.msixCtl + 3
  | r => (aerRd x.aer r).getD 0

def ldWr (s : State) (n : Nat) (r : CfgReg) (d : Nat) : State :=
  let set := fun (f : FnX → FnX) => s.modFx (1024 + n) f
  match r with
  | .cmd => set fun x => { x with cmd := d &&& 0x146 }
  | .bar0 => set fun x => { x with bar0 := d % 2 ^ 64 / 65536 * 65536 }
  | .devCtl => if d.testBit 15 then ldReset s n else set fun x => { x with devCtl := d % 2 ^ 15 }
  | .devCtl2 => set fun x => { x with devCtl2 := d % 2 ^ 16 }
  | .msixCtl => set fun x => { x with msixCtl := d &&& 0xC000 }
  | r => set fun x => { x with aer := aerWr x.aer d r }

/-- A configuration access that is performed where its target exists, else completes with Unsupported Request. -/
def cfgDo (s : State) (v : Nat) (ok : Bool) (rd : Nat) (wr : Nat → State) (w : Option Nat) : State :=
  if !ok then s.out (.cfg v 1 0)
  else match w with
    | none => s.out (.cfg v 0 rd)
    | some d => (wr d).out (.cfg v 0 0)

/-- CONFIG_REQUEST (R154, R227 to R229, R246). -/
def execConfigRequest (v : Fin 64) (t : CfgTgt) (r : CfgReg) (w : Option Nat) (s : State) : Host.Outcome State Fault Refusal :=
  .next (
    let here := s.bit (F.RTE_VCS_CFG_PRESENT v)
    match t with
    | .fn n => fnCfg s v n r w
    | .vppb k => cfgDo s v (here && decide (k.val < s.get (F.RTE_VCS_CFG_VPPBS v))) (vppbRd s v k r) (vppbWr s v k r) w
    | .usp => cfgDo s v here (uspRd s v r) (uspWr s v r) w
    | .ld n =>
      if s.hasBit F.CRP_VCS_RESET_ACTIVE v && ldIn s v n then (s.inc F.HEP_CNT1_CRS).out (.cfg v 2 0)
      else cfgDo s v (here && ldIn s v n) (ldRd s n r) (ldWr s n r) w)

/-! ## Errors of BAR accesses (R236) -/

/-- The request as its header is logged. -/
def barPkt (s : State) (n : Nat) (a : BarAcc) : Pkt :=
  { cls := .ioReq, op := if a.data.isSome then .memWr else .memRd, addr := (if a.page then bar0Of s n else bar2Of s n) + a.off,
    rid := a.rid, tag := a.tag, tc := a.tc, data := a.data.getD [], rlen := a.len }

/-- An error of a request to function n: one that is answered with a completion is advisory where it is not fatal. -/
def barErr (s : State) (n bit : Nat) (a : BarAcc) : State :=
  let x := (s.fx n).aer
  if a.data.isNone && !x.uncSev.testBit bit then
    let s := fnCor s n 13
    if x.corMask.testBit 13 then s else fnUnc s n bit (some (barPkt s n a))
  else fnUnc s n bit (some (barPkt s n a))

/-- A read is completed without data; a write has no completion. -/
def barFail (s : State) (n status bit : Nat) (a : BarAcc) : State :=
  let s := barErr s n bit a
  if a.data.isNone then fnCpl s n a.tag a.rid a.tc (barPkt s n a).addr status [] false else s

/-! ## Register page (R230, R317) -/

/-- Eight bytes of the mailbox: the capabilities register shows a payload of 16 KiB, and whether the interface is ready. -/
def mboxRd (s : State) (o : Nat) : Nat :=
  let d := leN (tgets 0#8 s.mgt.mbox o 8) 0 8
  if o = 0 then d / 2 ^ 32 * 2 ^ 32 + 14 + bitN (s.bit F.MGT_STATUS_READY) 31 else d

/-- Eight bytes of the register page of function n. -/
def pageRd (s : State) (n o : Nat) : Nat :=
  let x := s.fx n
  if o / 8 < s.get (F.HEP_FN_CFG_QCOUNT n) ∧ o < 0x400 then tget 0 x.tails (o / 8)
  else if o = 0x400 then
    fnOcc s n % 2 ^ 16 + fnShare s n % 2 ^ 16 * 2 ^ 16 + bitN (s.bit (F.HEP_FN_STATUS_FULL n)) 32 + min 0xFFFF x.held.length * 2 ^ 48
  else if o = 0x408 then x.irq % 2
  else if 0x2000 ≤ o ∧ o < 0x2000 + 16 * s.get (F.HEP_FN_CFG_VEC_COUNT n) then
    msixEnt s n ((o - 0x2000) / 16) / 2 ^ (8 * (o % 16)) % 2 ^ 64
  else if o = 0x3000 then x.pba
  else if 0x8000 ≤ o ∧ n = 0 then mboxRd s (o - 0x8000)
  else 0

/-- A write of len bytes, 4 or 8, of an MSI-X table entry. -/
def msixWr (s : State) (n o len d : Nat) : State :=
  let k := (o - 0x2000) / 16
  let sh := 8 * (o % 16)
  let old := msixEnt s n k
  let new := old - old / 2 ^ sh % 2 ^ (8 * len) * 2 ^ sh + d % 2 ^ (8 * len) * 2 ^ sh
  msixFlush (s.modFx n fun x => { x with msix := tput 0 x.msix k (new % 2 ^ 97 ^^^ msixRst) }) n

/-- A write in the mailbox: control, command and payload; status is read-only. -/
def mboxWr (s : State) (o : Nat) (d : Bytes) : State :=
  let keep := (List.range d.length).filter fun i =>
    let a := o + i
    decide (4 ≤ a) && decide (a < 0x10) || decide (0x20 ≤ a) && decide (a < 0x4020)
  { s with mgt := { s.mgt with mbox := keep.foldl (fun t i => tput 0#8 t (o + i) (d.getD i 0#8)) s.mgt.mbox } }

/-- A write of the register page. -/
def pageWr (s : State) (n o : Nat) (d : Bytes) : State :=
  let v := leN d 0 d.length
  if o / 8 < s.get (F.HEP_FN_CFG_QCOUNT n) ∧ o < 0x400 then (if o % 8 = 0 then doorbell s n (o / 8) (v % 2 ^ 32) else s)
  else if o = 0x408 then s.modFx n fun x => { x with irq := v % 2 }
  else if 0x2000 ≤ o ∧ o < 0x2000 + 16 * s.get (F.HEP_FN_CFG_VEC_COUNT n) then msixWr s n o d.length v
  else if 0x8000 ≤ o ∧ n = 0 then mboxWr s (o - 0x8000) d
  else s

/-- An access to the register page. -/
def pageAcc (s : State) (n : Nat) (a : BarAcc) : State :=
  let len := match a.data with
    | some d => d.length
    | none => a.len
  if !((len == 4 || len == 8) && a.off % len == 0) then barFail s n 4 15 a
  else match a.data with
    | some d => pageWr s n a.off d
    | none =>
      let v := pageRd s n (a.off / 8 * 8)
      fnCpl s n a.tag a.rid a.tc (barPkt s n a).addr 0 (leBytes len (v / 2 ^ (8 * (a.off % 8)))) false

/-! ## Window (R231) -/

/-- MID of a function's accesses through its bridge. -/
def bridgeMid (n : Nat) : Nat := 0x400 + n

/-- What the banks of a range say to port B: refused if one refuses, waiting if one waits. -/
def banksAns (s : State) (mid a len : Nat) : BankAns :=
  let l := (List.range (bankOf (a + max 1 len - 1) - bankOf a + 1)).map fun i => bankAns s (bankOf a + i) mid false
  if l.contains .refuse then .refuse else if l.contains .wait then .wait else .go

/-- Rows of at most 64 bytes of a read: state, bytes, and whether all could be read. -/
def rowsRead (s : State) (a len : Nat) (e : LineErr) : State × Bytes × Bool :=
  (rowsOf 64 (len + 1) a len).foldl (fun (x : State × Bytes × Bool) r =>
    let y := spdDo x.1 .read r.1 r.2 [] (if r.1 = a then e else .ok)
    (y.1, x.2.1 ++ y.2.2, x.2.2 && !y.2.1)) (s, [], true)

/-- A read of the scratchpad, answered in completions of at most 512 bytes; uncorrectable data go back poisoned. -/
def winSpdRead (s : State) (n b : Nat) (a : BarAcc) (e : LineErr) : State :=
  let base := (barPkt s n a).addr
  (rowsOf 512 (a.len + 1) b a.len).foldl (fun s r =>
    let y := rowsRead s r.1 r.2 (if r.1 = b then e else .ok)
    fnCpl y.1 n a.tag a.rid a.tc (base + (r.1 - b)) 0 y.2.1 (!y.2.2)) s

/-- A read of the pool: one request for each line; its data go back as they come. -/
def winPoolRead (s : State) (n b : Nat) (a : BarAcc) : State :=
  let base := (barPkt s n a).addr
  (rowsOf 64 (a.len + 1) b a.len).foldl (fun s r =>
    let i := hopId s
    let s := i.1.modFx n fun x => { x with
      winRds := x.winRds ++ [{ id := i.2, skip := r.1 % 64, len := r.2, rid := a.rid, tag := a.tag, tc := a.tc, addr := base + (r.1 - b) }] }
    present s ⟨.bridge n, { cls := .mReq, op := .mRd, addr := r.1 / 64 * 64, tag := i.2, src := .bridge n }, none, none⟩) s

/-- A write of the pool, line by line. -/
def winPoolWrite (s : State) (n b : Nat) (d : Bytes) : State := (rowsOf 64 (d.length + 1) b d.length).foldl (savePiece n b d) s

/-- An access through the window. -/
def winAcc (s : State) (n : Nat) (a : BarAcc) (e : LineErr) : State :=
  let b := s.get (F.HEP_FN_WIN_BASE n) * 4096 + a.off
  let len := match a.data with
    | some d => d.length
    | none => a.len
  let p := mpuPass s (mpuBridge n) (bridgeMid n) false (if a.data.isSome then .write else .read) b len
  if !p.2 then barFail p.1 n 4 15 a
  else if b < 0x1000000 then
    match banksAns p.1 (bridgeMid n) b len with
    | .refuse => barFail (bankRefused p.1) n 4 15 a
    | .wait => s
    | .go =>
      match a.data with
      | some d => (spdPut p.1 b d []).1
      | none => winSpdRead p.1 n b a e
  else match a.data with
    | some d => winPoolWrite p.1 n b d
    | none => winPoolRead p.1 n b a

/-- WINDOW_ACCESS (R230, R231): a host's access to the register page or the window of function n; e is what the check bits of the
first word read show. -/
def execWindowAccess (n : Fin 1024) (a : BarAcc) (e : LineErr) (s : State) : Host.Outcome State Fault Refusal :=
  .next (
    let len := match a.data with
      | some d => d.length
      | none => a.len
    let size := if a.page then 65536 else if winSize s n = 0 then 0 else 2 ^ winSize s n
    if (fnVcs s n).isNone && (s.fx n).shut.isNone then s
    else if len = 0 ∨ (a.data.isSome ∧ 512 < len) ∨ 4096 < len then fnUnc s n 18 (some (barPkt s n a))
    else if (s.fx n).shut.isSome || (s.fx n).d3 || !fnMemOn s n || decide (size < a.off + len) then barFail s n 1 20 a
    else if a.page then pageAcc s n a
    else winAcc s n a e)

end Sys2Proof.Machine
end

