-- ==== Sys2Proof/Machine/Leat.lean ====
section
/-! DEFINITION. The Leat writer and reader (R135 to R140, R223). -/

namespace Sys2Proof.Machine

/-- Peak of one channel in bytes per microsecond, by RATE code (R203). -/
def ratePeak (r : Nat) : Nat :=
  8 * (if r = 1 then 4400 else if r = 2 then 4800 else if r = 3 then 5600 else if r = 4 then 6400 else if r = 5 then 8000
    else if r = 6 then 8800 else 0)

/-- Bytes that the Leat may move in a window of 1 µs (R223). -/
def leatAllow (s : State) : Nat :=
  let n := ((chanSet s).filter fun c => !s.hasBit F.POOL_STATUS_FAILED c).length
  ratePeak (s.get F.POOL_CFG_RATE) * n * s.get F.SWC_LEAT_CFG_CAP / 100

/-- May the Leat move n cells in this window? -/
def leatFits (s : State) (n : Nat) : Bool := decide (s.mill.leatBytes + 256 * n ≤ leatAllow s)

/-- LEAT_WINDOW (R223). -/
def execLeatWindow (s : State) : Host.Outcome State Fault Refusal :=
  .next ((s.modMill fun m => { m with leatBytes := 0 }).put F.SWC_LEAT_STATUS_CAPPED 0)

/-- Cells of a page. -/
def pageCells (pg : List Pkt) : Nat := (pg.map cellsOf).sum

/-- Append a packet to a chain, with the number of pages taken; none with no page free. -/
def chainAdd (ch : List (List Pkt)) (q : Pkt) (free : Nat) : Option (List (List Pkt) × Nat) :=
  match ch.reverse with
  | pg :: rest =>
    if pageCells pg + cellsOf q ≤ 255 then some (rest.reverse ++ [pg ++ [q]], 0)
    else if 0 < free then some (ch ++ [[q]], 1) else none
  | [] => if 0 < free then some ([[q]], 1) else none

/-- LEAT_WRITE (R136, R138, R139): the oldest packet in staging is copied to the tail of its chain. -/
def execLeatWrite (s : State) : Host.Outcome State Fault Refusal :=
  .next (
    match s.mill.staged with
    | [] => s
    | x :: xs =>
      if !leatFits s (cellsOf x.pkt) then s.put F.SWC_LEAT_STATUS_CAPPED 1
      else match chainAdd (tget [] s.mill.chains x.queue) { x.pkt with banks := [] } (s.get F.SWC_LEAT_STATUS_PAGES_FREE) with
        | none => if s.bit F.SWC_LEAT_STATUS_FULL then s else (s.put F.SWC_LEAT_STATUS_FULL 1).raise 1346
        | some (ch, n) =>
          let s := s.modMill fun m => { m with
            staged := xs, chains := tput [] m.chains x.queue ch, leatBytes := m.leatBytes + 256 * cellsOf x.pkt }
          let s := (s.put F.SWC_LEAT_STATUS_PAGES_FREE (s.get F.SWC_LEAT_STATUS_PAGES_FREE - n)).inc F.SWC_LEAT_CNT_SPILLED
          match x.mc with
          | some id => mcRelease s id none
          | none => freeCells s x.pkt)

/-- One packet of a chain whose page header has failed: posted writes are recorded, non-posted requests completed with
Completer Abort (R140). -/
def chainLost (e : Nat) (s : State) (q : Pkt) : State :=
  let s := s.inc F.SWC_LEAT_CNT_POISONED
  if q.posted then s.raise 1345 (droppedDetail q e)
  else if q.cls == .ioReq then answer (sentClose s q) q (reply q .ioCpl .cpl 4 false)
  else s

/-- LEAT_REFILL (R137, R140): the packet at the head of the chain of queue k moves on chip. -/
def execLeatRefill (k : Fin 1024) (err : LeatRead) (s : State) : Host.Outcome State Fault Refusal :=
  .next (
    match tget [] s.mill.chains k with
    | [] => leaveSpill s k
    | [] :: _ => s
    | (q :: pg) :: rest =>
      let n := cellsOf q
      let c := k.val % 8
      if max 17 (s.get F.SWC_LEAT_CTRL_REFILL) ≤ queueOcc s k then s
      else if err = .badHeader then
        let lost := chainPkts s k
        lost.foldl (chainLost (k / 8)) ((freeChain s k).raise 1347)
      else if !(classAdmits s c n && queueAdmits s k n && cellsFree s n) then s
      else if !leatFits s n then s.put F.SWC_LEAT_STATUS_CAPPED 1
      else
        let s := s.modMill fun m => { m with
          chains := tput [] m.chains k (if pg.isEmpty then rest else pg :: rest), leatBytes := m.leatBytes + 256 * n }
        let s := if pg.isEmpty then s.put F.SWC_LEAT_STATUS_PAGES_FREE (s.get F.SWC_LEAT_STATUS_PAGES_FREE + 1) else s
        let s := match err with
          | .badCell o => ((uncorrectable s 4 o).inc F.SWC_LEAT_CNT_POISONED).raise 1348
          | _ => s
        let bad := match err with
          | .badCell _ => true
          | _ => false
        let t := takeCells s c { q with poison := q.poison || bad }
        leaveSpill (pushQueue t.1 k { pkt := t.2 }) k)

end Sys2Proof.Machine
end

