-- ==== Sys2Proof/Machine/Dispatch.lean ====
section
/-! DEFINITION. The dispatcher: one arm per command, each one direct call of its meaning. -/

namespace Sys2Proof.Machine

def exec (i : Instr) (s : State) : Host.Outcome State Fault Refusal :=
  match i with
  | .registerWrite mid addr wide v => Sys2Proof.Machine.execRegisterWrite mid addr wide v s
  | .registerAccessError mid addr size write => Sys2Proof.Machine.execRegisterAccessError mid addr size write s
  | .lowHalfWrite mid addr v => Sys2Proof.Machine.execLowHalfWrite mid addr v s
  | .highHalfWrite mid addr v => Sys2Proof.Machine.execHighHalfWrite mid addr v s
  | .lowHalfRead mid addr => Sys2Proof.Machine.execLowHalfRead mid addr s
  | .highHalfRead mid addr => Sys2Proof.Machine.execHighHalfRead mid addr s
  | .readClearField mid addr wide => Sys2Proof.Machine.execReadClearField mid addr wide s
  | .blockLock mid b => Sys2Proof.Machine.execBlockLock mid b s
  | .tileCrossingLaneFail tile => Sys2Proof.Machine.execTileCrossingLaneFail tile s
  | .fullLoad sfdp => Sys2Proof.Machine.execFullLoad sfdp s
  | .bootOk mid => Sys2Proof.Machine.execBootOk mid s
  | .bootConfirmTimeout => Sys2Proof.Machine.execBootConfirmTimeout s
  | .antiRollbackCommit mid => Sys2Proof.Machine.execAntiRollbackCommit mid s
  | .arbBurnDone => Sys2Proof.Machine.execArbBurnDone s
  | .groupReload mid => Sys2Proof.Machine.execGroupReload mid s
  | .flashErase mid => Sys2Proof.Machine.execFlashErase mid s
  | .flashProgram mid len => Sys2Proof.Machine.execFlashProgram mid len s
  | .flashRead mid len => Sys2Proof.Machine.execFlashRead mid len s
  | .flashOpDone ok => Sys2Proof.Machine.execFlashOpDone ok s
  | .refclkLost g => Sys2Proof.Machine.execRefclkLost g s
  | .refclkRestored g => Sys2Proof.Machine.execRefclkRestored g s
  | .linkTraining p t => Sys2Proof.Machine.execLinkTraining p t s
  | .trainingRetry p t => Sys2Proof.Machine.execTrainingRetry p t s
  | .linkDisable mid p => Sys2Proof.Machine.execLinkDisable mid p s
  | .retrain mid p => Sys2Proof.Machine.execRetrain mid p s
  | .eqRedo mid p => Sys2Proof.Machine.execEqRedo mid p s
  | .laneClear mid p => Sys2Proof.Machine.execLaneClear mid p s
  | .l0pNarrow p => Sys2Proof.Machine.execL0pNarrow p s
  | .l0pWiden p => Sys2Proof.Machine.execL0pWiden p s
  | .l0pPartnerRequest p lanes => Sys2Proof.Machine.execL0pPartnerRequest p lanes s
  | .widenLaneTimeout p lane => Sys2Proof.Machine.execWidenLaneTimeout p lane s
  | .l1Entry p hdmDb => Sys2Proof.Machine.execL1Entry p hdmDb s
  | .l1RequestAccept p hdmDb => Sys2Proof.Machine.execL1RequestAccept p hdmDb s
  | .l1Exit p => Sys2Proof.Machine.execL1Exit p s
  | .laneFailed p lane => Sys2Proof.Machine.execLaneFailed p lane s
  | .recoveryTimeout p => Sys2Proof.Machine.execRecoveryTimeout p s
  | .flitSend p => Sys2Proof.Machine.execFlitSend p s
  | .flitReceive p flit low => Sys2Proof.Machine.execFlitReceive p flit low s
  | .replay p => Sys2Proof.Machine.execReplay p s
  | .nakTimeout p => Sys2Proof.Machine.execNakTimeout p s
  | .replayTimeout p => Sys2Proof.Machine.execReplayTimeout p s
  | .oflTraining p t => Sys2Proof.Machine.execOflTraining p t s
  | .oflTrainingRetry p t => Sys2Proof.Machine.execOflTrainingRetry p t s
  | .laneReq p id set cause low => Sys2Proof.Machine.execLaneReq p id set cause low s
  | .laneAcc p id => Sys2Proof.Machine.execLaneAcc p id s
  | .laneRej p id set cause => Sys2Proof.Machine.execLaneRej p id set cause s
  | .laneReady p id => Sys2Proof.Machine.execLaneReady p id s
  | .alignmentRun p set intact => Sys2Proof.Machine.execAlignmentRun p set intact s
  | .addLaneTimeout p lanes => Sys2Proof.Machine.execAddLaneTimeout p lanes s
  | .laneReqResend p => Sys2Proof.Machine.execLaneReqResend p s
  | .oflLaneFailed p lanes cause => Sys2Proof.Machine.execOflLaneFailed p lanes cause s
  | .laneCheck p c => Sys2Proof.Machine.execLaneCheck p c s
  | .oflPmNarrow p => Sys2Proof.Machine.execOflPmNarrow p s
  | .oflPmWiden p => Sys2Proof.Machine.execOflPmWiden p s
  | .oflLaneCmd mid p mask => Sys2Proof.Machine.execOflLaneCmd mid p mask s
  | .resumeFlit p e counts => Sys2Proof.Machine.execResumeFlit p e counts s
  | .recoveryRateDrop p => Sys2Proof.Machine.execRecoveryRateDrop p s
  | .oflRecoveryTimeout p => Sys2Proof.Machine.execOflRecoveryTimeout p s
  | .oflRedetect p => Sys2Proof.Machine.execOflRedetect p s
  | .trackerExpire n => Sys2Proof.Machine.execTrackerExpire n s
  | .headraceAccept x => Sys2Proof.Machine.execHeadraceAccept x s
  | .admitWaiting n => Sys2Proof.Machine.execAdmitWaiting n s
  | .tailraceDequeue e cr => Sys2Proof.Machine.execTailraceDequeue e cr s
  | .tcMapWrite mid v => Sys2Proof.Machine.execTcMapWrite mid v s
  | .congestionHoldExpire e => Sys2Proof.Machine.execCongestionHoldExpire e s
  | .multicastTimeout p id => Sys2Proof.Machine.execMulticastTimeout p id s
  | .portDown p => Sys2Proof.Machine.execPortDown p s
  | .flushComplete p => Sys2Proof.Machine.execFlushComplete p s
  | .leatWrite => Sys2Proof.Machine.execLeatWrite s
  | .leatRefill k err => Sys2Proof.Machine.execLeatRefill k err s
  | .leatWindow => Sys2Proof.Machine.execLeatWindow s
  | .bankFailed b => Sys2Proof.Machine.execBankFailed b s
  | .bankMapout mid b => Sys2Proof.Machine.execBankMapout mid b s
  | .tableRead mid t n => Sys2Proof.Machine.execTableRead mid t n s
  | .tableWrite mid t n => Sys2Proof.Machine.execTableWrite mid t n s
  | .decoderCommit o n d => Sys2Proof.Machine.execDecoderCommit o n d s
  | .bind mid v => Sys2Proof.Machine.execBind mid v s
  | .ldAllocationConfirm n ok => Sys2Proof.Machine.execLdAllocationConfirm n ok s
  | .ldAllocationTimeout n => Sys2Proof.Machine.execLdAllocationTimeout n s
  | .unbind mid v => Sys2Proof.Machine.execUnbind mid v s
  | .unbindDrainEnd n => Sys2Proof.Machine.execUnbindDrainEnd n s
  | .unbindDrainTimeout n => Sys2Proof.Machine.execUnbindDrainTimeout n s
  | .managedUnbindTimeout n => Sys2Proof.Machine.execManagedUnbindTimeout n s
  | .setRpid mid v => Sys2Proof.Machine.execSetRpid mid v s
  | .slotPowerControl v k on => Sys2Proof.Machine.execSlotPowerControl v k on s
  | .windowCommit mid v drain => Sys2Proof.Machine.execWindowCommit mid v drain s
  | .windowDrainEnd => Sys2Proof.Machine.execWindowDrainEnd s
  | .failoverReenable p => Sys2Proof.Machine.execFailoverReenable p s
  | .autoRestore p => Sys2Proof.Machine.execAutoRestore p s
  | .pathRestore mid p => Sys2Proof.Machine.execPathRestore mid p s
  | .restoreComplete => Sys2Proof.Machine.execRestoreComplete s
  | .restoreAbort => Sys2Proof.Machine.execRestoreAbort s
  | .directoryRequest ue => Sys2Proof.Machine.execDirectoryRequest ue s
  | .birspReceive => Sys2Proof.Machine.execBirspReceive s
  | .biconflict => Sys2Proof.Machine.execBiconflict s
  | .biTimeout t h => Sys2Proof.Machine.execBiTimeout t h s
  | .hostRemove mid h => Sys2Proof.Machine.execHostRemove mid h s
  | .hostRemovalComplete h timeout => Sys2Proof.Machine.execHostRemovalComplete h timeout s
  | .hostAdmit mid h => Sys2Proof.Machine.execHostAdmit mid h s
  | .flushExtents mid base count => Sys2Proof.Machine.execFlushExtents mid base count s
  | .clearDoubtfulSets mid l => Sys2Proof.Machine.execClearDoubtfulSets mid l s
  | .sliceFailed p bad => Sys2Proof.Machine.execSliceFailed p bad s
  | .sliceFail mid l => Sys2Proof.Machine.execSliceFail mid l s
  | .doubtSweep p n => Sys2Proof.Machine.execDoubtSweep p n s
  | .rotationStart mid l => Sys2Proof.Machine.execRotationStart mid l s
  | .rotationDrainEnd => Sys2Proof.Machine.execRotationDrainEnd s
  | .rotationDrainTimeout => Sys2Proof.Machine.execRotationDrainTimeout s
  | .poolInit f => Sys2Proof.Machine.execPoolInit f s
  | .extentZeroed b => Sys2Proof.Machine.execExtentZeroed b s
  | .extentGrant mid b shared owner dpa => Sys2Proof.Machine.execExtentGrant mid b shared owner dpa s
  | .extentActivate mid b => Sys2Proof.Machine.execExtentActivate mid b s
  | .extentCancel mid b => Sys2Proof.Machine.execExtentCancel mid b s
  | .extentRelease mid b => Sys2Proof.Machine.execExtentRelease mid b s
  | .releaseDrainDone => Sys2Proof.Machine.execReleaseDrainDone s
  | .extentZero mid b => Sys2Proof.Machine.execExtentZero mid b s
  | .extentRead mid b => Sys2Proof.Machine.execExtentRead mid b s
  | .mapSlotRead mid n => Sys2Proof.Machine.execMapSlotRead mid n s
  | .mapSlotWrite mid n => Sys2Proof.Machine.execMapSlotWrite mid n s
  | .dramAccess c e act bw => Sys2Proof.Machine.execDramAccess c e act bw s
  | .errorWindowExpire => Sys2Proof.Machine.execErrorWindowExpire s
  | .channelFailed c => Sys2Proof.Machine.execChannelFailed c s
  | .phyTrainingLost c => Sys2Proof.Machine.execPhyTrainingLost c s
  | .patrolScrubRead e => Sys2Proof.Machine.execPatrolScrubRead e s
  | .dramRefresh c => Sys2Proof.Machine.execDramRefresh c s
  | .configRequest v t r w => Sys2Proof.Machine.execConfigRequest v t r w s
  | .doorbell n q t => Sys2Proof.Machine.execDoorbell n q t s
  | .fnCfgWrite mid n v => Sys2Proof.Machine.execFnCfgWrite mid n v s
  | .qmapRead mid n q => Sys2Proof.Machine.execQmapRead mid n q s
  | .qmapWrite mid n q => Sys2Proof.Machine.execQmapWrite mid n q s
  | .windowAccess n a e => Sys2Proof.Machine.execWindowAccess n a e s
  | .dpcTrigger v k sw => Sys2Proof.Machine.execDpcTrigger v k sw s
  | .dpcClear v k => Sys2Proof.Machine.execDpcClear v k s
  | .functionLevelReset n => Sys2Proof.Machine.execFunctionLevelReset n s
  | .busMasterEnableClear n => Sys2Proof.Machine.execBusMasterEnableClear n s
  | .vfEnableClear => Sys2Proof.Machine.execVfEnableClear s
  | .secondaryBusReset v link => Sys2Proof.Machine.execSecondaryBusReset v link s
  | .tagReclaim n => Sys2Proof.Machine.execTagReclaim n s
  | .tagRelease n => Sys2Proof.Machine.execTagRelease n s
  | .shutdownComplete n => Sys2Proof.Machine.execShutdownComplete n s
  | .d3hotEnter n => Sys2Proof.Machine.execD3hotEnter n s
  | .d0Return n => Sys2Proof.Machine.execD0Return n s
  | .freeze mid n => Sys2Proof.Machine.execFreeze mid n s
  | .freezeComplete n => Sys2Proof.Machine.execFreezeComplete n s
  | .freezeTimeout n => Sys2Proof.Machine.execFreezeTimeout n s
  | .save mid n => Sys2Proof.Machine.execSave mid n s
  | .restore mid n ext => Sys2Proof.Machine.execRestore mid n ext s
  | .unfreeze mid n => Sys2Proof.Machine.execUnfreeze mid n s
  | .descriptorFetch e c => Sys2Proof.Machine.execDescriptorFetch e c s
  | .handOver e c => Sys2Proof.Machine.execHandOver e c s
  | .burstIssue e => Sys2Proof.Machine.execBurstIssue e s
  | .readDataArrive e => Sys2Proof.Machine.execReadDataArrive e s
  | .dataTimeout e c => Sys2Proof.Machine.execDataTimeout e c s
  | .fetchTimeout e c => Sys2Proof.Machine.execFetchTimeout e c s
  | .chainComplete e c => Sys2Proof.Machine.execChainComplete e c s
  | .tailWrite mid e c t => Sys2Proof.Machine.execTailWrite mid e c t s
  | .shadowWrite mid e c k v => Sys2Proof.Machine.execShadowWrite mid e c k v s
  | .shadowArm mid e c => Sys2Proof.Machine.execShadowArm mid e c s
  | .shadowDisarm mid e c => Sys2Proof.Machine.execShadowDisarm mid e c s
  | .channelEnable mid e c => Sys2Proof.Machine.execChannelEnable mid e c s
  | .channelDisable mid e c => Sys2Proof.Machine.execChannelDisable mid e c s
  | .channelPause mid e c => Sys2Proof.Machine.execChannelPause mid e c s
  | .channelResume mid e c => Sys2Proof.Machine.execChannelResume mid e c s
  | .channelRetry mid e c => Sys2Proof.Machine.execChannelRetry mid e c s
  | .channelSkip mid e c => Sys2Proof.Machine.execChannelSkip mid e c s
  | .channelClear mid e c => Sys2Proof.Machine.execChannelClear mid e c s
  | .channelAbort mid e c => Sys2Proof.Machine.execChannelAbort mid e c s
  | .abortComplete e c => Sys2Proof.Machine.execAbortComplete e c s
  | .engineModeWrite mid e m => Sys2Proof.Machine.execEngineModeWrite mid e m s
  | .engineFailed e unreadable => Sys2Proof.Machine.execEngineFailed e unreadable s
  | .engineFail mid e => Sys2Proof.Machine.execEngineFail mid e s
  | .scratchpadAccess a b e => Sys2Proof.Machine.execScratchpadAccess a b e s
  | .bankOwnerWrite mid b o => Sys2Proof.Machine.execBankOwnerWrite mid b o s
  | .ownerDrainEnd b => Sys2Proof.Machine.execOwnerDrainEnd b s
  | .bankPowerWrite mid b p => Sys2Proof.Machine.execBankPowerWrite mid b p s
  | .bankReady b => Sys2Proof.Machine.execBankReady b s
  | .regionWord0Write mid m r v => Sys2Proof.Machine.execRegionWord0Write mid m r v s
  | .regionWord1Write mid m r v => Sys2Proof.Machine.execRegionWord1Write mid m r v s
  | .mpuFence mid m => Sys2Proof.Machine.execMpuFence mid m s
  | .fenceComplete m => Sys2Proof.Machine.execFenceComplete m s
  | .coreAccess k op priv addr len data evict e => Sys2Proof.Machine.execCoreAccess k op priv addr len data evict e s
  | .timerInterrupt k => Sys2Proof.Machine.execTimerInterrupt k s
  | .softwareInterrupt mid set => Sys2Proof.Machine.execSoftwareInterrupt mid set s
  | .coreFailed k => Sys2Proof.Machine.execCoreFailed k s
  | .coreFail mid k => Sys2Proof.Machine.execCoreFail mid k s
  | .coreRestart mid k => Sys2Proof.Machine.execCoreRestart mid k s
  | .watchdogKick mid k => Sys2Proof.Machine.execWatchdogKick mid k s
  | .watchdogExpire k => Sys2Proof.Machine.execWatchdogExpire k s
  | .readySet mid => Sys2Proof.Machine.execReadySet mid s
  | .transportReceive x => Sys2Proof.Machine.execTransportReceive x s
  | .transportSend t => Sys2Proof.Machine.execTransportSend t s
  | .ethernetFrame f fcs => Sys2Proof.Machine.execEthernetFrame f fcs s
  | .commandWaitTimeout => Sys2Proof.Machine.execCommandWaitTimeout s
  | .unsupportedCommand t opcode => Sys2Proof.Machine.execUnsupportedCommand t opcode s
  | .identifySwitchDevice t => Sys2Proof.Machine.execIdentifySwitchDevice t s
  | .getPhysicalPortState t ps => Sys2Proof.Machine.execGetPhysicalPortState t ps s
  | .getVirtualCxlSwitchInfo t vs => Sys2Proof.Machine.execGetVirtualCxlSwitchInfo t vs s
  | .getLdInfo t => Sys2Proof.Machine.execGetLdInfo t s
  | .getLdAllocations t n count => Sys2Proof.Machine.execGetLdAllocations t n count s
  | .getQosControl t => Sys2Proof.Machine.execGetQosControl t s
  | .getQosStatus t => Sys2Proof.Machine.execGetQosStatus t s
  | .getQosAllocatedBw t n count => Sys2Proof.Machine.execGetQosAllocatedBw t n count s
  | .getQosBwLimit t n count => Sys2Proof.Machine.execGetQosBwLimit t n count s
  | .getDcdInfo t => Sys2Proof.Machine.execGetDcdInfo t s
  | .getHostDcRegionConfiguration t n => Sys2Proof.Machine.execGetHostDcRegionConfiguration t n s
  | .getDcRegionExtentLists t n => Sys2Proof.Machine.execGetDcRegionExtentLists t n s
  | .physicalPortControl t p disable => Sys2Proof.Machine.execPhysicalPortControl t p disable s
  | .sendPpbCxlIoConfigRequest t p write target addr be data => Sys2Proof.Machine.execSendPpbCxlIoConfigRequest t p write target addr be data s
  | .sendLdCxlIoConfigRequest t p ld write target addr be data => Sys2Proof.Machine.execSendLdCxlIoConfigRequest t p ld write target addr be data s
  | .sendLdCxlIoMemoryRequest t p ld write addr be data => Sys2Proof.Machine.execSendLdCxlIoMemoryRequest t p ld write addr be data s
  | .bindVppb t v => Sys2Proof.Machine.execBindVppb t v s
  | .unbindVppb t v => Sys2Proof.Machine.execUnbindVppb t v s
  | .generateAerEvent t v k bit unc => Sys2Proof.Machine.execGenerateAerEvent t v k bit unc s
  | .tunnelManagementCommand t p inner changes => Sys2Proof.Machine.execTunnelManagementCommand t p inner changes s
  | .setLdAllocations t ext n en base count => Sys2Proof.Machine.execSetLdAllocations t ext n en base count s
  | .setQosControl t ext optimal moderate severe => Sys2Proof.Machine.execSetQosControl t ext optimal moderate severe s
  | .setQosAllocatedBw t ext n v => Sys2Proof.Machine.execSetQosAllocatedBw t ext n v s
  | .setQosBwLimit t ext n v => Sys2Proof.Machine.execSetQosBwLimit t ext n v s
  | .setDcRegionConfiguration t n base count sharedFirst => Sys2Proof.Machine.execSetDcRegionConfiguration t n base count sharedFirst s
  | .initiateDynamicCapacityAdd t shared owner exts => Sys2Proof.Machine.execInitiateDynamicCapacityAdd t shared owner exts s
  | .initiateDynamicCapacityRelease t exts forced => Sys2Proof.Machine.execInitiateDynamicCapacityRelease t exts forced s
  | .getTelemetry t first count => Sys2Proof.Machine.execGetTelemetry t first count s
  | .getFaultHistory t n => Sys2Proof.Machine.execGetFaultHistory t n s
  | .flashOperation t op addr len spd data => Sys2Proof.Machine.execFlashOperation t op addr len spd data s
  | .commitAntiRollback t => Sys2Proof.Machine.execCommitAntiRollback t s
  | .groupReloadCommand t addr spd => Sys2Proof.Machine.execGroupReloadCommand t addr spd s
  | .hostCoherence t op h => Sys2Proof.Machine.execHostCoherence t op h s
  | .setSharingGroup t g members valid => Sys2Proof.Machine.execSetSharingGroup t g members valid s
  | .setProxyExpander t n port ldid k base count dpaBase valid prep => Sys2Proof.Machine.execSetProxyExpander t n port ldid k base count dpaBase valid prep s
  | .setEndpointId t eid => Sys2Proof.Machine.execSetEndpointId t eid s
  | .getEndpointId t => Sys2Proof.Machine.execGetEndpointId t s
  | .getEndpointUuid t => Sys2Proof.Machine.execGetEndpointUuid t s
  | .getMctpVersionSupport t => Sys2Proof.Machine.execGetMctpVersionSupport t s
  | .getMessageTypeSupport t => Sys2Proof.Machine.execGetMessageTypeSupport t s
  | .identifyMemoryDevice n => Sys2Proof.Machine.execIdentifyMemoryDevice n s
  | .getEventRecords n => Sys2Proof.Machine.execGetEventRecords n s
  | .clearEventRecords n count => Sys2Proof.Machine.execClearEventRecords n count s
  | .getDynamicCapacityConfiguration n => Sys2Proof.Machine.execGetDynamicCapacityConfiguration n s
  | .getDynamicCapacityExtentList n => Sys2Proof.Machine.execGetDynamicCapacityExtentList n s
  | .addDynamicCapacityResponse n accept reject => Sys2Proof.Machine.execAddDynamicCapacityResponse n accept reject s
  | .releaseDynamicCapacity n exts => Sys2Proof.Machine.execReleaseDynamicCapacity n exts s
  | .getHealthInfo n => Sys2Proof.Machine.execGetHealthInfo n s
  | .getSupportedLogs n => Sys2Proof.Machine.execGetSupportedLogs n s
  | .getLog n log => Sys2Proof.Machine.execGetLog n log s
  | .dsaConfigRead mid => Sys2Proof.Machine.execDsaConfigRead mid s
  | .dsaConfigWrite mid => Sys2Proof.Machine.execDsaConfigWrite mid s
  | .dsaMemoryRead mid => Sys2Proof.Machine.execDsaMemoryRead mid s
  | .dsaMemoryWrite mid => Sys2Proof.Machine.execDsaMemoryWrite mid s
  | .dsaComplete st data => Sys2Proof.Machine.execDsaComplete st data s
  | .dsaTimeout => Sys2Proof.Machine.execDsaTimeout s
  | .slotEnable mid n => Sys2Proof.Machine.execSlotEnable mid n s
  | .slotDisable mid n => Sys2Proof.Machine.execSlotDisable mid n s
  | .slotPowerUp n => Sys2Proof.Machine.execSlotPowerUp n s
  | .rampFail n => Sys2Proof.Machine.execRampFail n s
  | .slowTrip n => Sys2Proof.Machine.execSlowTrip n s
  | .fastTrip n => Sys2Proof.Machine.execFastTrip n s
  | .coolDownExpire n => Sys2Proof.Machine.execCoolDownExpire n s
  | .presenceInsert n => Sys2Proof.Machine.execPresenceInsert n s
  | .presenceRemove n => Sys2Proof.Machine.execPresenceRemove n s
  | .reverseCurrent n => Sys2Proof.Machine.execReverseCurrent n s
  | .reverseRecover n => Sys2Proof.Machine.execReverseRecover n s
  | .busUndervoltage n x => Sys2Proof.Machine.execBusUndervoltage n x s
  | .busOvervoltage n x => Sys2Proof.Machine.execBusOvervoltage n x s
  | .uvHoldExpire n below => Sys2Proof.Machine.execUvHoldExpire n below s
  | .busGood n x => Sys2Proof.Machine.execBusGood n x s
  | .switchover n => Sys2Proof.Machine.execSwitchover n s
  | .deadTimeExpire n low held => Sys2Proof.Machine.execDeadTimeExpire n low held s
  | .forceWrite mid n f => Sys2Proof.Machine.execForceWrite mid n f s
  | .passTransistorShort n x => Sys2Proof.Machine.execPassTransistorShort n x s
  | .limitWrite n j v => Sys2Proof.Machine.execLimitWrite n j v s
  | .measurementRefresh n vout busA busB iout => Sys2Proof.Machine.execMeasurementRefresh n vout busA busB iout s
  | .brakeEvent u e => Sys2Proof.Machine.execBrakeEvent u e s
  | .blockResetRelease g => Sys2Proof.Machine.execBlockResetRelease g s
  | .windowClose n => Sys2Proof.Machine.execWindowClose n s
  | .severeClear mid n => Sys2Proof.Machine.execSevereClear mid n s
  | .reactionWrite n v => Sys2Proof.Machine.execReactionWrite n v s
  | .reactionRewrite n => Sys2Proof.Machine.execReactionRewrite n s
  | .pinRelease mid k => Sys2Proof.Machine.execPinRelease mid k s
  | .pinReleaseDeferred k => Sys2Proof.Machine.execPinReleaseDeferred k s
  | .historyPop mid => Sys2Proof.Machine.execHistoryPop mid s
  | .historyClear mid => Sys2Proof.Machine.execHistoryClear mid s
  | .injectionArm mid target index ue m bit => Sys2Proof.Machine.execInjectionArm mid target index ue m bit s
  | .injectionDisarm mid => Sys2Proof.Machine.execInjectionDisarm mid s
  | .softwareRaise mid n => Sys2Proof.Machine.execSoftwareRaise mid n s
  | .programKeySet path => Sys2Proof.Machine.execProgramKeySet path s
  | .revokeKeySet path => Sys2Proof.Machine.execRevokeKeySet path s
  | .programImageSeed path => Sys2Proof.Machine.execProgramImageSeed path s
  | .clearAlarm path => Sys2Proof.Machine.execClearAlarm path s
  | .debugToken path => Sys2Proof.Machine.execDebugToken path s
  | .fuseBurnDone ok => Sys2Proof.Machine.execFuseBurnDone ok s
  | .tokenExpire => Sys2Proof.Machine.execTokenExpire s
  | .spdmMessage mid p len => Sys2Proof.Machine.execSpdmMessage mid p len s
  | .keyProg p dir sub stream kset key iv => Sys2Proof.Machine.execKeyProg p dir sub stream kset key iv s
  | .kSetGo p dir sub stream kset => Sys2Proof.Machine.execKSetGo p dir sub stream kset s
  | .kSetStop p dir sub stream kset => Sys2Proof.Machine.execKSetStop p dir sub stream kset s
  | .keyProgram v => Sys2Proof.Machine.execKeyProgram v s
  | .tamperInput n low => Sys2Proof.Machine.execTamperInput n low s
  | .voltageGlitch => Sys2Proof.Machine.execVoltageGlitch s
  | .clockGlitch => Sys2Proof.Machine.execClockGlitch s
  | .limiterTick want => Sys2Proof.Machine.execLimiterTick want s
  | .thermalSample t sensor => Sys2Proof.Machine.execThermalSample t sensor s
  | .thermalHoldEnd => Sys2Proof.Machine.execThermalHoldEnd s
  | .lockstepMismatch => Sys2Proof.Machine.execLockstepMismatch s
  | .sramScrubRead w e last => Sys2Proof.Machine.execSramScrubRead w e last s
  | .adaptationVisit t lane cdr more => Sys2Proof.Machine.execAdaptationVisit t lane cdr more s
  | .adaptationDecide t keep => Sys2Proof.Machine.execAdaptationDecide t keep s
  | .logStart => Sys2Proof.Machine.execLogStart s
  | .logRecord => Sys2Proof.Machine.execLogRecord s
  | .logPageProgram => Sys2Proof.Machine.execLogPageProgram s
  | .logFlushTimeout => Sys2Proof.Machine.execLogFlushTimeout s
  | .logFlashDone ok => Sys2Proof.Machine.execLogFlashDone ok s
  | .telemetrySnapshot => Sys2Proof.Machine.execTelemetrySnapshot s
  | .rotationDue => Sys2Proof.Machine.execRotationDue s
  | .rotationRetry => Sys2Proof.Machine.execRotationRetry s
  | .sliceTestDone ok => Sys2Proof.Machine.execSliceTestDone ok s
  | .engineTestTurn => Sys2Proof.Machine.execEngineTestTurn s
  | .engineTestSlice fault => Sys2Proof.Machine.execEngineTestSlice fault s
  | .engineTestSkip => Sys2Proof.Machine.execEngineTestSkip s
  | .spareLaneTest tile lane ok => Sys2Proof.Machine.execSpareLaneTest tile lane ok s
  | .counterTick ev cs => Sys2Proof.Machine.execCounterTick ev cs s
  | .snapshot mid => Sys2Proof.Machine.execSnapshot mid s
  | .counterClear mid => Sys2Proof.Machine.execCounterClear mid s
  | .selectorWrite mid n v => Sys2Proof.Machine.execSelectorWrite mid n v s
  | .sampleTimeout k => Sys2Proof.Machine.execSampleTimeout k s
  | .samplePop mid => Sys2Proof.Machine.execSamplePop mid s
  | .sampleClear mid => Sys2Proof.Machine.execSampleClear mid s
  | .powerOnReset => Sys2Proof.Machine.execPowerOnReset s
  | .powerUp t => Sys2Proof.Machine.execPowerUp t s
  | .chipReset t => Sys2Proof.Machine.execChipReset t s
  | .resetPin low => Sys2Proof.Machine.execResetPin low s
  | .softwareChipReset mid => Sys2Proof.Machine.execSoftwareChipReset mid s
  | .railFault m bad => Sys2Proof.Machine.execRailFault m bad s
  | .brownOut m => Sys2Proof.Machine.execBrownOut m s
  | .brownOutEnd t => Sys2Proof.Machine.execBrownOutEnd t s
  | .slcSupplyLoss => Sys2Proof.Machine.execSlcSupplyLoss s
  | .slcSupplyRestore => Sys2Proof.Machine.execSlcSupplyRestore s
  | .sysclkLoss pll => Sys2Proof.Machine.execSysclkLoss pll s
  | .sysclkRestore t => Sys2Proof.Machine.execSysclkRestore t s
  | .aoclkLoss => Sys2Proof.Machine.execAoclkLoss s
  | .aoclkRestore => Sys2Proof.Machine.execAoclkRestore s
  | .avsAdjust up steps => Sys2Proof.Machine.execAvsAdjust up steps s
  | .perstAssert n => Sys2Proof.Machine.execPerstAssert n s
  | .perstRelease n => Sys2Proof.Machine.execPerstRelease n s
  | .hotReset p => Sys2Proof.Machine.execHotReset p s
  | .vcsResetComplete v => Sys2Proof.Machine.execVcsResetComplete v s
  | .poolStandbyEnter mid => Sys2Proof.Machine.execPoolStandbyEnter mid s
  | .poolStandbyExit mid => Sys2Proof.Machine.execPoolStandbyExit mid s
  | .recoveryRetrainComplete p locked => Sys2Proof.Machine.execRecoveryRetrainComplete p locked s
  | .addLaneLock p => Sys2Proof.Machine.execAddLaneLock p s
  | .hostCompletionTimeout n tag => Sys2Proof.Machine.execHostCompletionTimeout n tag s
  | .channelRetrainComplete c => Sys2Proof.Machine.execChannelRetrainComplete c s
  | .portRedetect p => Sys2Proof.Machine.execPortRedetect p s
  | .vppbLinkDisable v k => Sys2Proof.Machine.execVppbLinkDisable v k s
  | .currentLimit n on => Sys2Proof.Machine.execCurrentLimit n on s

end Sys2Proof.Machine
end

