-- ==== Sys2Proof/WellFormed.lean ====
section
/-! DEFINITION. Commands whose operands an event of the hardware can carry. -/

namespace Sys2Proof

/-- Are a command's operands such as the hardware can present? -/
def Instr.wf : Instr → Bool
  | .flitReceive _ f _ => f.length == 256
  | _ => true

end Sys2Proof
end

