-- ==== Sys2Proof/Safety.lean ====
section
/-! DEFINITION. The terms in which claims speak of a command: what it leads to, what it changes, which events it raises. -/

namespace Sys2Proof.Machine

/-- The command goes on to a next state of which p holds. -/
def runs (c : Sys2Proof.Instr) (s : State) (p : State → Prop) : Prop := ∃ t, exec c s = .next t ∧ p t

/-- The command leaves the state as it is. -/
def idles (c : Sys2Proof.Instr) (s : State) : Prop := exec c s = .next s

/-- Sources of the events that have been raised and that Brake has not accepted yet, oldest first. -/
def srcs (s : State) : List Nat := s.brk.queue.map (·.src)

/-- Registers outside a list of addresses read as before. -/
def regsKept (s t : State) (l : List Nat) : Prop := ∀ q : Reg, q.addr ∉ l → t.rd q = s.rd q

/-- Nothing but registers has changed. -/
def onlyRegs (s t : State) : Prop := { t with regs := s.regs } = s

/-- Nothing but registers and Brake's collector has changed. -/
def onlyRegsEvents (s t : State) : Prop := { t with regs := s.regs, brk := { t.brk with queue := s.brk.queue, ovf := s.brk.ovf } } = s

/-- Psihaust answers commands, and has nothing in progress. -/
def mgtFree (s : State) : Prop :=
  s.bit F.MGT_STATUS_READY = true ∧ s.mgt.bg = none ∧ s.mgt.wait = [] ∧ s.mgt.dsaFor = none ∧ s.mgt.dsaWait = []

/-- On the way from s to u, a management command of transport t is answered with a return code and contents. -/
def answers (s u : State) (t rc : Nat) (d : List Nat) : Prop := .cci t rc d ∈ u.outs.drop s.outs.length

/-- Nothing has changed but what leaves the device and Psihaust's own state. -/
def onlyAnswer (s t : State) : Prop := { t with outs := s.outs, mgt := s.mgt } = s

/-- The count of the window of source n with one more event (R353). -/
def nextCount (s : State) (n : Nat) : Nat :=
  if s.brk.opened.contains n then min (F.BRK_CNT_WIN_COUNT n).max (s.get (F.BRK_CNT_WIN_COUNT n) + 1) else 1

/-- Does one more event of source n reach its threshold (R353)? -/
def reaches (s : State) (n : Nat) : Bool :=
  s.get (F.BRK_REACT_WINDOW n) != 0 && decide (s.get (F.BRK_REACT_THRESH n) ≤ nextCount s n)

/-- The action set that the next event of source n takes (R353). -/
def nextSet (s : State) (n : Nat) : Nat :=
  if s.get (F.BRK_REACT_WINDOW n) ≠ 0 ∧ (srcBit s F.BRK_SEV_SRC n = true ∨ reaches s n = true) then s.get (F.BRK_REACT_SEVERE n)
  else s.get (F.BRK_REACT_NORMAL n)

/-- From s to t Brake accepts an event of source n: it is counted, and the actions of its set are taken (R351, R353, R361). -/
def accepts (s t : State) (n : Nat) : Prop :=
  t.get (F.BRK_CNT_TOTAL n) = min (F.BRK_CNT_TOTAL n).max (s.get (F.BRK_CNT_TOTAL n) + 1)
  ∧ t.get F.BRK_STATUS_LAST_SRC = n ∧ srcBit t F.BRK_PEND_SRC n = true
  ∧ t.get (F.BRK_CNT_WIN_COUNT n) = (if s.get (F.BRK_REACT_WINDOW n) = 0 then s.get (F.BRK_CNT_WIN_COUNT n) else nextCount s n)
  ∧ srcBit t F.BRK_SEV_SRC n = (srcBit s F.BRK_SEV_SRC n || reaches s n)
  ∧ (s.brk.hist.length < 1024 → (nextSet s n).testBit 0 = true →
      ∃ r, t.brk.hist = s.brk.hist ++ [r] ∧ leN r 0 8 = s.get F.MGT_MTIME_TIME ∧ leN r 8 2 % 4096 = n ∧ u8 r 10 = recKind n)
  ∧ ((nextSet s n).testBit 0 = false → t.brk.hist = s.brk.hist)
  ∧ srcBit t F.BRK_IRQ_SRC n = (srcBit s F.BRK_IRQ_SRC n || (nextSet s n).testBit 1)
  ∧ ((nextSet s n).testBit 2 = true → ∀ k : Fin 8, coreAlive s k = true → .nmi k (s.get F.MGT_NMI_VECTOR * 2) ∈ t.outs)
  ∧ ((nextSet s n).testBit 5 = true → ∀ k, blockOf n = some k → blockedNow s k = false →
      tget none t.brk.blocked k = some (s.get F.MGT_MTIME_TIME))
  ∧ ((nextSet s n).testBit 6 = true → chipSpent s = false → t.get F.BRK_RESET_INFO_SRC = n
      ∧ t.get F.BRK_RESET_INFO_CHIP_RESETS = min F.BRK_RESET_INFO_CHIP_RESETS.max (s.get F.BRK_RESET_INFO_CHIP_RESETS + 1))
  ∧ ((nextSet s n).testBit 7 = true → t.hasBit F.BRK_PIN_ASSERTED (s.get (F.BRK_REACT_PIN_SEL n)) = true)

/-- Memories and tables of the device in their canonical form. -/
def State.canon (s : State) : Bool :=
  Tab.wf 0#64 s.regs && Tab.wf 0#8 s.spd && Tab.wf 0xFF#8 s.img.flash && Tab.wf 0#8 s.rte.store && Tab.wf 0#8 s.pool.data

/-- Does an open egress point admit a request: its queue does not spill, and class, queue and cells have room (R118)? -/
def admissible (s : State) (e : Nat) (q : Pkt) : Bool :=
  let c := classOf s q
  !q.isRsp && egressOpen s e && !isSpilling s (queueNo e c) && classAdmits s c (cellsOf q)
  && queueAdmits s (queueNo e c) (cellsOf q) && cellsFree s (cellsOf q)

/-- From s to t one packet is added at the end of the queue of egress point e and class c: it has the tag and data of q. -/
def enqueued (s t : State) (e : Nat) (q : Pkt) (c : Nat) : Prop :=
  ∃ r : Pkt, queue t (queueNo e c) = queue s (queueNo e c) ++ [{ pkt := r }] ∧ r.tag = q.tag ∧ r.data = q.data ∧ r.qc = c

/-- The challenge that a signed command must carry. -/
def chalBytes (s : State) : Bytes := (List.range 4).flatMap fun k => leBytes 8 (s.get (F.GOV_CHAL_CHAL k))

/-- The Governor takes a signed command from the path: it runs, no request is in progress, a session is open. -/
def govFree (s : State) (path : CmdPath) : Prop :=
  s.bit F.GOV_STATUS_HALTED = false ∧ s.gov.burn = none
  ∧ ∀ (p : Fin 96) (b : Bytes), path = .session p b → s.gov.sessions.contains p.val = true

/-- Is the command the one that installs the first key set, which carries no signature that could be checked (R376)? -/
def cmdUnsigned (s : State) (c : Bytes) : Bool :=
  u8 c 7 == 1 && u8 c 8 == 0 && ([0, 1, 2, 3] : List Nat).all fun i => !(keySet s i).prog

/-- Every check of a signed command holds but that of its signature (R375, R376). -/
def cmdReady (s : State) (path : CmdPath) : Prop :=
  let c := cmdBytes s path
  cmdShape c = true ∧ leN c 0x10 8 = s.get F.GOV_SERIAL_SERIAL ∧ slice c 0x18 32 = chalBytes s
  ∧ (cmdUnsigned s c = false → keyUsable s (u8 c 6) = true ∧ Config.sha384 (slice c 0x80 96) = (keySet s (u8 c 6)).digest)
  ∧ s.get F.GOV_ALARM_LEVEL < (if u8 c 7 = 4 then 2 else 1) ∧ cmdCond s path c = true

/-- Does the signature of a command verify, where one is asked for? -/
def cmdSigned (s : State) (c : Bytes) : Bool :=
  cmdUnsigned s c || Config.ecdsaOk (slice c 0x80 96) (slice c 0 0x80) (slice c 0xE0 48) (slice c 0x110 48)

/-- The path shows RESULT n. -/
def cmdShows (t : State) (path : CmdPath) (n : Nat) : Prop :=
  (path.isReq = true → t.get F.GOV_REQ_CMD_RESULT = n ∧ t.bit F.GOV_REQ_CMD_BUSY = false)
  ∧ (path.isReq = false → ∃ x : Bytes, Out.govcmd x n ∈ t.outs)

/-- From s to t a signed command is refused with RESULT n and counted; fuses keep what they hold (R376, R378). -/
def cmdRefused (s t : State) (path : CmdPath) (n : Nat) : Prop :=
  cmdShows t path n ∧ t.fuse = s.fuse ∧ t.gov.burn = none
  ∧ t.get F.GOV_STATUS_FAILS = min F.GOV_STATUS_FAILS.max (s.get F.GOV_STATUS_FAILS + 1)
  ∧ (s.get F.GOV_STATUS_FAILS = 7 → s.get F.GOV_ALARM_LEVEL = 0 → t.get F.GOV_ALARM_LEVEL = 1 ∧ 43 ∈ srcs t)

/-- Nothing but the Governor's own state and registers has changed. -/
def onlyRegsGov (s t : State) : Prop := { t with regs := s.regs, gov := s.gov } = s

end Sys2Proof.Machine
end

