-- ==== Sys2Proof/Certificates/Slice0/Obligations.lean ====
section
/-! DEFINITION. The statements about the model that are to be proved. -/

set_option autoImplicit false

open Sys2Proof Sys2Proof.Machine

/-- With a command waiting, a step is that command's effect on the device with the rest of the queue (the model's queue of
commands, log entry 1). -/
def Obligations.StepRunsTheFrontCommand : Prop :=
  ∀ (c : Instr) (rest : List Instr) (s : State), step { s with pending := c :: rest } = exec c { s with pending := rest }

/-- With no command waiting, and nothing that Psihaust has begun, a step is one tick of the always-on timer. That an empty queue
stands for a tick is the model's choice (log entry 1). -/
def Obligations.IdleStepCountsMtime : Prop :=
  ∀ s : State, s.pending = [] → s.mgt.bg = none → s.mgt.wait = [] → s.mgt.dsaFor = none → s.mgt.dsaWait = [] →
    ∃ t, step s = .next t ∧ t.get F.MGT_MTIME_TIME = (s.get F.MGT_MTIME_TIME + 1) % 2 ^ 64
      ∧ regsKept s t [R.MGT_MTIME.addr] ∧ onlyRegs s t

/-- The memories of the state after reset are in canonical form. Every register of the map reads its Reset value after reset
(R11). -/
def Obligations.ResetState : Prop :=
  (State.reset.canon = true)
  ∧
  (∀ r : Reg, State.reset.rd r = r.rst)

/-- LOW_HALF_WRITE: the value is held for its master, and no register changes (R5). Accesses of the debug port (MID 0x020) pass
their MPU first and have a statement of their own. HIGH_HALF_WRITE (R5), for the registers whose writes have no effect of their
own. LOW_HALF_READ and HIGH_HALF_READ (R5). -/
def Obligations.SplitAccesses : Prop :=
  (∀ (mid : Mid) (addr : BitVec 48) (v : BitVec 32) (row : RegRow) (r : Reg) (s : State),
      mid.val ≠ 0x020 → inTblWin addr.toNat = false → accKind addr.toNat 4 = .low row r →
      runs (.lowHalfWrite mid addr v) s fun t =>
        holdOf t mid = some ⟨v.toNat, r.addr, false⟩ ∧ t.regs = s.regs ∧ t.outs = s.outs ++ [.resp mid false 0]
        ∧ { t with hold := s.hold, outs := s.outs } = s)
  ∧
  (∀ (mid : Mid) (addr : BitVec 48) (v : BitVec 32) (row : RegRow) (r : Reg) (s : State) (low : Nat),
      mid.val ≠ 0x020 → inTblWin addr.toNat = false → accKind addr.toNat 4 = .high row r → regAt r.addr = some (row, r.addr) →
      handlerAt r.addr = none → portShut s r.addr = false → r.addr ≠ R.BRK_LOSS.addr → low < 2 ^ 32 →
      (row.flds.all fun f => decide (f.hi < 64) && decide (f.lo ≤ f.hi)) = true →
      row.flds.Pairwise (fun f g => f.hi < g.lo ∨ g.hi < f.lo) →
      (holdOf s mid = some ⟨low, r.addr, false⟩ →
        runs (.highHalfWrite mid addr v) s fun t =>
          holdOf t mid = none ∧ ∀ f ∈ row.flds, f.ty = .rw →
            t.get ⟨r, f.hi, f.lo⟩ = bitsGet (BitVec.ofNat 64 (v.toNat * 2 ^ 32 + low)) f.hi f.lo)
      ∧ (holdOf s mid = none →
        runs (.highHalfWrite mid addr v) s fun t =>
          holdOf t mid = none ∧ ∀ f ∈ row.flds, f.ty = .rw →
            (32 ≤ f.lo → t.get ⟨r, f.hi, f.lo⟩ = bitsGet (BitVec.ofNat 64 (v.toNat * 2 ^ 32)) f.hi f.lo)
            ∧ (f.hi < 32 → t.get ⟨r, f.hi, f.lo⟩ = s.get ⟨r, f.hi, f.lo⟩)))
  ∧
  (∀ (mid : Mid) (addr : BitVec 48) (row : RegRow) (r : Reg) (s : State), mid.val ≠ 0x020 → inTblWin addr.toNat = false →
      (accKind addr.toNat 4 = .low row r →
        runs (.lowHalfRead mid addr) s fun t =>
          holdOf t mid = some ⟨hiHalf (regShow s mid r), r.addr, true⟩
          ∧ t.outs = s.outs ++ [.resp mid false (loHalf (regShow s mid r))]
          ∧ ∀ f ∈ row.flds, f.ty = .rc → f.hi < 64 → f.lo ≤ f.hi → t.get ⟨r, f.hi, f.lo⟩ = 0)
      ∧ (accKind addr.toNat 4 = .high row r →
        (∀ val, holdOf s mid = some ⟨val, r.addr, true⟩ →
          runs (.highHalfRead mid addr) s fun t =>
            holdOf t mid = none ∧ t.outs = s.outs ++ [.resp mid false val] ∧ t.regs = s.regs)
        ∧ (holdOf s mid = none →
          runs (.highHalfRead mid addr) s fun t =>
            holdOf t mid = none ∧ t.outs = s.outs ++ [.resp mid false (hiHalf (regShow s mid r))])))

/-- READ_CLEAR_FIELD (R9) and REGISTER_ACCESS_ERROR (R4). An access of the debug port that its MPU refuses is answered with an
error and zero, and writes nothing (R295). -/
def Obligations.ErrorsAndDebugPort : Prop :=
  (∀ (mid : Mid) (addr : BitVec 48) (s : State), mid.val ≠ 0x020 → inTblWin addr.toNat = false →
      (∀ (wide : Bool) (row : RegRow) (r : Reg), accKind addr.toNat (if wide then 8 else 4) = .whole row r → row.wide = wide →
        (∀ f ∈ row.flds, f.ty = .rc → f.hi < (if wide then 64 else 32) ∧ f.lo ≤ f.hi) →
        runs (.readClearField mid addr wide) s fun t =>
          t.outs = s.outs ++ [.resp mid false (regShow s mid r).toNat]
          ∧ ∀ f ∈ row.flds, f.ty = .rc → t.get ⟨r, f.hi, f.lo⟩ = 0)
      ∧ (∀ (size : Nat) (write : Option Word),
        (match accKind addr.toNat size with | .bad => true | _ => false) = true →
        runs (.registerAccessError mid addr size write) s fun t =>
          t.outs = s.outs ++ [.resp mid true 0] ∧ srcs t = srcs s ++ [0] ∧ regsKept s t [R.BRK_LOSS.addr]))
  ∧
  (∀ (addr : BitVec 48) (wide : Bool) (v : Word) (s : State),
      (mpuCheck s 24 0x020 true .write addr.toNat (if wide then 8 else 4) ≠ .allow →
        runs (.registerWrite 0x020 addr wide v) s fun t =>
          t.outs = s.outs ++ [.resp 0x020 true 0] ∧ srcs t = srcs s ++ [184]
          ∧ regsKept s t [(R.MPU_FAULT 24).addr, (R.MPU_FAULT_CNT 24).addr, R.BRK_LOSS.addr])
      ∧ (mpuCheck s 24 0x020 true .read addr.toNat (if wide then 8 else 4) ≠ .allow →
        runs (.readClearField 0x020 addr wide) s fun t =>
          t.outs = s.outs ++ [.resp 0x020 true 0] ∧ srcs t = srcs s ++ [184]
          ∧ regsKept s t [(R.MPU_FAULT 24).addr, (R.MPU_FAULT_CNT 24).addr, R.BRK_LOSS.addr]))

/-- REGISTER_WRITE (R450) to a register whose writes have no effect of their own, and BLOCK_LOCK (R8). -/
def Obligations.RegisterWriteByFields : Prop :=
  (∀ (mid : Mid) (addr : BitVec 48) (wide : Bool) (v : Word) (row : RegRow) (r : Reg) (s : State),
    mid.val ≠ 0x020 → inTblWin addr.toNat = false → accKind addr.toNat (if wide then 8 else 4) = .whole row r →
    regAt r.addr = some (row, r.addr) → handlerAt r.addr = none → portShut s r.addr = false → r.addr ≠ R.BRK_LOSS.addr →
    (row.flds.all fun f => decide (f.hi < (if wide then 64 else 32)) && decide (f.lo ≤ f.hi)) = true →
    row.flds.Pairwise (fun f g => f.hi < g.lo ∨ g.hi < f.lo) →
    runs (.registerWrite mid addr wide v) s fun t =>
      (∀ f ∈ row.flds, f.ty = .rw → t.get ⟨r, f.hi, f.lo⟩ = bitsGet v f.hi f.lo)
      ∧ (∀ f ∈ row.flds, f.ty = .gv → mid.val ≠ midGov → t.get ⟨r, f.hi, f.lo⟩ = s.get ⟨r, f.hi, f.lo⟩)
      ∧ regsKept s t [r.addr, R.BRK_LOSS.addr])
  ∧ ∀ (mid : Mid) (b : LockBlk) (s : State), mid.val ≠ 0x020 →
      runs (.blockLock mid b) s fun t =>
        t.bit b.fld = true ∧ regsKept s t [b.fld.reg.addr] ∧ onlyRegs s { t with outs := s.outs }

/-- FULL_LOAD (R47, R48): whether the slot tried first is accepted, or the flash cannot be read; the checks of an image rest on opaque functions, so the statement says what follows either answer. -/
def Obligations.ImageLoads : Prop :=
  ∀ s : State, s.pwr.loaderUp = true → s.get F.IMG_STATUS_STATE = 0 →
    (∀ d : BitVec 32,
      let u : State := { s with img := { s.img with density := d.toNat } }
      let a := firstSlot u d.toNat
      runs (.fullLoad (some d)) s fun t =>
        if (slotCode u d.toNat a).1 = 0 then
          t.get F.IMG_STATUS_STATE = 4 ∧ t.get F.IMG_STATUS_SLOT = a ∧ t.get F.IMG_STATUS_FALLBACK = 0
        else
          (t.get F.IMG_STATUS_STATE = 4 ∧ t.get F.IMG_STATUS_SLOT = 1 - a ∧ t.get F.IMG_STATUS_FALLBACK = 1 ∧ 12 ∈ srcs t)
          ∨ (t.get F.IMG_STATUS_STATE = 6 ∧ t.get F.IMG_STATUS_FALLBACK = 0 ∧ t.get F.IMG_STATUS_CODE ≠ 0 ∧ 13 ∈ srcs t))
    ∧ runs (.fullLoad none) s fun t =>
        t.get F.IMG_STATUS_STATE = 6 ∧ t.get F.IMG_STATUS_CODE = 1 ∧ t.get F.IMG_SLOT_STATUS_A_CODE = 1
        ∧ t.get F.IMG_SLOT_STATUS_B_CODE = 1 ∧ srcs t = srcs s ++ [13] ∧ t.pool = {}

/-- BOOT_OK, BOOT_CONFIRM_TIMEOUT, ANTI_ROLLBACK_COMMIT, ARB_BURN_DONE (R50, R51). -/
def Obligations.BootConfirmation : Prop :=
  ∀ (mid : Mid) (s : State),
    (runs (.bootOk mid) s fun t =>
      t.bit F.IMG_BOOT_OK_OK = true ∧ t.get F.IMG_BOOT_OK_LEFT = 0 ∧ regsKept s t [R.IMG_BOOT_OK.addr] ∧ onlyRegs s t)
    ∧ (s.get F.IMG_STATUS_STATE = 4 → s.bit F.IMG_BOOT_OK_OK = false →
      runs .bootConfirmTimeout s fun t =>
        t.bit (if s.get F.IMG_STATUS_SLOT = 0 then F.IMG_SLOT_STATUS_A_UNCONFIRMED else F.IMG_SLOT_STATUS_B_UNCONFIRMED) = true
        ∧ t.get F.IMG_BOOT_OK_LEFT = 0 ∧ t.bit F.CRP_RESET_CAUSE_BOOT_TO = true ∧ srcs t = srcs s ++ [14])
    ∧ (s.bit F.IMG_BOOT_OK_OK = true → s.bit F.IMG_ARB_BUSY = false → s.fuse.arb < s.get F.IMG_ARB_RUN_SVN →
      runs (.antiRollbackCommit mid) s fun t => t.bit F.IMG_ARB_BUSY = true ∧ regsKept s t [R.IMG_ARB.addr] ∧ onlyRegs s t)
    ∧ (s.bit F.IMG_BOOT_OK_OK = false ∨ s.bit F.IMG_ARB_BUSY = true →
      runs (.antiRollbackCommit mid) s fun t => srcs t = srcs s ++ [1] ∧ regsKept s t [R.BRK_LOSS.addr] ∧ onlyRegsEvents s t)
    ∧ (s.bit F.IMG_ARB_BUSY = true →
      runs .arbBurnDone s fun t =>
        t.fuse = { s.fuse with arb := s.get F.IMG_ARB_RUN_SVN } ∧ t.get F.IMG_ARB_COUNT = s.get F.IMG_ARB_RUN_SVN % 256
        ∧ t.bit F.IMG_ARB_BUSY = false ∧ t.bit F.MGT_DONE_IMG_ARB = true)

/-- GROUP_RELOAD (R54, R55). FLASH_ERASE, FLASH_PROGRAM, FLASH_READ, FLASH_OP_DONE (R57). -/
def Obligations.ReloadsAndFlash : Prop :=
  (∀ (mid : Mid) (s : State) (c g : Nat) (ss : List Sec), reloadCode s (s.get F.IMG_LOAD_SRC_OFFSET) = (c, g, ss) →
      runs (.groupReload mid) s fun t =>
        t.get F.IMG_LOAD_STATUS_CODE = c % 256 ∧ t.get F.IMG_LOAD_STATUS_GROUP = g % 16 ∧ t.bit F.MGT_DONE_IMG_LOAD = true
        ∧ (c ≠ 0 → onlyRegs s t ∧ regsKept s t [R.IMG_LOAD_STATUS.addr, R.MGT_DONE.addr])
        ∧ (c = 0 → (srcs t).getLast? = some (256 + 4 * g + 2)))
  ∧
  ((∀ (mid : Mid) (len : Fin 131072) (op : Nat) (s : State), op = 1 ∨ op = 2 ∨ op = 3 →
      s.bit F.IMG_FLASH_CTRL_BUSY = false → s.bit F.IMG_LOCK_LOCK = false → s.get F.IMG_STATUS_STATE ∉ [1, 2, 3] →
      ∀ a n : Nat, a = (if op = 1 then s.get F.IMG_FLASH_ADDR_FLASH / 65536 * 65536 else s.get F.IMG_FLASH_ADDR_FLASH) →
        n = (if op = 1 then 65536 else len.val) → 0 < n → n ≤ 65536 → a + n ≤ s.img.density → touchesRun s a n = false →
        runs (if op = 1 then .flashErase mid else if op = 2 then .flashProgram mid len else .flashRead mid len) s fun t =>
          t.bit F.IMG_FLASH_CTRL_BUSY = true ∧ t.img.flash = s.img.flash ∧ t.spd = s.spd
          ∧ t.img.op = some { op := op, addr := a, spd := s.get F.IMG_FLASH_ADDR_SPD, len := n })
    ∧ ∀ (s : State) (o : FlashOp), s.fan.op = none → s.img.op = some o →
        runs (.flashOpDone true) s fun t =>
          t.get F.IMG_FLASH_CTRL_RESULT = 0 ∧ t.bit F.IMG_FLASH_CTRL_BUSY = false ∧ t.bit F.MGT_DONE_IMG_FLASH = true
          ∧ t.img.op = none
          ∧ (o.op = 1 → ∀ a, o.addr ≤ a → a < o.addr + o.len → tget 0xFF#8 t.img.flash a = 0xFF#8)
          ∧ (∀ a, a < o.addr ∨ o.addr + o.len ≤ a → tget 0xFF#8 t.img.flash a = tget 0xFF#8 s.img.flash a)
          ∧ (o.op ≠ 3 → t.spd = s.spd))

/-- REFCLK_LOST and REFCLK_RESTORED (R62). L0P_NARROW, L0P_WIDEN, L0P_PARTNER_REQUEST, L1_ENTRY, L1_REQUEST_ACCEPT, L1_EXIT
(R70, R72). LANE_FAILED and WIDEN_LANE_TIMEOUT (R71, R73). -/
def Obligations.ClocksPowerStatesAndLanes : Prop :=
  (∀ (g : Fin 16) (s : State),
      ((∀ k, k < 6 → role s (6 * g + k) ≠ 3 ∧ (s.px (6 * g + k)).up = false) →
        runs (.refclkLost g) s fun t =>
          t.bit (F.LG_STATUS_REFCLK_OK g) = false ∧ t.bit (F.LG_STATUS_PLL_LOCK g) = false
          ∧ t.bit (F.LG_STATUS_REFCLK_LOST g) = true ∧ srcs t = srcs s ++ [256 + 4 * g.val]
          ∧ ∀ k, k < 6 → isPcie s (6 * g + k) = true → ltssm t (6 * g + k) = 0 ∧ (t.px (6 * g + k)).wait = .refclk)
      ∧ runs (.refclkRestored g) s fun t =>
          t.bit (F.LG_STATUS_REFCLK_OK g) = true ∧ t.bit (F.LG_STATUS_PLL_LOCK g) = s.bit (F.LG_CFG_USED g)
          ∧ (∀ k, k < 6 → (t.px (6 * g + k)).wait ≠ .refclk) ∧ regsKept s t [(R.LG_STATUS g).addr]
          ∧ { t with regs := s.regs, ports := s.ports } = s)
  ∧
  (∀ (p : Fin 96) (s : State),
      (l0pOn s p = true →
        (s.get (F.PORT_PM_CTRL_L0P_IDLE p) ≠ 0 →
          2 ^ (min 4 (s.get (F.PORT_PM_CTRL_L0P_MIN p))) ≤ s.get (F.PORT_LINK_STATUS_LANES p) / 2 →
          runs (.l0pNarrow p) s fun t =>
            t.get (F.PORT_LINK_STATUS_LANES p) = s.get (F.PORT_LINK_STATUS_LANES p) / 2 ∧ regsKept s t [(R.PORT_LINK_STATUS p).addr])
        ∧ (s.get (F.PORT_LINK_STATUS_LANES p) < s.get (F.PORT_LINK_STATUS_FULL_LANES p) →
          runs (.l0pWiden p) s fun t =>
            t.get (F.PORT_LINK_STATUS_LANES p) = s.get (F.PORT_LINK_STATUS_FULL_LANES p) ∧ regsKept s t [(R.PORT_LINK_STATUS p).addr])
        ∧ ∀ (lanes : Fin 17) (n : Nat), n = laneCount (min lanes (s.get (F.PORT_LINK_STATUS_FULL_LANES p))) →
          s.get (F.PORT_LINK_STATUS_LANES p) < n →
          runs (.l0pPartnerRequest p lanes) s fun t =>
            t.get (F.PORT_LINK_STATUS_LANES p) = n ∧ regsKept s t [(R.PORT_LINK_STATUS p).addr])
      ∧ (ltssm s p = 3 → aspmL1 s p = true →
        (role s p = 1 → s.get (F.PORT_PM_CTRL_L1_IDLE p) ≠ 0 → hostIdle s p = true → carriesHdmDb s p = false →
          runs (.l1Entry p false) s fun t => ltssm t p = 5 ∧ regsKept s t [(R.PORT_LINK_STATUS p).addr])
        ∧ (role s p = 2 →
          runs (.l1RequestAccept p false) s fun t => ltssm t p = 5 ∧ regsKept s t [(R.PORT_LINK_STATUS p).addr]))
      ∧ (isPcie s p = true → ltssm s p = 5 →
        runs (.l1Exit p) s fun t =>
          ltssm t p = 3 ∧ t.get (F.PORT_LINK_STATUS_L11 p) = 0 ∧ regsKept s t [(R.PORT_LINK_STATUS p).addr] ∧ onlyRegs s t))
  ∧
  (∀ (p : Fin 96) (lane : Fin 16) (s : State) (c : Instr), c = .laneFailed p lane ∨ c = .widenLaneTimeout p lane →
      isPcie s p = true → ltssm s p = 3 → (lanesUsed s p).testBit lane = true →
      (s.bit (F.PORT_LINK_STATUS_FLIT p) = false ∨ (s.px p).l0p = false →
        runs c s fun t =>
          (t.get (F.PORT_LANE_FAIL_LANE p)).testBit lane = true ∧ ltssm t p = 4 ∧ srcs t = srcs s ++ [320 + 8 * p.val + 2])
      ∧ ∀ (n : Nat) (rev : Bool), s.bit (F.PORT_LINK_STATUS_FLIT p) = true → (s.px p).l0p = true →
        bestWidth (s.get (F.PORT_LINK_STATUS_FULL_LANES p)) (s.get (F.PORT_LANE_FAIL_LANE p) ||| 2 ^ lane.val) = (n, rev) → n ≠ 0 →
        runs c s fun t =>
          (t.get (F.PORT_LANE_FAIL_LANE p)).testBit lane = true ∧ ltssm t p = 3
          ∧ t.get (F.PORT_LINK_STATUS_LANES p) = min n (s.get (F.PORT_LINK_STATUS_LANES p))
          ∧ srcs t = srcs s ++ [320 + 8 * p.val + 2])

/-- LINK_TRAINING and TRAINING_RETRY (R65, R66). -/
def Obligations.PcieTraining : Prop :=
  ∀ (p : Fin 96) (t : PciePeer) (s : State), pcieReady s p = true → (s.px p).up = false →
    ∀ (c : Instr), (c = .linkTraining p t ∧ (s.px p).wait = .none) ∨ (c = .trainingRetry p t ∧ (s.px p).wait = .retry) →
      ∀ (full : Nat) (rev : Bool) (rate : Nat),
        bestWidth (laneCount (min (widthLanes (s.get (F.PORT_CFG_WIDTH p))) t.width)) (s.get (F.PORT_LANE_FAIL_LANE p))
          = (full, rev) →
        rate = min (min (min (rateCap s p) t.rate) (if t.flit then 6 else 5)) t.okRate →
        (full ≠ 0 → rate ≠ 0 →
          runs c s fun u =>
            ltssm u p = 3 ∧ u.get (F.PORT_LINK_STATUS_RATE p) = rate ∧ u.get (F.PORT_LINK_STATUS_LANES p) = full
            ∧ u.get (F.PORT_LINK_STATUS_FULL_LANES p) = full ∧ u.bit (F.PORT_LINK_STATUS_FLIT p) = t.flit
            ∧ u.bit (F.PORT_LINK_STATUS_REVERSED p) = rev ∧ (u.px p).up = true ∧ (u.px p).fails = 0)
        ∧ (full = 0 ∨ rate = 0 →
          runs c s fun u => ltssm u p = 0 ∧ (u.px p).wait = .retry ∧ (u.px p).fails = (s.px p).fails + 1
            ∧ (u.px p).up = false)

/-- LINK_DISABLE, RETRAIN, LANE_CLEAR, EQ_REDO, RECOVERY_TIMEOUT, PORT_REDETECT on PCIe and CXL ports (R64, R71, R73, R75). -/
def Obligations.LinkControl : Prop :=
  ∀ (mid : Mid) (p : Fin 96) (s : State), isPcie s p = true →
    (s.bit (F.PORT_LINK_CTRL_DISABLE p) = false → (s.px p).up = false →
      runs (.linkDisable mid p) s fun t =>
        t.bit (F.PORT_LINK_CTRL_DISABLE p) = true ∧ ltssm t p = 6 ∧ t.get (F.PORT_LINK_STATUS_LANES p) = 0)
    ∧ (ltssm s p = 3 →
      (runs (.retrain mid p) s fun t => ltssm t p = 4 ∧ t.get (F.PORT_LANE_FAIL_LANE p) = s.get (F.PORT_LANE_FAIL_LANE p))
      ∧ (runs (.laneClear mid p) s fun t => ltssm t p = 4 ∧ t.get (F.PORT_LANE_FAIL_LANE p) = 0)
      ∧ runs (.eqRedo mid p) s fun t => (t.px p).stored = [] ∧ ltssm t p = 3)
    ∧ (ltssm s p = 4 → (s.px p).up = false →
      runs (.recoveryTimeout p) s fun t => ltssm t p = 0 ∧ t.get (F.PORT_LINK_STATUS_RATE p) = 0)
    ∧ ((s.px p).wait = .block →
      runs (.portRedetect p) s fun t =>
        (t.px p).wait = .none ∧ ltssm t p = (if linkOff s p then 6 else 0) ∧ regsKept s t [(R.PORT_LINK_STATUS p).addr])

/-- FLIT_SEND, REPLAY, REPLAY_TIMEOUT, NAK_TIMEOUT (R77, R86 to R89). -/
def Obligations.FlitsAreSent : Prop :=
  ∀ (p : Fin 96) (s : State), oflActive s p = true →
    (runs (.flitSend p) s fun t => ∃ b, t.outs = s.outs ++ [.flit p b])
    ∧ ((s.ox p).ctlq = [] → (s.ox p).replay = none → s.get (F.OFL_STATUS_WINDOW p) ≤ (s.ox p).held.length →
      runs (.flitSend p) s fun t => t.bit (F.OFL_STATUS_WINDOW_FULL p) = true ∧ (t.ox p).held = (s.ox p).held)
    ∧ (∀ c : Instr, (c = .replay p ∧ (s.ox p).replay.isSome = true) ∨ (c = .replayTimeout p ∧ (s.ox p).held ≠ []) →
      heldLost s p = false → s.get (F.OFL_STATUS_REPLAY_COUNT p) < max 1 (s.get (F.OFL_CTRL_REPLAY_MAX p)) →
      runs c s fun t =>
        (t.ox p).replay = none ∧ (t.ox p).held = (s.ox p).held
        ∧ t.get (F.OFL_STATUS_REPLAY_COUNT p) = min (F.OFL_STATUS_REPLAY_COUNT p).max (s.get (F.OFL_STATUS_REPLAY_COUNT p) + 1))
    ∧ (s.bit (F.OFL_STATUS_NAK_PENDING p) = true →
      runs (.nakTimeout p) s fun t => (t.ox p).nakDue = true ∧ { t with ofl := s.ofl } = s)

/-- FLIT_RECEIVE and RESUME_FLIT (R84 to R86, R105). -/
def Obligations.FlitsAreReceived : Prop :=
  ∀ (p : Fin 96) (flit : Bytes) (low : Bool) (s : State),
    (flit.length = 256 → oflActive s p = true → crcOk (fecDecode flit).1 = false →
      runs (.flitReceive p flit low) s fun t =>
        t.get (F.OFL_ERR_CNT_CRC_FAIL p) = min (F.OFL_ERR_CNT_CRC_FAIL p).max (s.get (F.OFL_ERR_CNT_CRC_FAIL p) + 1)
        ∧ srcs t = srcs s ++ [320 + 8 * p.val + 4] ∧ (t.ox p).held = (s.ox p).held ∧ (t.ox p).rx = (s.ox p).rx
        ∧ t.rd (R.OFL_SEQ p) = s.rd (R.OFL_SEQ p) ∧ t.bit (F.OFL_STATUS_NAK_PENDING p) = true)
    ∧ (∀ h : FlitHdr, flit.length = 256 → oflActive s p = true → crcOk (fecDecode flit).1 = true → h = flitHdr (fecDecode flit).1 →
      h.ftype = 1 → h.ack = 0 → h.slotStart = 0 → (s.ox p).rx = none → h.seq = s.get (F.OFL_SEQ_RX_EXPECTED p) →
      runs (.flitReceive p flit low) s fun t =>
        t.get (F.OFL_SEQ_RX_EXPECTED p) = (s.get (F.OFL_SEQ_RX_EXPECTED p) + 1) % 65536
        ∧ t.bit (F.OFL_STATUS_NAK_PENDING p) = false ∧ t.mill = s.mill)
    ∧ (∀ (e : BitVec 16) (counts : List (BitVec 13)), s.get (F.PORT_CFG_ROLE p) = 3 → s.get (F.OFL_STATUS_STATE p) = 4 →
      e.toNat = s.get (F.OFL_SEQ_TX_OLDEST p) →
      runs (.resumeFlit p e counts) s fun t => oflActive t p = true ∧ (t.ox p).held = (s.ox p).held)
    ∧ (flit.length ≠ 256 → exec (.flitReceive p flit low) s = .fault (.malformed "FLIT_RECEIVE"))

/-- OFL_TRAINING, OFL_TRAINING_RETRY, RECOVERY_RETRAIN_COMPLETE, RECOVERY_RATE_DROP, OFL_RECOVERY_TIMEOUT, OFL_REDETECT (R91, R95,
R96, R105, R106). -/
def Obligations.OflTraining : Prop :=
  ∀ (p : Fin 96) (s : State),
    (∀ (t : OflPeer) (c : Instr) (link failed good rate : Nat), oflReady s p = true →
      (c = .oflTraining p t ∧ (s.px p).wait = .none) ∨ (c = .oflTrainingRetry p t ∧ (s.px p).wait = .retry) →
      link = laneBits 0 (min (widthLanes (s.get (F.PORT_CFG_WIDTH p))) t.width) →
      failed = (s.get (F.OFL_LANES_FAILED p) ||| minusBits (laneBits 0 (widthLanes (s.get (F.PORT_CFG_WIDTH p)))) t.detected) &&& link →
      good = minusBits link failed &&& t.good → rate = min (min (oflOffer s p) t.rate) t.okRate →
      (good ≠ 0 → 5 ≤ rate →
        runs c s fun u =>
          oflActive u p = true ∧ u.get (F.OFL_STATUS_RATE p) = rate % 8 ∧ (u.px p).up = true ∧ (u.px p).wait = .none
          ∧ u.get (F.OFL_LANES_ACTIVE p)
            = lowest (min (laneCount (popc good)) (widthLanes (s.get (F.PORT_CFG_WIDTH p)))) good % 65536)
      ∧ (good = 0 ∨ rate < 5 →
        runs c s fun u =>
          u.get (F.OFL_STATUS_STATE p) = 0 ∧ (u.ox p).fails = (s.ox p).fails + 1 ∧ (u.px p).wait = .retry))
    ∧ (s.get (F.PORT_CFG_ROLE p) = 3 → s.get (F.OFL_STATUS_STATE p) = 4 →
      (∀ locked : BitVec 16, minusBits (goodLanes s p) locked.toNat = 0 → goodLanes s p ≠ 0 →
        runs (.recoveryRetrainComplete p locked) s fun u =>
          u.get (F.OFL_LANES_ACTIVE p)
            = lowest (min (laneCount (popc (goodLanes s p))) (widthLanes (s.get (F.PORT_CFG_WIDTH p)))) (goodLanes s p) % 65536
          ∧ u.get (F.OFL_STATUS_STATE p) = 4 ∧ u.get (F.OFL_LANES_FAILED p) = s.get (F.OFL_LANES_FAILED p))
      ∧ (5 < s.get (F.PORT_LINK_STATUS_RATE p) →
        runs (.recoveryRateDrop p) s fun u =>
          u.get (F.PORT_LINK_STATUS_RATE p) = s.get (F.PORT_LINK_STATUS_RATE p) - 1
          ∧ regsKept s u [(R.PORT_LINK_STATUS p).addr] ∧ onlyRegs s { u with outs := s.outs })
      ∧ runs (.oflRecoveryTimeout p) s fun u =>
          u.get (F.OFL_LANES_ACTIVE p) = 0 ∧ (u.ox p).held = [] ∧ (u.ox p).txq = [] ∧ (u.px p).up = false
          ∧ (u.get (F.OFL_STATUS_STATE p) = 5 ∨ u.get (F.OFL_STATUS_STATE p) = 6))
    ∧ (s.get (F.PORT_CFG_ROLE p) = 3 → (s.px p).wait = .oflDown ∨ (s.px p).wait = .block →
      runs (.oflRedetect p) s fun u =>
        u.get (F.OFL_STATUS_STATE p) = (if s.bit (F.PORT_LINK_CTRL_DISABLE p) then 6 else 0) ∧ (u.px p).wait = .none
        ∧ regsKept s u [(R.OFL_STATUS p).addr] ∧ { u with regs := s.regs, ports := s.ports } = s)

/-- LANE_REQ, LANE_ACC, LANE_REJ, LANE_READY, ADD_LANE_LOCK, ADD_LANE_TIMEOUT, LANE_REQ_RESEND, OFL_PM_NARROW, OFL_PM_WIDEN,
OFL_LANE_CMD (R97 to R102), where no software request waits behind the change. -/
def Obligations.LaneRequests : Prop :=
  ∀ (p : Fin 96) (s : State), oflActive s p = true → (s.ox p).cmdWait = false →
    (∀ (id : Fin 256) (set : BitVec 16) (low : Bool), (s.ox p).chg = none →
      runs (.laneReq p id set 1 low) s fun t =>
        t.get (F.OFL_LANES_ACTIVE p) = set.toNat ∧ (t.ox p).ctlq = (s.ox p).ctlq ++ [.acc id])
    ∧ (∀ (id : Fin 256) (c : LaneChg), (s.ox p).chg = some c → c.id = id.val →
      (c.mine = true → c.cause ≠ 1 → isAdd s p c.set = false →
        runs (.laneAcc p id) s fun t => t.get (F.OFL_LANES_ACTIVE p) = c.set % 65536 ∧ (t.ox p).chg = none)
      ∧ (∀ (set : BitVec 16) (cause : Fin 5),
        runs (.laneRej p id set cause) s fun t =>
          t.get (F.OFL_LANES_ACTIVE p) = s.get (F.OFL_LANES_ACTIVE p) ∧ (t.ox p).chg = none
          ∧ t.bit (F.OFL_STATUS_LANE_BUSY p) = false)
      ∧ (isAdd s p c.set = true →
        (c.readySent = true →
          runs (.laneReady p id) s fun t => t.get (F.OFL_LANES_ACTIVE p) = c.set % 65536 ∧ (t.ox p).chg = none)
        ∧ (c.accepted = true → c.readySent = false →
          (c.readyGot = false →
            runs (.addLaneLock p) s fun t =>
              (t.ox p).chg = some { c with readySent := true } ∧ (t.ox p).ctlq = (s.ox p).ctlq ++ [.ready c.id])
          ∧ ∀ (lanes : BitVec 16) (bad : Nat), bad = minusBits (lanes.toNat &&& c.set) (s.get (F.OFL_LANES_ACTIVE p)) → bad ≠ 0 →
            runs (.addLaneTimeout p lanes) s fun t =>
              t.get (F.OFL_LANES_FAILED p) = s.get (F.OFL_LANES_FAILED p) ||| bad ∧ (t.ox p).chg = none
              ∧ t.get (F.OFL_LANES_ACTIVE p) = s.get (F.OFL_LANES_ACTIVE p)))
      ∧ (c.mine = true → c.accepted = false → c.sends < 8 →
        runs (.laneReqResend p) s fun t =>
          (t.ox p).chg = some { c with sends := c.sends + 1 } ∧ (t.ox p).ctlq = (s.ox p).ctlq ++ [.req c.id c.set c.cause]))
    ∧ (s.bit (F.OFL_STATUS_LANE_BUSY p) = false →
      (∀ n set : Nat, s.bit (F.OFL_CTRL_PM_EN p) = true → set = lowest n (goodLanes s p) → setValid s p set = true →
        (n = popc (s.get (F.OFL_LANES_ACTIVE p)) / 2 → s.get (F.OFL_TIMERS_PM_IDLE p) ≠ 0 →
          2 ^ (min 4 (s.get (F.OFL_CTRL_PM_MIN p))) ≤ n →
          runs (.oflPmNarrow p) s fun t => (t.ox p).chg = some { mine := true, id := (s.ox p).reqId, set := set, cause := 0 })
        ∧ (n = laneCount (min (2 * popc (s.get (F.OFL_LANES_ACTIVE p))) (popc (goodLanes s p))) →
          popc (s.get (F.OFL_LANES_ACTIVE p)) < n →
          runs (.oflPmWiden p) s fun t => (t.ox p).chg = some { mine := true, id := (s.ox p).reqId, set := set, cause := 0 }))
      ∧ ∀ (mid : Mid) (mask : BitVec 16), s.bit (F.OFL_LANE_CMD_BUSY p) = false → setValid s p mask.toNat = true →
        runs (.oflLaneCmd mid p mask) s fun t =>
          t.bit (F.OFL_LANE_CMD_BUSY p) = true
          ∧ (t.ox p).chg = some { mine := true, id := (s.ox p).reqId, set := mask.toNat, cause := 2 })

/-- OFL_LANE_FAILED, ALIGNMENT_RUN, LANE_CHECK, TRACKER_EXPIRE (R94, R99, R109). -/
def Obligations.LaneFailures : Prop :=
  ∀ (p : Fin 96) (s : State),
    (oflActive s p = true →
      (∀ (lanes : BitVec 16) (cause : LaneCause) (l : Nat), l = lanes.toNat &&& (s.ox p).link → l ≠ 0 →
        minusBits (s.get (F.OFL_LANES_ACTIVE p)) l ≠ 0 →
        runs (.oflLaneFailed p lanes cause) s fun t => t.get (F.OFL_LANES_FAILED p) = s.get (F.OFL_LANES_FAILED p) ||| l)
      ∧ (∀ set intact : BitVec 16, popc set.toNat ≠ 0 → minusBits set.toNat intact.toNat = 0 →
        runs (.alignmentRun p set intact) s fun t => (t.ox p).rxSet = set.toNat ∧ { t with ofl := s.ofl } = s)
      ∧ (8 ≤ (s.ox p).badRun →
        runs (.laneCheck p .send) s fun t =>
          (t.ox p).check = true ∧ (t.ox p).badRun = 0 ∧ t.outs = s.outs ++ [.run p (s.get (F.OFL_LANES_ACTIVE p))])
      ∧ ∀ bad : BitVec 16, bad.toNat &&& (s.ox p).rxSet = 0 → (s.ox p).check = false →
        runs (.laneCheck p (.recv bad)) s fun t =>
          t.outs = s.outs ++ [.run p (s.get (F.OFL_LANES_ACTIVE p))] ∧ { t with outs := s.outs } = s)
    ∧ ∀ n : Fin 4096, runs (.trackerExpire n) s fun t =>
        t.ofl.tracker = s.ofl.tracker.eraseIdx n ∧ t.ofl.ports = s.ofl.ports ∧ { t with ofl := s.ofl } = s

/-- HEADRACE_ACCEPT and ADMIT_WAITING of a packet that is admitted (R114, R118, R119). -/
def Obligations.HeadraceTakes : Prop :=
  ∀ s : State,
    (∀ (x : Present) (l : List Present), s.mill.presented = x :: l → x.cred = none → s.mill.waiting.any (sameBuf x) = false →
      let u : State := { s with mill := { s.mill with presented := l } }
      ∀ (e : Nat) (q : Pkt), decode u x = .to e q → admissible u e q = true →
        runs (.headraceAccept none) s fun t =>
          enqueued s t e q (classOf u q) ∧ t.mill.presented = l ∧ t.mill.waiting = s.mill.waiting
          ∧ t.spd = s.spd ∧ t.img = s.img ∧ t.fuse = s.fuse ∧ t.outs = s.outs)
    ∧ ∀ (n : Nat) (x : Present), s.mill.waiting[n]? = some x → x.cred = none → (s.mill.waiting.take n).any (sameBuf x) = false →
      ∀ (e : Nat) (q : Pkt), decode s x = .to e q → admissible s e q = true →
        runs (.admitWaiting n) s fun t =>
          enqueued s t e q (classOf s q) ∧ t.mill.waiting = s.mill.waiting.eraseIdx n ∧ t.mill.presented = s.mill.presented
          ∧ t.spd = s.spd ∧ t.img = s.img ∧ t.fuse = s.fuse ∧ t.outs = s.outs

/-- TAILRACE_DEQUEUE (R117, R120). -/
def Obligations.TailraceSends : Prop :=
  ∀ (e : Fin 127) (cr : BitVec 8 × BitVec 8 × BitVec 8) (s : State) (c n : Nat) (d : Tab Nat) (x : QEnt),
    egressOpen s e = true → pickClass s cr e = some (c, d) → sendable s cr e c = some (n, x) →
    x.mc = none → x.pkt.dead = false → containedPkt s x.pkt = false →
    runs (.tailraceDequeue e cr) s fun t =>
      queue t (queueNo e c) = (dropLost (queue s (queueNo e c))).eraseIdx n
      ∧ (∀ k, k ≠ queueNo e c → queue t k = queue s k)
      ∧ (e.val < 96 → s.get (F.PORT_CFG_ROLE e) ≠ 3 →
        ∃ q : Pkt, t.outs = s.outs ++ [.pkt e q] ∧ q.data = x.pkt.data ∧ q.tag = x.pkt.tag)

/-- TC_MAP_WRITE (R115, stated whole). -/
def Obligations.TcMap : Prop :=
  ∀ (mid : Mid) (v : BitVec 64) (s : State),
    let k := fun n : Nat => v.toNat / 2 ^ (4 * n) % 8
    let bad : Bool := ((List.range 15).any fun n => decide (8 ≤ n) && (s.get F.SWC_LEAT_CFG_MASK).testBit (k n)) || k 9 == k 10
      || (List.range 15).any fun n => n != 11 && n != 12 && (k n == k 11 || k n == k 12)
    (bad = true → runs (.tcMapWrite mid v) s fun t =>
      srcs t = srcs s ++ [1] ∧ regsKept s t [R.BRK_LOSS.addr] ∧ onlyRegsEvents s t)
    ∧ (bad = false → s.bit F.SWC_LOCK_LOCK = false → runs (.tcMapWrite mid v) s fun t =>
      (∀ n, n < 16 → t.get (F.SWC_TC_MAP_KIND n) = k n) ∧ regsKept s t [R.SWC_TC_MAP.addr] ∧ onlyRegs s t)

/-- CONGESTION_HOLD_EXPIRE, MULTICAST_TIMEOUT, PORT_DOWN, FLUSH_COMPLETE (R124, R127, R130, R133). -/
def Obligations.MillraceTimersAndFlush : Prop :=
  (∀ (e : Fin 127) (s : State), runs (.congestionHoldExpire e) s fun t =>
      t = { s with mill := { s.mill with holds := s.mill.holds.erase e } })
  ∧ ∀ (p : Fin 96) (s : State),
    (∀ (id c : Nat) (m : McPkt), s.mill.mcasts.find? (fun y => y.id == id) = some m → 2 ≤ m.refs →
      (List.range 8).find? (fun c => (queue s (queueNo p c)).any fun x => x.mc == some id && !x.lost) = some c →
      runs (.multicastTimeout p id) s fun t =>
        queue t (queueNo p c) = (queue s (queueNo p c)).map (fun x => if x.mc == some id then { x with lost := true } else x)
        ∧ t.mill.mcasts
          = s.mill.mcasts.map (fun y => if y.id = id then { m with refs := m.refs - 1, missed := m.missed ||| 2 ^ p.val } else y)
        ∧ t.get F.SWC_MC_CNT_MISSED = min F.SWC_MC_CNT_MISSED.max (s.get F.SWC_MC_CNT_MISSED + 1)
        ∧ regsKept s t [R.SWC_MC_CNT.addr])
    ∧ (s.mill.reports.contains p.val = true → egressOpen s p = false → s.get (F.PORT_CFG_ROLE p) ≠ 1 →
      runs (.portDown p) s fun t =>
        t.mill.reports = s.mill.reports.erase p.val ∧ (∀ c, c < 8 → queue t (queueNo p c) = [])
        ∧ ∀ x, x ∈ t.mill.staged → x.queue / 8 ≠ p.val)
    ∧ (tget 0 s.mill.stop p = 1 → s.mill.reports.contains p.val = false →
      runs (.flushComplete p) s fun t =>
        tget 0 t.mill.stop p = (if (s.px p).up then 0 else 2) ∧ ∀ c, c < 8 → tget [] t.mill.chains (queueNo p c) = [])

/-- LEAT_WRITE, LEAT_REFILL, LEAT_WINDOW (R136, R137, R139, R223). -/
def Obligations.LeatMoves : Prop :=
  ∀ s : State,
    (∀ (x : Staged) (xs : List Staged) (ch : List (List Pkt)) (n : Nat), s.mill.staged = x :: xs → x.mc = none →
      leatFits s (cellsOf x.pkt) = true →
      chainAdd (tget [] s.mill.chains x.queue) { x.pkt with banks := [] } (s.get F.SWC_LEAT_STATUS_PAGES_FREE) = some (ch, n) →
      runs .leatWrite s fun t =>
        t.mill.staged = xs ∧ tget [] t.mill.chains x.queue = ch
        ∧ t.get F.SWC_LEAT_STATUS_PAGES_FREE = s.get F.SWC_LEAT_STATUS_PAGES_FREE - n
        ∧ t.get F.SWC_LEAT_CNT_SPILLED = min F.SWC_LEAT_CNT_SPILLED.max (s.get F.SWC_LEAT_CNT_SPILLED + 1)
        ∧ t.mill.queues = s.mill.queues)
    ∧ (∀ (k : Fin 1024) (q : Pkt) (pg : List Pkt) (rest : List (List Pkt)), tget [] s.mill.chains k = (q :: pg) :: rest →
      queueOcc s k < max 17 (s.get F.SWC_LEAT_CTRL_REFILL) → classAdmits s (k.val % 8) (cellsOf q) = true →
      queueAdmits s k (cellsOf q) = true → cellsFree s (cellsOf q) = true → leatFits s (cellsOf q) = true →
      runs (.leatRefill k .ok) s fun t =>
        tget [] t.mill.chains k = (if pg.isEmpty then rest else pg :: rest)
        ∧ ∃ r : Pkt, queue t k = queue s k ++ [{ pkt := r }] ∧ r.tag = q.tag ∧ r.data = q.data)
    ∧ runs .leatWindow s fun t =>
        t.mill = { s.mill with leatBytes := 0 } ∧ t.bit F.SWC_LEAT_STATUS_CAPPED = false
        ∧ regsKept s t [R.SWC_LEAT_STATUS.addr] ∧ { t with regs := s.regs, mill := s.mill } = s

/-- BANK_FAILED, BANK_MAPOUT (R141, R142). -/
def Obligations.BanksFail : Prop :=
  ∀ (mid : Mid) (b : Fin 256) (c : Instr) (s : State),
    (c = .bankFailed b ∨ c = .bankMapout mid b → bankOut s b = false →
      runs c s fun t => bankOut t b = true ∧ 1088 + b.val ∈ srcs t ∧ t.rd R.SWC_TC_MAP = s.rd R.SWC_TC_MAP)
    ∧ (bankOut s b = true → idles (.bankFailed b) s)

/-- TABLE_READ, TABLE_WRITE, DECODER_COMMIT, WINDOW_COMMIT, WINDOW_DRAIN_END (R150, R156, R167, R168, R208). FAILOVER_REENABLE,
AUTO_RESTORE, PATH_RESTORE, RESTORE_COMPLETE, RESTORE_ABORT (R170, R172). -/
def Obligations.TablesWindowsAndPaths : Prop :=
  (∀ (mid : Mid) (s : State),
      (∀ (b : Fin 8) (n : Fin 262144),
        (tblResult s false b n = 0 → runs (.tableRead mid b n) s fun t =>
          t.get F.RTE_TBL_CMD_RESULT = 0 ∧ (∀ k, k < entrySize b / 8 → t.get (F.RTE_TBL_DATA_DATA k) = leN (tblEntry s b n) (8 * k) 8)
          ∧ regsKept s t [R.RTE_TBL_CMD.addr, (R.RTE_TBL_DATA 0).addr, (R.RTE_TBL_DATA 1).addr, (R.RTE_TBL_DATA 2).addr, (R.RTE_TBL_DATA 3).addr]
          ∧ onlyRegs s t)
        ∧ (tblResult s true b n = 0 → runs (.tableWrite mid b n) s fun t =>
          t.get F.RTE_TBL_CMD_RESULT = 0
          ∧ tgets 0#8 t.rte.store (tblAddr s b n) (entrySize b) = (tblData s).take (entrySize b)
          ∧ ∀ a, a < tblAddr s b n ∨ tblAddr s b n + entrySize b ≤ a → tget 0#8 t.rte.store a = tget 0#8 s.rte.store a)
        ∧ ∀ w : Bool, tblResult s w b n ≠ 0 → runs (if w then .tableWrite mid b n else .tableRead mid b n) s fun t =>
          t.get F.RTE_TBL_CMD_RESULT = tblResult s w b n ∧ regsKept s t [R.RTE_TBL_CMD.addr] ∧ onlyRegs s t)
      ∧ (∀ (v : Fin 64) (n : Fin 32) (d : DecSet) (e : Nat), e = s.get (F.RTE_VCS_TBL_DEC_FIRST v) + n →
        n.val < s.get (F.RTE_VCS_CFG_DEC_COUNT v) → (hdmEnt s e).locked = false →
        (decOk s v n d = true → runs (.decoderCommit (.vcs v) n d) s fun t =>
          tgets 0#8 t.rte.store (tblAddr s 2 e) (entrySize 2) = (decBytes d).take (entrySize 2) ∧ (t.ux v).decErr.testBit n = false)
        ∧ (decOk s v n d = false → runs (.decoderCommit (.vcs v) n d) s fun t =>
          t.rte.store = s.rte.store ∧ (t.ux v).decErr.testBit n = true ∧ t.regs = s.regs))
      ∧ (∀ (k : Fin 64) (d : DecSet), tget [] s.pool.ldDecs k = [] → decFieldsOk d = true → d.iw = 0 →
        runs (.decoderCommit (.pool k) 0 d) s fun t =>
          tget [] t.pool.ldDecs k = [⟨d.base, d.size, d.dpa, d.lock⟩] ∧ { t with pool := s.pool } = s)
      ∧ (∀ (v : Fin 64) (drain : Bool), s.bit F.RTE_WIN_COMMIT_BUSY = false →
        runs (.windowCommit mid v drain) s fun t =>
          t.get (F.RTE_VCS_TBL_WIN_ACTIVE v) = 1 - s.get (F.RTE_VCS_TBL_WIN_ACTIVE v)
          ∧ t.get (F.RTE_VCS_TBL_WIN_VERSION v) = (s.get (F.RTE_VCS_TBL_WIN_VERSION v) + 1) % 256
          ∧ tget {} t.rte.win v = ⟨s.get (F.RTE_VCS_TBL_WIN_FIRST v), min 16384 (s.get (F.RTE_VCS_TBL_WIN_COUNT v))⟩
          ∧ (t.bit F.RTE_WIN_COMMIT_BUSY = true ↔ drain = true ∧ winHeld s v (s.get (F.RTE_VCS_TBL_WIN_VERSION v)) = true)
          ∧ (t.bit F.RTE_WIN_COMMIT_BUSY = false → t.bit F.MGT_DONE_RTE_WIN = true))
      ∧ ∀ v ver : Nat, s.rte.drain = some (v, ver) → winHeld s v ver = false →
        runs .windowDrainEnd s fun t =>
          t.rte = { s.rte with drain := none } ∧ t.bit F.RTE_WIN_COMMIT_BUSY = false ∧ t.bit F.MGT_DONE_RTE_WIN = true
          ∧ regsKept s t [R.RTE_WIN_COMMIT.addr, R.MGT_DONE.addr] ∧ { t with regs := s.regs, rte := s.rte } = s)
  ∧
  (∀ (mid : Mid) (p : Fin 96) (s : State),
      (s.get (F.PORT_CFG_ROLE p) = 3 → (s.px p).wait = .failover →
        runs (.failoverReenable p) s fun t =>
          (t.px p).wait = .none ∧ t.get (F.OFL_STATUS_STATE p) = (if s.bit (F.PORT_LINK_CTRL_DISABLE p) then 6 else 0)
          ∧ regsKept s t [(R.OFL_STATUS p).addr])
      ∧ (∀ (c : Instr) (cmd : Bool), restorable s p = true →
        (cmd = false ∧ c = .autoRestore p ∧ s.bit F.RTE_PATH_CTRL_AUTO_RESTORE = true)
          ∨ (cmd = true ∧ s.bit F.RTE_PATH_CMD_BUSY = false ∧ c = .pathRestore mid ⟨p.val, by omega⟩) →
        runs c s fun t =>
          (∃ r, t.rte = { s.rte with restore := some r } ∧ r.port = p.val ∧ r.cmd = cmd)
          ∧ (cmd = true → t.bit F.RTE_PATH_CMD_BUSY = true) ∧ regsKept s t [R.RTE_PATH_CMD.addr])
      ∧ (s.bit F.RTE_PATH_CMD_BUSY = false → s.rte.restore = none →
        oflActive s p = false ∨ s.rte.away.contains p.val = false →
        runs (.pathRestore mid ⟨p.val, by omega⟩) s fun t =>
          t.get F.RTE_PATH_CMD_RESULT = (if oflActive s p then 0 else 1) ∧ t.bit F.MGT_DONE_RTE_PATH = true ∧ onlyRegs s t)
      ∧ ∀ r : RestoreOp, s.rte.restore = some r →
        (restoreReady s r = true → runs .restoreComplete s fun t =>
          t.rte = { s.rte with restore := none, away := s.rte.away.erase r.port }
          ∧ t.get F.RTE_PATH_STATUS_RESTORES = min F.RTE_PATH_STATUS_RESTORES.max (s.get F.RTE_PATH_STATUS_RESTORES + 1)
          ∧ (r.cmd = true → t.get F.RTE_PATH_CMD_RESULT = 0 ∧ t.bit F.RTE_PATH_CMD_BUSY = false))
        ∧ runs .restoreAbort s fun t =>
          t.rte = { s.rte with restore := none } ∧ srcs t = srcs s ++ [1363]
          ∧ t.get F.RTE_PATH_STATUS_RESTORE_ABORTS = min F.RTE_PATH_STATUS_RESTORE_ABORTS.max (s.get F.RTE_PATH_STATUS_RESTORE_ABORTS + 1)
          ∧ (r.cmd = true → t.get F.RTE_PATH_CMD_RESULT = 2 ∧ t.bit F.RTE_PATH_CMD_BUSY = false))

/-- BIND, LD_ALLOCATION_CONFIRM, LD_ALLOCATION_TIMEOUT, SET_RPID (R42, R157 to R160). UNBIND, MANAGED_UNBIND_TIMEOUT,
UNBIND_DRAIN_END, UNBIND_DRAIN_TIMEOUT (R161). -/
def Obligations.BindsAndUnbinds : Prop :=
  (∀ (mid : Mid) (s : State),
      (s.bit F.RTE_BIND_CMD_BUSY = false → ∀ (v : BitVec 64) (r : BindReq), r = bindReq (s.wr R.RTE_BIND_CMD v) →
        (bindCode s r ≠ 0 → runs (.bind mid (some v)) s fun t =>
          t.get F.RTE_BIND_CMD_RESULT = bindCode s r ∧ t.bit F.RTE_BIND_CMD_BUSY = false ∧ t.bit F.MGT_DONE_RTE_BIND = true
          ∧ regsKept s t [R.RTE_BIND_CMD.addr, R.MGT_DONE.addr] ∧ onlyRegs s t)
        ∧ (∀ n : Nat, bindCode s r = 0 → freeBind s = some n →
          (r.kind = 0 ∧ s.get (F.PORT_CFG_ROLE r.port) = 2 ∧ r.ldid ≠ 0xFFFF → runs (.bind mid (some v)) s fun t =>
            t.rte = { s.rte with binds := s.rte.binds ++ [⟨n, bindWord r 2, true⟩] } ∧ t.bit F.RTE_BIND_CMD_BUSY = true
            ∧ regsKept s t [R.RTE_BIND_CMD.addr])
          ∧ (¬(r.kind = 0 ∧ s.get (F.PORT_CFG_ROLE r.port) = 2 ∧ r.ldid ≠ 0xFFFF) → runs (.bind mid (some v)) s fun t =>
            t.rd (R.RTE_BIND n) = bindWord r 2 ∧ t.get F.RTE_BIND_CMD_RESULT = 0 ∧ t.bit F.RTE_BIND_CMD_BUSY = false
            ∧ t.bit F.MGT_DONE_RTE_BIND = true ∧ (t.vx r.vcs r.vppb).linkUp = true
            ∧ regsKept s t [R.RTE_BIND_CMD.addr, R.MGT_DONE.addr, (R.RTE_BIND n).addr]))
        ∧ ∀ n : Nat, bindOf s (bitsGet v 40 35) (bitsGet v 34 25) = some n → s.get (F.RTE_BIND_STATE n) = 1 →
          linkReady s (s.get (F.RTE_BIND_PORT n)) = true → portBusy s (s.get (F.RTE_BIND_PORT n)) = false →
          runs (.setRpid mid v) s fun t =>
            t.get (F.RTE_BIND_RPID n) = bitsGet v 52 41 ∧ t.get (F.RTE_BIND_STATE n) = 2 ∧ t.get F.RTE_BIND_CMD_RESULT = 0
            ∧ regsKept s t [R.RTE_BIND_CMD.addr, R.MGT_DONE.addr, (R.RTE_BIND n).addr])
      ∧ (∀ (b : InitBind) (n : Nat), initNext s = some b → s.get (F.PORT_CFG_ROLE b.port) = 3 → freeBind s = some n →
        bindOf s b.vcs b.vppb = none →
        runs (.bind mid none) s fun t =>
          t.rd (R.RTE_BIND n) = bindWord (initReq b) 1 ∧ t.rte = { s.rte with initial := s.rte.initial.erase b }
          ∧ regsKept s t [(R.RTE_BIND n).addr])
      ∧ ∀ (n : Fin 1024) (b : BindOp), bindWaiting s n = some b → b.cmd = true →
        (linkReady s (bindWordGet b.entry (F.RTE_BIND_PORT 0)) = true → runs (.ldAllocationConfirm n true) s fun t =>
          t.rd (R.RTE_BIND n) = b.entry ∧ t.get F.RTE_BIND_CMD_RESULT = 0 ∧ t.bit F.RTE_BIND_CMD_BUSY = false
          ∧ t.rte.binds = s.rte.binds.filter fun x => x.n != n.val)
        ∧ ∀ c : Instr, c = .ldAllocationConfirm n false ∨ c = .ldAllocationTimeout n →
          runs c s fun t =>
            t.get F.RTE_BIND_CMD_RESULT = 8 ∧ t.bit F.RTE_BIND_CMD_BUSY = false
            ∧ t.rte = { s.rte with binds := s.rte.binds.filter fun x => x.n != n.val } ∧ { t with regs := s.regs, rte := s.rte } = s)
  ∧
  (∀ (mid : Mid) (s : State),
      (∀ (v : BitVec 64) (n : Nat), s.bit F.RTE_BIND_CMD_BUSY = false → bindOf s (bitsGet v 40 35) (bitsGet v 34 25) = some n →
        s.get (F.RTE_BIND_STATE n) = 2 → portBusy s (s.get (F.RTE_BIND_PORT n)) = false →
        (s.rte.unbinds.any fun u => u.n == n) = false →
        runs (.unbind mid v) s fun t =>
          t.get (F.RTE_BIND_STATE n) = 3 ∧ t.bit F.RTE_BIND_CMD_BUSY = true
          ∧ t.rte.unbinds = s.rte.unbinds ++ [⟨n, !v.getLsbD 59, 0⟩]
          ∧ t.rte.cut = s.rte.cut ++ (if v.getLsbD 59 then [n] else [])
          ∧ regsKept s t [R.RTE_BIND_CMD.addr, (R.RTE_BIND n).addr])
      ∧ ∀ n : Fin 1024,
        ((s.rte.unbinds.any fun u => u.n == n && u.managed) = true → s.rte.cut.contains n.val = false →
          runs (.managedUnbindTimeout n) s fun t =>
            t.rte.cut = s.rte.cut ++ [n.val] ∧ t.rte.surprise = s.rte.surprise ++ [n.val] ∧ t.regs = s.regs
            ∧ t.rte.unbinds = s.rte.unbinds.map fun u => if u.n = n.val then { u with result := 0xB } else u)
        ∧ ∀ u : UnbindOp, unbindOf s n = some u →
          (∀ c : Instr, c = .unbindDrainEnd n ∨ c = .unbindDrainTimeout n → s.get (F.RTE_BIND_OUT_OUTSTANDING n) = 0 →
            runs c s fun t =>
              t.rd (R.RTE_BIND n) = 0#64 ∧ t.get F.RTE_BIND_CMD_RESULT = u.result % 16 ∧ t.bit F.RTE_BIND_CMD_BUSY = false
              ∧ t.rte.unbinds = (s.rte.unbinds.filter fun x => x.n != n.val)
              ∧ regsKept s t [R.RTE_BIND_CMD.addr, R.MGT_DONE.addr, (R.RTE_BIND n).addr, (R.RTE_BIND_OUT n).addr])
          ∧ (s.get (F.RTE_BIND_OUT_OUTSTANDING n) ≠ 0 →
            runs (.unbindDrainTimeout n) s fun t =>
              t.rd (R.RTE_BIND n) = 0#64 ∧ t.get F.RTE_BIND_CMD_RESULT = 0xA ∧ t.bit F.RTE_BIND_CMD_BUSY = false
              ∧ t.get (F.RTE_BIND_OUT_OUTSTANDING n) = 0))

/-- DIRECTORY_REQUEST, BIRSP_RECEIVE, BICONFLICT, BI_TIMEOUT (R183 to R188, R192). -/
def Obligations.SharedLines : Prop :=
  ∀ s : State,
    (∀ (r : DirReq) (a : Ask) (p : Nat) (u : State), s.coh.waitq = [] →
      s.coh.reqs.find? (fun r => r.q.op != .biConflict) = some r → p = physOf s (sliceOf r.hla) →
      u = { s with coh := { s.coh with reqs := s.coh.reqs.erase r } } → s.coh.txns = [] →
      (∀ n, n < 16 → injMark s 3 p (16 * setOf r.hla + n) ≠ 2) → homeGone u r = false → askOf r.q = some a → a.data = true →
      a.want = 3 ∨ (whoOf u r.q).id = none → flushHas u r.hla = false → dirFind u p (sliceOf r.hla) r.hla = none →
      isDoubtful u p (secondRange u p (sliceOf r.hla)) (setOf r.hla) = false →
      runs (.directoryRequest 0) s fun t =>
        t.coh.reqs = u.coh.reqs ∧ t.coh.ents = s.coh.ents ∧ t.coh.next = s.coh.next + 1
        ∧ (∃ x, t.coh.txns = [x] ∧ x.r = r ∧ x.id = s.coh.next ∧ x.want = a.want ∧ x.await = [] ∧ x.needData = true)
        ∧ (∀ y, memPresent s p r.hla { cls := .mReq, op := .mRd, tag := 4 * s.coh.next } = some y →
          t.mill.presented = s.mill.presented ++ [y])
        ∧ t.get (F.COH_SL_CNT0_LOOKUPS p) = min (F.COH_SL_CNT0_LOOKUPS p).max (s.get (F.COH_SL_CNT0_LOOKUPS p) + 1))
    ∧ (∀ (q : Pkt) (qs : List Pkt) (x : Txn) (h k : Nat) (op : Op), s.coh.rsps = q :: qs → q.cls = .biRsp → q.op = .rspI →
      whoOf s q = .host h →
      s.coh.txns.find? (fun t => t.r.hla == q.addr && t.await.any fun a => some a.1 == some h && (q.op != .rspE || a.2 == .snpCur)) = some x →
      x.await = [(h, op)] → x.kind = .req → x.r.q.cls = .mReq → x.r.q.op ≠ .atomic → x.needData = false → x.lost = none →
      x.phase = 0 → x.acks = 0 → x.ent = some k → s.coh.removals = [] → s.coh.flush = none →
      runs .birspReceive s fun t =>
        dirEnt t k = newEnt s x ∧ t.coh.txns = (s.coh.txns.filter fun y => y.id != x.id) ∧ t.coh.rsps = qs
        ∧ t.coh.reqs = s.coh.reqs)
    ∧ (∀ r : DirReq, s.coh.reqs.find? (fun r => r.q.op == .biConflict) = some r →
      (s.coh.txns.any fun t => t.r.hla == r.hla && t.kind == .req && decide (t.phase < 2) && (whoOf s r.q).id.isSome
        && t.host == (whoOf s r.q).id) = false →
      runs .biconflict s fun t => t.coh = { s.coh with reqs := s.coh.reqs.erase r })
    ∧ ∀ (n : Nat) (h : Fin 64) (x : Txn), s.coh.txns.find? (fun x => x.id == n && x.await.any fun a => a.1 == h.val) = some x →
      runs (.biTimeout n h) s fun t =>
        t.get F.COH_CNT0_BI_TIMEOUT = min F.COH_CNT0_BI_TIMEOUT.max (s.get F.COH_CNT0_BI_TIMEOUT + 1) ∧ 1426 ∈ srcs t
        ∧ t.get (F.COH_HOST_STATE h) = (if s.get (F.COH_HOST_STATE h) = 0 then 1 else s.get (F.COH_HOST_STATE h))

/-- HOST_REMOVE, HOST_REMOVAL_COMPLETE, HOST_ADMIT, FLUSH_EXTENTS, CLEAR_DOUBTFUL_SETS, DOUBT_SWEEP (R193 to R198). -/
def Obligations.HostsAndFlushes : Prop :=
  ∀ (mid : Mid) (s : State),
    (∀ h : Fin 64,
      (s.bit F.COH_HOST_CMD_BUSY = false →
        (s.get (F.COH_HOST_STATE h) = 0 → runs (.hostRemove mid h) s fun t =>
          t.get (F.COH_HOST_STATE h) = 1 ∧ t.bit F.COH_HOST_CMD_BUSY = true)
        ∧ (s.get (F.COH_HOST_STATE h) = 2 → runs (.hostAdmit mid h) s fun t =>
          t.get (F.COH_HOST_STATE h) = 0 ∧ t.get F.COH_HOST_CMD_RESULT = 0 ∧ t.bit F.MGT_DONE_COH_HOST = true
          ∧ regsKept s t [(R.COH_HOST h).addr, R.COH_HOST_CMD.addr, R.MGT_DONE.addr] ∧ onlyRegs s t))
      ∧ ∀ r : Removal, s.coh.removals.find? (fun r => r.host == h.val) = some r → r.lines = [] →
        (∀ x ∈ s.coh.txns, ∀ a ∈ x.await, a.1 ≠ h.val) →
        runs (.hostRemovalComplete h false) s fun t =>
          t.get (F.COH_HOST_STATE h) = 2 ∧ t.coh = { s.coh with removals := s.coh.removals.filter fun x => x.host != h.val }
          ∧ srcs t = srcs s ++ [1425]
          ∧ (r.cmd = true → t.bit F.COH_HOST_CMD_BUSY = false ∧ t.get F.COH_HOST_CMD_RESULT = (if r.poisoned then 1 else 0)))
    ∧ (s.bit F.COH_FLUSH_CMD_BUSY = false →
      (∀ (base : BitVec 24) (count : BitVec 16), count ≠ 0#16 →
        (∀ x ∈ s.coh.ents, ¬(base.toNat ≤ entLine s x.1 x.2 / 2 ^ 22 ∧ entLine s x.1 x.2 / 2 ^ 22 < base.toNat + count.toNat)) →
        (∀ x ∈ s.coh.txns, ¬(base.toNat ≤ x.r.hla / 2 ^ 22 ∧ x.r.hla / 2 ^ 22 < base.toNat + count.toNat)) →
        runs (.flushExtents mid base count) s fun t =>
          t.get F.COH_FLUSH_CMD_RESULT = 0 ∧ t.bit F.COH_FLUSH_CMD_BUSY = false ∧ t.bit F.MGT_DONE_COH_FLUSH = true
          ∧ t.coh = { s.coh with flush := none } ∧ regsKept s t [R.COH_FLUSH_CMD.addr, R.MGT_DONE.addr])
      ∧ ∀ l : Fin 32, runs (.clearDoubtfulSets mid l) s fun t =>
        t.get F.COH_FLUSH_CMD_RESULT = 0
        ∧ (∀ set, set < 8192 → isDoubtful t (physOf s l) (secondRange s (physOf s l) l) set = false)
        ∧ t.coh.ents = s.coh.ents)
    ∧ ∀ (p : Fin 34) (n : Fin 131072) (k : Nat), k = 131072 * p.val + n.val → s.bit F.COH_SWEEP_EN = true →
      (dirEnt s k).state = 3 → lineTxn s (entLine s k (dirEnt s k)) = none →
      members s (lineGrp s (entLine s k (dirEnt s k))) = [] → s.coh.removals = [] → s.coh.flush = none →
      runs (.doubtSweep p n) s fun t => dirEnt t k = {} ∧ t.coh.reqs = s.coh.reqs

/-- SLICE_FAILED, SLICE_FAIL, ROTATION_START, ROTATION_DRAIN_END, ROTATION_DRAIN_TIMEOUT (R197, R200, R201). -/
def Obligations.SlicesFail : Prop :=
  ∀ (mid : Mid) (s : State),
    (∀ (c : Instr) (p : Fin 34), s.coh.rot = none →
      (∃ bad, c = .sliceFailed p bad) ∨ (∃ l : Fin 32, c = .sliceFail mid l ∧ physOf s l = p.val) →
      (∀ d, s.get (F.COH_SL_STATUS_ROLE p) = 0 → (freeSpares s).head? = some d → runs c s fun t =>
        t.get (F.COH_SL_STATUS_ROLE p) = 2 ∧ t.get (F.COH_SL_STATUS_ROLE d) = 0
        ∧ t.get (F.COH_SL_STATUS_LOGICAL d) = s.get (F.COH_SL_STATUS_LOGICAL p) ∧ 1488 + 4 * p.val ∈ srcs t)
      ∧ (s.get (F.COH_SL_STATUS_ROLE p) = 1 → runs c s fun t =>
        t.get (F.COH_SL_STATUS_ROLE p) = 2 ∧ srcs t = srcs s ++ [1488 + 4 * p.val] ∧ t.coh = s.coh))
    ∧ (∀ (c : Instr) (l d e : Nat) (ds : List Nat),
      (c = .rotationStart mid none ∧ l = rotPick s) ∨ (∃ n : Fin 32, c = .rotationStart mid (some n) ∧ l = n.val) →
      s.coh.rot = none → s.bit F.COH_CTRL_ROT_EN = true → freeSpares s = d :: e :: ds → physOf s l < 34 →
      runs c s fun t =>
        t.coh = { s.coh with rot := some ⟨l, physOf s l, d⟩, heldSlice := some l } ∧ t.bit F.COH_ROT_CTRL_BUSY = true
        ∧ regsKept s t [R.COH_ROT_CTRL.addr])
    ∧ ∀ r : RotOp, s.coh.rot = some r → r.src < 34 → r.dst < 34 → r.src ≠ r.dst →
      (drained s r.src = true → runs .rotationDrainEnd s fun t =>
        t.get (F.COH_SL_STATUS_ROLE r.src) = 3 ∧ t.get (F.COH_SL_STATUS_ROLE r.dst) = 0
        ∧ t.get (F.COH_SL_STATUS_LOGICAL r.dst) = s.get (F.COH_SL_STATUS_LOGICAL r.src)
        ∧ t.coh.rot = none ∧ t.coh.heldSlice = none ∧ t.get F.COH_ROT_CTRL_RESULT = 0 ∧ t.bit F.COH_ROT_CTRL_BUSY = false)
      ∧ runs .rotationDrainTimeout s fun t =>
        t.coh = { s.coh with rot := none, heldSlice := none } ∧ t.get F.COH_ROT_CTRL_RESULT = 2
        ∧ t.bit F.COH_ROT_CTRL_BUSY = false ∧ (srcs t).getLast? = some 1427

/-- EXTENT_GRANT, EXTENT_ACTIVATE, EXTENT_CANCEL, EXTENT_RELEASE, EXTENT_ZERO, EXTENT_READ, RELEASE_DRAIN_DONE, EXTENT_ZEROED,
MAP_SLOT_READ, MAP_SLOT_WRITE (R204, R208, R209, R213, R215). -/
def Obligations.Extents : Prop :=
  ∀ (mid : Mid) (s : State),
    (s.bit F.POOL_EXT_CMD_BUSY = false → ∀ b : Fin 32768,
      (∀ (c : Instr) (x : Ext),
        (∃ (shared : Bool) (owner dpa : BitVec 16), c = .extentGrant mid b shared owner dpa ∧ (extAt s b).state = 0
            ∧ (if shared then (shareGroup s owner.toNat).isSome = true
               else owner.toNat < 64 ∧ s.bit (F.POOL_LD_EN owner.toNat) = true)
            ∧ s.get F.POOL_STATUS_FAILED = 0
            ∧ x = { state := 1, shared := shared, owner := owner.toNat, dpaIndex := dpa.toNat })
          ∨ (c = .extentActivate mid b ∧ (extAt s b).state = 1 ∧ x = { extAt s b with state := 2 })
          ∨ (c = .extentCancel mid b ∧ (extAt s b).state = 1 ∧ x = {})
          ∨ (c = .extentRelease mid b ∧ (extAt s b).state = 2 ∧ x = { extAt s b with state := 3 })
          ∨ (c = .extentZero mid b ∧ (extAt s b).state = 3 ∧ s.pool.zeroing.length < 4 ∧ x = { extAt s b with state := 4 }) →
        runs c s fun t =>
          extAt t b = x ∧ (∀ d, d ≠ b.val → extAt t d = extAt s d) ∧ t.get F.POOL_EXT_CMD_RESULT = 0
          ∧ (t.bit F.POOL_EXT_CMD_BUSY = true ↔ c = .extentRelease mid b)
          ∧ t.pool.releasing = (if c = .extentRelease mid b then some b.val else s.pool.releasing)
          ∧ t.pool.zeroing = s.pool.zeroing ++ (if c = .extentZero mid b then [b.val] else [])
          ∧ t.pool.data = s.pool.data
          ∧ regsKept s t [R.POOL_EXT_CMD.addr, R.POOL_STATUS.addr, R.MGT_DONE.addr])
      ∧ runs (.extentRead mid b) s fun t =>
          t.get F.POOL_EXT_DATA_ENTRY = extWord (extAt s b) % 2 ^ 64 ∧ t.get F.POOL_EXT_CMD_RESULT = 0
          ∧ regsKept s t [R.POOL_EXT_CMD.addr, R.POOL_EXT_DATA.addr, R.MGT_DONE.addr] ∧ onlyRegs s t)
    ∧ (∀ b : Nat, s.pool.releasing = some b → extBusy s b = false → runs .releaseDrainDone s fun t =>
        t.pool = { s.pool with releasing := none } ∧ t.bit F.POOL_EXT_CMD_BUSY = false ∧ t.bit F.MGT_DONE_POOL_EXT = true)
    ∧ (∀ b : Fin 24576, s.pool.zeroing.contains b.val = true → runs (.extentZeroed (some b)) s fun t =>
        tget {} t.pool.ext b = {} ∧ t.pool.zeroing = s.pool.zeroing.erase b.val
        ∧ ∀ a, tget 0#8 t.pool.data a = if a / 2 ^ 28 = b.val then 0#8 else tget 0#8 s.pool.data a)
    ∧ (runs (.extentZeroed none) s fun t =>
        t.pool.leatDirty = false ∧ t.pool.data = s.pool.data
        ∧ (s.pool.leatDirty = false → s.pool.zeroFrom < s.pool.zeroEnd → t.pool.zeroFrom = s.pool.zeroFrom + 1 ∧ t.regs = s.regs))
    ∧ ∀ n : BitVec 16,
      (runs (.mapSlotWrite mid n) s fun t =>
        mapSlot t n.toNat = s.get F.POOL_MAP_DATA_BACKING ∧ (∀ k, k ≠ n.toNat → mapSlot t k = mapSlot s k)
        ∧ regsKept s t [R.POOL_MAP_CMD.addr])
      ∧ runs (.mapSlotRead mid n) s fun t =>
        t.get F.POOL_MAP_DATA_BACKING = mapSlot s n.toNat % 65536
        ∧ regsKept s t [R.POOL_MAP_CMD.addr, R.POOL_MAP_DATA.addr] ∧ onlyRegs s t

/-- POOL_INIT, DRAM_ACCESS, CHANNEL_FAILED, PHY_TRAINING_LOST, CHANNEL_RETRAIN_COMPLETE, ERROR_WINDOW_EXPIRE, PATROL_SCRUB_READ,
DRAM_REFRESH (R204, R207, R217 to R222). -/
def Obligations.Channels : Prop :=
  ∀ s : State,
    (∀ f : PoolFind, s.pwr.poolUp = true → s.pool.up = false → runs (.poolInit f) s fun t =>
        t.pool.up = true ∧ (t.get F.POOL_STATUS_STATE = 1 ∨ t.get F.POOL_STATUS_STATE = 2) ∧ t.pool.data = s.pool.data
        ∧ ((∀ x ∈ f.slots, x = none) → t.get F.POOL_STATUS_STATE = 2)
        ∧ (t.get F.POOL_STATUS_STATE = 1 → t.pool.zeroFrom = 0 ∧ t.pool.zeroEnd = t.get F.POOL_LEAT_FIRST))
    ∧ (∀ (c : Fin 12) (e : LineErr) (bw : Nat) (q : Pkt) (qs : List Pkt), tget [] s.pool.chq c = q :: qs →
        s.pool.retrain.contains c.val = false → s.bit F.CRP_PWR_STBY_NOW = false → s.hasBit F.POOL_STATUS_FAILED c = false →
        (q.cls = .mRwD → q.op = .mWr → q.addr % 64 = 0 → q.data.length = 64 → runs (.dramAccess c e false bw) s fun t =>
          tgets 0#8 t.pool.data q.addr 64 = q.data ∧ tget [] t.pool.chq c = qs ∧ linePoison t (q.addr / 64) = q.poison
          ∧ ∀ a, a < q.addr ∨ q.addr + 64 ≤ a → tget 0#8 t.pool.data a = tget 0#8 s.pool.data a)
        ∧ (q.cls = .mReq → q.op = .mRd → lineErr s q.addr e = .ok → runs (.dramAccess c e false bw) s fun t =>
          t.pool = { s.pool with chq := tput [] s.pool.chq c qs } ∧ t.regs = s.regs
          ∧ ∀ (x : Nat) (a r : Pkt),
            a = { reply q .sDrs .memData 0 (linePoison s (q.addr / 64)) with data := dramRd s q.addr 64, len := 64 } →
            backTo s q a = .to x r →
            ∃ y, t.mill.presented = s.mill.presented ++ [y] ∧ y.dst = some x ∧ y.pkt.data = r.data ∧ y.pkt.poison = r.poison))
    ∧ (∀ c : Fin 12,
        (s.pool.retrain.contains c.val = true → s.hasBit F.POOL_STATUS_FAILED c = false → runs (.channelFailed c) s fun t =>
          t.hasBit F.POOL_STATUS_FAILED c = true ∧ t.pool = { s.pool with retrain := s.pool.retrain.erase c.val }
          ∧ srcs t = srcs s ++ [1624 + 8 * c.val + 4])
        ∧ (s.hasBit F.POOL_CFG_CHANNELS c = true → s.hasBit F.POOL_STATUS_FAILED c = false →
          s.pool.retrain.contains c.val = false →
          runs (.phyTrainingLost c) s fun t => t = { s with pool := { s.pool with retrain := s.pool.retrain ++ [c.val] } })
        ∧ (runs (.channelRetrainComplete c) s fun t =>
          t = { s with pool := { s.pool with retrain := s.pool.retrain.erase c.val } })
        ∧ (s.hasBit F.POOL_CFG_CHANNELS c = true → tget 0 s.pool.refreshes c + 1 < 8192 → runs (.dramRefresh c) s fun t =>
          tget 0 t.pool.refreshes c = tget 0 s.pool.refreshes c + 1 ∧ t.pool.data = s.pool.data ∧ t.pool.poison = s.pool.poison))
    ∧ (runs .errorWindowExpire s fun t => t = { s with pool := { s.pool with ce := [], ue := [] } })
    ∧ ∀ l : Nat, s.bit F.POOL_SCRUB_EN = true → s.bit F.FAN_CTRL_SCRUB_EN = true → s.bit F.CRP_PWR_STBY_NOW = false →
        s.get F.POOL_STATUS_STATE = 1 → scrubNext s s.pool.scrubPos 24577 = some l → lineErr s (64 * l) .ok = .ok →
        runs (.patrolScrubRead .ok) s fun t =>
          t.pool = { s.pool with scrubPos := l + 1 } ∧ regsKept s t [R.POOL_SCRUB.addr] ∧ { t with regs := s.regs, pool := s.pool } = s

/-- CONFIG_REQUEST, WINDOW_ACCESS, DOORBELL, FN_CFG_WRITE, QMAP_WRITE, QMAP_READ, D3HOT_ENTER, D0_RETURN (R154, R227 to R234). -/
def Obligations.HostAccesses : Prop :=
  ∀ s : State,
    (∀ (v : Fin 64) (k : Fin 256) (r : CfgReg), s.bit (F.RTE_VCS_CFG_PRESENT v) = true →
      runs (.configRequest v .usp r none) s (fun t => t = s.out (.cfg v 0 (uspRd s v r)))
      ∧ (k.val < s.get (F.RTE_VCS_CFG_VPPBS v) →
        runs (.configRequest v (.vppb k) r none) s (fun t => t = s.out (.cfg v 0 (vppbRd s v k r)))
        ∧ ∀ d : Nat, runs (.configRequest v (.vppb k) .mem (some d)) s fun t =>
          (t.vx v k).mem = rangeOf d ∧ t.outs = s.outs ++ [.cfg v 0 0] ∧ t.regs = s.regs)
      ∧ (s.get (F.RTE_VCS_CFG_VPPBS v) ≤ k.val → ∀ w, runs (.configRequest v (.vppb k) r w) s fun t => t = s.out (.cfg v 1 0)))
    ∧ (∀ (n : Fin 1024), (fnVcs s n).isSome = true → (s.fx n).shut = none →
      (s.hasBit F.CRP_VCS_RESET_ACTIVE (fnHome s n) = false → isVf s n = false →
        (runs (.d3hotEnter n) s fun t => (t.fx n).d3 = true ∧ t.outs.getLast? = some (.cfg (fnHome s n) 0 0))
        ∧ (runs (.d0Return n) s fun t => (t.fx n).d3 = false ∧ t.outs.getLast? = some (.cfg (fnHome s n) 0 0)))
      ∧ ((s.fx n).d3 = false →
        (∀ (q : Fin 64) (v : BitVec 32), q.val < s.get (F.HEP_FN_CFG_QCOUNT n) →
          runs (.doorbell n q v) s fun t =>
            tget 0 (t.fx n).tails q = v.toNat
            ∧ (∀ e c k, queueChan s n q = some (e, c) → k = ringSize s e c → 0 < k → k ≤ 65536 →
              t.get (F.HOP_CH_PTR_TAIL e c) = v.toNat % k
              ∧ (fnShare s n ≤ fnOcc s n → (t.fx n).held
                = (s.fx n).held ++ List.replicate ((v.toNat % k + k - tget 0 (s.fx n).tails q % k) % k) q.val)))
        ∧ (fnMemOn s n = true → ∀ (a : BarAcc) (e : LineErr),
          (a.page = true → a.data = none → a.off = 0x408 → a.len = 4 →
            runs (.windowAccess n a e) s fun t =>
              (∃ y, t.mill.presented = s.mill.presented ++ [y] ∧ y.pkt.tag = a.tag ∧ y.pkt.status = 0
                ∧ y.pkt.data = leBytes 4 ((s.fx n).irq % 2))
              ∧ { t with mill := s.mill } = s)
          ∧ ∀ (d : Bytes) (b : Nat), a.page = false → a.data = some d → 1 ≤ d.length → d.length ≤ 512 →
            winSize s n ≠ 0 → a.off + d.length ≤ 2 ^ winSize s n → b = s.get (F.HEP_FN_WIN_BASE n) * 4096 + a.off →
            b + d.length ≤ 0x1000000 → mpuCheck s (mpuBridge n) (bridgeMid n) false .write b d.length = .allow →
            banksAns s (bridgeMid n) b d.length = .go → (∀ w ∈ wordsOf b d.length, spdMark s w = 0) →
            runs (.windowAccess n a e) s fun t =>
              tgets 0#8 t.spd b d.length = d
              ∧ ∀ x, x < b ∨ b + d.length ≤ x → tget 0#8 t.spd x = tget 0#8 s.spd x)))
    ∧ (∀ (mid : Mid) (n : Fin 1024) (v : BitVec 64), fnState s n ≤ 1 →
      (fnCfgOk s n (wrFull mid true v) = true → runs (.fnCfgWrite mid n v) s fun t =>
        t.get (F.HEP_FN_CFG_EXPORT n) = bitsGet v 63 63 ∧ t.get (F.HEP_FN_CFG_VCS n) = bitsGet v 62 57
        ∧ t.get (F.HEP_FN_CFG_SLOT n) = bitsGet v 56 49 ∧ fnShare t n = bitsGet v 47 32
        ∧ t.get (F.HEP_FN_CFG_QCOUNT n) = bitsGet v 31 25 ∧ t.get (F.HEP_FN_CFG_VEC_COUNT n) = bitsGet v 24 18
        ∧ t.get (F.HEP_FN_CFG_VEC_BASE n) = bitsGet v 13 0)
      ∧ (fnCfgOk s n (wrFull mid true v) = false → runs (.fnCfgWrite mid n v) s fun t =>
        srcs t = srcs s ++ [1] ∧ regsKept s t [R.BRK_LOSS.addr] ∧ onlyRegsEvents s t))
    ∧ ∀ (mid : Mid) (n : Fin 1024) (q : Fin 64), q.val < s.get (F.HEP_FN_CFG_QCOUNT n) →
      (runs (.qmapRead mid n q) s fun t =>
        t.get F.HEP_QMAP_CMD_RESULT = 0 ∧ t.bit F.HEP_QMAP_DATA_VALID = (queueChan s n q).isSome
        ∧ (∀ e c, queueChan s n q = some (e, c) →
          t.get F.HEP_QMAP_DATA_ENGINE = e % 16 ∧ t.get F.HEP_QMAP_DATA_CHANNEL = c % 64)
        ∧ regsKept s t [R.HEP_QMAP_CMD.addr, R.HEP_QMAP_DATA.addr] ∧ onlyRegs s t)
      ∧ ∀ e c : Nat, fnState s n ≤ 1 → s.bit F.HEP_QMAP_DATA_VALID = true → e = s.get F.HEP_QMAP_DATA_ENGINE →
        c = s.get F.HEP_QMAP_DATA_CHANNEL → chFn s e c = none →
        runs (.qmapWrite mid n q) s fun t =>
          t.get F.HEP_QMAP_CMD_RESULT = 0 ∧ queueChan t n q = some (e, c) ∧ t.bit (F.HOP_CH_CFG_FN_VALID e c) = true
          ∧ t.get (F.HOP_CH_CFG_FN e c) = n.val ∧ t.get (F.HOP_CH_CFG_QUEUE e c) = q.val

/-- DPC_TRIGGER, DPC_CLEAR, VPPB_LINK_DISABLE, SECONDARY_BUS_RESET (R161, R238 to R242). -/
def Obligations.Containment : Prop :=
  ∀ (v : Fin 64) (k : Fin 256) (s : State),
    (∀ sw : Bool, (s.vx v k).contained = false → isFnVppb s v k = false →
      (if sw then (s.vx v k).dpcEnable ≠ 0 else dpcDue (s.vx v k) = true) →
      runs (.dpcTrigger v k sw) s fun t =>
        (t.vx v k).contained = true ∧ (t.vx v k).dpcReason = (if sw then 3 else 0)
        ∧ (∀ p, wholePort s v k = some p → (t.px p).dpc = some (v.val, k.val) ∧ linkOff t p = true)
        ∧ t.spd = s.spd ∧ t.fuse = s.fuse)
    ∧ ((s.vx v k).contained = true → dpcClearOk s v k = true → runs (.dpcClear v k) s fun t =>
        (t.vx v k).contained = false ∧ (∀ p : Fin 96, (t.px p).dpc ≠ some (v.val, k.val)) ∧ t.mill = s.mill)
    ∧ (runs (.vppbLinkDisable v k) s fun t => (t.vx v k).linkDisable = true)
    ∧ ∀ link : Bool, s.bit (F.HEP_VCS_EN v) = true → runs (.secondaryBusReset v link) s fun t =>
        ∀ n, n < 1024 → fnIn s n v = true → (t.fx n).shut.isSome = true

/-- FUNCTION_LEVEL_RESET, BUS_MASTER_ENABLE_CLEAR, VF_ENABLE_CLEAR, TAG_RECLAIM, TAG_RELEASE, SHUTDOWN_COMPLETE (R242 to R247). -/
def Obligations.Shutdowns : Prop :=
  ∀ (n : Fin 1024) (s : State),
    ((fnVcs s n).isSome = true → (s.fx n).shut = none → s.hasBit F.CRP_VCS_RESET_ACTIVE (fnHome s n) = false →
      (runs (.functionLevelReset n) s fun t =>
        (t.fx n).shut = some .flr ∧ (t.fx n).held = [] ∧ t.outs.getLast? = some (.cfg (fnHome s n) 0 0))
      ∧ (fnBme s n = true → runs (.busMasterEnableClear n) s fun t =>
        (t.fx n).shut = some .bme ∧ fnBme t n = false ∧ t.outs.getLast? = some (.cfg (fnHome s n) 0 0))
      ∧ (n = 0 → (s.fx 0).vfEnable = true → runs .vfEnableClear s fun t =>
        (t.fx 0).vfEnable = false ∧ ∀ m, m < 1024 → isVf s m = true → (fnVcs s m).isSome = true → (t.fx m).shut.isSome = true))
    ∧ ((s.fx n).shut.isSome = true → runs (.tagReclaim n) s fun t =>
      (t.fx n).out = [] ∧ (t.fx n).reclaimed = (s.fx n).reclaimed ++ (s.fx n).out.map (fun y => y.1)
      ∧ t.get F.HEP_CNT0_TAG_RECLAIM = min F.HEP_CNT0_TAG_RECLAIM.max (s.get F.HEP_CNT0_TAG_RECLAIM + (s.fx n).out.length)
      ∧ regsKept s t [R.HEP_CNT0.addr])
    ∧ (runs (.tagRelease n) s fun t => t.fx n = { s.fx n with reclaimed := [] } ∧ { t with hep := s.hep } = s)
    ∧ ∀ c : ShutCause, (s.fx n).shut = some c → (s.fx n).out = [] → runs (.shutdownComplete n) s fun t =>
      (t.fx n).shut = none ∧ (t.fx n).held = [] ∧ (t.fx n).vfIdle = (c == .vf)
      ∧ (if c = .bme then (t.fx n).cmd = (s.fx n).cmd ∧ (t.fx n).bar0 = (s.fx n).bar0
         else (t.fx n).cmd = 0 ∧ (t.fx n).bar0 = 0 ∧ (t.fx n).tails = [] ∧ (t.fx n).aer = (s.fx n).aer)

/-- FREEZE, FREEZE_COMPLETE, FREEZE_TIMEOUT, SAVE, RESTORE, UNFREEZE (R248 to R251). -/
def Obligations.Migration : Prop :=
  ∀ (mid : Mid) (n : Fin 1024) (s : State),
    (s.bit F.HEP_MIG_CMD_BUSY = false → n ≠ 0 →
      ((fnVcs s n).isSome = true → fnState s n = 1 ∨ fnState s n = 2 ∨ fnState s n = 5 → (s.fx n).freezing = false →
        runs (.freeze mid n) s fun t =>
          ((t.fx n).freezing = true ∧ t.bit F.HEP_MIG_CMD_BUSY = true)
          ∨ ((t.fx n).frozen = true ∧ t.bit F.HEP_MIG_CMD_BUSY = false ∧ t.get F.HEP_MIG_CMD_RESULT = 0))
      ∧ ((s.fx n).frozen = true →
        (runs (.unfreeze mid n) s fun t =>
          (t.fx n).frozen = false ∧ t.get F.HEP_MIG_CMD_RESULT = 0 ∧ t.bit F.MGT_DONE_HEP_MIG = true)
        ∧ (∀ a len : Nat, a = s.get F.HEP_MIG_ADDR_ADDR →
          len = recLen (s.get (F.HEP_FN_CFG_QCOUNT n)) (s.get (F.HEP_FN_CFG_VEC_COUNT n)) → (s.fx n).incomplete = false →
          a % 64 = 0 → a + len ≤ 0x1000000 → (∀ w ∈ wordsOf a len, spdMark s w = 0) →
          (saveRec s n (crc32 (saveRec s n 0))).length = len →
          runs (.save mid n) s fun t =>
            t.get F.HEP_MIG_CMD_RESULT = 0 ∧ tgets 0#8 t.spd a len = saveRec s n (crc32 (saveRec s n 0))
            ∧ t.hep = s.hep ∧ ∀ x, x < a ∨ a + len ≤ x → tget 0#8 t.spd x = tget 0#8 s.spd x)
        ∧ ∀ (a len q k : Nat) (h r : Bytes), a = s.get F.HEP_MIG_ADDR_ADDR → q = u8 h 0x0C → k = u8 h 0x0D → len = recLen q k →
          h = recGet s a 72 [] → r = recGet s a len [] → a % 64 = 0 → mapHolds a 72 = true → mapHolds a len = true →
          slice h 0 4 = [0x4D#8, 0x47#8, 0x52#8, 0x54#8] → leN h 4 2 = 1 → q ≤ 64 → k ≤ 64 → leN h 8 4 = len →
          crc32 (r.take 0x20 ++ List.replicate 4 0#8 ++ r.drop 0x24) = leN h 0x20 4 →
          q = s.get (F.HEP_FN_CFG_QCOUNT n) → k = s.get (F.HEP_FN_CFG_VEC_COUNT n) →
          (∀ j, j < q → (queueChan s n j).isSome = true) →
          runs (.restore mid n []) s fun t =>
            t.get F.HEP_MIG_CMD_RESULT = 0 ∧ t.bit F.MGT_DONE_HEP_MIG = true ∧ (t.fx n).frozen = true
            ∧ (t.fx n).irq = leN h 0x10 4 ∧ (t.fx n).cmd = leN h 0x14 2 ∧ fnShare t n = leN h 0x0E 2))
    ∧ ((s.fx n).freezing = true →
      (fnBusy s n = false → runs (.freezeComplete n) s fun t =>
        (t.fx n).frozen = true ∧ (t.fx n).freezing = false ∧ (t.fx n).incomplete = false
        ∧ t.get F.HEP_MIG_CMD_RESULT = 0 ∧ t.bit F.HEP_MIG_CMD_BUSY = false)
      ∧ ((s.fx n).out ≠ [] → runs (.freezeTimeout n) s fun t =>
        (t.fx n).frozen = true ∧ (t.fx n).freezing = false ∧ (t.fx n).incomplete = true ∧ (t.fx n).out = []
        ∧ t.get F.HEP_MIG_CMD_RESULT = 2 ∧ t.bit F.HEP_MIG_CMD_BUSY = false))

/-- DESCRIPTOR_FETCH, HAND_OVER, FETCH_TIMEOUT, CHAIN_COMPLETE (R256, R262 to R265, R270 to R272). -/
def Obligations.ChannelsTakeDescriptors : Prop :=
  ∀ (e : Fin 16) (c : Fin 64) (s : State), engFailed s e = false →
    (∀ (a : Nat) (d : HopDesc),
      (regMode s e c = false ∧ (s.hc e c).work = [] ∧ ringSize s e c ≠ 0
        ∧ s.get (F.HOP_CH_PTR_HEAD e c) % ringSize s e c ≠ s.get (F.HOP_CH_PTR_TAIL e c) % ringSize s e c
        ∧ a = s.get (F.HOP_CH_RING_BASE e c) * 64 + 64 * (s.get (F.HOP_CH_PTR_HEAD e c) % ringSize s e c)
        ∧ d = { words := [], loc := some (a, 0), first := true, n := 1 })
      ∨ (∃ x, (s.hc e c).work = [x] ∧ x.nextValid = true ∧ x.ended = none ∧ s.bit (F.HOP_CH_SHD_CTRL_ARM e c) = false
        ∧ x.n < chainLimit s e c ∧ a = x.next ∧ x.nextSp = 0
        ∧ d = { words := [], loc := some (a, 0), first := false, n := x.n + 1, again := x.again }) →
      chState s e c = 1 ∨ chState s e c = 2 → s.get (F.HOP_CH_STATUS_PAUSED_BY e c) = 0 → (s.hc e c).fetch = none →
      (s.hc e c).shadow = none → (s.hc e c).abort = false → chFn s e c = none → a + 64 ≤ 0x1000000 →
      mpuCheck s (mpuEng e) (0x010 + e.val) true .read a 64 = .allow →
      runs (.descriptorFetch e c) s fun t =>
        (∃ f, (t.hc e c).fetch = some f ∧ f.desc = d ∧ f.again = false)
        ∧ t.spdX.portB = s.spdX.portB
          ++ [{ id := s.hop.next, eng := e, ch := c, mid := 0x010 + e.val, write := false, addr := a, len := 64, data := [] }]
        ∧ t.regs = s.regs ∧ (t.hc e c).work = (s.hc e c).work)
    ∧ (∀ d x : HopDesc, x = { d with words := ([0, 1, 2, 3, 4, 5, 6, 7] : List Nat).map fun k => s.rd (R.HOP_CH_SHD e c k) } →
      ((s.hc e c).shadow = some d ∧ d.first = true ∧ d.bursts = [] ∧ d.ended = none)
        ∨ ((s.hc e c).shadow = none ∧ regMode s e c = true ∧ s.bit (F.HOP_CH_SHD_CTRL_ARM e c) = true
          ∧ d = { words := [], loc := none, first := true, n := 1 }) →
      chState s e c = 1 ∨ chState s e c = 2 → s.get (F.HOP_CH_STATUS_PAUSED_BY e c) = 0 → (s.hc e c).abort = false →
      (s.hc e c).work = [] →
      (descCheck (spaceOk s e c) (s.bit (F.HOP_ENG_STATUS_MODE e)) x = none → runs (.handOver e c) s fun t =>
        chState t e c = 2 ∧ (t.hc e c).shadow = none ∧ (∃ y, (t.hc e c).work = [y] ∧ y.words = x.words ∧ y.loc = d.loc)
        ∧ (∀ k, k < 8 → t.rd (R.HOP_CH_ACT e c k) = s.rd (R.HOP_CH_SHD e c k))
        ∧ t.bit (F.HOP_CH_SHD_CTRL_ARM e c) = false
        ∧ t.get (F.HOP_CH_SWAP_COUNT e c) = (s.get (F.HOP_CH_SWAP_COUNT e c) + 1) % 2 ^ 32
        ∧ srcs t = srcs s ∧ t.spd = s.spd)
      ∧ ∀ k, descCheck (spaceOk s e c) (s.bit (F.HOP_ENG_STATUS_MODE e)) x = some k → runs (.handOver e c) s fun t =>
        chState t e c = 4 ∧ t.get (F.HOP_CH_STATUS_CODE e c) = 4 ∧ t.get (F.HOP_CH_STATUS_DETAIL e c) = k)
    ∧ (∀ (f : HopFetch) (p : Piece), (s.hc e c).fetch = some f → f.reads.find? (fun p => !p.ok) = some p → p.space < 3 →
      (s.hc e c).work = [] → runs (.fetchTimeout e c) s fun t =>
        chState t e c = 4 ∧ t.get (F.HOP_CH_STATUS_CODE e c) = 3 ∧ t.get (F.HOP_CH_STATUS_DETAIL e c) = 4
        ∧ t.get (F.HOP_CH_STATUS_DIR e c) = 2 ∧ t.get (F.HOP_CH_STATUS_SPACE e c) = p.space
        ∧ t.rd (R.HOP_CH_ERR_ADDR e c) = BitVec.ofNat 64 p.addr ∧ (t.hc e c).fetch = none)
    ∧ ∀ (d : HopDesc) (a : Nat) (b : Bytes),
      a = s.get (F.HOP_CH_CQ_BASE e c) * 32 + 32 * (s.get (F.HOP_CH_PTR_HEAD e c) % max 1 (ringSize s e c)) →
      b = recBytes 0 0 (s.hc e c).phase d.irq d.tag d.n 0 (descResult d) →
      (s.hc e c).work = [d] → (∀ f, (s.hc e c).fetch = some f → f.again = false) → d.ended = some 0 → d.again = false → chState s e c = 2 → chFn s e c = none → regMode s e c = false →
      s.bit (F.HOP_CH_CQ_EN e c) = false ∨ (s.get (F.HOP_CH_CQ_SPACE e c) = 0 ∧ a + 32 ≤ 0x1000000
        ∧ mpuCheck s (mpuEng e) (0x010 + e.val) true .write a 32 = .allow ∧ bankAns s (bankOf a) (0x010 + e.val) false ≠ .refuse) →
      runs (.chainComplete e c) s fun t =>
        chState t e c = 1 ∧ (t.hc e c).work = []
        ∧ t.get (F.HOP_CH_PTR_HEAD e c) = (s.get (F.HOP_CH_PTR_HEAD e c) + 1) % max 1 (ringSize s e c) % 65536
        ∧ t.get (F.HOP_ENG_CNT_CHAINS e) = min (F.HOP_ENG_CNT_CHAINS e).max (s.get (F.HOP_ENG_CNT_CHAINS e) + 1)
        ∧ (d.irq = true → t.hasBit (F.HOP_ENG_IRQ_CH e) c = true)
        ∧ t.rd (R.HOP_CH_LAST e c 0) = BitVec.ofNat 64 (leN b 0 8)
        ∧ (s.bit (F.HOP_CH_CQ_EN e c) = true → t.spdRd a 32 = b)
        ∧ (∀ i, i < a ∨ a + 32 ≤ i → tget 0#8 t.spd i = tget 0#8 s.spd i)
        ∧ ∀ k : Nat, k ≠ 64 * e.val + c.val → tget {} t.hop.chs k = tget {} s.hop.chs k

/-- BURST_ISSUE, READ_DATA_ARRIVE, DATA_TIMEOUT, HOST_COMPLETION_TIMEOUT (R255, R260, R271, R278). -/
def Obligations.ChannelsMoveData : Prop :=
  ∀ (e : Fin 16) (c : Fin 64) (d : HopDesc) (s : State), (s.hc e c).work = [d] → engFailed s e = false →
    (∀ n : Nat, n = burstLen (d.len - d.issued) (d.src + d.issued) (d.dst + d.issued) → chState s e c = 2 →
      (s.hc e c).abort = false → (∀ k : Fin 64, k ≠ c → issueCh s e k = none) → d.bursts = [] → d.ended = none → d.op = 1 →
      d.xform = 0 → d.srcSp = 0 → d.issued < d.len → chFn s e c = none → d.src + d.issued + n ≤ 0x1000000 →
      mpuCheck s (mpuEng e) (0x010 + e.val) true .read (d.src + d.issued) n = .allow →
      runs (.burstIssue e) s fun t =>
        (∃ b, (t.hc e c).work = [addBurst d b] ∧ b.kind = .data ∧ b.off = d.issued ∧ b.len = n ∧ b.err = none
          ∧ (b.reads.map fun p => (p.addr, p.len)) = rowsOf 64 (n + 1) (d.src + d.issued) n)
        ∧ ((t.spdX.portB.drop s.spdX.portB.length).map fun r => (r.addr, r.len, r.write))
          = (rowsOf 64 (n + 1) (d.src + d.issued) n).map (fun r => (r.1, r.2, false))
        ∧ tget 0 t.hop.turn e = (c.val + 1) % 64 ∧ t.regs = s.regs ∧ t.spd = s.spd)
    ∧ (∀ (q : Pkt) (b : Burst), s.hopIn.find? (fun x => x.1 == e.val) = some (e.val, q) → q.cls ≠ .ioCpl →
      idChan s e q.tag = some c.val → chState s e c = 2 → (s.hc e c).fetch = none → d.bursts = [b] → b.kind = .data → b.err = none →
      b.other = [] → d.op = 1 → d.xform = 0 → q.status = 0 → q.poison = false →
      (∀ p : Piece, b.issued = false → b.reads = [p] → p.id = q.tag → p.ok = false → p.got = [] → p.skip = 0 →
        p.len = q.data.length → b.len = q.data.length → q.data ≠ [] → d.dstSp = 0 → chFn s e c = none →
        d.dst + b.off + b.len ≤ 0x1000000 →
        mpuCheck s (mpuEng e) (0x010 + e.val) true .write (d.dst + b.off) b.len = .allow →
        runs (.readDataArrive e) s fun t =>
          (∃ b', (t.hc e c).work = [{ d with bursts := [b'] }] ∧ b'.issued = true ∧ b'.writes ≠ [] ∧ b'.err = none ∧ b'.len = b.len)
          ∧ ((t.spdX.portB.drop s.spdX.portB.length).map fun r => (r.addr, r.len, r.write))
            = (rowsOf 64 (b.len + 1) (d.dst + b.off) b.len).map (fun r => (r.1, r.2, true))
          ∧ ((t.spdX.portB.drop s.spdX.portB.length).flatMap fun r => r.data) = q.data
          ∧ t.hopIn = s.hopIn.erase (e.val, q))
      ∧ (b.issued = true → b.writes = [q.tag] → b.reads.all (fun p => p.ok) = true → d.issued = d.len → d.done + b.len = d.len →
        d.nextValid = false → d.ended = none → d.entry = none →
        runs (.readDataArrive e) s fun t =>
          (t.hc e c).work = [{ d with bursts := [], done := d.len, ended := some 0 }] ∧ t.spd = s.spd))
    ∧ ∀ (b : Burst) (p : Piece), d.bursts = [b] → b.err = none → b.reads = [p] → b.other = [] → p.ok = false → p.space < 3 →
      (s.hc e c).fetch = none → chState s e c ≠ 5 →
      (∀ cmd : Instr,
        (cmd = .dataTimeout e c ∧ p.space ≠ 2)
        ∨ (∃ (n : Fin 1024) (tag : Fin 1024), cmd = .hostCompletionTimeout n tag ∧ p.id = hostId n tag
            ∧ (s.fx n).out.find? (fun x => x.1 == tag.val) = some (tag.val, e.val, c.val) ∧ (s.fx n).shut = none) →
        runs cmd s fun t =>
          chState t e c = 4 ∧ t.get (F.HOP_CH_STATUS_CODE e c) = 3 ∧ t.get (F.HOP_CH_STATUS_DETAIL e c) = 3
          ∧ t.get (F.HOP_CH_STATUS_SPACE e c) = p.space
          ∧ t.get (F.HOP_CH_STATUS_DIR e c) = (if b.kind = .atomic then 1 else 0)
          ∧ t.rd (R.HOP_CH_ERR_ADDR e c) = BitVec.ofNat 64 p.addr)
      ∧ ∀ (n : Fin 1024) (tag : Fin 1024), p.id = hostId n tag →
        (s.fx n).out.find? (fun x => x.1 == tag.val) = some (tag.val, e.val, c.val) → (s.fx n).shut = none →
        runs (.hostCompletionTimeout n tag) s fun t =>
          ((t.fx n).out.all fun x => x.1 != tag.val) = true ∧ (1984 + 2 * (n.val / 16) + 1) ∈ srcs t

/-- CHANNEL_ENABLE, CHANNEL_DISABLE, CHANNEL_PAUSE, CHANNEL_RESUME, CHANNEL_RETRY, CHANNEL_SKIP, CHANNEL_CLEAR, CHANNEL_ABORT,
ABORT_COMPLETE, TAIL_WRITE, SHADOW_WRITE, SHADOW_ARM, SHADOW_DISARM, ENGINE_MODE_WRITE, ENGINE_FAILED, ENGINE_FAIL (R256, R264 to
R266, R273 to R276). -/
def Obligations.ChannelsObey : Prop :=
  ∀ (mid : Mid) (e : Fin 16) (c : Fin 64) (s : State),
    (chState s e c = 0 → runs (.channelEnable mid e c) s fun t =>
      t.bit (F.HOP_CH_CTRL_EN e c) = true ∧ chState t e c = 1 ∧ t.get (F.HOP_CH_CTRL_PAUSE e c) = s.get (F.HOP_CH_CTRL_PAUSE e c))
    ∧ (chState s e c = 1 ∨ chState s e c = 4 → runs (.channelDisable mid e c) s fun t =>
      t.bit (F.HOP_CH_CTRL_EN e c) = false ∧ chState t e c = 0 ∧ (t.hc e c).work = [])
    ∧ (chState s e c = 2 ∨ chState s e c = 3 ∨ chState s e c = 5 → s.bit (F.HOP_CH_CTRL_EN e c) = true →
      runs (.channelDisable mid e c) s fun t =>
        t.bit (F.HOP_CH_CTRL_EN e c) = true ∧ chState t e c = chState s e c ∧ srcs t = srcs s ++ [1])
    ∧ (chState s e c = 2 → s.bit (F.HOP_CH_CTRL_PAUSE e c) = false → runs (.channelPause mid e c) s fun t =>
      t.bit (F.HOP_CH_CTRL_PAUSE e c) = true ∧ chState t e c = 3 ∧ t.hasBit (F.HOP_CH_STATUS_PAUSED_BY e c) 0 = true
      ∧ t.hop = s.hop)
    ∧ (chState s e c = 3 → s.bit (F.HOP_CH_CTRL_PAUSE e c) = true → s.get (F.HOP_CH_STATUS_PAUSED_BY e c) = 1 →
      (s.hc e c).resume = none → (s.hc e c).fetch = none → runs (.channelResume mid e c) s fun t =>
        t.bit (F.HOP_CH_CTRL_PAUSE e c) = false ∧ t.get (F.HOP_CH_STATUS_PAUSED_BY e c) = 0
        ∧ chState t e c = (if (s.hc e c).work = [] then 1 else 2) ∧ t.hop = s.hop)
    ∧ (chState s e c = 4 → s.bit (F.HOP_CH_CTRL_EN e c) = true → engFailed s e = false →
      (∀ d : HopDesc, s.get (F.HOP_CH_STATUS_CODE e c) ≠ 2 → (s.hc e c).halted = some d →
        ((s.hc e c).limit = none → d.loc = none → runs (.channelRetry mid e c) s fun t =>
          chState t e c = goState s e c ∧ (t.hc e c).work = d :: (s.hc e c).work ∧ (t.hc e c).halted = none)
        ∧ ∀ (a : Nat) (x : HopDesc),
          (∃ sp, (s.hc e c).limit = some (a, sp) ∧ sp = 0
            ∧ x = { words := [], loc := some (a, 0), first := true, n := 1, again := true })
            ∨ ((s.hc e c).limit = none ∧ d.loc = some (a, 0) ∧ x = d) →
          chFn s e c = none → a + 64 ≤ 0x1000000 → mpuCheck s (mpuEng e) (0x010 + e.val) true .read a 64 = .allow →
          runs (.channelRetry mid e c) s fun t =>
            chState t e c = goState s e c ∧ (t.hc e c).halted = none
            ∧ ∃ f, (t.hc e c).fetch = some f ∧ f.desc = x ∧ f.again = true)
      ∧ (∀ cmd : Instr,
          cmd = .channelSkip mid e c ∨ (cmd = .channelRetry mid e c ∧ s.get (F.HOP_CH_STATUS_CODE e c) = 2) →
          runs cmd s fun t =>
            (t.hc e c) = { s.hc e c with halted := none, limit := none }
            ∧ chState t e c = (if (s.hc e c).work = [] then 1 else if s.get (F.HOP_CH_STATUS_PAUSED_BY e c) = 0 then 2 else 3))
      ∧ (chFn s e c = none → runs (.channelClear mid e c) s fun t =>
          chState t e c = 1 ∧ (t.hc e c).work = [] ∧ (t.hc e c).shadow = none ∧ (t.hc e c).halted = none
          ∧ (regMode s e c = false →
            t.get (F.HOP_CH_PTR_HEAD e c) = s.get (F.HOP_CH_PTR_TAIL e c) % max 1 (ringSize s e c))))
    ∧ (engFailed s e = false → (s.hc e c).work ≠ [] →
      (chState s e c = 3 → runs (.channelAbort mid e c) s fun t =>
        chState t e c = 4 ∧ t.get (F.HOP_CH_STATUS_CODE e c) = 2 ∧ t.get (F.HOP_CH_STATUS_DETAIL e c) = 0)
      ∧ (chState s e c = 2 → runs (.channelAbort mid e c) s fun t =>
        chState t e c = 2 ∧ (t.hc e c) = { s.hc e c with abort := true })
      ∧ (chState s e c = 2 → (s.hc e c).abort = true → burstOpen (s.hc e c) = false → runs (.abortComplete e c) s fun t =>
        chState t e c = 4 ∧ t.get (F.HOP_CH_STATUS_CODE e c) = 2 ∧ (t.hc e c).abort = false))
    ∧ (∀ v : BitVec 16, runs (.tailWrite mid e c v) s fun t =>
        t.get (F.HOP_CH_PTR_TAIL e c) = (if chFn s e c = none then v.toNat else s.get (F.HOP_CH_PTR_TAIL e c))
        ∧ t.get (F.HOP_CH_PTR_HEAD e c) = s.get (F.HOP_CH_PTR_HEAD e c)
        ∧ srcs t = srcs s ++ (if chFn s e c = none ∨ v.toNat = s.get (F.HOP_CH_PTR_TAIL e c) then [] else [1])
        ∧ regsKept s t [(R.HOP_CH_PTR e c).addr, R.BRK_LOSS.addr] ∧ onlyRegsEvents s t)
    ∧ (∀ (k : Fin 8) (v : Word),
        (regMode s e c = true → runs (.shadowWrite mid e c k v) s fun t =>
          t.rd (R.HOP_CH_SHD e c k) = v ∧ t.get (F.HOP_CH_SHD_CTRL_WSWAP e c) = s.get (F.HOP_CH_SWAP_COUNT e c)
          ∧ regsKept s t [(R.HOP_CH_SHD e c k).addr, (R.HOP_CH_SHD_CTRL e c).addr] ∧ onlyRegs s t)
        ∧ (regMode s e c = false → runs (.shadowWrite mid e c k v) s fun t =>
          srcs t = srcs s ++ [1] ∧ regsKept s t [R.BRK_LOSS.addr] ∧ onlyRegsEvents s t))
    ∧ (∀ on : Bool,
        (regMode s e c = true → runs (if on then .shadowArm mid e c else .shadowDisarm mid e c) s fun t =>
          t.bit (F.HOP_CH_SHD_CTRL_ARM e c) = on ∧ regsKept s t [(R.HOP_CH_SHD_CTRL e c).addr] ∧ onlyRegs s t)
        ∧ (regMode s e c = false → runs (if on then .shadowArm mid e c else .shadowDisarm mid e c) s fun t =>
          srcs t = srcs s ++ [1] ∧ regsKept s t [R.BRK_LOSS.addr] ∧ onlyRegsEvents s t))
    ∧ (∀ m : Bool,
        ((∀ k : Fin 64, chState s e k = 0 ∨ chState s e k = 1 ∨ chState s e k = 4) → runs (.engineModeWrite mid e m) s fun t =>
          t.bit (F.HOP_ENG_CTRL_MODE e) = m ∧ t.bit (F.HOP_ENG_STATUS_MODE e) = m
          ∧ regsKept s t [(R.HOP_ENG_CTRL e).addr, (R.HOP_ENG_STATUS e).addr] ∧ onlyRegs s t)
        ∧ ((∃ k : Fin 64, chState s e k ≠ 0 ∧ chState s e k ≠ 1 ∧ chState s e k ≠ 4) →
          runs (.engineModeWrite mid e m) s fun t => t.get (F.HOP_ENG_CTRL_MODE e) = s.get (F.HOP_ENG_CTRL_MODE e)))
    ∧ (engFailed s e = false → ∀ cmd : Instr, cmd = .engineFail mid e ∨ (∃ u, cmd = .engineFailed e u) →
        runs cmd s fun t =>
          engFailed t e = true ∧ (1728 + 8 * e.val) ∈ srcs t ∧ ∀ k : Fin 64, chState t e k = 5 ∧ (t.hc e k).work = [])

/-- REGION_WORD1_WRITE, REGION_WORD0_WRITE (R299). -/
def Obligations.RegionWords : Prop :=
  ∀ (mid : Mid) (m : Fin 29) (r : Fin 32) (v : Word) (s : State), regionLocked s m r mid = false →
    (runs (.regionWord1Write mid m r v) s fun t =>
      t = { s with mpu := t.mpu }
      ∧ (∃ w, tget none t.mpu.held (32 * m.val + r.val) = some w ∧ bitsGet w 63 52 = bitsGet v 63 52 ∧ bitsGet w 41 0 = bitsGet v 41 0)
      ∧ (∀ k, k ≠ 32 * m.val + r.val → tget none t.mpu.held k = tget none s.mpu.held k)
      ∧ ∀ (m' mid' : Nat) (priv : Bool) (op : AccOp) (a n : Nat), mpuCheck t m' mid' priv op a n = mpuCheck s m' mid' priv op a n)
    ∧ runs (.regionWord0Write mid m r v) s fun t =>
      bitsGet (t.rd (R.MPU_REG_A m r)) 63 60 = bitsGet v 63 60
      ∧ (t.rd (R.MPU_REG_A m r)).getLsbD 59 = (if mid.val = midGov then v.getLsbD 59 else (s.rd (R.MPU_REG_A m r)).getLsbD 59)
      ∧ (t.rd (R.MPU_REG_A m r)).getLsbD 58 = v.getLsbD 58
      ∧ bitsGet (t.rd (R.MPU_REG_A m r)) 55 44 = bitsGet v 55 44
      ∧ bitsGet (t.rd (R.MPU_REG_A m r)) 41 0 = bitsGet v 41 0
      ∧ t.rd (R.MPU_REG_B m r) = (tget none s.mpu.held (32 * m.val + r.val)).getD (s.rd (R.MPU_REG_B m r))
      ∧ tget none t.mpu.held (32 * m.val + r.val) = none
      ∧ (∀ k, k ≠ 32 * m.val + r.val → tget none t.mpu.held k = tget none s.mpu.held k)
      ∧ regsKept s t [(R.MPU_REG_A m r).addr, (R.MPU_REG_B m r).addr, R.BRK_LOSS.addr]

/-- SCRATCHPAD_ACCESS, BANK_OWNER_WRITE, BANK_POWER_WRITE, OWNER_DRAIN_END, BANK_READY, MPU_FENCE, FENCE_COMPLETE, and the two words
of a locked region (R282 to R287, R295, R297, R301). -/
def Obligations.ScratchpadBanks : Prop :=
  ∀ s : State,
    (∀ a : Acc, portAOk a = true →
      (∀ m, mpuOfMid a.mid = some m → mpuCheck s m a.mid a.priv a.op a.addr a.len = .allow) →
      (bankAns s (bankOf a.addr) a.mid true = .go → (∀ w ∈ wordsOf a.addr a.len, spdMark s w = 0) →
        (a.op = .read ∨ a.op = .fetch → runs (.scratchpadAccess (some a) none .ok) s fun t =>
          t = s.out (.acc a.mid false (s.spdRd a.addr a.len)))
        ∧ (∀ x : Bytes, (a.op = .write ∧ x = a.data) ∨ (a.op = .swap ∧ x = a.data)
            ∨ (a.op = .add ∧ x = leBytes a.len (leN (s.spdRd a.addr a.len) 0 a.len + leN a.data 0 a.len)) →
          a.data.length = a.len → a.addr + a.len ≤ 0x1000000 →
          (runs (.scratchpadAccess (some a) none .ok) s fun t =>
            t.spdRd a.addr a.len = x ∧ (∀ i, i < a.addr ∨ a.addr + a.len ≤ i → tget 0#8 t.spd i = tget 0#8 s.spd i)
            ∧ t.outs = s.outs ++ [.acc a.mid false (if a.op = .write then [] else s.spdRd a.addr a.len)])
          ∧ ∀ (b : Fin 64) (r : PortB), a.op = .write → bankOf a.addr = b → portBHead s b = some r → portBAns s r = .go →
            r.write = true → r.data.length = r.len → a.addr / 64 = r.addr / 64 → (∃ w ∈ wordsOf r.addr r.len, w ∈ wordsOf a.addr a.len) →
            runs (.scratchpadAccess (some a) (some b) .ok) s fun t =>
              t.spdRd a.addr a.len = a.data ∧ t.bit F.SPD_COLL_VALID = true ∧ t.get F.SPD_COLL_MID = r.mid % 4096
              ∧ 128 ∈ srcs t ∧ t.get F.SPD_CNT_COLLIDED = min F.SPD_CNT_COLLIDED.max (s.get F.SPD_CNT_COLLIDED + 1)))
      ∧ (bankAns s (bankOf a.addr) a.mid true = .refuse → runs (.scratchpadAccess (some a) none .ok) s fun t =>
        t.outs = s.outs ++ [.acc a.mid true (zeroData a)] ∧ srcs t = srcs s ++ [129] ∧ t.spd = s.spd
        ∧ t.get F.SPD_CNT_REFUSED = min F.SPD_CNT_REFUSED.max (s.get F.SPD_CNT_REFUSED + 1)))
    ∧ (∀ (a : Acc) (m : Nat), portAOk a = true → mpuOfMid a.mid = some m →
      mpuCheck s m a.mid a.priv a.op a.addr a.len ≠ .allow → runs (.scratchpadAccess (some a) none .ok) s fun t =>
        t.outs = s.outs ++ [.acc a.mid true (zeroData a)] ∧ srcs t = srcs s ++ [160 + m] ∧ t.spd = s.spd)
    ∧ (∀ (b : Fin 64) (r : PortB), portBHead s b = some r → portBAns s r = .go → r.write = true → r.data.length = r.len →
      0 < r.len → r.addr + r.len ≤ 0x1000000 → (∀ w ∈ wordsOf r.addr r.len, spdMark s w = 0) →
      runs (.scratchpadAccess none (some b) .ok) s fun t =>
        t.spdRd r.addr r.len = r.data ∧ (∀ i, i < r.addr ∨ r.addr + r.len ≤ i → tget 0#8 t.spd i = tget 0#8 s.spd i)
        ∧ t.spdX.portB = s.spdX.portB.filter (fun x => x.id != r.id) ∧ t.hopIn.length = s.hopIn.length + 1)
    ∧ (∀ (mid : Mid) (b : Fin 64),
      (∀ o : BitVec 2, s.get (F.SPD_BANK_CFG_PWR b) ≠ 3 → runs (.bankOwnerWrite mid b o) s fun t =>
        t.get (F.SPD_BANK_CFG_OWNER b) = o.toNat ∧ t.get (F.SPD_BANK_CFG_PWR b) = s.get (F.SPD_BANK_CFG_PWR b)
        ∧ (o.toNat ≠ s.get (F.SPD_BANK_STATUS_OWNER_NOW b) → t.bit (F.SPD_BANK_STATUS_CHANGING b) = true)
        ∧ (ownerLets o.toNat false = false → ∀ r ∈ t.spdX.portB, bankOf r.addr = b → r.drain = true)
        ∧ regsKept s t [(R.SPD_BANK_CFG b).addr, (R.SPD_BANK_STATUS b).addr])
      ∧ ∀ p : BitVec 2,
        (p.toNat ≠ 3 → ¬(s.get (F.SPD_BANK_CFG_PWR b) = 2 ∧ p.toNat = 1) → runs (.bankPowerWrite mid b p) s fun t =>
          t.get (F.SPD_BANK_CFG_PWR b) = p.toNat ∧ t.get (F.SPD_BANK_CFG_OWNER b) = s.get (F.SPD_BANK_CFG_OWNER b)
          ∧ (p.toNat ≠ s.get (F.SPD_BANK_STATUS_PWR_NOW b) → t.bit (F.SPD_BANK_STATUS_CHANGING b) = true)
          ∧ regsKept s t [(R.SPD_BANK_CFG b).addr, (R.SPD_BANK_STATUS b).addr])
        ∧ (p.toNat = 3 ∨ (s.get (F.SPD_BANK_CFG_PWR b) = 2 ∧ p.toNat = 1) → runs (.bankPowerWrite mid b p) s fun t =>
          srcs t = srcs s ++ [1] ∧ regsKept s t [R.BRK_LOSS.addr] ∧ onlyRegsEvents s t))
    ∧ (∀ b : Fin 64,
      (s.bit (F.SPD_BANK_STATUS_CHANGING b) = true → (s.spdX.portB.any fun r => bankOf r.addr == b.val && r.drain) = false →
        runs (.ownerDrainEnd b) s fun t =>
          t.get (F.SPD_BANK_STATUS_OWNER_NOW b) = s.get (F.SPD_BANK_CFG_OWNER b)
          ∧ (s.get (F.SPD_BANK_CFG_PWR b) ≠ 0 → t.get (F.SPD_BANK_STATUS_PWR_NOW b) = s.get (F.SPD_BANK_CFG_PWR b)
            ∧ t.bit (F.SPD_BANK_STATUS_CHANGING b) = false)
          ∧ (∀ a, tget 0#8 t.spd a = if s.get (F.SPD_BANK_CFG_PWR b) = 2 ∧ bankOf a = b then 0#8 else tget 0#8 s.spd a)
          ∧ regsKept s t [(R.SPD_BANK_STATUS b).addr])
      ∧ (s.get (F.SPD_BANK_CFG_PWR b) = 0 → s.get (F.SPD_BANK_STATUS_PWR_NOW b) ≠ 0 → runs (.bankReady b) s fun t =>
          (t.bit (F.SPD_BANK_STATUS_ZEROING b)
            = (s.get (F.SPD_BANK_STATUS_PWR_NOW b) == 2 && !s.bit (F.SPD_BANK_STATUS_ZEROING b)))
          ∧ t.get (F.SPD_BANK_STATUS_PWR_NOW b)
            = (if s.get (F.SPD_BANK_STATUS_PWR_NOW b) = 2 ∧ s.bit (F.SPD_BANK_STATUS_ZEROING b) = false then 2 else 0)
          ∧ regsKept s t [(R.SPD_BANK_STATUS b).addr] ∧ onlyRegs s t))
    ∧ ∀ (mid : Mid) (m : Fin 29),
      (s.bit (F.MPU_FENCE_BUSY m) = false → runs (.mpuFence mid m) s fun t =>
        t.bit (F.MPU_FENCE_BUSY m) = true ∧ tget [] t.mpu.fence m = mpuOpen s m
        ∧ t.get (F.MPU_FENCE_INFLIGHT m) = min 0xFFFF (mpuOpen s m).length ∧ regsKept s t [(R.MPU_FENCE m).addr])
      ∧ (s.bit (F.MPU_FENCE_BUSY m) = true →
        (runs (.mpuFence mid m) s fun t => srcs t = srcs s ++ [1] ∧ regsKept s t [R.BRK_LOSS.addr] ∧ onlyRegsEvents s t)
        ∧ runs (.fenceComplete m) s fun t =>
          t.get (F.MPU_FENCE_INFLIGHT m) = min 0xFFFF (fenceOpen s m).length
          ∧ t.bit (F.MPU_FENCE_BUSY m) = !(fenceOpen s m).isEmpty
          ∧ ((fenceOpen s m).isEmpty = true → t.bit F.MGT_DONE_MPU_FENCE = true))
      ∧ ∀ (r : Fin 32) (v : Word) (c : Instr), regionLocked s m r mid = true → mid.val ≠ midGov →
        c = .regionWord0Write mid m r v ∨ c = .regionWord1Write mid m r v →
        runs c s fun t => regsKept s t [R.BRK_LOSS.addr] ∧ onlyRegsEvents s t

/-- SLOT_POWER_UP, SLOT_ENABLE, SLOT_DISABLE, FORCE_WRITE, SLOT_POWER_CONTROL, LIMIT_WRITE, COOL_DOWN_EXPIRE (R163, R328, R331 to
R333, R337, R343). -/
def Obligations.SlotsArePowered : Prop :=
  ∀ (mid : Mid) (n : Fin 32) (s : State),
    (slotWanted s n = true →
      (slcState s n = 1 ∨ slcState s n = 6 →
        (∀ x, chooseFeed s n = some x → runs (.slotPowerUp n) s fun t =>
          slcState t n = 2 ∧ (t.sx n).gate = some x ∧ (t.sx n).ft = 0 ∧ regsKept s t [(R.SLC_STATUS n).addr])
        ∧ (chooseFeed s n = none → runs (.slotPowerUp n) s fun t =>
          slcState t n = 6 ∧ regsKept s t [(R.SLC_STATUS n).addr] ∧ onlyRegs s t))
      ∧ (slcState s n = 2 → (s.sx n).gate.isSome = true → runs (.slotPowerUp n) s fun t =>
        slcState t n = 3 ∧ t.bit (F.SLC_STATUS_PGOOD n) = true ∧ regsKept s t [(R.SLC_STATUS n).addr] ∧ onlyRegs s t))
    ∧ (∀ (c : Instr) (en force : Nat),
      (c = .slotEnable mid n ∧ en = 1 ∧ force = s.get (F.SLC_CTRL_FORCE n))
        ∨ (c = .slotDisable mid n ∧ en = 0 ∧ force = s.get (F.SLC_CTRL_FORCE n))
        ∨ (∃ f : Fin 4, c = .forceWrite mid n f ∧ en = s.get (F.SLC_CTRL_EN n) ∧ force = f.val ∧ s.bit (F.SLC_LOCK_LOCK n) = false) →
      runs c s fun t =>
        t.get (F.SLC_CTRL_EN n) = en ∧ t.get (F.SLC_CTRL_FORCE n) = force
        ∧ t.get (F.SLC_CTRL_PRSNT_GATE n) = s.get (F.SLC_CTRL_PRSNT_GATE n)
        ∧ t.get (F.SLC_CTRL_NO_RETURN n) = s.get (F.SLC_CTRL_NO_RETURN n)
        ∧ regsKept s t [(R.SLC_CTRL n).addr, (R.SLC_STATUS n).addr] ∧ srcs t = srcs s
        ∧ (en = 0 → slcState s n ≠ 0 → slcState s n ≠ 4 → slcState t n = 1 ∧ (t.sx n).gate = none)
        ∧ (en = 0 → slcState s n = 4 → slcState t n = 4 ∧ t.bit (F.SLC_STATUS_ARMED n) = true)
        ∧ (en = 1 → slcState s n = 4 → s.get (F.SLC_STATUS_COOL_LEFT n) = 0 → s.bit (F.SLC_STATUS_ARMED n) = true →
          s.get (F.SLC_STATUS_CAUSE n) ≤ 3 → slcState t n = 1 ∧ t.get (F.SLC_STATUS_CAUSE n) = 0))
    ∧ (∀ (v : Fin 64) (k : Fin 256) (on : Bool), runs (.slotPowerControl v k on) s fun t =>
      (t.vx v k).powerOff = !on
      ∧ ∀ p, wholePort s v k = some p → s.get (F.PORT_CFG_SLC p) = n.val → t.bit (F.SLC_CTRL_EN n) = on)
    ∧ (∀ (k : Fin 4) (v : BitVec 32),
      ((s.sx n).gate = none → runs (.limitWrite n k v) s fun t =>
        bitsGet (t.rd (slcLim n k)) 15 0 = bitsGet (v.setWidth 64) 15 0
        ∧ (k.val < 3 → t.rd (slcLim n k) = s.rd (slcLim n k) &&& ~~~0xFFFFFFFF#64 ||| v.setWidth 64))
      ∧ ((s.sx n).gate.isSome = true → runs (.limitWrite n k v) s fun t =>
        srcs t = srcs s ++ [1] ∧ regsKept s t [R.BRK_LOSS.addr] ∧ onlyRegsEvents s t))
    ∧ runs (.coolDownExpire n) s fun t =>
        t.get (F.SLC_STATUS_COOL_LEFT n) = 0 ∧ regsKept s t [(R.SLC_STATUS n).addr] ∧ onlyRegs s t

/-- RAMP_FAIL, SLOW_TRIP, FAST_TRIP, PASS_TRANSISTOR_SHORT (R333 to R336, R344). -/
def Obligations.SlotsLatch : Prop :=
  ∀ (n : Fin 32) (c : Instr) (cause : Nat) (s : State),
    (c = .rampFail n ∧ cause = 3 ∧ slcState s n = 2 ∧ (s.sx n).gate.isSome = true)
      ∨ (c = .slowTrip n ∧ cause = 2 ∧ (s.sx n).gate.isSome = true ∧ (s.sx n).limit = true)
      ∨ (c = .fastTrip n ∧ cause = 1 ∧ ((s.sx n).gate.isSome = true ∨ slcState s n = 5))
      ∨ (∃ x : Fin 2, c = .passTransistorShort n x ∧ cause = 4 + x.val ∧ s.bit (F.SLC_LIM3_VALID n) = true
          ∧ (s.sx n).gate ≠ some x.val) →
    slcState s n ≠ 4 →
    runs c s fun t =>
      slcState t n = 4 ∧ t.get (F.SLC_STATUS_CAUSE n) = cause ∧ t.bit (F.SLC_STATUS_PGOOD n) = false
      ∧ (t.sx n).gate = none ∧ (t.sx n).next = none ∧ t.get (F.SLC_STATUS_COOL_LEFT n) = s.get (F.SLC_LIM1_COOL n)
      ∧ t.bit (F.SLC_STATUS_ARMED n) = false
      ∧ t.get (F.SLC_CNT_TRIPS n) = min (F.SLC_CNT_TRIPS n).max (s.get (F.SLC_CNT_TRIPS n) + 1)
      ∧ srcs t = srcs s ++ [2112 + n.val]
      ∧ regsKept s t [(R.SLC_STATUS n).addr, (R.SLC_CNT n).addr, (R.SLC_EVENT n).addr, R.BRK_LOSS.addr]
      ∧ ∀ m, m ≠ n.val → t.sx m = s.sx m

/-- PRESENCE_INSERT, PRESENCE_REMOVE, REVERSE_CURRENT, REVERSE_RECOVER, BUS_UNDERVOLTAGE, BUS_OVERVOLTAGE, UV_HOLD_EXPIRE, BUS_GOOD,
SWITCHOVER, DEAD_TIME_EXPIRE, CURRENT_LIMIT, MEASUREMENT_REFRESH (R329 to R346). -/
def Obligations.SlotEvents : Prop :=
  ∀ (n : Fin 32) (s : State),
    (∀ on : Bool, s.bit (F.SLC_STATUS_PRESENT n) = !on →
      runs (if on then .presenceInsert n else .presenceRemove n) s fun t =>
        t.bit (F.SLC_STATUS_PRESENT n) = on ∧ t.bit (F.SLC_EVENT_PRSNT_CHG n) = true ∧ srcs t = srcs s ++ [2112 + n.val])
    ∧ ((s.sx n).gate.isSome = true →
      (runs (.reverseCurrent n) s fun t =>
        t.get (F.SLC_CNT_REVERSE n) = min (F.SLC_CNT_REVERSE n).max (s.get (F.SLC_CNT_REVERSE n) + 1)
        ∧ t.sx n = { s.sx n with blk := false } ∧ t.bit (F.SLC_EVENT_REVERSE n) = true ∧ srcs t = srcs s ++ [2112 + n.val])
      ∧ (runs (.reverseRecover n) s fun t => t.sx n = { s.sx n with blk := true } ∧ { t with slc := s.slc } = s)
      ∧ ∀ on : Bool, runs (.currentLimit n on) s fun t =>
        t.sx n = { s.sx n with ft := faultTimer s n, ftAt := s.get F.MGT_MTIME_TIME, limit := on } ∧ { t with slc := s.slc } = s)
    ∧ (∀ (x : Fin 2) (high : Bool), busOk s n x = true → (s.sx n).gate = some x.val → slcState s n = 3 →
      runs (if high then .busOvervoltage n x else .busUndervoltage n x) s fun t =>
        busOk t n x = false ∧ t.bit (if high then F.SLC_EVENT_OV n else F.SLC_EVENT_UV n) = true
        ∧ srcs t = srcs s ++ [2112 + n.val]
        ∧ (otherOk s n x = true → slcState t n = 5 ∧ (t.sx n).next = some (1 - x.val) ∧ (t.sx n).gate = some x.val)
        ∧ (otherOk s n x = false → high = true → slcState t n = 6 ∧ (t.sx n).gate = none)
        ∧ (otherOk s n x = false → high = false → slcState t n = 3 ∧ (t.sx n).hold = true ∧ (t.sx n).gate = some x.val))
    ∧ ((s.sx n).hold = true → ∀ below : Bool, runs (.uvHoldExpire n below) s fun t =>
      (t.sx n).hold = false ∧ (below = true → slcState t n = 6 ∧ (t.sx n).gate = none)
      ∧ (below = false → { t with slc := s.slc } = s))
    ∧ (∀ x : Fin 2, s.bit (F.SLC_LIM3_VALID n) = true → runs (.busGood n x) s fun t =>
      busOk t n x = true
      ∧ (slcState s n = 6 → slotWanted s n = true → force s n = 0 → slcState t n = 2 ∧ (t.sx n).gate.isSome = true))
    ∧ (slcState s n = 5 →
      (∀ y, (s.sx n).next = some y → runs (.switchover n) s fun t =>
        (t.sx n).gate = none ∧ (t.sx n).next = some y ∧ t.regs = s.regs)
      ∧ ∀ (y : Nat) (held : Bool), (s.sx n).gate = none → (s.sx n).next = some y → busOk s n y = true →
        (runs (.deadTimeExpire n false held) s fun t =>
          slcState t n = 3 ∧ (t.sx n).gate = some y ∧ t.get (F.SLC_STATUS_FEED n) = y % 2
          ∧ t.bit (F.SLC_STATUS_PGOOD n) = (s.bit (F.SLC_STATUS_PGOOD n) && held)
          ∧ t.get (F.SLC_CNT_SWITCHES n) = min (F.SLC_CNT_SWITCHES n).max (s.get (F.SLC_CNT_SWITCHES n) + 1)
          ∧ srcs t = srcs s ++ [2112 + n.val])
        ∧ runs (.deadTimeExpire n true held) s fun t =>
          slcState t n = 2 ∧ (t.sx n).gate = some y ∧ t.bit (F.SLC_STATUS_PGOOD n) = false)
    ∧ ∀ vout busA busB iout : BitVec 16, runs (.measurementRefresh n vout busA busB iout) s fun t =>
        t.get (F.SLC_MEAS_VOUT n) = vout.toNat ∧ t.get (F.SLC_MEAS_VBUS_A n) = busA.toNat
        ∧ t.get (F.SLC_MEAS_VBUS_B n) = busB.toNat ∧ t.get (F.SLC_MEAS_IOUT n) = iout.toNat
        ∧ regsKept s t [(R.SLC_MEAS n).addr] ∧ onlyRegs s t

/-- CORE_ACCESS, CORE_FAILED, CORE_FAIL, CORE_RESTART, TIMER_INTERRUPT, SOFTWARE_INTERRUPT, WATCHDOG_KICK, WATCHDOG_EXPIRE, READY_SET
(R284, R295, R302 to R304, R306 to R308, R312). -/
def Obligations.CoreAccesses : Prop :=
  ∀ (k : Fin 8) (priv : Bool) (addr : BitVec 48) (len : Fin 65) (d : Bytes) (s : State), coreAlive s k = true → d.length = len.val →
    (0 < len.val → addr.toNat % 64 + len.val ≤ 64 → addr.toNat < 0x1000000 →
      (∀ op, mpuCheck s k (k.val + 1) priv op addr.toNat len = .allow) →
      (bankCached s (bankOf addr.toNat) = false → bankAns s (bankOf addr.toNat) (k.val + 1) true = .go →
        (∀ w ∈ wordsOf addr.toNat len, spdMark s w = 0) →
        (runs (.coreAccess k .load priv addr len d [] .ok) s fun t =>
          t = s.out (.acc (k.val + 1) false (s.spdRd addr.toNat len)))
        ∧ (runs (.coreAccess k .store priv addr len d [] .ok) s fun t =>
          t.spdRd addr.toNat len = d ∧ t.outs = s.outs ++ [.acc (k.val + 1) false []]
          ∧ ∀ i, i < addr.toNat ∨ addr.toNat + len.val ≤ i → tget 0#8 t.spd i = tget 0#8 s.spd i)
        ∧ (len.val = 8 → addr.toNat % 8 = 0 → runs (.coreAccess k (.amo .add) priv addr len d [] .ok) s fun t =>
          t.spdRd addr.toNat 8 = leBytes 8 (leN (s.spdRd addr.toNat 8) 0 8 + leN d 0 8)
          ∧ t.outs = s.outs ++ [.acc (k.val + 1) false (s.spdRd addr.toNat 8)]))
      ∧ (∀ (x : CLine) (l off : Nat), l = addr.toNat / 64 → off = addr.toNat % 64 → bankCached s (bankOf addr.toNat) = true →
        lineAt s l = some x → injMark s 9 0 l ≠ 2 → injMark s 0x0A k l ≠ 2 → x.data.length = 64 →
        (runs (.coreAccess k .load priv addr len d [] .ok) s fun t =>
          t.outs = s.outs ++ [.acc (k.val + 1) false (slice x.data off len)] ∧ t.spd = s.spd
          ∧ ∃ y, lineAt t l = some y ∧ y.data = x.data ∧ y.l1.testBit k = true)
        ∧ (runs (.coreAccess k .store priv addr len d [] .ok) s fun t =>
          (∃ y, lineAt t l = some y ∧ y.data = bytesPut x.data off d ∧ y.dirty = true) ∧ t.spd = s.spd
          ∧ t.outs = s.outs ++ [.acc (k.val + 1) false []]
          ∧ ∀ j : Fin 8, j ≠ k → tget none t.mgt.resv j ≠ some l)
        ∧ (len.val = 8 → addr.toNat % 8 = 0 →
          (∀ (f : AmoFn), runs (.coreAccess k (.amo f) priv addr len d [] .ok) s fun t =>
            t.outs = s.outs ++ [.acc (k.val + 1) false (slice x.data off 8)]
            ∧ ∃ y, lineAt t l = some y
              ∧ y.data = bytesPut x.data off (leBytes 8 (f.val 8 (leN (slice x.data off 8) 0 8) (leN d 0 8))))
          ∧ (runs (.coreAccess k .lr priv addr len d [] .ok) s fun t =>
            tget none t.mgt.resv k = some l ∧ t.outs = s.outs ++ [.acc (k.val + 1) false (slice x.data off 8)])
          ∧ runs (.coreAccess k .sc priv addr len d [] .ok) s fun t =>
            tget none t.mgt.resv k = none ∧ t.spd = s.spd
            ∧ (tget none s.mgt.resv k = some l → t.outs = s.outs ++ [.acc (k.val + 1) false (leBytes 8 0)]
              ∧ ∃ y, lineAt t l = some y ∧ y.data = bytesPut x.data off d)
            ∧ (tget none s.mgt.resv k ≠ some l → t.outs = s.outs ++ [.acc (k.val + 1) false (leBytes 8 1)]
              ∧ lineAt t l = some x))
        ∧ (x.dirty = true → len.val = 64 → bankAns s (bankOf addr.toNat) 1 true = .go →
          runs (.coreAccess k .flush priv addr len d [] .ok) s fun t =>
            lineAt t l = none ∧ t.spdRd addr.toNat 64 = x.data)))
    ∧ (∀ op : CoreOp, op = .load ∨ op = .store → 0 < len.val → mpuCheck s k (k.val + 1) priv op.acc addr.toNat len ≠ .allow →
      runs (.coreAccess k op priv addr len d [] .ok) s fun t =>
        t.outs = s.outs ++ [.acc (k.val + 1) true (if op = .store then [] else List.replicate len 0#8)]
        ∧ srcs t = srcs s ++ [160 + k.val] ∧ t.spd = s.spd ∧ t.mgt = s.mgt)
    ∧ (s.hasBit F.MGT_STATUS_FAILED k = false → ∀ (mid : Mid) (c : Instr), c = .coreFailed k ∨ c = .coreFail mid k → runs c s fun t =>
        t.hasBit F.MGT_STATUS_FAILED k = true ∧ coreAlive t k = false ∧ (64 + k.val) ∈ srcs t ∧ tget none t.mgt.resv k = none
        ∧ (∀ j : Fin 8, j ≠ k → coreAlive s j = true → coreAlive t j = true ∧ t.hasBit F.MGT_SWI_PEND j = true))
    ∧ (∀ mid : Mid, s.hasBit F.MGT_STATUS_FAILED k = false → runs (.coreRestart mid k) s fun t =>
        coreAlive t k = true ∧ t.outs = s.outs ++ [.coreStart k (s.get F.MGT_BOOT_ENTRY)] ∧ tget none t.mgt.resv k = none)
    ∧ (s.get (F.MGT_MTIMECMP_CMP k) ≤ s.get F.MGT_MTIME_TIME → runs (.timerInterrupt k) s fun t => t = s.out (.irq k 1))
    ∧ (∀ (mid : Mid) (set : BitVec 8), set.getLsbD k = true → runs (.softwareInterrupt mid set) s fun t =>
        t.hasBit F.MGT_SWI_PEND k = true ∧ .irq k 0 ∈ t.outs ∧ srcs t = srcs s)
    ∧ (∀ mid : Mid,
      (runs (.watchdogKick mid k) s fun t => tget 0 t.mgt.wdog k = s.get F.MGT_MTIME_TIME ∧ srcs t = srcs s
        ∧ regsKept s t [(R.MGT_WDOG k).addr])
      ∧ (s.bit (F.MGT_WDOG_EN k) = true → runs (.watchdogExpire k) s fun t =>
        srcs t = srcs s ++ [72 + k.val] ∧ tget 0 t.mgt.wdog k = s.get F.MGT_MTIME_TIME ∧ regsKept s t [R.BRK_LOSS.addr])
      ∧ runs (.readySet mid) s fun t =>
        t.bit F.MGT_STATUS_READY = true ∧ regsKept s t [R.MGT_STATUS.addr] ∧ onlyRegs s t)

/-- IDENTIFY_SWITCH_DEVICE, GET_PHYSICAL_PORT_STATE, GET_VIRTUAL_CXL_SWITCH_INFO, GET_LD_INFO, GET_LD_ALLOCATIONS, GET_QOS_CONTROL,
GET_QOS_STATUS, GET_QOS_ALLOCATED_BW, GET_QOS_BW_LIMIT, GET_DCD_INFO, GET_HOST_DC_REGION_CONFIGURATION, GET_DC_REGION_EXTENT_LISTS,
GET_TELEMETRY, GET_FAULT_HISTORY, UNSUPPORTED_COMMAND, SET_ENDPOINT_ID, GET_ENDPOINT_ID, GET_ENDPOINT_UUID, GET_MCTP_VERSION_SUPPORT,
GET_MESSAGE_TYPE_SUPPORT, IDENTIFY_MEMORY_DEVICE, GET_EVENT_RECORDS, CLEAR_EVENT_RECORDS, GET_DYNAMIC_CAPACITY_CONFIGURATION,
GET_DYNAMIC_CAPACITY_EXTENT_LIST, GET_HEALTH_INFO, GET_SUPPORTED_LOGS, GET_LOG (R229, R313, R316 to R321). -/
def Obligations.ManagementReads : Prop :=
  ∀ s : State,
    (mgtFree s → ∀ (t : Fin 6) (n : Fin 64) (count : Fin 65) (c : Instr) (d : List Nat), s.hasBit F.MGT_FMAPI_CTRL_EN t = true →
      (c = .getLdInfo t ∧ d = [s.get F.POOL_LEAT_FIRST * 2 ^ 28, 64])
      ∨ (∃ ps : List (Fin 96), c = .getPhysicalPortState t ps ∧ d = (ps.map (·.val)).flatMap fun p =>
          [p, (s.rd (R.PORT_CFG p)).toNat, (s.rd (R.PORT_LINK_CTRL p)).toNat, (s.rd (R.PORT_LINK_STATUS p)).toNat,
            (s.rd (R.OFL_STATUS p)).toNat])
      ∨ (c = .getVirtualCxlSwitchInfo t [n] ∧ d = [n.val, s.get (F.RTE_VCS_CFG_PRESENT n), s.get (F.RTE_VCS_CFG_UPORT n),
          s.get (F.RTE_VCS_CFG_VPPBS n)] ++ (List.range (s.get (F.RTE_VCS_CFG_VPPBS n))).flatMap fun k =>
            match bindOf s n k with
            | some b => [if s.get (F.RTE_BIND_LDID b) = 0xFFFF then 2 else 3, s.get (F.RTE_BIND_PORT b), s.get (F.RTE_BIND_LDID b)]
            | none => [0, 0, 0])
      ∨ (n.val + count.val ≤ 64 ∧ c = .getLdAllocations t n count ∧ d = (List.range count).flatMap fun i =>
          [s.get (F.POOL_LD_EN (n.val + i)), s.get (F.POOL_LD_MAP_MAP_BASE (n.val + i)), s.get (F.POOL_LD_MAP_MAP_COUNT (n.val + i))])
      ∨ (n.val + count.val ≤ 64 ∧ c = .getQosAllocatedBw t n count
          ∧ d = (List.range count).map fun i => s.get (F.POOL_LD_BW_ALLOC (n.val + i)))
      ∨ (n.val + count.val ≤ 64 ∧ c = .getQosBwLimit t n count
          ∧ d = (List.range count).map fun i => s.get (F.POOL_LD_BW_LIMIT (n.val + i)))
      ∨ (c = .getQosControl t ∧ d = [s.get F.POOL_DEVLOAD_OPTIMAL, s.get F.POOL_DEVLOAD_MODERATE, s.get F.POOL_DEVLOAD_SEVERE])
      ∨ (c = .getQosStatus t ∧ d = (List.range 12).map fun k => (tget [] s.pool.chq k).length)
      ∨ (c = .getDcdInfo t ∧ d = [64, 2, 2 ^ 28, s.get F.POOL_LEAT_FIRST * 2 ^ 28])
      ∨ (c = .getHostDcRegionConfiguration t n ∧ d = [s.get (F.POOL_LD_EN n), s.get (F.POOL_LD_MAP_MAP_BASE n),
          s.get (F.POOL_LD_MAP_MAP_COUNT n), s.get (F.POOL_LD_MAP_SHARED_FIRST n)])
      ∨ (c = .getDcRegionExtentLists t n ∧ d = (mapEntries s n).flatMap fun x => [x.2.1, x.2.2])
      ∨ (∃ first k : BitVec 16, c = .getTelemetry t first k ∧ 0 < k.toNat ∧ first.toNat + k.toNat ≤ 1024
          ∧ d = ((List.range k.toNat).map fun i => s.get (F.PMC_CNT_COUNT (first.toNat + i))) ++ [s.get F.MGT_MTIME_TIME])
      ∨ (∃ k : BitVec 16, c = .getFaultHistory t k ∧ d = (s.brk.hist.take k.toNat).flatMap fun r => r.map (·.toNat)) →
      runs c s fun u => answers s u t 0 d ∧ onlyAnswer s u)
    ∧ (mgtFree s → ∀ t : Fin 6, s.hasBit F.MGT_FMAPI_CTRL_EN t = true →
      (runs (.identifySwitchDevice t) s fun u =>
        onlyAnswer s u ∧ ∃ a b k m l, answers s u t 0 ([96, s.get F.RTE_CFG_VCS_COUNT, a, b, k, m] ++ l)
          ∧ (∀ p : Fin 96, a.testBit p = true ↔ s.get (F.PORT_CFG_ROLE p) ≠ 0)
          ∧ (∀ v : Fin 64, b.testBit v = true ↔ s.bit (F.RTE_VCS_CFG_PRESENT v) = true)
          ∧ m = ((List.range 1024).filter fun n => s.bit (F.RTE_BIND_VALID n)).length)
      ∧ ∀ op : BitVec 16, runs (.unsupportedCommand t op) s fun u => answers s u t 3 [] ∧ onlyAnswer s u)
    ∧ (∀ (t : Fin 6) (op : BitVec 16) (c : Instr), c = .unsupportedCommand t op ∨ c = .getLdInfo t →
      (mgtFree s → s.hasBit F.MGT_FMAPI_CTRL_EN t = false → runs c s fun u => answers s u t 3 [] ∧ onlyAnswer s u)
      ∧ (s.bit F.MGT_STATUS_READY = false → runs c s fun u => u = if t.val = 1 ∨ t.val = 2 then s.out (.nack t) else s))
    ∧ (s.bit F.MGT_STATUS_READY = true → ∀ t : Fin 6, t.val ≠ 0 →
      (∀ e : BitVec 8, e ≠ 0 → e ≠ 0xFF → runs (.setEndpointId t e) s fun u =>
        tget 0 u.mgt.eid t = e.toNat ∧ answers s u t 0 [e.toNat] ∧ onlyAnswer s u)
      ∧ ∀ (c : Instr) (d : List Nat),
        (c = .getEndpointId t ∧ d = [tget 0 s.mgt.eid t]) ∨ (c = .getEndpointUuid t ∧ d = Config.uuid)
          ∨ (c = .getMctpVersionSupport t ∧ d = Config.mctpVersions) ∨ (c = .getMessageTypeSupport t ∧ d = [0x00, 0x07, 0x08]) →
        runs c s fun u => answers s u t 0 d ∧ onlyAnswer s u)
    ∧ (mgtFree s → ∀ n : Fin 64, s.bit (F.POOL_LD_EN n) = true →
      (∀ (c : Instr) (d : List Nat),
        (c = .identifyMemoryDevice n ∧ d = [s.get (F.POOL_LD_MAP_MAP_COUNT n) * 2 ^ 28, 0x1463])
          ∨ (c = .getEventRecords n
            ∧ d = (s.mgt.events.filter fun e => e.1 == n.val).flatMap fun e => [e.2.1, e.2.2, (extAt s e.2.2).dpaIndex])
          ∨ (c = .getDynamicCapacityConfiguration n ∧ d = [s.get (F.POOL_LD_EN n), s.get (F.POOL_LD_MAP_MAP_BASE n),
            s.get (F.POOL_LD_MAP_MAP_COUNT n), s.get (F.POOL_LD_MAP_SHARED_FIRST n)])
          ∨ (c = .getDynamicCapacityExtentList n ∧ d = (mapEntries s n).flatMap fun x => [x.2.1, x.2.2])
          ∨ (c = .getHealthInfo n ∧ d = [s.get F.POOL_STATUS_STATE, s.get F.POOL_STATUS_FAILED])
          ∨ (c = .getSupportedLogs n ∧ d = Config.supportedLogs) ∨ (∃ l : Fin 4, c = .getLog n l ∧ d = Config.logData l) →
        runs c s fun u => u = s.out (.cci (8 + n.val) 0 d))
      ∧ ∀ count : Fin 65536, runs (.clearEventRecords n count) s fun u =>
        (u.mgt.events.filter fun e => e.1 == n.val) = (s.mgt.events.filter fun e => e.1 == n.val).drop count
        ∧ (u.mgt.events.filter fun e => e.1 != n.val) = s.mgt.events.filter (fun e => e.1 != n.val)
        ∧ answers s u (8 + n.val) 0 [] ∧ onlyAnswer s u)

/-- PHYSICAL_PORT_CONTROL, BIND_VPPB, UNBIND_VPPB, GENERATE_AER_EVENT, SET_LD_ALLOCATIONS, SET_QOS_CONTROL, SET_QOS_ALLOCATED_BW,
SET_QOS_BW_LIMIT, SET_DC_REGION_CONFIGURATION, INITIATE_DYNAMIC_CAPACITY_ADD, INITIATE_DYNAMIC_CAPACITY_RELEASE, FLASH_OPERATION,
COMMIT_ANTI_ROLLBACK, GROUP_RELOAD_COMMAND, HOST_COHERENCE, SET_SHARING_GROUP, SET_PROXY_EXPANDER, ADD_DYNAMIC_CAPACITY_RESPONSE,
RELEASE_DYNAMIC_CAPACITY, COMMAND_WAIT_TIMEOUT (R211 to R215, R319 to R324). -/
def Obligations.ManagementCommands : Prop :=
  ∀ s : State,
    (mgtFree s → ∀ t : Fin 6, s.hasBit F.MGT_FMAPI_CTRL_EN t = true →
      (∀ (p : Fin 96) (d : Bool), s.get (F.PORT_CFG_ROLE p) ≠ 0 → runs (.physicalPortControl t p (some d)) s fun u =>
        u.bit (F.PORT_LINK_CTRL_DISABLE p) = d ∧ answers s u t 0 [])
      ∧ (∀ (w : Word) (c k : Instr) (u : State), (c = .bindVppb t w ∧ k = .bind 1 (some w)) ∨ (c = .unbindVppb t w ∧ k = .unbind 1 w) →
        s.bit F.RTE_BIND_CMD_BUSY = false → exec k s = .next u → runs c s fun x =>
          x.regs = u.regs ∧ x.rte = u.rte
          ∧ answers s x t (if u.bit F.RTE_BIND_CMD_BUSY = true ∨ bindRc (u.get F.RTE_BIND_CMD_RESULT) = 0
              ∧ (c = .unbindVppb t w ∨ u.get F.RTE_BIND_CMD_RESULT = 0) then 1 else bindRc (u.get F.RTE_BIND_CMD_RESULT)) [])
      ∧ (∀ (v : Fin 64) (k : Fin 256) (b : Fin 32) (unc : Bool), runs (.generateAerEvent t v k b unc) s fun u =>
        (u.vx v k).aer = (if unc then (s.vx v k).aer.logUnc b none else (s.vx v k).aer.logCor b)
        ∧ srcs u = srcs s ++ [1856 + 2 * v.val + unc.toNat] ∧ answers s u t 0 [])
      ∧ (∀ (n : Fin 64) (base count : BitVec 16),
        (∀ en : Bool, runs (.setLdAllocations t none n en base count) s fun u =>
          u.bit (F.POOL_LD_EN n) = en ∧ u.get (F.POOL_LD_MAP_MAP_BASE n) = base.toNat ∧ u.get (F.POOL_LD_MAP_MAP_COUNT n) = count.toNat
          ∧ u.get (F.POOL_LD_MAP_SHARED_FIRST n) = s.get (F.POOL_LD_MAP_SHARED_FIRST n)
          ∧ regsKept s u [(R.POOL_LD n).addr, (R.POOL_LD_MAP n).addr] ∧ answers s u t 0 [])
        ∧ ∀ sf : BitVec 16, runs (.setDcRegionConfiguration t n base count sf) s fun u =>
          (s.bit (F.POOL_LD_EN n) = true → answers s u t 2 [] ∧ onlyAnswer s u)
          ∧ (s.bit (F.POOL_LD_EN n) = false → answers s u t 0 [] ∧ u.get (F.POOL_LD_MAP_MAP_BASE n) = base.toNat
            ∧ u.get (F.POOL_LD_MAP_MAP_COUNT n) = count.toNat ∧ u.get (F.POOL_LD_MAP_SHARED_FIRST n) = sf.toNat))
      ∧ (∀ o m sv : BitVec 8, runs (.setQosControl t none o m sv) s fun u =>
        u.get F.POOL_DEVLOAD_OPTIMAL = o.toNat ∧ u.get F.POOL_DEVLOAD_MODERATE = m.toNat ∧ u.get F.POOL_DEVLOAD_SEVERE = sv.toNat
        ∧ regsKept s u [R.POOL_DEVLOAD.addr] ∧ answers s u t 0 [])
      ∧ (∀ (n : Fin 64) (v : BitVec 8),
        (runs (.setQosAllocatedBw t none n v) s fun u =>
          u.get (F.POOL_LD_BW_ALLOC n) = v.toNat ∧ regsKept s u [(R.POOL_LD n).addr] ∧ answers s u t 0 [])
        ∧ runs (.setQosBwLimit t none n v) s fun u =>
          u.get (F.POOL_LD_BW_LIMIT n) = v.toNat ∧ regsKept s u [(R.POOL_LD n).addr] ∧ answers s u t 0 [])
      ∧ (∀ (b : Fin 32768) (owner dpa : BitVec 16), s.bit F.POOL_EXT_CMD_BUSY = false → s.get F.POOL_STATUS_FAILED = 0 →
        owner.toNat < 64 → s.bit (F.POOL_LD_EN owner.toNat) = true → dpa.toNat < s.get (F.POOL_LD_MAP_MAP_COUNT owner.toNat) →
        (extAt s b).state = 0 → runs (.initiateDynamicCapacityAdd t false owner [(b, dpa)]) s fun u =>
          extAt u b = { state := 1, shared := false, owner := owner.toNat, dpaIndex := dpa.toNat }
          ∧ u.mgt.events = s.mgt.events ++ [(owner.toNat, 0, b.val)] ∧ answers s u t 1 [] ∧ u.mgt.bg.isSome = true)
      ∧ (∀ (b : Fin 32768) (forced : Bool),
        ((extAt s b).state = 2 → s.bit F.POOL_EXT_CMD_BUSY = false →
          runs (.initiateDynamicCapacityRelease t [b] forced) s fun u =>
            (extAt u b).state = (if forced then 3 else 2) ∧ answers s u t 1 [] ∧ u.mgt.bg.isSome = true)
        ∧ ((extAt s b).state ≠ 2 → runs (.initiateDynamicCapacityRelease t [b] forced) s fun u =>
            answers s u t 2 [] ∧ onlyAnswer s u))
      ∧ (s.bit F.IMG_FLASH_CTRL_BUSY = false → s.bit F.IMG_LOCK_LOCK = false → ∀ (a len : BitVec 32) (spd : Fin 16777216),
        (0 < len.toNat → len.toNat ≤ 65536 → a.toNat + len.toNat ≤ s.img.density →
          runs (.flashOperation t 3 a len spd []) s fun u =>
            u.bit F.IMG_FLASH_CTRL_BUSY = true ∧ (∃ x, u.img.op = some x ∧ x.op = 3 ∧ x.addr = a.toNat ∧ x.len = len.toNat ∧ x.spd = spd.val)
            ∧ u.mgt.bg = some (t.val, .flash) ∧ u.outs = s.outs ∧ u.spd = s.spd)
        ∧ (a.toNat % 65536 = 0 → 0x4000000 ≤ a.toNat → a.toNat ≤ 0x40FFFFF → a.toNat + 65536 ≤ s.img.density →
          runs (.groupReloadCommand t a spd) s fun u =>
            u.bit F.IMG_FLASH_CTRL_BUSY = true ∧ u.mgt.bg = some (t.val, .group spd.val) ∧ u.outs = s.outs))
      ∧ (runs (.commitAntiRollback t) s fun u =>
        (s.bit F.IMG_BOOT_OK_OK = false → answers s u t 4 [])
        ∧ (s.bit F.IMG_BOOT_OK_OK = true → s.bit F.IMG_ARB_BUSY = false →
          (s.fuse.arb < s.get F.IMG_ARB_RUN_SVN → u.bit F.IMG_ARB_BUSY = true ∧ u.mgt.bg = some (t.val, .arb))
          ∧ (s.get F.IMG_ARB_RUN_SVN ≤ s.fuse.arb → answers s u t 0 [s.get F.IMG_ARB_COUNT])))
      ∧ (∀ h : Fin 64, s.bit F.COH_HOST_CMD_BUSY = false →
        (runs (.hostCoherence t 2 (BitVec.ofNat 8 h)) s fun u =>
          answers s u t 0 [if s.get (F.COH_HOST_STATE h) = 2 then 0 else 2]
          ∧ u.get (F.COH_HOST_STATE h) = (if s.get (F.COH_HOST_STATE h) = 2 then 0 else s.get (F.COH_HOST_STATE h)))
        ∧ (s.get (F.COH_HOST_STATE h) = 0 → runs (.hostCoherence t 1 (BitVec.ofNat 8 h)) s fun u =>
          u.get (F.COH_HOST_STATE h) = 1 ∧ u.bit F.COH_HOST_CMD_BUSY = true ∧ answers s u t 1 [] ∧ u.mgt.bg = some (t.val, .remove h)))
      ∧ (∀ (g : BitVec 32) (m : BitVec 64) (valid : Bool), g.toNat < 2 ^ 18 → runs (.setSharingGroup t g m valid) s fun u =>
        (tblResult s true 5 g.toNat = 0 → answers s u t 0 []
          ∧ tgets 0#8 u.rte.store (tblAddr s 5 g.toNat) 16 = leBytes 8 m.toNat ++ leBytes 8 valid.toNat)
        ∧ (tblResult s true 5 g.toNat ≠ 0 → answers s u t 2 [] ∧ u.rte = s.rte))
      ∧ (∀ (n : Fin 32) (p : Fin 96) (ld : BitVec 16) (k : Fin 8) (base count : BitVec 16) (dpa : BitVec 32) (valid : Bool),
        s.bit F.COH_LOCK_LOCK = false →
        (valid = true → s.get (F.PORT_CFG_ROLE p) = 2 ∧ ∀ b, b < 1024 → ¬(s.bit (F.RTE_BIND_VALID b) = true
          ∧ s.get (F.RTE_BIND_PORT b) = p)) →
        runs (.setProxyExpander t (BitVec.ofNat 8 n) (BitVec.ofNat 8 p) ld (BitVec.ofNat 8 k) base count dpa valid []) s fun u =>
          u.bit (F.COH_PROXY_VALID n) = valid ∧ u.get (F.COH_PROXY_PORT n) = p ∧ u.get (F.COH_PROXY_LDID n) = ld.toNat
          ∧ answers s u t 0 []))
    ∧ (mgtFree s → ∀ (n : Fin 64) (b : Fin 32768), s.bit (F.POOL_LD_EN n) = true → s.bit F.POOL_EXT_CMD_BUSY = false →
      ((extAt s b).state = 1 → (extAt s b).shared = false → (extAt s b).owner = n →
        (extAt s b).dpaIndex < s.get (F.POOL_LD_MAP_MAP_COUNT n) → s.get (F.POOL_LD_MAP_MAP_BASE n) + (extAt s b).dpaIndex < 65536 →
        runs (.addDynamicCapacityResponse n [b] []) s fun u =>
          (extAt u b).state = 2 ∧ mapSlot u (s.get (F.POOL_LD_MAP_MAP_BASE n) + (extAt s b).dpaIndex) = b
          ∧ answers s u (8 + n.val) 0 [])
      ∧ ((extAt s b).state = 2 → ownsExt s n (extAt s b) = true → runs (.releaseDynamicCapacity n [b]) s fun u =>
          (extAt u b).state = 3 ∧ answers s u (8 + n.val) 0 []))
    ∧ ∀ (x : Nat), s.bit F.MGT_STATUS_READY = true → s.mgt.bg = some (x, .tunnel) → s.bit F.MGT_DSA_CMD_BUSY = true →
      (∀ (t : Fin 6) (p : Fin 96) (d : Option Bool), s.hasBit F.MGT_FMAPI_CTRL_EN t = true →
        runs (.physicalPortControl t p d) s fun u =>
          u.mgt.wait = s.mgt.wait ++ [(t.val, .portControl p d)] ∧ { u with mgt := s.mgt } = s)
      ∧ ∀ (t : Fin 6) (q : MgtReq) (rest : List (Nat × MgtReq)), s.mgt.wait = (t.val, q) :: rest →
        runs .commandWaitTimeout s fun u => u.mgt.wait = rest ∧ answers s u t 6 [] ∧ onlyAnswer s u

/-- TRANSPORT_RECEIVE, TRANSPORT_SEND, ETHERNET_FRAME, DSA_CONFIG_READ, DSA_CONFIG_WRITE, DSA_MEMORY_READ, DSA_MEMORY_WRITE,
SEND_PPB_CXL_IO_CONFIG_REQUEST, SEND_LD_CXL_IO_CONFIG_REQUEST, SEND_LD_CXL_IO_MEMORY_REQUEST, TUNNEL_MANAGEMENT_COMMAND, DSA_COMPLETE,
DSA_TIMEOUT (R312 to R315, R319, R323). -/
def Obligations.TransportsAndDsa : Prop :=
  ∀ s : State,
    (∀ (c : Instr) (t src : Nat) (d : Bytes) (a : Nat), s.bit F.MGT_STATUS_READY = true → t < 6 →
      (∃ src' : BitVec 16, src = src'.toNat
          ∧ ((c = .transportReceive (some (false, src', d)) ∧ t = 1) ∨ (c = .transportReceive (some (true, src', d)) ∧ t = 2)))
        ∨ (∃ v ys, c = .transportReceive none ∧ s.mgt.mctpIn = ⟨t, src, v, d⟩ :: ys ∧ (t = 3 → s.hasBit F.MGT_VDM_EN_VCS v = true))
        ∨ (c = .ethernetFrame d true ∧ t = 5 ∧ src = 0 ∧ s.bit F.MGT_NET_CFG_EN = true ∧ d.length ≤ 1514
          ∧ (beN d 0 6 = s.get F.MGT_NET_CFG_MAC ∨ beN d 0 6 = 2 ^ 48 - 1)) →
      a = rxSlot s t (tget 0 s.mgt.rxNext t) → s.bit (F.MGT_XPORT_RX_EN t) = true →
      (slotOwn s a = true → (∀ w, spdMark s w = 0) → a + 2048 ≤ 0x1000000 → d.length ≤ 2032 → src < 65536 → runs c s fun u =>
        leN (u.spdRd a 4) 0 2 = d.length ∧ leN (u.spdRd a 4) 2 2 = src ∧ u.spdRd (a + 16) d.length = d ∧ slotOwn u a = false
        ∧ tget 0 u.mgt.rxNext t = (tget 0 s.mgt.rxNext t + 1) % ringSlots (s.get (F.MGT_XPORT_RX_SIZE t))
        ∧ ∀ i, i < a ∨ a + 2048 ≤ i → tget 0#8 u.spd i = tget 0#8 s.spd i)
      ∧ (slotOwn s a = false → runs c s fun u =>
        u.get (F.MGT_XPORT_RX_DROPS t) = min (F.MGT_XPORT_RX_DROPS t).max (s.get (F.MGT_XPORT_RX_DROPS t) + 1) ∧ u.spd = s.spd))
    ∧ (∀ (smbus : Bool) (src : BitVec 16) (d : Bytes), s.bit F.MGT_STATUS_READY = false →
      runs (.transportReceive (some (smbus, src, d))) s fun u => u = s.out (.nack (if smbus then 2 else 1)))
    ∧ (∀ (t : Fin 6) (a : Nat) (h d : Bytes), t.val = 1 ∨ t.val = 2 ∨ t.val = 5 → s.bit (F.MGT_XPORT_RX_EN t) = true →
      a = txSlot s t (tget 0 s.mgt.txNext t) → slotOwn s a = true → (∀ w, spdMark s w = 0) → a + 2048 ≤ 0x1000000 →
      h = s.spdRd a 16 → d = s.spdRd (a + 16) (min 2032 (leN h 0 2)) → runs (.transportSend t) s fun u =>
        u.outs = s.outs ++ [if t.val = 5 then .frame d else .mctp t (leN h 2 2) d] ∧ slotOwn u a = false
        ∧ tget 0 u.mgt.txNext t = (tget 0 s.mgt.txNext t + 1) % ringSlots (s.get (F.MGT_XPORT_TX_SIZE t))
        ∧ ∀ i, i ≠ a + 4 → tget 0#8 u.spd i = tget 0#8 s.spd i)
    ∧ (∀ f : Bytes, (idles (.ethernetFrame f false) s)
      ∧ (s.bit F.MGT_STATUS_READY = true → s.bit F.MGT_NET_CFG_EN = true → f.length ≤ 1514 →
        beN f 0 6 = s.get F.MGT_NET_CFG_MAC ∨ beN f 0 6 = 2 ^ 48 - 1 → runs (.ethernetFrame f true) s fun u =>
          u.mgt.eth = true
          ∧ (s.bit F.MGT_NET_IP_VALID = true → isArp (s.get F.MGT_NET_IP_ADDR) f = true →
            u.outs = s.outs ++ [.frame (arpReply (s.get F.MGT_NET_CFG_MAC) (s.get F.MGT_NET_IP_ADDR) f)])
          ∧ (s.bit F.MGT_NET_IP_VALID = true → isArp (s.get F.MGT_NET_IP_ADDR) f = false →
            ∀ x, udpAt (s.get F.MGT_NET_IP_ADDR) f = some x →
              u.mgt.peer = some ⟨beN f 6 6, beN f 26 4, beN f x 2, leN f (x + 10) 2⟩)))
    ∧ (∀ (mid : Mid) (op : Nat) (c : Instr),
      (c = .dsaConfigRead mid ∧ op = 0) ∨ (c = .dsaConfigWrite mid ∧ op = 1) ∨ (c = .dsaMemoryRead mid ∧ op = 2)
        ∨ (c = .dsaMemoryWrite mid ∧ op = 3) → s.bit F.MGT_DSA_CMD_BUSY = false →
      (dsaSizeOk op (s.get F.MGT_DSA_CMD_BE) = true → role s (s.get F.MGT_DSA_CMD_PORT) = 2 → (s.px (s.get F.MGT_DSA_CMD_PORT)).up = true →
        runs c s fun u => u.bit F.MGT_DSA_CMD_BUSY = true ∧ u.outs = s.outs ++ [.dsa { dsaReq s with op := op }]
          ∧ regsKept s u [R.MGT_DSA_CMD.addr])
      ∧ (dsaSizeOk op (s.get F.MGT_DSA_CMD_BE) = false → runs c s fun u =>
        srcs u = srcs s ++ [1] ∧ regsKept s u [R.BRK_LOSS.addr] ∧ onlyRegsEvents s u))
    ∧ (mgtFree s → s.bit F.MGT_DSA_CMD_BUSY = false → ∀ (t : Fin 6) (p : Fin 96), s.hasBit F.MGT_FMAPI_CTRL_EN t = true →
      (∀ (ld tgt : BitVec 16) (write : Bool) (r : BitVec 12) (be : BitVec 4) (be8 : BitVec 8) (v : BitVec 32) (a w : BitVec 64)
        (c : Instr) (q : DsaReq),
        (c = .sendPpbCxlIoConfigRequest t p write tgt r be v
            ∧ q = ⟨write.toNat, p, 0xFFFF, tgt.toNat, r.toNat, be.toNat, v.toNat⟩)
          ∨ (c = .sendLdCxlIoConfigRequest t p ld write tgt r be v
            ∧ q = ⟨write.toNat, p, ld.toNat, tgt.toNat, r.toNat, be.toNat, v.toNat⟩)
          ∨ (c = .sendLdCxlIoMemoryRequest t p ld write a be8 w ∧ q = ⟨2 + write.toNat, p, ld.toNat, 0, a.toNat, be8.toNat, w.toNat⟩) →
        q.be ≠ 0 →
        (role s p = 2 → (s.px p).up = true → runs c s fun u =>
          u.bit F.MGT_DSA_CMD_BUSY = true ∧ u.outs = s.outs ++ [.dsa q] ∧ u.mgt.dsaFor = some (.answer t, .req q))
        ∧ (role s p ≠ 2 → runs c s fun u => answers s u t 4 [4] ∧ u.bit F.MGT_DSA_CMD_BUSY = false))
      ∧ ∀ (inner : Bytes) (changes : Bool), role s p = 2 → (s.px p).up = true →
        runs (.tunnelManagementCommand t p inner changes) s fun u =>
          u.bit F.MGT_DSA_CMD_BUSY = true ∧ u.outs = s.outs ++ [.tunnel p inner] ∧ (u.mgt.bg.isSome = changes))
    ∧ (s.bit F.MGT_DSA_CMD_BUSY = true → ∀ (c : Instr) (r : Nat) (d : Bytes),
      (c = .dsaComplete .ok d ∧ r = 0) ∨ (c = .dsaComplete .ur d ∧ r = 1) ∨ (c = .dsaComplete .ca d ∧ r = 2)
        ∨ (c = .dsaComplete .crs d ∧ r = 5) ∨ (c = .dsaTimeout ∧ r = 3) →
      (mgtFree s → runs c s fun u =>
        u.get F.MGT_DSA_CMD_RESULT = r ∧ u.bit F.MGT_DSA_CMD_BUSY = false ∧ u.bit F.MGT_DONE_DSA = true
        ∧ u.rd R.MGT_DSA_DATA = (if r = 0 ∧ s.get F.MGT_DSA_CMD_OP % 2 = 0 then BitVec.ofNat 64 (leN d 0 8) else s.rd R.MGT_DSA_DATA)
        ∧ regsKept s u [R.MGT_DSA_CMD.addr, R.MGT_DSA_DATA.addr, R.MGT_DONE.addr] ∧ onlyRegs s u)
      ∧ ∀ (t : Fin 6) (q : DsaReq), s.bit F.MGT_STATUS_READY = true → s.mgt.bg = none → s.mgt.wait = [] → s.mgt.dsaWait = [] →
        s.mgt.dsaFor = some (.answer t, .req q) → q.op = s.get F.MGT_DSA_CMD_OP → runs c s fun u =>
          (r = 0 → answers s u t 0 (if q.op % 2 = 0 then [leN d 0 8] else [])) ∧ (r ≠ 0 → answers s u t 4 [r])
          ∧ u.mgt.dsaFor = none)

/-- BRAKE_EVENT, BLOCK_RESET_RELEASE, WINDOW_CLOSE, SEVERE_CLEAR, REACTION_WRITE, REACTION_REWRITE, PIN_RELEASE,
PIN_RELEASE_DEFERRED, HISTORY_POP, HISTORY_CLEAR, INJECTION_ARM, INJECTION_DISARM (R349 to R370). -/
def Obligations.BrakeReacts : Prop :=
  ∀ s : State,
    (∀ (x : Ev) (q : List Ev), s.brk.queue = x :: q → x.src < 4096 →
      (s.brk.broken.contains x.src = false →
        (runs (.brakeEvent none .none) s fun t => accepts s t x.src ∧ ∃ l, t.brk.queue = q ++ l)
        ∧ runs (.brakeEvent none .reaction) s fun t =>
          t.bit F.BRK_STATUS_INT_ERR = true ∧ 3 ∈ srcs t ∧ t.brk.broken.contains x.src = true)
      ∧ (s.brk.broken.contains x.src = true → runs (.brakeEvent none .none) s fun t =>
          srcBit t F.BRK_IRQ_SRC x.src = true ∧ t.hasBit F.BRK_PIN_ASSERTED 0 = true
          ∧ t.get (F.BRK_CNT_WIN_COUNT x.src) = s.get (F.BRK_CNT_WIN_COUNT x.src)))
    ∧ (∀ g : Fin 16, runs (.blockResetRelease g) s fun t =>
      (∀ k, k < 6 → (t.px (6 * g.val + k)).wait
        = if (s.px (6 * g.val + k)).wait = .blockGroup then .none else (s.px (6 * g.val + k)).wait)
      ∧ ∀ p, p / 6 ≠ g.val → t.px p = s.px p)
    ∧ (∀ (mid : Mid) (n : Fin 4096),
      (s.brk.opened.contains n.val = true → runs (.windowClose n) s fun t =>
        t.get (F.BRK_CNT_WIN_COUNT n) = 0 ∧ t.brk = { s.brk with opened := s.brk.opened.filter (· != n.val) }
        ∧ regsKept s t [(R.BRK_CNT n).addr])
      ∧ (runs (.severeClear mid n) s fun t =>
        srcBit t F.BRK_SEV_SRC n = false ∧ t.get (F.BRK_CNT_WIN_COUNT n) = 0 ∧ t.brk.opened.contains n.val = false
        ∧ (∀ k : Fin 4096, k ≠ n → srcBit t F.BRK_SEV_SRC k = srcBit s F.BRK_SEV_SRC k))
      ∧ (∀ v : BitVec 32,
        (reactOk n v.toNat = true → (s.rd (R.BRK_REACT n)).toNat < 2 ^ 32 → runs (.reactionWrite n v) s fun t =>
          t.get (F.BRK_REACT_WINDOW n) = bitsGet (v.setWidth 64) 31 29 ∧ t.get (F.BRK_REACT_THRESH n) = bitsGet (v.setWidth 64) 28 24
          ∧ t.get (F.BRK_REACT_SEVERE n) = bitsGet (v.setWidth 64) 23 16 ∧ t.get (F.BRK_REACT_NORMAL n) = bitsGet (v.setWidth 64) 15 8
          ∧ t.get (F.BRK_REACT_PIN_SEL n) = bitsGet (v.setWidth 64) 7 6
          ∧ (bitsGet (s.rd (R.BRK_REACT n)) 31 24 ≠ bitsGet (v.setWidth 64) 31 24 →
            srcBit t F.BRK_SEV_SRC n = false ∧ t.get (F.BRK_CNT_WIN_COUNT n) = 0))
        ∧ (reactOk n v.toNat = false → (s.rd (R.BRK_REACT n)).toNat < 2 ^ 32 → runs (.reactionWrite n v) s fun t =>
          srcs t = srcs s ++ [1] ∧ regsKept s t [R.BRK_LOSS.addr] ∧ onlyRegsEvents s t))
      ∧ (s.brk.broken.contains n.val = true → runs (.reactionRewrite n) s fun t =>
        t.brk.broken.contains n.val = false ∧ srcBit t F.BRK_SEV_SRC n = false ∧ t.get (F.BRK_CNT_WIN_COUNT n) = 0
        ∧ t.rd (R.BRK_REACT n) = (if s.brk.copied then BitVec.ofNat 64 (tget 0 s.brk.copy n) else (R.BRK_REACT n).rst)))
    ∧ (∀ (mid : Mid) (k : Fin 4), s.hasBit F.BRK_PIN_ASSERTED k = true →
      (tget 0 s.brk.pinAt k + 320 ≤ s.get F.MGT_MTIME_TIME → runs (.pinRelease mid k) s fun t =>
        t.hasBit F.BRK_PIN_ASSERTED k = false ∧ t.get (pinFirst k) = s.get (pinFirst k))
      ∧ (s.get F.MGT_MTIME_TIME < tget 0 s.brk.pinAt k + 320 → runs (.pinRelease mid k) s fun t =>
        t.hasBit F.BRK_PIN_ASSERTED k = true ∧ t.brk.deferred.contains k.val = true ∧ t.regs = s.regs)
      ∧ (s.brk.deferred.contains k.val = true → runs (.pinReleaseDeferred k) s fun t =>
        t.hasBit F.BRK_PIN_ASSERTED k = false ∧ t.brk.deferred.contains k.val = false))
    ∧ (∀ mid : Mid,
      (∀ (x : Bytes) (xs : List Bytes), s.brk.hist = x :: xs → runs (.historyPop mid) s fun t =>
        t.brk.hist = xs ∧ t.get F.BRK_HIST_CTRL_HEAD = (s.get F.BRK_HIST_CTRL_HEAD + 1) % 1024
        ∧ t.get F.BRK_HIST_CTRL_COUNT = xs.length % 2048
        ∧ ∀ k, k < 4 → t.rd (R.BRK_HIST_REC k) = BitVec.ofNat 64 (leN (xs.headD []) (8 * k) 8))
      ∧ (runs (.historyClear mid) s fun t =>
        t.brk = { s.brk with hist := [] } ∧ t.get F.BRK_HIST_CTRL_COUNT = 0 ∧ ∀ k, k < 4 → t.rd (R.BRK_HIST_REC k) = 0#64)
      ∧ (∀ (target index : BitVec 8) (ue m : Bool) (bit : Fin 64),
        (s.bit F.BRK_INJ_CTRL_ARM = false → s.bit F.BRK_LOCK_LOCK = false → injOk target.toNat index.toNat m = true →
          runs (.injectionArm mid target index ue m bit) s fun t =>
            t.bit F.BRK_INJ_CTRL_ARM = true ∧ t.get F.BRK_INJ_CTRL_TARGET = target.toNat ∧ t.get F.BRK_INJ_CTRL_INDEX = index.toNat
            ∧ t.bit F.BRK_INJ_CTRL_UE = ue ∧ t.bit F.BRK_INJ_CTRL_MATCH = m ∧ t.get F.BRK_INJ_CTRL_BIT = bit
            ∧ regsKept s t [R.BRK_INJ_CTRL.addr, R.BRK_LOSS.addr])
        ∧ (s.bit F.BRK_INJ_CTRL_ARM = true ∨ injOk target.toNat index.toNat m = false →
          runs (.injectionArm mid target index ue m bit) s fun t =>
            srcs t = srcs s ++ [1] ∧ regsKept s t [R.BRK_LOSS.addr] ∧ onlyRegsEvents s t))
      ∧ (s.bit F.BRK_LOCK_LOCK = false → runs (.injectionDisarm mid) s fun t =>
        t.bit F.BRK_INJ_CTRL_ARM = false ∧ regsKept s t [R.BRK_INJ_CTRL.addr] ∧ onlyRegs s t))

/-- SOFTWARE_RAISE and the acceptance of its event (R369). -/
def Obligations.SoftwareSources : Prop :=
  ∀ (mid : Mid) (i : Fin 64) (s : State),
    ((s.brk.queue.filter fun e => e.det != .lost).length < 512 → runs (.softwareRaise mid i) s fun t =>
      t.brk.queue = s.brk.queue ++ [⟨4032 + i.val, .software (s.get F.BRK_SW_DATA_DATA)⟩] ∧ regsKept s t [R.BRK_SW_RAISE.addr]
      ∧ { t with regs := s.regs, brk := s.brk } = s)
    ∧ ∀ (d : Nat) (q : List Ev), s.brk.queue = ⟨4032 + i.val, .software d⟩ :: q → s.brk.broken.contains (4032 + i.val) = false →
      runs (.brakeEvent none .none) s fun t =>
        accepts s t (4032 + i.val) ∧ (∃ l, t.brk.queue = q ++ l)
        ∧ ((nextSet s (4032 + i.val)).testBit 0 = true → s.brk.hist.length < 1024 →
          ∃ r, t.brk.hist = s.brk.hist ++ [r] ∧ slice r 16 8 = leBytes 8 d)

/-- PROGRAM_KEY_SET, REVOKE_KEY_SET, PROGRAM_IMAGE_SEED, CLEAR_ALARM, DEBUG_TOKEN, FUSE_BURN_DONE, TOKEN_EXPIRE (R375 to R379). The
signature check is opaque: the statement says what follows either answer. -/
def Obligations.SignedCommands : Prop :=
  ∀ s : State,
    (∀ path : CmdPath, ∀ x ∈ ([(1, .programKeySet path), (2, .revokeKeySet path), (3, .programImageSeed path),
        (4, .clearAlarm path), (5, .debugToken path)] : List (Nat × Instr)),
      let c := cmdBytes s path
      (govFree s path → cmdReady s path → u8 c 7 = x.1 →
        runs x.2 s fun t =>
          if cmdSigned s c = false then cmdRefused s t path 4
          else
            (∀ k, k < 4 → t.get (F.GOV_CHAL_CHAL k) = leN (Config.drbg s.fresh) (8 * k) 8)
            ∧ t.fuse = s.fuse ∧ t.get F.GOV_STATUS_FAILS = s.get F.GOV_STATUS_FAILS
            ∧ (x.1 ≤ 3 → t.gov.burn = some ⟨x.1, u8 c 8, slice c 0x40 64, path.isReq⟩
              ∧ (path.isReq = true → t.bit F.GOV_REQ_CMD_BUSY = true))
            ∧ (x.1 = 4 → t.get F.GOV_ALARM_LEVEL = 0 ∧ t.get F.GOV_STATUS_ALARM = 0
              ∧ t.get F.GOV_ALARM_CAUSE = s.get F.GOV_ALARM_CAUSE ∧ t.gov = s.gov ∧ cmdShows t path 0)
            ∧ (x.1 = 5 → t.bit F.GOV_DBG_VALID = true ∧ t.bit F.GOV_DBG_INTERNAL = (leN c 0x40 4).testBit 0
              ∧ t.bit F.GOV_DBG_RUNCTL = (leN c 0x40 4).testBit 1 ∧ t.get F.GOV_DBG_LEFT = leN c 0x44 4
              ∧ t.bit (F.MPU_DBG_TOKEN 24) = (leN c 0x40 4).testBit 0 ∧ 42 ∈ srcs t ∧ cmdShows t path 0))
      ∧ (govFree s path → cmdShape c = false → runs x.2 s fun t => cmdRefused s t path 1)
      ∧ (govFree s path → cmdShape c = true → u8 c 7 = x.1 →
        leN c 0x10 8 ≠ s.get F.GOV_SERIAL_SERIAL ∨ slice c 0x18 32 ≠ chalBytes s → runs x.2 s fun t => cmdRefused s t path 2)
      ∧ ((∃ mid, path = .req mid) → s.bit F.GOV_STATUS_HALTED = true → s.gov.burn = none → u8 c 7 = x.1 → runs x.2 s fun t =>
        cmdShows t path 0xA ∧ t.fuse = s.fuse ∧ t.gov = s.gov ∧ regsKept s t [R.GOV_REQ_CMD.addr]))
    ∧ (∀ b : Burn, s.gov.burn = some b → s.fuse.keys.length = 4 → b.set < 4 →
      (runs (.fuseBurnDone true) s fun t =>
        t.gov.burn = none
        ∧ (b.req = true → t.get F.GOV_REQ_CMD_RESULT = 0 ∧ t.bit F.GOV_REQ_CMD_BUSY = false)
        ∧ (∀ j, j < 4 → (j = b.set → 2 < b.op) → keySet t j = keySet s j)
        ∧ (b.op = 1 → keySet t b.set = { keySet s b.set with digest := b.arg.take 48, prog := true }
          ∧ t.hasBit F.GOV_FUSE_PROGRAMMED b.set = true)
        ∧ (b.op = 2 → keySet t b.set = { keySet s b.set with rev := true } ∧ t.hasBit F.GOV_FUSE_REVOKED b.set = true)
        ∧ (b.op = 3 → t.bit F.GOV_FUSE_SEED = true ∧ (s.fuse.seedPart = false → t.fuse.seed = some (b.arg.take 32))))
      ∧ runs (.fuseBurnDone false) s fun t =>
        t.gov.burn = none
        ∧ (b.req = true → t.get F.GOV_REQ_CMD_RESULT = 7 ∧ t.bit F.GOV_REQ_CMD_BUSY = false)
        ∧ (∀ j, j < 4 → j ≠ b.set → keySet t j = keySet s j) ∧ (b.op = 1 → (keySet t b.set).prog = (keySet s b.set).prog)
        ∧ t.fuse.seed = s.fuse.seed)
    ∧ (s.bit F.GOV_DBG_VALID = true → runs .tokenExpire s fun t =>
      t.bit F.GOV_DBG_VALID = false ∧ t.bit F.GOV_DBG_INTERNAL = false ∧ t.bit F.GOV_DBG_RUNCTL = false
      ∧ t.get F.GOV_DBG_LEFT = 0 ∧ t.bit (F.MPU_DBG_TOKEN 24) = false ∧ onlyRegs s t
      ∧ regsKept s t [R.GOV_DBG.addr, (R.MPU_DBG 24).addr])

/-- SPDM_MESSAGE, KEY_PROG, K_SET_GO, K_SET_STOP, KEY_PROGRAM (R381, R382). What the standard makes of a message is opaque. -/
def Obligations.SessionsAndIdeKeys : Prop :=
  ∀ s : State,
    (∀ (mid : Mid) (p : Fin 96) (len : Fin 4097),
      let a := s.get F.GOV_REQ_ADDR_OFFSET
      let x := Config.spdm s.fresh p (s.spdRd a len)
      let n := (x.rsp.take 4096).length
      s.bit F.GOV_STATUS_HALTED = false → s.gov.burn = none →
      (a % 64 = 0 → (∀ w ∈ wordsOf (a + 0x1000) n, spdMark s w = 0) → a + 0x1000 + n ≤ 0x1000000 →
        runs (.spdmMessage mid p len) s fun t =>
          t.bit F.GOV_REQ_CMD_BUSY = false ∧ t.fuse = s.fuse ∧ t.gov.ide = s.gov.ide ∧ t.gov.ideOn = s.gov.ideOn
          ∧ if x.opens = true ∧ 2 ≤ s.get F.GOV_ALARM_LEVEL then t.get F.GOV_REQ_CMD_RESULT = 6 ∧ t.gov = s.gov ∧ t.spd = s.spd
            else
              t.get F.GOV_REQ_CMD_RESULT = (if x.result = 1 ∨ x.result = 8 ∨ x.result = 9 then x.result else 0)
              ∧ t.get F.GOV_REQ_RSP_LEN = n ∧ t.spdRd (a + 0x1000) n = x.rsp.take 4096
              ∧ (∀ i, i < a + 0x1000 ∨ a + 0x1000 + n ≤ i → tget 0#8 t.spd i = tget 0#8 s.spd i)
              ∧ t.gov.sessions.contains p.val = (!x.ends && (x.opens || s.gov.sessions.contains p.val))
              ∧ ∀ q, q ≠ p.val → t.gov.sessions.contains q = s.gov.sessions.contains q)
      ∧ (a % 64 ≠ 0 → runs (.spdmMessage mid p len) s fun t =>
        t.get F.GOV_REQ_CMD_RESULT = 1 ∧ t.bit F.GOV_REQ_CMD_BUSY = false ∧ t.gov = s.gov ∧ t.spd = s.spd))
    ∧ (∀ (p : Fin 96) (dir : Bool) (sub : Fin 4) (stream : Fin 10) (kset : Fin 2),
      let k := ideKey p dir.toNat sub stream kset
      let st := ideStream p dir.toNat sub stream
      (∀ (key : Vector Word 4) (iv : Word),
        (role s p = 1 → s.gov.sessions.contains p.val = true → runs (.keyProg p dir sub stream kset key iv) s fun t =>
          tget none t.gov.ide k = some ⟨key.toList, iv⟩ ∧ (∀ j, j ≠ k → tget none t.gov.ide j = tget none s.gov.ide j)
          ∧ t.gov.ideOn = s.gov.ideOn ∧ onlyRegsGov s t
          ∧ regsKept s t ([R.GOV_KIV.addr, R.GOV_KPROG.addr] ++ (List.range 4).map fun j => (R.GOV_KSTAGE j).addr))
        ∧ (s.gov.sessions.contains p.val = false → idles (.keyProg p dir sub stream kset key iv) s))
      ∧ (s.gov.sessions.contains p.val = true →
        ((tget none s.gov.ide k).isSome = true → runs (.kSetGo p dir sub stream kset) s fun t =>
          tget 0 t.gov.ideOn st = kset.val + 1 ∧ (∀ j, j ≠ st → tget 0 t.gov.ideOn j = tget 0 s.gov.ideOn j)
          ∧ t.gov.ide = s.gov.ide ∧ { t with gov := s.gov } = s)
        ∧ ((tget none s.gov.ide k).isSome = false → idles (.kSetGo p dir sub stream kset) s)
        ∧ (tget 0 s.gov.ideOn st = kset.val + 1 → runs (.kSetStop p dir sub stream kset) s fun t =>
          tget 0 t.gov.ideOn st = 0 ∧ (∀ j, j ≠ st → tget 0 t.gov.ideOn j = tget 0 s.gov.ideOn j)
          ∧ t.gov.ide = s.gov.ide ∧ { t with gov := s.gov } = s)))
    ∧ (∀ v : BitVec 32,
      let w := v.setWidth 64
      let st := ideStream (bitsGet w 6 0) (bitsGet w 28 28) (bitsGet w 26 25) (bitsGet w 24 21)
      let k := st * 2 + bitsGet w 27 27
      bitsGet w 24 21 ≤ 9 → isPcie s (bitsGet w 6 0) = true → runs (.keyProgram v) s fun t =>
        (bitsGet w 29 29 = 0 → tget none t.gov.ide k = some ⟨(List.range 4).map fun j => s.rd (R.GOV_KSTAGE j), s.rd R.GOV_KIV⟩)
        ∧ (bitsGet w 29 29 = 1 → tget none t.gov.ide k = none
          ∧ (tget 0 s.gov.ideOn st = bitsGet w 27 27 + 1 → tget 0 t.gov.ideOn st = 0))
        ∧ (∀ j, j ≠ k → tget none t.gov.ide j = tget none s.gov.ide j)
        ∧ t.bit F.GOV_KPROG_START = false ∧ regsKept s t [R.GOV_KPROG.addr] ∧ onlyRegsGov s t)

/-- TAMPER_INPUT, VOLTAGE_GLITCH, CLOCK_GLITCH, LOCKSTEP_MISMATCH, LIMITER_TICK, THERMAL_SAMPLE, THERMAL_HOLD_END (R384 to R391). The
demand and the temperatures are operands of the commands (log entry 1). -/
def Obligations.AlarmAndThermal : Prop :=
  ∀ s : State,
    (∀ (n cause level : Nat) (c : Instr),
      ((∃ i : Fin 4, c = .tamperInput i true ∧ n = 32 + i.val ∧ cause = 0 ∧ level = s.get F.GOV_POLICY_TAMPER)
        ∨ (c = .voltageGlitch ∧ n = 36 ∧ cause = 1 ∧ level = (if withinSec s s.gov.glitch then 2 else 1))
        ∨ (c = .clockGlitch ∧ n = 37 ∧ cause = 2 ∧ level = (if withinSec s s.gov.glitch then 2 else 1))
        ∨ (c = .lockstepMismatch ∧ n = 40 ∧ cause = 3 ∧ level = 1)) →
      level < 3 →
      runs c s fun t =>
        t.get F.GOV_ALARM_LEVEL = max (s.get F.GOV_ALARM_LEVEL) level ∧ t.hasBit F.GOV_ALARM_CAUSE cause = true ∧ n ∈ srcs t
        ∧ t.gov.burn = none
        ∧ (s.get F.GOV_ALARM_LEVEL = 0 → 0 < level → 43 ∈ srcs t ∧ t.bit F.GOV_DBG_VALID = false
          ∧ t.bit (F.MPU_DBG_TOKEN 24) = false ∧ t.get F.GOV_STATUS_ALARM = level)
        ∧ (s.get F.GOV_ALARM_LEVEL = 0 → 0 < level → s.get F.GOV_ALARM_CAUSE = 0 →
          t.get F.GOV_ALARM_TIME = s.get F.MGT_MTIME_TIME % 2 ^ 48)
        ∧ (s.get F.GOV_ALARM_LEVEL < 2 → level = 2 → t.gov.ide = [] ∧ t.gov.ideOn = [] ∧ t.gov.sessions = []))
    ∧ (∀ i : Fin 4,
      (s.get F.GOV_POLICY_TAMPER < 3 → runs (.tamperInput i true) s fun t =>
        t.hasBit F.GOV_TAMPER_NOW i = true ∧ t.hasBit F.GOV_TAMPER_SEEN i = true)
      ∧ runs (.tamperInput i false) s fun t =>
        t.hasBit F.GOV_TAMPER_NOW i = false ∧ t.get F.GOV_TAMPER_SEEN = s.get F.GOV_TAMPER_SEEN
        ∧ t.get F.GOV_ALARM_LEVEL = s.get F.GOV_ALARM_LEVEL ∧ regsKept s t [R.GOV_TAMPER.addr] ∧ onlyRegs s t)
    ∧ (runs .voltageGlitch s fun t => t.gov.glitch = some (s.get F.MGT_MTIME_TIME))
    ∧ (runs .clockGlitch s fun t => t.gov.glitch = some (s.get F.MGT_MTIME_TIME))
    ∧ (runs .lockstepMismatch s fun t =>
      t.gov.sessions = [] ∧ t.bit F.GOV_DBG_VALID = false ∧ t.gov.mismatch = some (s.get F.MGT_MTIME_TIME)
      ∧ (withinSec s s.gov.mismatch = true → t.bit F.GOV_STATUS_HALTED = true)
      ∧ (withinSec s s.gov.mismatch = false → t.bit F.GOV_STATUS_HALTED = s.bit F.GOV_STATUS_HALTED
        ∧ t.get F.GOV_STATUS_RESTARTS = min F.GOV_STATUS_RESTARTS.max (s.get F.GOV_STATUS_RESTARTS + 1)))
    ∧ (s.get F.GOV_POLICY_TAMPER = 3 → s.get F.GOV_ALARM_LEVEL < 3 → ∀ i : Fin 4, runs (.tamperInput i true) s fun t =>
      t.get F.GOV_ALARM_LEVEL = 3 ∧ t.pwr.held = true ∧ t.spd = [] ∧ t.mill = {} ∧ t.coh = {} ∧ t.fuse.keys.length = s.fuse.keys.length)
    ∧ (∀ want : Fin 512,
      let win := (s.gov.lim.est :: s.gov.lim.hist).take 10
      (∀ x ∈ win, ∀ y ∈ win, x ≤ y + 160) →
      runs (.limiterTick want) s fun t =>
        t.gov.lim.est ≤ s.gov.lim.est + s.get F.GOV_POLICY_STEP ∧ s.gov.lim.est ≤ t.gov.lim.est + s.get F.GOV_POLICY_STEP
        ∧ (s.gov.lim.est ≤ 10 * want.val → s.gov.lim.est ≤ t.gov.lim.est ∧ t.gov.lim.est ≤ 10 * want.val)
        ∧ (10 * want.val ≤ s.gov.lim.est → t.gov.lim.est ≤ s.gov.lim.est ∧ 10 * want.val ≤ t.gov.lim.est)
        ∧ ((∀ n, s.gov.lim.warn = some n → 100 * n < s.get F.GOV_POLICY_LEAD) →
          ∀ x ∈ win, t.gov.lim.est ≤ x + 160 ∧ x ≤ t.gov.lim.est + 160)
        ∧ (∀ n, s.gov.lim.warn = some n → s.get F.GOV_POLICY_LEAD ≤ 100 * n →
          t.gov.lim.est = stepTo s.gov.lim.est (10 * want.val) (s.get F.GOV_POLICY_STEP))
        ∧ (∀ x ∈ win, x + 160 < 10 * want.val ∨ 10 * want.val + 160 < x → t.bit F.GOV_LIMIT_WARN = true)
        ∧ t.get F.GOV_LIMIT_EST = t.gov.lim.est / 10 % 512
        ∧ (t.gov.lim.est < 10 * want.val → t.get F.GOV_LIMIT_ENGAGED = min F.GOV_LIMIT_ENGAGED.max (s.get F.GOV_LIMIT_ENGAGED + 1)
          ∧ (s.gov.lim.waiting = false → 41 ∈ srcs t))
        ∧ (10 * want.val ≤ t.gov.lim.est → t.get F.GOV_LIMIT_ENGAGED = s.get F.GOV_LIMIT_ENGAGED ∧ t.brk = s.brk)
        ∧ regsKept s t [R.GOV_LIMIT.addr, R.BRK_LOSS.addr])
    ∧ (∀ (c : Fin 256) (k : Fin 24), s.get F.GOV_STATUS_THERM ≠ 2 →
      let warn := s.get F.GOV_POLICY_WARN
      (c.val < 135 → c.val < s.get F.GOV_POLICY_SHUT →
        (s.get F.GOV_STATUS_THERM = 0 → warn ≤ c.val → runs (.thermalSample c k) s fun t =>
          t.get F.GOV_STATUS_THERM = 1 ∧ 38 ∈ srcs t ∧ t.get F.GOV_THERM_NOW = c.val ∧ t.get F.GOV_THERM_SENSOR = k.val
          ∧ t.get F.GOV_THERM_PEAK = max c.val (s.get F.GOV_THERM_PEAK))
        ∧ (s.get F.GOV_STATUS_THERM = 1 → c.val + 3 ≤ warn → runs (.thermalSample c k) s fun t =>
          t.get F.GOV_STATUS_THERM = 0 ∧ t.brk = s.brk ∧ t.get F.GOV_THERM_NOW = c.val))
      ∧ (135 ≤ c.val ∨ s.get F.GOV_POLICY_SHUT ≤ c.val → runs (.thermalSample c k) s fun t =>
        t.get F.GOV_STATUS_THERM = 2 ∧ t.pwr.held = true ∧ t.spd = [] ∧ t.mill = {} ∧ t.coh = {}))
    ∧ (∀ (c : Fin 256) (k : Fin 24), s.get F.GOV_STATUS_THERM = 2 → runs (.thermalSample c k) s fun t =>
      t.gov.cool = (if c.val + 10 ≤ s.get F.GOV_POLICY_WARN then some (s.gov.cool.getD (s.get F.MGT_MTIME_TIME)) else none)
      ∧ t.get F.GOV_STATUS_THERM = 2 ∧ regsKept s t [R.GOV_THERM.addr])
    ∧ (s.get F.GOV_STATUS_THERM = 2 → s.gov.cool.isSome = true → s.pwr.req = false → s.bit F.GOV_STATUS_HALTED = false →
      s.get F.GOV_ALARM_LEVEL ≠ 3 → runs .thermalHoldEnd s fun t =>
        t.get F.GOV_STATUS_THERM = 0 ∧ t.pwr.req = true ∧ t.bit F.CRP_RESET_CAUSE_THERMAL = true
        ∧ t.get F.CRP_RESET_CAUSE_COUNT = min F.CRP_RESET_CAUSE_COUNT.max (s.get F.CRP_RESET_CAUSE_COUNT + 1))

/-- SRAM_SCRUB_READ, ADAPTATION_VISIT, ADAPTATION_DECIDE, TELEMETRY_SNAPSHOT, TILE_CROSSING_LANE_FAIL, SPARE_LANE_TEST (R14, R394,
R397, R401, R405). -/
def Obligations.ScrubAdaptTelemetry : Prop :=
  ∀ s : State,
    (∀ (w : ScrubWord) (last : Bool), s.bit F.FAN_CTRL_SCRUB_EN = true →
      s.fan.scrub = none ∨ (∃ x, s.fan.scrub = some x ∧ scrubKey x < scrubKey w) →
      (tget 0 s.marks (scrubMark w) = 0 →
        runs (.sramScrubRead w .ok last) s fun t =>
          t.fan = { s.fan with scrub := if last then none else some w } ∧ regsKept s t [R.FAN_SCRUB_CNT.addr]
          ∧ { t with regs := s.regs, fan := s.fan } = s)
      ∧ (tget 0 s.marks (scrubMark w) = 1 → scrubSkip s w = false →
        runs (.sramScrubRead w .ok last) s fun t =>
          t.get F.FAN_SCRUB_CNT_CORRECTED = min F.FAN_SCRUB_CNT_CORRECTED.max (s.get F.FAN_SCRUB_CNT_CORRECTED + 1)
          ∧ tget 0 t.marks (scrubMark w) = 0))
    ∧ (∀ (t : Fin 4) (lane : Fin 64) (cdr more : Bool) (l : Nat), l = 64 * t.val + lane.val →
      s.bit F.FAN_CTRL_ADAPT_EN = true → tget none s.fan.adapt t = none → (laneStatus s (l / 16)).getLsbD (l % 16) = true →
      runs (.adaptationVisit t lane cdr more) s fun u =>
        tget none u.fan.adapt t = some (l, cdr, more)
        ∧ tget 0 u.fan.codes (2 * l + cdr.toNat) = tget 0 s.fan.codes (2 * l + cdr.toNat) + (if more then 1 else -1)
        ∧ { u with fan := s.fan } = s)
    ∧ (∀ (t : Fin 4) (keep cdr more : Bool) (l : Nat), tget none s.fan.adapt t = some (l, cdr, more) →
      runs (.adaptationDecide t keep) s fun u =>
        tget none u.fan.adapt t = none
        ∧ tget 0 u.fan.codes (2 * l + cdr.toNat)
          = tget 0 s.fan.codes (2 * l + cdr.toNat) - (if keep then 0 else if more then 1 else -1)
        ∧ u.get (if keep then F.FAN_ADAPT_CNT_KEPT else F.FAN_ADAPT_CNT_REVERTED)
          = min (if keep then F.FAN_ADAPT_CNT_KEPT else F.FAN_ADAPT_CNT_REVERTED).max
            (s.get (if keep then F.FAN_ADAPT_CNT_KEPT else F.FAN_ADAPT_CNT_REVERTED) + 1))
    ∧ (s.bit F.FAN_CTRL_TELEM_EN = true →
      runs .telemetrySnapshot s fun t => t.get F.FAN_TELEM_SEQ = (s.get F.FAN_TELEM_SEQ + 1) % 65536)
    ∧ (∀ tile : Fin 4, runs (.tileCrossingLaneFail tile) s fun t =>
      if (spareLane s tile).isSome then
        t.fan = { s.fan with lanes := s.fan.lanes ++ [16 * tile.val + (spareLane s tile).getD 0] } ∧ srcs t = srcs s ++ [4 + tile.val]
      else t.fan = s.fan ∧ srcs t = srcs s ++ [8 + tile.val])
    ∧ ∀ (tile : Fin 4) (lane : Fin 16) (ok : Bool) (k : Nat), k = 16 * tile.val + lane.val →
      s.bit F.FAN_CTRL_TEST_EN = true → s.fan.lanes.contains k = false →
      runs (.spareLaneTest tile lane ok) s fun t =>
        if lane.val < Config.crossingSpares then
          t.fan.lanes = s.fan.lanes ++ (if ok then [] else [k])
          ∧ t.get (if ok then F.FAN_TEST_CNT_PASSED else F.FAN_TEST_CNT_FAILED)
            = min (if ok then F.FAN_TEST_CNT_PASSED else F.FAN_TEST_CNT_FAILED).max
              (s.get (if ok then F.FAN_TEST_CNT_PASSED else F.FAN_TEST_CNT_FAILED) + 1)
        else t = s

/-- LOG_START, LOG_RECORD, LOG_PAGE_PROGRAM, LOG_FLUSH_TIMEOUT, LOG_FLASH_DONE (R398 to R400). -/
def Obligations.FaultLog : Prop :=
  ∀ s : State,
    (s.bit F.FAN_CTRL_LOG_EN = true →
      (s.get F.IMG_STATUS_STATE = 4 → s.fan.logging = false → s.bit F.IMG_FLASH_CTRL_BUSY = false →
        logSectors s ≠ 0 → (∀ n, n < logSectors s → sectorLap s n = none) →
        runs .logStart s fun t =>
          t.fan = { s.fan with logging := true, page := 256, sector := logSectors s - 1, next := some (0, 0), op := some (.erase 0) }
          ∧ { t with regs := s.regs, fan := s.fan } = s)
      ∧ (∀ (r : Bytes) (rs : List Bytes), s.fan.logIn = r :: rs → logSectors s ≠ 0 → s.bit F.FAN_LOG_CFG_SEVERE_ONLY = false →
        s.fan.staged.length < 128 →
        runs .logRecord s fun t => t = { s with fan := { s.fan with logIn := rs, staged := s.fan.staged ++ [r] } })
      ∧ ∀ c : Instr, (c = .logPageProgram ∧ 8 ≤ s.fan.staged.length) ∨ (c = .logFlushTimeout ∧ s.fan.staged ≠ []) →
        s.fan.logging = true → s.fan.op = none → s.bit F.IMG_FLASH_CTRL_BUSY = false → s.fan.page < 256 →
        runs c s fun t =>
          t = { s with fan := { s.fan with
                  op := some (.page s.fan.sector s.fan.page (s.fan.staged.take 8)), staged := s.fan.staged.drop 8 } })
    ∧ (∀ n : Nat, s.fan.op = some (.erase n) →
      runs (.logFlashDone true) s fun t =>
        (∃ lap, t.fan.op = some (.header n lap))
        ∧ (∀ a, sectorAt n ≤ a → a < sectorAt (n + 1) → tget 0xFF#8 t.img.flash a = 0xFF#8)
        ∧ ∀ a, a < sectorAt n ∨ sectorAt (n + 1) ≤ a → tget 0xFF#8 t.img.flash a = tget 0xFF#8 s.img.flash a)
    ∧ ∀ (n k : Nat) (recs : List Bytes), s.fan.op = some (.page n k recs) →
      runs (.logFlashDone true) s fun t =>
        t.get F.FAN_LOG_POS_WRITTEN = min F.FAN_LOG_POS_WRITTEN.max (s.get F.FAN_LOG_POS_WRITTEN + recs.length)
        ∧ ∀ a, a < sectorAt n + 256 * k ∨ sectorAt n + 256 * k + recs.flatten.length ≤ a →
          tget 0xFF#8 t.img.flash a = tget 0xFF#8 s.img.flash a

/-- ROTATION_DUE, ROTATION_RETRY, SLICE_TEST_DONE, ENGINE_TEST_TURN, ENGINE_TEST_SLICE, ENGINE_TEST_SKIP (R403, R404). -/
def Obligations.InServiceTest : Prop :=
  ∀ s : State,
    (∀ (c : Instr) (d e : Nat) (ds : List Nat), c = .rotationDue ∨ (c = .rotationRetry ∧ s.fan.rotRetry = true) →
      s.bit F.FAN_CTRL_TEST_EN = true → s.bit F.COH_CTRL_ROT_EN = true → sliceTested s = false → s.coh.rot = none →
      freeSpares s = d :: e :: ds → physOf s (rotPick s) < 34 →
      runs c s fun t =>
        t.coh = { s.coh with rot := some ⟨rotPick s, physOf s (rotPick s), d⟩, heldSlice := some (rotPick s) }
        ∧ t.fan.rotMine = true ∧ t.fan.rotRetry = false ∧ t.bit F.COH_ROT_CTRL_BUSY = true
        ∧ regsKept s t [R.COH_ROT_CTRL.addr])
    ∧ (∀ (ok : Bool) (p : Nat), (List.range 34).find? (fun p => s.get (F.COH_SL_STATUS_ROLE p) == 3) = some p →
      runs (.sliceTestDone ok) s fun t =>
        t.get (F.COH_SL_STATUS_ROLE p) = (if ok then 1 else 2) ∧ t.coh.order = s.coh.order.filter (· != p) ++ [p]
        ∧ t.get F.FAN_TEST_STATUS_UNIT = p ∧ t.get F.FAN_TEST_STATUS_RESULT = (if ok then 0 else 1))
    ∧ (s.bit F.FAN_CTRL_TEST_EN = true →
      (∀ e : Nat, s.fan.test = none → engNext s = some e →
        runs .engineTestTurn s fun t =>
          t.fan.turn = (e + 1) % 16 ∧ { t with fan := s.fan } = s
          ∧ (engEligible s e = true → t.fan.due = none ∧ t.fan.test = some { eng := e, mode := s.get (F.HOP_ENG_STATUS_MODE e) })
          ∧ (engEligible s e = false → t.fan.due = some e ∧ t.fan.test = none))
      ∧ ∀ x : EngTest, s.fan.test = some x → engFailed s x.eng = false → engEligible s x.eng = true →
        s.get (F.HOP_ENG_STATUS_MODE x.eng) = x.mode →
        runs (.engineTestSlice false) s fun t =>
          (x.slices < 199 → t = { s with fan := { s.fan with test := some { x with slices := x.slices + 1, paused := false } } })
          ∧ (199 ≤ x.slices → t.fan.test = none
            ∧ t.get F.FAN_TEST_CNT_PASSED = min F.FAN_TEST_CNT_PASSED.max (s.get F.FAN_TEST_CNT_PASSED + 1)))
    ∧ ∀ e : Nat, s.fan.due = some e →
      runs .engineTestSkip s fun t =>
        t.fan.due = none ∧ srcs t = srcs s ++ [193]
        ∧ t.get F.FAN_TEST_CNT_SKIPPED = min F.FAN_TEST_CNT_SKIPPED.max (s.get F.FAN_TEST_CNT_SKIPPED + 1)

/-- COUNTER_TICK, SNAPSHOT, COUNTER_CLEAR, SELECTOR_WRITE, SAMPLE_TIMEOUT, SAMPLE_POP, SAMPLE_CLEAR (R408 to R416). -/
def Obligations.CountersAndSamples : Prop :=
  ∀ s : State,
    (∀ (ev : List PmcEv) (cs : List CoreAt),
      (s.bit F.PMC_CTRL_EN = false ∨ s.bit F.PMC_STATUS_FROZEN = true → runs (.counterTick ev cs) s fun t => t = { s with pmc := t.pmc })
      ∧ (s.bit F.PMC_CTRL_EN = true → s.bit F.PMC_STATUS_FROZEN = false → ∀ n : Fin 1024,
        let add := modeAdd (s.get (F.PMC_SEL_MODE n)) (s.get (F.PMC_SEL_THRESH n)) (tget 0 s.pmc.prev n) (tickVal s ev n)
        (s.bit (F.PMC_SEL_EN n) = false → runs (.counterTick ev cs) s fun t =>
          t.get (F.PMC_CNT_COUNT n) = s.get (F.PMC_CNT_COUNT n))
        ∧ (s.bit (F.PMC_SEL_EN n) = true → chained s n = false → runs (.counterTick ev cs) s fun t =>
          t.get (F.PMC_CNT_COUNT n) = (s.get (F.PMC_CNT_COUNT n) + add) % 2 ^ 48
          ∧ tget 0 t.pmc.prev n = tickVal s ev n
          ∧ (2 ^ 48 ≤ s.get (F.PMC_CNT_COUNT n) + add → n.val % 2 = 1 ∨ chained s (n.val + 1) = false →
            ((s.get (F.PMC_SEL_OVF_ACT n)).testBit 0 = true →
              (t.get (F.PMC_OVF_CNT (n.val / 64))).testBit (n.val % 64) = true ∧ 224 ∈ srcs t)
            ∧ ((s.get (F.PMC_SEL_OVF_ACT n)).testBit 1 = true → t.bit F.PMC_STATUS_FROZEN = true)))
        ∧ (∀ m : Fin 1024, m.val + 1 = n.val → s.bit (F.PMC_SEL_EN n) = true → s.bit (F.PMC_SEL_EN m) = true → chained s n = true →
          runs (.counterTick ev cs) s fun t =>
            t.get (F.PMC_CNT_COUNT n) = (s.get (F.PMC_CNT_COUNT n) + (s.get (F.PMC_CNT_COUNT m)
              + modeAdd (s.get (F.PMC_SEL_MODE m)) (s.get (F.PMC_SEL_THRESH m)) (tget 0 s.pmc.prev m) (tickVal s ev m)) / 2 ^ 48) % 2 ^ 48)))
    ∧ (∀ mid : Mid,
      (runs (.snapshot mid) s fun t =>
        (∀ n, n < 1024 → t.get (F.PMC_SNAP_COUNT n) = s.get (F.PMC_CNT_COUNT n)
          ∧ t.get (F.PMC_CNT_COUNT n) = s.get (F.PMC_CNT_COUNT n))
        ∧ t.get F.PMC_STATUS_SNAPS = (s.get F.PMC_STATUS_SNAPS + 1) % 65536
        ∧ t.bit F.PMC_CTRL_EN = s.bit F.PMC_CTRL_EN ∧ onlyRegs s t)
      ∧ (runs (.counterClear mid) s fun t =>
        (∀ n, n < 1024 → t.get (F.PMC_CNT_COUNT n) = 0 ∧ t.get (F.PMC_SNAP_COUNT n) = s.get (F.PMC_SNAP_COUNT n))
        ∧ t.bit F.PMC_CTRL_EN = s.bit F.PMC_CTRL_EN ∧ onlyRegs s t)
      ∧ (∀ (n : Fin 1024) (v : Word),
        (selOk s n (wrFull mid true v) = true → s.bit F.PMC_LOCK_LOCK = false → runs (.selectorWrite mid n v) s fun t =>
          t.bit (F.PMC_SEL_EN n) = v.getLsbD 63 ∧ t.bit (F.PMC_SEL_CHAIN n) = v.getLsbD 62
          ∧ t.get (F.PMC_SEL_MODE n) = bitsGet v 61 59 ∧ t.get (F.PMC_SEL_OVF_ACT n) = bitsGet v 58 57
          ∧ t.bit (F.PMC_SEL_PRECISE n) = v.getLsbD 56 ∧ t.bit (F.PMC_SEL_SAMPLE n) = v.getLsbD 55
          ∧ t.get (F.PMC_SEL_THRESH n) = bitsGet v 51 32 ∧ t.get (F.PMC_SEL_TC_MASK n) = bitsGet v 31 24
          ∧ t.get (F.PMC_SEL_UNIT n) = bitsGet v 23 19 ∧ t.get (F.PMC_SEL_INSTANCE n) = bitsGet v 18 12
          ∧ t.get (F.PMC_SEL_EVENT n) = bitsGet v 7 0 ∧ regsKept s t [(R.PMC_SEL n).addr] ∧ onlyRegs s t)
        ∧ (selOk s n (wrFull mid true v) = true → s.bit F.PMC_LOCK_LOCK = true → runs (.selectorWrite mid n v) s fun t =>
          t.bit (F.PMC_SEL_EN n) = v.getLsbD 63 ∧ t.get (F.PMC_SEL_UNIT n) = s.get (F.PMC_SEL_UNIT n)
          ∧ t.get (F.PMC_SEL_INSTANCE n) = s.get (F.PMC_SEL_INSTANCE n) ∧ t.get (F.PMC_SEL_EVENT n) = s.get (F.PMC_SEL_EVENT n)
          ∧ t.get (F.PMC_SEL_MODE n) = s.get (F.PMC_SEL_MODE n))
        ∧ (selOk s n (wrFull mid true v) = false → runs (.selectorWrite mid n v) s fun t =>
          srcs t = srcs s ++ [1] ∧ regsKept s t [R.BRK_LOSS.addr] ∧ onlyRegsEvents s t)))
    ∧ (∀ (k : Fin 8) (x : TsTag), (tget {} s.pmc.ts k).tagged = some x → runs (.sampleTimeout k) s fun t =>
      (tget {} t.pmc.ts k).tagged = none ∧ (∀ j, j ≠ k.val → tget {} t.pmc.ts j = tget {} s.pmc.ts j)
      ∧ (s.bit F.PMC_SMP_CTRL_EN = false → t.pmc.samples = s.pmc.samples)
      ∧ (s.bit F.PMC_SMP_CTRL_EN = true → s.pmc.samples.length < 512 →
        (∃ r : Bytes, t.pmc.samples = s.pmc.samples ++ [r] ∧ leN r 0 8 = x.t0 % 2 ^ 64 ∧ leN r 8 2 % 16 = k.val + 8 ∧ u8 r 10 = 2
          ∧ u8 r 11 = x.cls.code % 256 ∧ leN r 16 8 = x.addr % 2 ^ 64 ∧ leN r 28 4 = 0xFFFFFFFF)
        ∧ t.get F.PMC_SMP_STATUS_COUNT = s.pmc.samples.length + 1
        ∧ (s.pmc.samples.length = 511 → t.bit F.PMC_SMP_STATUS_FULL = true ∧ 225 ∈ srcs t))
      ∧ (s.bit F.PMC_SMP_CTRL_EN = true → 512 ≤ s.pmc.samples.length →
        t.pmc.samples = s.pmc.samples ∧ t.get F.PMC_SMP_STATUS_DROPS = min F.PMC_SMP_STATUS_DROPS.max (s.get F.PMC_SMP_STATUS_DROPS + 1)))
    ∧ (∀ (k : Fin 8), (tget {} s.pmc.ts k).tagged = none → idles (.sampleTimeout k) s)
    ∧ (∀ mid : Mid,
      (∀ (r : Bytes) (l : List Bytes), s.pmc.samples = r :: l → l.length < 512 → runs (.samplePop mid) s fun t =>
        t.pmc.samples = l ∧ t.get F.PMC_SMP_STATUS_COUNT = l.length ∧ t.bit F.PMC_SMP_STATUS_FULL = false
        ∧ (∀ k, k < 4 → t.rd (R.PMC_SMP_REC k) = BitVec.ofNat 64 (leN (l.headD []) (8 * k) 8)) ∧ t.brk = s.brk)
      ∧ (s.pmc.samples = [] → runs (.samplePop mid) s fun t => t.pmc.samples = [] ∧ t.get F.PMC_SMP_STATUS_COUNT = 0)
      ∧ (runs (.sampleClear mid) s fun t =>
        t.pmc.samples = [] ∧ t.get F.PMC_SMP_STATUS_COUNT = 0 ∧ t.bit F.PMC_SMP_STATUS_FULL = false
        ∧ t.bit F.PMC_SMP_CTRL_EN = s.bit F.PMC_SMP_CTRL_EN ∧ ∀ k, k < 4 → t.rd (R.PMC_SMP_REC k) = 0#64))

/-- POWER_ON_RESET, POWER_UP, CHIP_RESET, RESET_PIN, SOFTWARE_CHIP_RESET (R421 to R427). -/
def Obligations.DeviceResets : Prop :=
  ∀ s : State,
    (runs .powerOnReset s fun t =>
      (∀ q : Reg, t.rd q = q.rst) ∧ t.fuse = s.fuse ∧ t.img.flash = s.img.flash ∧ t.img.op = none ∧ t.spd = [] ∧ t.brk = {} ∧ t.gov = {}
      ∧ t.mill = {} ∧ t.rte = {} ∧ t.coh = {} ∧ t.pool = {} ∧ t.pwr.held = true ∧ t.pwr.booted = false)
    ∧ (s.pwr.booted = false → s.pwr.brown = false → s.pwr.sysLost = false → s.get F.GOV_STATUS_THERM ≠ 2 → s.get F.GOV_ALARM_LEVEL ≠ 3 →
      (s.pwr.pinLow = false →
        (runs (.powerUp ⟨[], [], []⟩) s fun t =>
          t.pwr.booted = true ∧ t.pwr.held = false ∧ t.pwr.loaderUp = true ∧ t.get F.CRP_STATUS_RAIL_OK = 0xFF
          ∧ t.bit F.CRP_STATUS_MAIN_OK = true ∧ t.bit F.CRP_STATUS_SYSCLK_OK = true ∧ t.get F.GOV_SERIAL_SERIAL = s.fuse.serial.toNat
          ∧ t.get F.CRP_AVS_TARGET = s.fuse.avs % 1024 ∧ t.get F.CRP_AVS_REQUEST = s.fuse.avs % 1024
          ∧ (∀ k, k < 4 → t.get (F.GOV_CHAL_CHAL k) = leN (Config.drbg s.fresh) (8 * k) 8) ∧ t.fuse = s.fuse ∧ t.brk = s.brk)
        ∧ ∀ e : Fin 16, runs (.powerUp ⟨[], [], [e]⟩) s fun t => t.bit (F.HOP_ENG_STATUS_FAILED e) = true ∧ 192 ∈ srcs t)
      ∧ (s.pwr.pinLow = true → runs (.powerUp ⟨[], [], []⟩) s fun t => t.pwr.booted = true ∧ t.pwr.held = s.pwr.held))
    ∧ (s.pwr.req = true → s.bit F.GOV_STATUS_HALTED = false → s.img.op = none → s.fan.op = none →
      (runs (.chipReset ⟨[], [], []⟩) s fun t =>
        (∀ q : Reg, keptReg q.addr = true → q.addr ∉ [R.GOV_STATUS.addr, R.CRP_STATUS.addr, R.CRP_RAIL.addr, R.CRP_AVS.addr, R.CRP_CLK.addr,
          R.BRK_HIST_CTRL.addr] → t.rd q = s.rd q)
        ∧ (∀ q : Reg, keptReg q.addr = false → q.addr ∉ [R.IMG_ARB.addr, (R.MPU_REG_A 24 0).addr, (R.MPU_REG_B 24 0).addr,
          R.BRK_STATUS.addr, (R.BRK_HIST_REC 0).addr, (R.BRK_HIST_REC 1).addr, (R.BRK_HIST_REC 2).addr, (R.BRK_HIST_REC 3).addr] →
          t.rd q = q.rst)
        ∧ t.bit F.GOV_STATUS_POLICY = false ∧ t.get F.GOV_ALARM_LEVEL = s.get F.GOV_ALARM_LEVEL
        ∧ t.spd = [] ∧ t.mill = {} ∧ t.coh = {} ∧ t.rte = {} ∧ t.pool = {} ∧ t.hep = {} ∧ t.mgt = {}
        ∧ t.fuse = s.fuse ∧ t.img.flash = s.img.flash ∧ t.brk.hist = s.brk.hist)
      ∧ (s.pwr.booted = true → resetStays s = false → runs (.chipReset ⟨[], [], []⟩) s fun t =>
        t.pwr.held = false ∧ t.pwr.req = false ∧ t.pwr.loaderUp = true ∧ srcs t = [16])
      ∧ (s.pwr.pinLow = true → runs (.chipReset ⟨[], [], []⟩) s fun t => t.pwr.held = true ∧ t.pwr.req = true ∧ srcs t = []))
    ∧ ((s.img.op.isSome = true ∨ s.fan.op.isSome = true ∨ s.pwr.req = false) → ∀ t, idles (.chipReset t) s)
    ∧ (∀ (c : Instr) (cause : Fld), s.pwr.req = false → s.bit F.GOV_STATUS_HALTED = false → s.get F.GOV_ALARM_LEVEL ≠ 3 →
      s.get F.GOV_STATUS_THERM ≠ 2 →
      (c = .resetPin true ∧ cause = F.CRP_RESET_CAUSE_RESET_PIN)
        ∨ (s.bit F.CRP_LOCK_LOCK = false ∧ cause = F.CRP_RESET_CAUSE_SOFTWARE ∧ ∃ mid : Mid, c = .softwareChipReset mid) →
      runs c s fun t =>
        t.pwr.req = true ∧ t.pwr.reqSrc = 0xFFF ∧ t.bit cause = true
        ∧ t.get F.CRP_RESET_CAUSE_COUNT = min F.CRP_RESET_CAUSE_COUNT.max (s.get F.CRP_RESET_CAUSE_COUNT + 1)
        ∧ t.bit F.CRP_SW_RESET_CHIP = (if c = .resetPin true then s.bit F.CRP_SW_RESET_CHIP else false)
        ∧ t.pwr.held = s.pwr.held ∧ t.brk = s.brk)
    ∧ (runs (.resetPin false) s fun t => t.pwr.pinLow = false ∧ t.regs = s.regs ∧ t.pwr.req = s.pwr.req)
    ∧ (∀ mid : Mid, s.bit F.CRP_LOCK_LOCK = true → s.bit F.CRP_SW_RESET_CHIP = false → runs (.softwareChipReset mid) s fun t =>
      srcs t = srcs s ++ [1] ∧ t.pwr = s.pwr ∧ regsKept s t [R.BRK_LOSS.addr])

/-- RAIL_FAULT, BROWN_OUT, BROWN_OUT_END, SLC_SUPPLY_LOSS, SLC_SUPPLY_RESTORE, SYSCLK_LOSS, SYSCLK_RESTORE, AOCLK_LOSS, AOCLK_RESTORE,
AVS_ADJUST, PERST_ASSERT, PERST_RELEASE, HOT_RESET, VCS_RESET_COMPLETE, POOL_STANDBY_ENTER, POOL_STANDBY_EXIT (R419 to R431). -/
def Obligations.RailsClocksAndStandby : Prop :=
  ∀ s : State,
    (∀ m : Fin 8,
      (runs (.railFault m true) s fun t =>
        t.hasBit F.CRP_RAIL_FAULT m = true ∧ t.hasBit F.CRP_STATUS_RAIL_OK m = false ∧ t.bit F.CRP_STATUS_MAIN_OK = false
        ∧ srcs t = srcs s ++ (if s.pwr.held then [] else [48 + m.val])
        ∧ regsKept s t [R.CRP_RAIL.addr, R.CRP_STATUS.addr, R.BRK_LOSS.addr])
      ∧ runs (.railFault m false) s fun t =>
        t.hasBit F.CRP_STATUS_RAIL_OK m = true ∧ t.get F.CRP_RAIL_FAULT = s.get F.CRP_RAIL_FAULT ∧ onlyRegs s t
        ∧ regsKept s t [R.CRP_STATUS.addr])
    ∧ (∀ m : Fin 7, runs (.brownOut m) s fun t =>
      t.pwr.held = true ∧ t.pwr.brown = true ∧ t.hasBit F.CRP_RAIL_BROWN m = true ∧ t.hasBit F.CRP_STATUS_RAIL_OK m = false
      ∧ t.bit F.CRP_RESET_CAUSE_BROWNOUT = true ∧ t.spd = [] ∧ t.mill = {} ∧ t.coh = {} ∧ t.fuse = s.fuse ∧ t.brk.hist = s.brk.hist
      ∧ (s.pwr.req = false → t.get F.CRP_RESET_CAUSE_COUNT = min F.CRP_RESET_CAUSE_COUNT.max (s.get F.CRP_RESET_CAUSE_COUNT + 1)))
    ∧ (s.pwr.booted = true → s.pwr.pinLow = false → s.get F.GOV_STATUS_THERM ≠ 2 → s.get F.GOV_ALARM_LEVEL ≠ 3 →
      (s.pwr.brown = true → s.pwr.sysLost = false → runs (.brownOutEnd ⟨[], [], []⟩) s fun t =>
        t.pwr.brown = false ∧ t.pwr.held = false ∧ 16 ∈ srcs t ∧ (∀ m, m < 7 → t.hasBit F.CRP_STATUS_RAIL_OK m = true))
      ∧ (s.pwr.sysLost = true → s.pwr.brown = false → runs (.sysclkRestore ⟨[], [], []⟩) s fun t =>
        t.pwr.sysLost = false ∧ t.pwr.held = false ∧ 16 ∈ srcs t ∧ t.bit F.CRP_STATUS_SYSCLK_OK = true ∧ t.bit F.CRP_CLK_HOLDOVER = false))
    ∧ (∀ pll : Bool, runs (.sysclkLoss pll) s fun t =>
      t.pwr.held = true ∧ t.pwr.sysLost = true ∧ t.bit F.CRP_CLK_SYSCLK_LOST = true ∧ t.bit F.CRP_CLK_HOLDOVER = true
      ∧ t.bit F.CRP_RESET_CAUSE_SYSCLK_LOSS = true ∧ t.spd = [] ∧ t.mill = {} ∧ t.coh = {}
      ∧ t.bit (if pll then F.CRP_STATUS_PLL_LOCK else F.CRP_STATUS_SYSCLK_OK) = false
      ∧ (s.pwr.held = false → s.brk.broken.contains 56 = false → s.brk.hist.length < 1023 → (nextSet s 56).testBit 0 = true →
        ∃ r : Bytes, s.brk.hist ++ [r] <+: t.brk.hist ∧ leN r 8 2 % 4096 = 56))
    ∧ (runs .slcSupplyLoss s fun t =>
      t.pwr.slcOut = true ∧ t.hasBit F.CRP_STATUS_RAIL_OK 7 = false
      ∧ (∀ n, n < 32 → slcState s n ≠ 4 → slcState s n ≠ 0 → slcState t n = 1 ∧ t.bit (F.SLC_STATUS_PGOOD n) = false)
      ∧ (∀ n, n < 32 → slcState s n = 4 → slcState t n = 4) ∧ t.brk = s.brk)
    ∧ (s.pwr.slcOut = true → runs .slcSupplyRestore s fun t =>
      t.pwr.slcOut = false ∧ t.hasBit F.CRP_STATUS_RAIL_OK 7 = true ∧ regsKept s t [R.CRP_STATUS.addr])
    ∧ (runs .aoclkLoss s fun t => t.bit F.CRP_CLK_AOCLK_LOST = true ∧ t.bit F.CRP_STATUS_AOCLK_OK = false ∧ onlyRegs s t
      ∧ regsKept s t [R.CRP_CLK.addr, R.CRP_STATUS.addr])
    ∧ (runs .aoclkRestore s fun t => t.bit F.CRP_STATUS_AOCLK_OK = true ∧ t.bit F.CRP_CLK_AOCLK_LOST = s.bit F.CRP_CLK_AOCLK_LOST
      ∧ onlyRegs s t)
    ∧ (∀ (up : Bool) (n : Fin 64), s.pwr.booted = true → s.bit F.GOV_STATUS_HALTED = false →
      let mv : Int := s.get F.CRP_AVS_REQUEST + (if up then 5 * (n.val : Int) else -(5 * (n.val : Int)))
      runs (.avsAdjust up n) s fun t =>
        (650 ≤ mv ∧ mv ≤ 850 → (t.get F.CRP_AVS_REQUEST : Int) = mv ∧ t.brk = s.brk)
        ∧ (mv < 650 → t.get F.CRP_AVS_REQUEST = 650) ∧ (850 < mv → t.get F.CRP_AVS_REQUEST = 850)
        ∧ (mv < 650 ∨ 850 < mv → s.pwr.held = false → srcs t = srcs s ++ [57]) ∧ t.get F.CRP_AVS_TARGET = s.get F.CRP_AVS_TARGET)
    ∧ (∀ i : Fin 32,
      (runs (.perstRelease i) s fun t => t.hasBit F.CRP_PERST_ASSERTED i = false ∧ onlyRegs s t ∧ regsKept s t [R.CRP_PERST.addr])
      ∧ (perstPorts s i = [] → runs (.perstAssert i) s fun t =>
        t.hasBit F.CRP_PERST_ASSERTED i = true ∧ onlyRegs s t ∧ regsKept s t [R.CRP_PERST.addr])
      ∧ (∀ p v, p < 96 → perstPorts s i = [p] → vcsOfPort s p = some v → runs (.perstAssert i) s fun t =>
        t.hasBit F.CRP_PERST_ASSERTED i = true ∧ t.hasBit F.CRP_VCS_RESET_ACTIVE v = true ∧ ltssm t p = 0 ∧ (t.px p).up = false))
    ∧ (∀ (p : Fin 96) (v : Nat), role s p = 1 → (s.px p).up = true → vcsOfPort s p = some v → runs (.hotReset p) s fun t =>
      ltssm t p = 0 ∧ (t.px p).up = false ∧ t.hasBit F.CRP_VCS_RESET_ACTIVE v = true ∧ 320 + 8 * p.val ∈ srcs t)
    ∧ (∀ v : Fin 64, vcsCauseEnded s v = true → (∀ n, n < 1024 → fnIn s n v = true → (s.fx n).shut = none) →
      runs (.vcsResetComplete v) s fun t =>
        t.hasBit F.CRP_VCS_RESET_ACTIVE v = false ∧ onlyRegs s t ∧ regsKept s t [R.CRP_VCS_RESET.addr])
    ∧ (∀ v : Fin 64, vcsCauseEnded s v = false → idles (.vcsResetComplete v) s)
    ∧ (∀ mid : Mid,
      (s.bit F.CRP_PWR_STBY_NOW = false → standbyOk s = true → runs (.poolStandbyEnter mid) s fun t =>
        t.bit F.CRP_PWR_STBY_NOW = true ∧ t.bit F.CRP_PWR_POOL_STBY = true ∧ onlyRegs s t ∧ regsKept s t [R.CRP_PWR.addr])
      ∧ (s.bit F.CRP_PWR_STBY_NOW = false → standbyOk s = false → runs (.poolStandbyEnter mid) s fun t =>
        srcs t = srcs s ++ [1] ∧ regsKept s t [R.BRK_LOSS.addr] ∧ onlyRegsEvents s t)
      ∧ (∀ m : Option Mid, m = some mid ∨ (m = none ∧ s.bit F.CRP_PWR_STBY_NOW = true ∧ (∃ x ∈ s.pool.chq, x.2 ≠ [])) →
        runs (.poolStandbyExit m) s fun t =>
          t.bit F.CRP_PWR_STBY_NOW = false ∧ t.bit F.CRP_PWR_POOL_STBY = false ∧ onlyRegs s t ∧ regsKept s t [R.CRP_PWR.addr]))

/-- Encoding and decoding of flits agree (R79, R83, R84). -/
def Obligations.FlitCodec : Prop :=
  (∀ b : Bytes, b.length = 236 →
    (fecEncode b).length = 256 ∧ (fecEncode b).take 236 = b ∧ crcOk (fecEncode b) = true
    ∧ (∀ c, c < 3 → syndromes (codeword c (fecEncode b)) = [0#8, 0#8, 0#8, 0#8])
    ∧ fecDecode (fecEncode b) = (fecEncode b, 0)
    ∧ ∀ (i : Nat) (v : Byte), i < 256 → v ≠ (fecEncode b).getD i 0#8 → fecDecode ((fecEncode b).set i v) = (fecEncode b, 1))
  ∧ ∀ (h : FlitHdr) (rest : Bytes), h.seq < 65536 → h.ackSeq < 65536 → h.ack < 4 → h.ftype < 4 → h.cmark < 256 → h.slotStart < 16384 →
      h.cret0.1 < 8 → h.cret0.2 < 8192 → h.cret1.1 < 8 → h.cret1.2 < 8192 → flitHdr (h.bytes ++ rest) = h

/-- Correction of up to two bytes of a codeword (R83). -/
def Obligations.CodewordCorrectsTwoBytes : Prop :=
  ∀ (w : Bytes) (i j : Nat) (x y : Byte), w.length ≤ 86 → syndromes w = [0#8, 0#8, 0#8, 0#8] → i < w.length → j < w.length → i ≠ j →
    x ≠ 0#8 → y ≠ 0#8 →
    rsFix w = (w, 0) ∧ rsFix (addAt w i x) = (w, 1) ∧ rsFix (addAt (addAt w i x) j y) = (w, 2)

/-- The canonical form of the memories is an invariant: from every state that has it, each step keeps it. -/
def Obligations.StepsKeepMemoriesCanonical : Prop :=
  ∀ s t : State, s.canon = true → step s = .next t → t.canon = true
end

