-- ==== Sys2Proof/Laws/Tab.lean ====
section
/-! SUPPORT. Laws of sparse tables: a read after a write, and the canonical form. -/

namespace Sys2Proof.Machine

variable {α : Type}

theorem tget_tins_self (d : α) (t : Tab α) (i : Nat) (v : α) : tget d (tins t i v) i = v := by
  induction t with
  | nil => simp [tins, tget]
  | cons e t ih =>
    obtain ⟨k, w⟩ := e
    simp only [tins]
    split
    · simp [tget]
    · split
      · simp [tget]
      · next h => simp [tget, Ne.symm h, ih]

theorem tget_tins_ne (d : α) (t : Tab α) {i j : Nat} (v : α) (h : j ≠ i) : tget d (tins t i v) j = tget d t j := by
  induction t with
  | nil => simp [tins, tget, Ne.symm h]
  | cons e t ih =>
    obtain ⟨k, w⟩ := e
    simp only [tins]
    split
    · simp [tget, Ne.symm h]
    · split
      · next hi => subst hi; simp [tget, Ne.symm h]
      · simp only [tget, ih]

theorem tget_drop_self (d : α) (t : Tab α) (i : Nat) : tget d (t.filter fun e => e.1 != i) i = d := by
  induction t with
  | nil => rfl
  | cons e t ih =>
    obtain ⟨k, w⟩ := e
    by_cases hk : k = i
    · simp [hk, ih]
    · simp [hk, tget, ih]

theorem tget_drop_ne (d : α) (t : Tab α) {i j : Nat} (h : j ≠ i) :
    tget d (t.filter fun e => e.1 != i) j = tget d t j := by
  induction t with
  | nil => rfl
  | cons e t ih =>
    obtain ⟨k, w⟩ := e
    by_cases hk : k = i
    · subst hk; simp [tget, Ne.symm h, ih]
    · rw [List.filter_cons_of_pos (by simpa using hk)]; simp only [tget, ih]

/-- A read of what has just been written. -/
@[simp] theorem tget_tput_self [DecidableEq α] (d : α) (t : Tab α) (i : Nat) (v : α) : tget d (tput d t i v) i = v := by
  unfold tput
  split
  · next h => rw [tget_drop_self, h]
  · exact tget_tins_self ..

/-- A write leaves every other place alone. -/
theorem tget_tput_ne [DecidableEq α] (d : α) (t : Tab α) {i j : Nat} (v : α) (h : j ≠ i) :
    tget d (tput d t i v) j = tget d t j := by
  unfold tput
  split
  · exact tget_drop_ne d t h
  · exact tget_tins_ne d t v h

/-- The canonical form, as a proposition: keys strictly rising, no entry at its default. -/
theorem wf_iff [DecidableEq α] (d : α) (t : Tab α) :
    Tab.wf d t = true ↔ (t.Pairwise fun a b => a.1 < b.1) ∧ ∀ e ∈ t, e.2 ≠ d := by
  induction t with
  | nil => simp [Tab.wf]
  | cons e t ih =>
    obtain ⟨k, v⟩ := e
    cases t with
    | nil => simp [Tab.wf]
    | cons e' t =>
      obtain ⟨k', v'⟩ := e'
      simp only [Tab.wf, Bool.and_eq_true, decide_eq_true_eq, ih, List.pairwise_cons, List.mem_cons]
      constructor
      · rintro ⟨⟨h1, h2⟩, ⟨h3, h4⟩, h5⟩
        refine ⟨⟨?_, h3, h4⟩, ?_⟩
        · rintro a (rfl | ha)
          · exact h2
          · exact lt_trans h2 (h3 a ha)
        · rintro a (rfl | ha)
          · exact h1
          · exact h5 a ha
      · rintro ⟨⟨h1, h3, h4⟩, h5⟩
        exact ⟨⟨h5 _ (Or.inl rfl), h1 _ (Or.inl rfl)⟩, ⟨h3, h4⟩, fun a ha => h5 a (Or.inr ha)⟩

theorem mem_tins {t : Tab α} {i : Nat} {v : α} {e : Nat × α} (h : e ∈ tins t i v) : e = (i, v) ∨ e ∈ t := by
  induction t with
  | nil => simpa [tins] using h
  | cons x t ih =>
    obtain ⟨k, w⟩ := x
    simp only [tins] at h
    split at h
    · simpa using h
    · split at h
      · rcases List.mem_cons.1 h with h | h
        · exact Or.inl h
        · exact Or.inr (List.mem_cons_of_mem _ h)
      · rcases List.mem_cons.1 h with h | h
        · exact Or.inr (by simp [h])
        · exact (ih h).imp id (List.mem_cons_of_mem _)

/-- Every write keeps the canonical form. -/
theorem wf_tput [DecidableEq α] {d : α} {t : Tab α} (i : Nat) (v : α) (h : Tab.wf d t = true) :
    Tab.wf d (tput d t i v) = true := by
  rw [wf_iff] at h ⊢
  unfold tput
  split
  · exact ⟨h.1.filter _, fun e he => h.2 e (List.mem_filter.1 he).1⟩
  · next hv =>
    refine ⟨?_, fun e he => (mem_tins he).elim (fun h => by simpa [h] using hv) (h.2 e)⟩
    obtain ⟨h, -⟩ := h
    induction t with
    | nil => simp [tins]
    | cons x t ih =>
      obtain ⟨k, w⟩ := x
      rw [List.pairwise_cons] at h
      simp only [tins]
      split
      · next hik =>
        refine List.pairwise_cons.2 ⟨?_, List.pairwise_cons.2 h⟩
        rintro a ha
        rcases List.mem_cons.1 ha with rfl | ha
        · exact hik
        · exact lt_trans hik (h.1 a ha)
      · split
        · next hik => subst hik; exact List.pairwise_cons.2 h
        · next h1 h2 =>
          refine List.pairwise_cons.2 ⟨?_, ih h.2⟩
          intro a ha
          rcases mem_tins ha with rfl | ha
          · show k < i
            omega
          · exact h.1 a ha

theorem wf_tmod [DecidableEq α] {d : α} {t : Tab α} (i : Nat) (f : α → α) (h : Tab.wf d t = true) :
    Tab.wf d (tmod d t i f) = true := wf_tput _ _ h

theorem wf_filter [DecidableEq α] {d : α} {t : Tab α} (p : Nat × α → Bool) (h : Tab.wf d t = true) :
    Tab.wf d (t.filter p) = true := by
  rw [wf_iff] at h ⊢
  exact ⟨h.1.filter _, fun e he => h.2 e (List.mem_filter.1 he).1⟩

theorem wf_tdrop [DecidableEq α] {d : α} {t : Tab α} (p : Nat → Bool) (h : Tab.wf d t = true) :
    Tab.wf d (tdrop p t) = true := wf_filter _ h

theorem wf_tputs [DecidableEq α] {d : α} {t : Tab α} (i : Nat) (l : List α) (h : Tab.wf d t = true) :
    Tab.wf d (tputs d t i l) = true := by
  induction l generalizing t i with
  | nil => exact h
  | cons v l ih => exact ih (i + 1) (wf_tput i v h)

/-- Reading what tputs has written. -/
theorem tget_tputs [DecidableEq α] (d : α) (t : Tab α) (i j : Nat) (l : List α) :
    tget d (tputs d t i l) j = if h : i ≤ j ∧ j < i + l.length then l[j - i] else tget d t j := by
  induction l generalizing t i with
  | nil =>
    simp only [tputs, List.length_nil, Nat.add_zero]
    rw [dif_neg (by omega)]
  | cons v l ih =>
    simp only [tputs, ih, List.length_cons]
    by_cases h1 : j = i
    · subst h1
      rw [dif_neg (by omega), dif_pos (by omega)]
      simp
    · by_cases h2 : i + 1 ≤ j ∧ j < i + 1 + l.length
      · rw [dif_pos h2, dif_pos (by omega)]
        obtain ⟨m, rfl⟩ : ∃ m, j = i + 1 + m := ⟨j - (i + 1), by omega⟩
        simp [show i + 1 + m - i = m + 1 by omega]
      · rw [dif_neg h2, dif_neg (by omega), tget_tput_ne d t v h1]

end Sys2Proof.Machine
end

