-- ==== Sys2Proof/Laws/Ops.lean ====
section
/-! SUPPORT. Laws of the shared operations: reading a field or a register after a write of the same or of another one. -/

namespace Sys2Proof.Machine

/-! ## Bit fields -/

theorem testBit_bitsGet (v : Word) (hi lo i : Nat) :
    (bitsGet v hi lo).testBit i = (decide (i < hi + 1 - lo) && v.getLsbD (lo + i)) := by
  simp [bitsGet, Nat.testBit_mod_two_pow, Nat.testBit_div_two_pow, BitVec.getLsbD, Nat.add_comm]

theorem getLsbD_bitsMask (hi lo i : Nat) (h : hi < 64) (hl : lo ≤ hi) :
    (bitsMask hi lo).getLsbD i = (decide (lo ≤ i) && decide (i ≤ hi)) := by
  have e : 2 ^ (hi + 1) - 2 ^ lo = (2 ^ (hi + 1 - lo) - 1) * 2 ^ lo := by
    rw [Nat.sub_mul, ← pow_add, show hi + 1 - lo + lo = hi + 1 by omega, one_mul]
  simp only [bitsMask, BitVec.getLsbD_ofNat, e, Nat.testBit_mul_two_pow, Nat.testBit_two_pow_sub_one]
  by_cases h1 : lo ≤ i <;> by_cases h2 : i ≤ hi <;> simp [h1, h2] <;> omega

theorem getLsbD_bitsPut (v : Word) (hi lo n i : Nat) (h : hi < 64) (hl : lo ≤ hi) :
    (bitsPut v hi lo n).getLsbD i = if lo ≤ i ∧ i ≤ hi then n.testBit (i - lo) else v.getLsbD i := by
  simp only [bitsPut, BitVec.getLsbD_or, BitVec.getLsbD_and, BitVec.getLsbD_not, getLsbD_bitsMask _ _ _ h hl,
    BitVec.getLsbD_ofNat, Nat.testBit_mul_two_pow, Nat.testBit_mod_two_pow]
  by_cases h64 : i < 64
  · by_cases h1 : lo ≤ i <;> by_cases h2 : i ≤ hi <;> simp [h1, h2, h64] <;> omega
  · have hv : v.getLsbD i = false := BitVec.getLsbD_of_ge _ _ (by omega)
    simp [h64, hv]
    omega

/-- A field holds what has been put into it. -/
theorem bitsGet_bitsPut (v : Word) (hi lo n : Nat) (h : hi < 64) (hl : lo ≤ hi) :
    bitsGet (bitsPut v hi lo n) hi lo = n % 2 ^ (hi + 1 - lo) := by
  apply Nat.eq_of_testBit_eq
  intro i
  rw [testBit_bitsGet, getLsbD_bitsPut _ _ _ _ _ h hl, Nat.testBit_mod_two_pow]
  by_cases h1 : i < hi + 1 - lo
  · rw [if_pos (by omega)]; simp [h1]
  · simp [h1]

/-- A field keeps its value when a disjoint one is written. -/
theorem bitsGet_bitsPut_ne (v : Word) (hi lo hi' lo' n : Nat) (h : hi < 64) (hl : lo ≤ hi) (hd : hi < lo' ∨ hi' < lo) :
    bitsGet (bitsPut v hi lo n) hi' lo' = bitsGet v hi' lo' := by
  apply Nat.eq_of_testBit_eq
  intro i
  rw [testBit_bitsGet, testBit_bitsGet, getLsbD_bitsPut _ _ _ _ _ h hl]
  by_cases h1 : i < hi' + 1 - lo'
  · rw [if_neg (by omega)]
  · simp [h1]

/-- A field is below its bound. -/
theorem bitsGet_lt (v : Word) (hi lo : Nat) : bitsGet v hi lo < 2 ^ (hi + 1 - lo) := Nat.mod_lt _ (by positivity)

/-! ## Registers -/

@[simp] theorem State.rd_wr_self (s : State) (r : Reg) (v : Word) : (s.wr r v).rd r = v := by
  simp only [State.rd, State.wr, tget_tput_self]
  rw [BitVec.xor_assoc, BitVec.xor_self, BitVec.xor_zero]

theorem State.rd_wr_ne (s : State) (r q : Reg) (v : Word) (h : q.addr ≠ r.addr) : (s.wr r v).rd q = s.rd q := by
  simp only [State.rd, State.wr, tget_tput_ne _ _ _ h]

/-- Contents depend on the table of registers alone. -/
theorem State.rd_congr {s t : State} (h : s.regs = t.regs) (r : Reg) : s.rd r = t.rd r := by
  simp only [State.rd, h]

theorem State.get_congr {s t : State} (h : s.regs = t.regs) (f : Fld) : s.get f = t.get f := by
  simp only [State.get, State.rd_congr h]

/-! ## Fields -/

/-- A field lies within 64 bits. -/
def Fld.ok (f : Fld) : Bool := decide (f.hi < 64) && decide (f.lo ≤ f.hi)

theorem State.get_put_self (s : State) (f : Fld) (n : Nat) (h : f.hi < 64) (hl : f.lo ≤ f.hi) :
    (s.put f n).get f = n % 2 ^ (f.hi + 1 - f.lo) := by
  simp only [State.get, State.put, State.rd_wr_self, bitsGet_bitsPut _ _ _ _ h hl]

theorem State.get_put_reg (s : State) (f g : Fld) (n : Nat) (h : g.reg.addr ≠ f.reg.addr) : (s.put f n).get g = s.get g := by
  simp only [State.get, State.put, State.rd_wr_ne _ _ _ _ h]

theorem State.get_put_bits (s : State) (f g : Fld) (n : Nat) (hr : g.reg = f.reg) (h : f.hi < 64) (hl : f.lo ≤ f.hi)
    (hd : f.hi < g.lo ∨ g.hi < f.lo) : (s.put f n).get g = s.get g := by
  simp only [State.get, State.put, hr, State.rd_wr_self, bitsGet_bitsPut_ne _ _ _ _ _ _ h hl hd]

theorem State.rd_put_ne (s : State) (f : Fld) (n : Nat) (r : Reg) (h : r.addr ≠ f.reg.addr) : (s.put f n).rd r = s.rd r :=
  State.rd_wr_ne _ _ _ _ h

theorem State.get_lt (s : State) (f : Fld) : s.get f < 2 ^ (f.hi + 1 - f.lo) := bitsGet_lt ..

theorem State.get_putB_self (s : State) (f : Fld) (b : Bool) (h : f.hi < 64) (hl : f.lo ≤ f.hi) :
    (s.putB f b).get f = if b then 1 else 0 := by
  have h2 : 1 < 2 ^ (f.hi + 1 - f.lo) := Nat.one_lt_two_pow (by omega)
  cases b
  · simpa [State.putB] using State.get_put_self s f 0 h hl
  · simpa [State.putB, Nat.mod_eq_of_lt h2] using State.get_put_self s f 1 h hl

/-- Setting a bit of a bitmap sets it. -/
theorem State.hasBit_setBit_self (s : State) (f : Fld) (i : Nat) (h : f.hi < 64) (hi : f.lo + i ≤ f.hi) :
    (s.setBit f i).hasBit f i = true := by
  simp only [State.setBit, State.hasBit, State.get_put_self _ _ _ h (by omega), Nat.testBit_mod_two_pow, Nat.testBit_or]
  simp
  omega

theorem State.hasBit_setBit_ne (s : State) (f : Fld) {i j : Nat} (h : f.hi < 64) (hi : f.lo + i ≤ f.hi) (hj : j ≠ i) :
    (s.setBit f i).hasBit f j = s.hasBit f j := by
  simp only [State.setBit, State.hasBit, State.get_put_self _ _ _ h (by omega), Nat.testBit_mod_two_pow, Nat.testBit_or,
    Nat.testBit_two_pow, Ne.symm hj]
  by_cases hb : j < f.hi + 1 - f.lo
  · simp [hb]
  · have := Nat.testBit_lt_two_pow (lt_of_lt_of_le (s.get_lt f) (Nat.pow_le_pow_right (by omega) (not_lt.1 hb)))
    simp [hb, this]

theorem testBit_sub_two_pow (n i j : Nat) (h : n.testBit i = true) :
    (n - 2 ^ i).testBit j = (n.testBit j && decide (j ≠ i)) := by
  induction i generalizing n j with
  | zero =>
    have h1 : n % 2 = 1 := by simpa using h
    cases j with
    | zero => simp; omega
    | succ j => simp only [Nat.testBit_succ, pow_zero]; rw [show (n - 1) / 2 = n / 2 by omega]; simp
  | succ i ih =>
    rw [Nat.testBit_succ] at h
    have hge : 2 ^ i ≤ n / 2 := Nat.ge_two_pow_of_testBit h
    rw [pow_succ]
    cases j with
    | zero =>
      simp only [Nat.testBit_zero]
      rw [show (n - 2 ^ i * 2) % 2 = n % 2 by omega]
      simp
    | succ j =>
      rw [Nat.testBit_succ, Nat.testBit_succ, show (n - 2 ^ i * 2) / 2 = n / 2 - 2 ^ i by omega, ih _ _ h]
      simp

theorem State.hasBit_clrBit_self (s : State) (f : Fld) (i : Nat) (h : f.hi < 64) (hl : f.lo ≤ f.hi) :
    (s.clrBit f i).hasBit f i = false := by
  simp only [State.clrBit, State.hasBit, State.get_put_self _ _ _ h hl, Nat.testBit_mod_two_pow]
  split
  · next hb => simp [testBit_sub_two_pow _ _ _ hb]
  · next hb => simp [hb]

theorem State.hasBit_clrBit_ne (s : State) (f : Fld) {i j : Nat} (h : f.hi < 64) (hl : f.lo ≤ f.hi) (hj : j ≠ i) :
    (s.clrBit f i).hasBit f j = s.hasBit f j := by
  have hlt := s.get_lt f
  have hm : (s.clrBit f i).get f = s.get f - (if (s.get f).testBit i then 2 ^ i else 0) := by
    rw [State.clrBit, State.get_put_self _ _ _ h hl, Nat.mod_eq_of_lt (by omega)]
  simp only [State.hasBit, hm]
  split
  · next hb => simp [testBit_sub_two_pow _ _ _ hb, hj]
  · simp

theorem State.get_inc_self (s : State) (f : Fld) (n : Nat) (h : f.hi < 64) (hl : f.lo ≤ f.hi) :
    (s.inc f n).get f = min f.max (s.get f + n) := by
  have hp : 0 < 2 ^ (f.hi + 1 - f.lo) := by positivity
  rw [State.inc, State.get_put_self _ _ _ h hl, Nat.mod_eq_of_lt]
  simp only [Fld.max]
  omega

/-! ## Shared operations leave the rest of the state alone -/

/-- A lemma over a fold: what every step keeps, the fold keeps. -/
theorem foldl_keep {β γ : Type} (g : State → γ) (f : State → β → State) (h : ∀ s x, g (f s x) = g s) (l : List β) (s : State) :
    g (l.foldl f s) = g s := by
  induction l generalizing s with
  | nil => rfl
  | cons x l ih => rw [List.foldl_cons, ih, h]

end Sys2Proof.Machine
end

