-- ==== Sys2Proof/Laws/State.lean ====
section
/-! SUPPORT. The fields of State after each of the shared updates: which one it changes, and that it leaves the others. -/

namespace Sys2Proof.Machine

variable (s : State)

@[simp] theorem wr_hold (r : Reg) (v : Word) : (s.wr r v).hold = s.hold := rfl
@[simp] theorem wr_spd (r : Reg) (v : Word) : (s.wr r v).spd = s.spd := rfl
@[simp] theorem wr_img (r : Reg) (v : Word) : (s.wr r v).img = s.img := rfl
@[simp] theorem wr_fuse (r : Reg) (v : Word) : (s.wr r v).fuse = s.fuse := rfl
@[simp] theorem wr_ports (r : Reg) (v : Word) : (s.wr r v).ports = s.ports := rfl
@[simp] theorem wr_ofl (r : Reg) (v : Word) : (s.wr r v).ofl = s.ofl := rfl
@[simp] theorem wr_mill (r : Reg) (v : Word) : (s.wr r v).mill = s.mill := rfl
@[simp] theorem wr_rte (r : Reg) (v : Word) : (s.wr r v).rte = s.rte := rfl
@[simp] theorem wr_pool (r : Reg) (v : Word) : (s.wr r v).pool = s.pool := rfl
@[simp] theorem wr_coh (r : Reg) (v : Word) : (s.wr r v).coh = s.coh := rfl
@[simp] theorem wr_hep (r : Reg) (v : Word) : (s.wr r v).hep = s.hep := rfl
@[simp] theorem wr_hopIn (r : Reg) (v : Word) : (s.wr r v).hopIn = s.hopIn := rfl
@[simp] theorem wr_hop (r : Reg) (v : Word) : (s.wr r v).hop = s.hop := rfl
@[simp] theorem wr_spdX (r : Reg) (v : Word) : (s.wr r v).spdX = s.spdX := rfl
@[simp] theorem wr_mpu (r : Reg) (v : Word) : (s.wr r v).mpu = s.mpu := rfl
@[simp] theorem wr_marks (r : Reg) (v : Word) : (s.wr r v).marks = s.marks := rfl
@[simp] theorem wr_brk (r : Reg) (v : Word) : (s.wr r v).brk = s.brk := rfl
@[simp] theorem wr_mgt (r : Reg) (v : Word) : (s.wr r v).mgt = s.mgt := rfl
@[simp] theorem wr_pmc (r : Reg) (v : Word) : (s.wr r v).pmc = s.pmc := rfl
@[simp] theorem wr_fan (r : Reg) (v : Word) : (s.wr r v).fan = s.fan := rfl
@[simp] theorem wr_slc (r : Reg) (v : Word) : (s.wr r v).slc = s.slc := rfl
@[simp] theorem wr_gov (r : Reg) (v : Word) : (s.wr r v).gov = s.gov := rfl
@[simp] theorem wr_pwr (r : Reg) (v : Word) : (s.wr r v).pwr = s.pwr := rfl
@[simp] theorem wr_outs (r : Reg) (v : Word) : (s.wr r v).outs = s.outs := rfl
@[simp] theorem wr_fresh (r : Reg) (v : Word) : (s.wr r v).fresh = s.fresh := rfl
@[simp] theorem wr_pending (r : Reg) (v : Word) : (s.wr r v).pending = s.pending := rfl

@[simp] theorem put_hold (f : Fld) (n : Nat) : (s.put f n).hold = s.hold := rfl
@[simp] theorem put_spd (f : Fld) (n : Nat) : (s.put f n).spd = s.spd := rfl
@[simp] theorem put_img (f : Fld) (n : Nat) : (s.put f n).img = s.img := rfl
@[simp] theorem put_fuse (f : Fld) (n : Nat) : (s.put f n).fuse = s.fuse := rfl
@[simp] theorem put_ports (f : Fld) (n : Nat) : (s.put f n).ports = s.ports := rfl
@[simp] theorem put_ofl (f : Fld) (n : Nat) : (s.put f n).ofl = s.ofl := rfl
@[simp] theorem put_mill (f : Fld) (n : Nat) : (s.put f n).mill = s.mill := rfl
@[simp] theorem put_rte (f : Fld) (n : Nat) : (s.put f n).rte = s.rte := rfl
@[simp] theorem put_pool (f : Fld) (n : Nat) : (s.put f n).pool = s.pool := rfl
@[simp] theorem put_coh (f : Fld) (n : Nat) : (s.put f n).coh = s.coh := rfl
@[simp] theorem put_hep (f : Fld) (n : Nat) : (s.put f n).hep = s.hep := rfl
@[simp] theorem put_hopIn (f : Fld) (n : Nat) : (s.put f n).hopIn = s.hopIn := rfl
@[simp] theorem put_hop (f : Fld) (n : Nat) : (s.put f n).hop = s.hop := rfl
@[simp] theorem put_spdX (f : Fld) (n : Nat) : (s.put f n).spdX = s.spdX := rfl
@[simp] theorem put_mpu (f : Fld) (n : Nat) : (s.put f n).mpu = s.mpu := rfl
@[simp] theorem put_marks (f : Fld) (n : Nat) : (s.put f n).marks = s.marks := rfl
@[simp] theorem put_brk (f : Fld) (n : Nat) : (s.put f n).brk = s.brk := rfl
@[simp] theorem put_mgt (f : Fld) (n : Nat) : (s.put f n).mgt = s.mgt := rfl
@[simp] theorem put_pmc (f : Fld) (n : Nat) : (s.put f n).pmc = s.pmc := rfl
@[simp] theorem put_fan (f : Fld) (n : Nat) : (s.put f n).fan = s.fan := rfl
@[simp] theorem put_slc (f : Fld) (n : Nat) : (s.put f n).slc = s.slc := rfl
@[simp] theorem put_gov (f : Fld) (n : Nat) : (s.put f n).gov = s.gov := rfl
@[simp] theorem put_pwr (f : Fld) (n : Nat) : (s.put f n).pwr = s.pwr := rfl
@[simp] theorem put_outs (f : Fld) (n : Nat) : (s.put f n).outs = s.outs := rfl
@[simp] theorem put_fresh (f : Fld) (n : Nat) : (s.put f n).fresh = s.fresh := rfl
@[simp] theorem put_pending (f : Fld) (n : Nat) : (s.put f n).pending = s.pending := rfl

@[simp] theorem putB_hold (f : Fld) (b : Bool) : (s.putB f b).hold = s.hold := rfl
@[simp] theorem putB_spd (f : Fld) (b : Bool) : (s.putB f b).spd = s.spd := rfl
@[simp] theorem putB_img (f : Fld) (b : Bool) : (s.putB f b).img = s.img := rfl
@[simp] theorem putB_fuse (f : Fld) (b : Bool) : (s.putB f b).fuse = s.fuse := rfl
@[simp] theorem putB_ports (f : Fld) (b : Bool) : (s.putB f b).ports = s.ports := rfl
@[simp] theorem putB_ofl (f : Fld) (b : Bool) : (s.putB f b).ofl = s.ofl := rfl
@[simp] theorem putB_mill (f : Fld) (b : Bool) : (s.putB f b).mill = s.mill := rfl
@[simp] theorem putB_rte (f : Fld) (b : Bool) : (s.putB f b).rte = s.rte := rfl
@[simp] theorem putB_pool (f : Fld) (b : Bool) : (s.putB f b).pool = s.pool := rfl
@[simp] theorem putB_coh (f : Fld) (b : Bool) : (s.putB f b).coh = s.coh := rfl
@[simp] theorem putB_hep (f : Fld) (b : Bool) : (s.putB f b).hep = s.hep := rfl
@[simp] theorem putB_hopIn (f : Fld) (b : Bool) : (s.putB f b).hopIn = s.hopIn := rfl
@[simp] theorem putB_hop (f : Fld) (b : Bool) : (s.putB f b).hop = s.hop := rfl
@[simp] theorem putB_spdX (f : Fld) (b : Bool) : (s.putB f b).spdX = s.spdX := rfl
@[simp] theorem putB_mpu (f : Fld) (b : Bool) : (s.putB f b).mpu = s.mpu := rfl
@[simp] theorem putB_marks (f : Fld) (b : Bool) : (s.putB f b).marks = s.marks := rfl
@[simp] theorem putB_brk (f : Fld) (b : Bool) : (s.putB f b).brk = s.brk := rfl
@[simp] theorem putB_mgt (f : Fld) (b : Bool) : (s.putB f b).mgt = s.mgt := rfl
@[simp] theorem putB_pmc (f : Fld) (b : Bool) : (s.putB f b).pmc = s.pmc := rfl
@[simp] theorem putB_fan (f : Fld) (b : Bool) : (s.putB f b).fan = s.fan := rfl
@[simp] theorem putB_slc (f : Fld) (b : Bool) : (s.putB f b).slc = s.slc := rfl
@[simp] theorem putB_gov (f : Fld) (b : Bool) : (s.putB f b).gov = s.gov := rfl
@[simp] theorem putB_pwr (f : Fld) (b : Bool) : (s.putB f b).pwr = s.pwr := rfl
@[simp] theorem putB_outs (f : Fld) (b : Bool) : (s.putB f b).outs = s.outs := rfl
@[simp] theorem putB_fresh (f : Fld) (b : Bool) : (s.putB f b).fresh = s.fresh := rfl
@[simp] theorem putB_pending (f : Fld) (b : Bool) : (s.putB f b).pending = s.pending := rfl

@[simp] theorem inc_hold (f : Fld) (n : Nat) : (s.inc f n).hold = s.hold := rfl
@[simp] theorem inc_spd (f : Fld) (n : Nat) : (s.inc f n).spd = s.spd := rfl
@[simp] theorem inc_img (f : Fld) (n : Nat) : (s.inc f n).img = s.img := rfl
@[simp] theorem inc_fuse (f : Fld) (n : Nat) : (s.inc f n).fuse = s.fuse := rfl
@[simp] theorem inc_ports (f : Fld) (n : Nat) : (s.inc f n).ports = s.ports := rfl
@[simp] theorem inc_ofl (f : Fld) (n : Nat) : (s.inc f n).ofl = s.ofl := rfl
@[simp] theorem inc_mill (f : Fld) (n : Nat) : (s.inc f n).mill = s.mill := rfl
@[simp] theorem inc_rte (f : Fld) (n : Nat) : (s.inc f n).rte = s.rte := rfl
@[simp] theorem inc_pool (f : Fld) (n : Nat) : (s.inc f n).pool = s.pool := rfl
@[simp] theorem inc_coh (f : Fld) (n : Nat) : (s.inc f n).coh = s.coh := rfl
@[simp] theorem inc_hep (f : Fld) (n : Nat) : (s.inc f n).hep = s.hep := rfl
@[simp] theorem inc_hopIn (f : Fld) (n : Nat) : (s.inc f n).hopIn = s.hopIn := rfl
@[simp] theorem inc_hop (f : Fld) (n : Nat) : (s.inc f n).hop = s.hop := rfl
@[simp] theorem inc_spdX (f : Fld) (n : Nat) : (s.inc f n).spdX = s.spdX := rfl
@[simp] theorem inc_mpu (f : Fld) (n : Nat) : (s.inc f n).mpu = s.mpu := rfl
@[simp] theorem inc_marks (f : Fld) (n : Nat) : (s.inc f n).marks = s.marks := rfl
@[simp] theorem inc_brk (f : Fld) (n : Nat) : (s.inc f n).brk = s.brk := rfl
@[simp] theorem inc_mgt (f : Fld) (n : Nat) : (s.inc f n).mgt = s.mgt := rfl
@[simp] theorem inc_pmc (f : Fld) (n : Nat) : (s.inc f n).pmc = s.pmc := rfl
@[simp] theorem inc_fan (f : Fld) (n : Nat) : (s.inc f n).fan = s.fan := rfl
@[simp] theorem inc_slc (f : Fld) (n : Nat) : (s.inc f n).slc = s.slc := rfl
@[simp] theorem inc_gov (f : Fld) (n : Nat) : (s.inc f n).gov = s.gov := rfl
@[simp] theorem inc_pwr (f : Fld) (n : Nat) : (s.inc f n).pwr = s.pwr := rfl
@[simp] theorem inc_outs (f : Fld) (n : Nat) : (s.inc f n).outs = s.outs := rfl
@[simp] theorem inc_fresh (f : Fld) (n : Nat) : (s.inc f n).fresh = s.fresh := rfl
@[simp] theorem inc_pending (f : Fld) (n : Nat) : (s.inc f n).pending = s.pending := rfl

@[simp] theorem setBit_hold (f : Fld) (i : Nat) : (s.setBit f i).hold = s.hold := rfl
@[simp] theorem setBit_spd (f : Fld) (i : Nat) : (s.setBit f i).spd = s.spd := rfl
@[simp] theorem setBit_img (f : Fld) (i : Nat) : (s.setBit f i).img = s.img := rfl
@[simp] theorem setBit_fuse (f : Fld) (i : Nat) : (s.setBit f i).fuse = s.fuse := rfl
@[simp] theorem setBit_ports (f : Fld) (i : Nat) : (s.setBit f i).ports = s.ports := rfl
@[simp] theorem setBit_ofl (f : Fld) (i : Nat) : (s.setBit f i).ofl = s.ofl := rfl
@[simp] theorem setBit_mill (f : Fld) (i : Nat) : (s.setBit f i).mill = s.mill := rfl
@[simp] theorem setBit_rte (f : Fld) (i : Nat) : (s.setBit f i).rte = s.rte := rfl
@[simp] theorem setBit_pool (f : Fld) (i : Nat) : (s.setBit f i).pool = s.pool := rfl
@[simp] theorem setBit_coh (f : Fld) (i : Nat) : (s.setBit f i).coh = s.coh := rfl
@[simp] theorem setBit_hep (f : Fld) (i : Nat) : (s.setBit f i).hep = s.hep := rfl
@[simp] theorem setBit_hopIn (f : Fld) (i : Nat) : (s.setBit f i).hopIn = s.hopIn := rfl
@[simp] theorem setBit_hop (f : Fld) (i : Nat) : (s.setBit f i).hop = s.hop := rfl
@[simp] theorem setBit_spdX (f : Fld) (i : Nat) : (s.setBit f i).spdX = s.spdX := rfl
@[simp] theorem setBit_mpu (f : Fld) (i : Nat) : (s.setBit f i).mpu = s.mpu := rfl
@[simp] theorem setBit_marks (f : Fld) (i : Nat) : (s.setBit f i).marks = s.marks := rfl
@[simp] theorem setBit_brk (f : Fld) (i : Nat) : (s.setBit f i).brk = s.brk := rfl
@[simp] theorem setBit_mgt (f : Fld) (i : Nat) : (s.setBit f i).mgt = s.mgt := rfl
@[simp] theorem setBit_pmc (f : Fld) (i : Nat) : (s.setBit f i).pmc = s.pmc := rfl
@[simp] theorem setBit_fan (f : Fld) (i : Nat) : (s.setBit f i).fan = s.fan := rfl
@[simp] theorem setBit_slc (f : Fld) (i : Nat) : (s.setBit f i).slc = s.slc := rfl
@[simp] theorem setBit_gov (f : Fld) (i : Nat) : (s.setBit f i).gov = s.gov := rfl
@[simp] theorem setBit_pwr (f : Fld) (i : Nat) : (s.setBit f i).pwr = s.pwr := rfl
@[simp] theorem setBit_outs (f : Fld) (i : Nat) : (s.setBit f i).outs = s.outs := rfl
@[simp] theorem setBit_fresh (f : Fld) (i : Nat) : (s.setBit f i).fresh = s.fresh := rfl
@[simp] theorem setBit_pending (f : Fld) (i : Nat) : (s.setBit f i).pending = s.pending := rfl

@[simp] theorem clrBit_hold (f : Fld) (i : Nat) : (s.clrBit f i).hold = s.hold := rfl
@[simp] theorem clrBit_spd (f : Fld) (i : Nat) : (s.clrBit f i).spd = s.spd := rfl
@[simp] theorem clrBit_img (f : Fld) (i : Nat) : (s.clrBit f i).img = s.img := rfl
@[simp] theorem clrBit_fuse (f : Fld) (i : Nat) : (s.clrBit f i).fuse = s.fuse := rfl
@[simp] theorem clrBit_ports (f : Fld) (i : Nat) : (s.clrBit f i).ports = s.ports := rfl
@[simp] theorem clrBit_ofl (f : Fld) (i : Nat) : (s.clrBit f i).ofl = s.ofl := rfl
@[simp] theorem clrBit_mill (f : Fld) (i : Nat) : (s.clrBit f i).mill = s.mill := rfl
@[simp] theorem clrBit_rte (f : Fld) (i : Nat) : (s.clrBit f i).rte = s.rte := rfl
@[simp] theorem clrBit_pool (f : Fld) (i : Nat) : (s.clrBit f i).pool = s.pool := rfl
@[simp] theorem clrBit_coh (f : Fld) (i : Nat) : (s.clrBit f i).coh = s.coh := rfl
@[simp] theorem clrBit_hep (f : Fld) (i : Nat) : (s.clrBit f i).hep = s.hep := rfl
@[simp] theorem clrBit_hopIn (f : Fld) (i : Nat) : (s.clrBit f i).hopIn = s.hopIn := rfl
@[simp] theorem clrBit_hop (f : Fld) (i : Nat) : (s.clrBit f i).hop = s.hop := rfl
@[simp] theorem clrBit_spdX (f : Fld) (i : Nat) : (s.clrBit f i).spdX = s.spdX := rfl
@[simp] theorem clrBit_mpu (f : Fld) (i : Nat) : (s.clrBit f i).mpu = s.mpu := rfl
@[simp] theorem clrBit_marks (f : Fld) (i : Nat) : (s.clrBit f i).marks = s.marks := rfl
@[simp] theorem clrBit_brk (f : Fld) (i : Nat) : (s.clrBit f i).brk = s.brk := rfl
@[simp] theorem clrBit_mgt (f : Fld) (i : Nat) : (s.clrBit f i).mgt = s.mgt := rfl
@[simp] theorem clrBit_pmc (f : Fld) (i : Nat) : (s.clrBit f i).pmc = s.pmc := rfl
@[simp] theorem clrBit_fan (f : Fld) (i : Nat) : (s.clrBit f i).fan = s.fan := rfl
@[simp] theorem clrBit_slc (f : Fld) (i : Nat) : (s.clrBit f i).slc = s.slc := rfl
@[simp] theorem clrBit_gov (f : Fld) (i : Nat) : (s.clrBit f i).gov = s.gov := rfl
@[simp] theorem clrBit_pwr (f : Fld) (i : Nat) : (s.clrBit f i).pwr = s.pwr := rfl
@[simp] theorem clrBit_outs (f : Fld) (i : Nat) : (s.clrBit f i).outs = s.outs := rfl
@[simp] theorem clrBit_fresh (f : Fld) (i : Nat) : (s.clrBit f i).fresh = s.fresh := rfl
@[simp] theorem clrBit_pending (f : Fld) (i : Nat) : (s.clrBit f i).pending = s.pending := rfl

@[simp] theorem out_regs (o : Out) : (s.out o).regs = s.regs := rfl
@[simp] theorem out_hold (o : Out) : (s.out o).hold = s.hold := rfl
@[simp] theorem out_spd (o : Out) : (s.out o).spd = s.spd := rfl
@[simp] theorem out_img (o : Out) : (s.out o).img = s.img := rfl
@[simp] theorem out_fuse (o : Out) : (s.out o).fuse = s.fuse := rfl
@[simp] theorem out_ports (o : Out) : (s.out o).ports = s.ports := rfl
@[simp] theorem out_ofl (o : Out) : (s.out o).ofl = s.ofl := rfl
@[simp] theorem out_mill (o : Out) : (s.out o).mill = s.mill := rfl
@[simp] theorem out_rte (o : Out) : (s.out o).rte = s.rte := rfl
@[simp] theorem out_pool (o : Out) : (s.out o).pool = s.pool := rfl
@[simp] theorem out_coh (o : Out) : (s.out o).coh = s.coh := rfl
@[simp] theorem out_hep (o : Out) : (s.out o).hep = s.hep := rfl
@[simp] theorem out_hopIn (o : Out) : (s.out o).hopIn = s.hopIn := rfl
@[simp] theorem out_hop (o : Out) : (s.out o).hop = s.hop := rfl
@[simp] theorem out_spdX (o : Out) : (s.out o).spdX = s.spdX := rfl
@[simp] theorem out_mpu (o : Out) : (s.out o).mpu = s.mpu := rfl
@[simp] theorem out_marks (o : Out) : (s.out o).marks = s.marks := rfl
@[simp] theorem out_brk (o : Out) : (s.out o).brk = s.brk := rfl
@[simp] theorem out_mgt (o : Out) : (s.out o).mgt = s.mgt := rfl
@[simp] theorem out_pmc (o : Out) : (s.out o).pmc = s.pmc := rfl
@[simp] theorem out_fan (o : Out) : (s.out o).fan = s.fan := rfl
@[simp] theorem out_slc (o : Out) : (s.out o).slc = s.slc := rfl
@[simp] theorem out_gov (o : Out) : (s.out o).gov = s.gov := rfl
@[simp] theorem out_pwr (o : Out) : (s.out o).pwr = s.pwr := rfl
@[simp] theorem out_fresh (o : Out) : (s.out o).fresh = s.fresh := rfl
@[simp] theorem out_pending (o : Out) : (s.out o).pending = s.pending := rfl
@[simp] theorem out_rd (o : Out) (q : Reg) : (s.out o).rd q = s.rd q := rfl
@[simp] theorem out_get (o : Out) (fl : Fld) : (s.out o).get fl = s.get fl := rfl
@[simp] theorem out_bit (o : Out) (fl : Fld) : (s.out o).bit fl = s.bit fl := rfl

@[simp] theorem bump_regs : (s.bump).regs = s.regs := rfl
@[simp] theorem bump_hold : (s.bump).hold = s.hold := rfl
@[simp] theorem bump_spd : (s.bump).spd = s.spd := rfl
@[simp] theorem bump_img : (s.bump).img = s.img := rfl
@[simp] theorem bump_fuse : (s.bump).fuse = s.fuse := rfl
@[simp] theorem bump_ports : (s.bump).ports = s.ports := rfl
@[simp] theorem bump_ofl : (s.bump).ofl = s.ofl := rfl
@[simp] theorem bump_mill : (s.bump).mill = s.mill := rfl
@[simp] theorem bump_rte : (s.bump).rte = s.rte := rfl
@[simp] theorem bump_pool : (s.bump).pool = s.pool := rfl
@[simp] theorem bump_coh : (s.bump).coh = s.coh := rfl
@[simp] theorem bump_hep : (s.bump).hep = s.hep := rfl
@[simp] theorem bump_hopIn : (s.bump).hopIn = s.hopIn := rfl
@[simp] theorem bump_hop : (s.bump).hop = s.hop := rfl
@[simp] theorem bump_spdX : (s.bump).spdX = s.spdX := rfl
@[simp] theorem bump_mpu : (s.bump).mpu = s.mpu := rfl
@[simp] theorem bump_marks : (s.bump).marks = s.marks := rfl
@[simp] theorem bump_brk : (s.bump).brk = s.brk := rfl
@[simp] theorem bump_mgt : (s.bump).mgt = s.mgt := rfl
@[simp] theorem bump_pmc : (s.bump).pmc = s.pmc := rfl
@[simp] theorem bump_fan : (s.bump).fan = s.fan := rfl
@[simp] theorem bump_slc : (s.bump).slc = s.slc := rfl
@[simp] theorem bump_gov : (s.bump).gov = s.gov := rfl
@[simp] theorem bump_pwr : (s.bump).pwr = s.pwr := rfl
@[simp] theorem bump_outs : (s.bump).outs = s.outs := rfl
@[simp] theorem bump_pending : (s.bump).pending = s.pending := rfl
@[simp] theorem bump_rd (q : Reg) : (s.bump).rd q = s.rd q := rfl
@[simp] theorem bump_get (fl : Fld) : (s.bump).get fl = s.get fl := rfl
@[simp] theorem bump_bit (fl : Fld) : (s.bump).bit fl = s.bit fl := rfl

@[simp] theorem raise_hold (n : Nat) (d : Detail) : (s.raise n d).hold = s.hold := by unfold State.raise; split <;> rfl
@[simp] theorem raise_spd (n : Nat) (d : Detail) : (s.raise n d).spd = s.spd := by unfold State.raise; split <;> rfl
@[simp] theorem raise_img (n : Nat) (d : Detail) : (s.raise n d).img = s.img := by unfold State.raise; split <;> rfl
@[simp] theorem raise_fuse (n : Nat) (d : Detail) : (s.raise n d).fuse = s.fuse := by unfold State.raise; split <;> rfl
@[simp] theorem raise_ports (n : Nat) (d : Detail) : (s.raise n d).ports = s.ports := by unfold State.raise; split <;> rfl
@[simp] theorem raise_ofl (n : Nat) (d : Detail) : (s.raise n d).ofl = s.ofl := by unfold State.raise; split <;> rfl
@[simp] theorem raise_mill (n : Nat) (d : Detail) : (s.raise n d).mill = s.mill := by unfold State.raise; split <;> rfl
@[simp] theorem raise_rte (n : Nat) (d : Detail) : (s.raise n d).rte = s.rte := by unfold State.raise; split <;> rfl
@[simp] theorem raise_pool (n : Nat) (d : Detail) : (s.raise n d).pool = s.pool := by unfold State.raise; split <;> rfl
@[simp] theorem raise_coh (n : Nat) (d : Detail) : (s.raise n d).coh = s.coh := by unfold State.raise; split <;> rfl
@[simp] theorem raise_hep (n : Nat) (d : Detail) : (s.raise n d).hep = s.hep := by unfold State.raise; split <;> rfl
@[simp] theorem raise_hopIn (n : Nat) (d : Detail) : (s.raise n d).hopIn = s.hopIn := by unfold State.raise; split <;> rfl
@[simp] theorem raise_hop (n : Nat) (d : Detail) : (s.raise n d).hop = s.hop := by unfold State.raise; split <;> rfl
@[simp] theorem raise_spdX (n : Nat) (d : Detail) : (s.raise n d).spdX = s.spdX := by unfold State.raise; split <;> rfl
@[simp] theorem raise_mpu (n : Nat) (d : Detail) : (s.raise n d).mpu = s.mpu := by unfold State.raise; split <;> rfl
@[simp] theorem raise_marks (n : Nat) (d : Detail) : (s.raise n d).marks = s.marks := by unfold State.raise; split <;> rfl
@[simp] theorem raise_mgt (n : Nat) (d : Detail) : (s.raise n d).mgt = s.mgt := by unfold State.raise; split <;> rfl
@[simp] theorem raise_pmc (n : Nat) (d : Detail) : (s.raise n d).pmc = s.pmc := by unfold State.raise; split <;> rfl
@[simp] theorem raise_fan (n : Nat) (d : Detail) : (s.raise n d).fan = s.fan := by unfold State.raise; split <;> rfl
@[simp] theorem raise_slc (n : Nat) (d : Detail) : (s.raise n d).slc = s.slc := by unfold State.raise; split <;> rfl
@[simp] theorem raise_gov (n : Nat) (d : Detail) : (s.raise n d).gov = s.gov := by unfold State.raise; split <;> rfl
@[simp] theorem raise_pwr (n : Nat) (d : Detail) : (s.raise n d).pwr = s.pwr := by unfold State.raise; split <;> rfl
@[simp] theorem raise_outs (n : Nat) (d : Detail) : (s.raise n d).outs = s.outs := by unfold State.raise; split <;> rfl
@[simp] theorem raise_fresh (n : Nat) (d : Detail) : (s.raise n d).fresh = s.fresh := by unfold State.raise; split <;> rfl
@[simp] theorem raise_pending (n : Nat) (d : Detail) : (s.raise n d).pending = s.pending := by unfold State.raise; split <;> rfl

@[simp] theorem refuse_hold (a m z : Nat) : (s.refuse a m z).hold = s.hold := by unfold State.refuse; simp
@[simp] theorem refuse_spd (a m z : Nat) : (s.refuse a m z).spd = s.spd := by unfold State.refuse; simp
@[simp] theorem refuse_img (a m z : Nat) : (s.refuse a m z).img = s.img := by unfold State.refuse; simp
@[simp] theorem refuse_fuse (a m z : Nat) : (s.refuse a m z).fuse = s.fuse := by unfold State.refuse; simp
@[simp] theorem refuse_ports (a m z : Nat) : (s.refuse a m z).ports = s.ports := by unfold State.refuse; simp
@[simp] theorem refuse_ofl (a m z : Nat) : (s.refuse a m z).ofl = s.ofl := by unfold State.refuse; simp
@[simp] theorem refuse_mill (a m z : Nat) : (s.refuse a m z).mill = s.mill := by unfold State.refuse; simp
@[simp] theorem refuse_rte (a m z : Nat) : (s.refuse a m z).rte = s.rte := by unfold State.refuse; simp
@[simp] theorem refuse_pool (a m z : Nat) : (s.refuse a m z).pool = s.pool := by unfold State.refuse; simp
@[simp] theorem refuse_coh (a m z : Nat) : (s.refuse a m z).coh = s.coh := by unfold State.refuse; simp
@[simp] theorem refuse_hep (a m z : Nat) : (s.refuse a m z).hep = s.hep := by unfold State.refuse; simp
@[simp] theorem refuse_hopIn (a m z : Nat) : (s.refuse a m z).hopIn = s.hopIn := by unfold State.refuse; simp
@[simp] theorem refuse_hop (a m z : Nat) : (s.refuse a m z).hop = s.hop := by unfold State.refuse; simp
@[simp] theorem refuse_spdX (a m z : Nat) : (s.refuse a m z).spdX = s.spdX := by unfold State.refuse; simp
@[simp] theorem refuse_mpu (a m z : Nat) : (s.refuse a m z).mpu = s.mpu := by unfold State.refuse; simp
@[simp] theorem refuse_marks (a m z : Nat) : (s.refuse a m z).marks = s.marks := by unfold State.refuse; simp
@[simp] theorem refuse_mgt (a m z : Nat) : (s.refuse a m z).mgt = s.mgt := by unfold State.refuse; simp
@[simp] theorem refuse_pmc (a m z : Nat) : (s.refuse a m z).pmc = s.pmc := by unfold State.refuse; simp
@[simp] theorem refuse_fan (a m z : Nat) : (s.refuse a m z).fan = s.fan := by unfold State.refuse; simp
@[simp] theorem refuse_slc (a m z : Nat) : (s.refuse a m z).slc = s.slc := by unfold State.refuse; simp
@[simp] theorem refuse_gov (a m z : Nat) : (s.refuse a m z).gov = s.gov := by unfold State.refuse; simp
@[simp] theorem refuse_pwr (a m z : Nat) : (s.refuse a m z).pwr = s.pwr := by unfold State.refuse; simp
@[simp] theorem refuse_outs (a m z : Nat) : (s.refuse a m z).outs = s.outs := by unfold State.refuse; simp
@[simp] theorem refuse_fresh (a m z : Nat) : (s.refuse a m z).fresh = s.fresh := by unfold State.refuse; simp
@[simp] theorem refuse_pending (a m z : Nat) : (s.refuse a m z).pending = s.pending := by unfold State.refuse; simp

@[simp] theorem setPx_regs (p : Nat) (x : PortX) : (s.setPx p x).regs = s.regs := rfl
@[simp] theorem setPx_hold (p : Nat) (x : PortX) : (s.setPx p x).hold = s.hold := rfl
@[simp] theorem setPx_spd (p : Nat) (x : PortX) : (s.setPx p x).spd = s.spd := rfl
@[simp] theorem setPx_img (p : Nat) (x : PortX) : (s.setPx p x).img = s.img := rfl
@[simp] theorem setPx_fuse (p : Nat) (x : PortX) : (s.setPx p x).fuse = s.fuse := rfl
@[simp] theorem setPx_ofl (p : Nat) (x : PortX) : (s.setPx p x).ofl = s.ofl := rfl
@[simp] theorem setPx_mill (p : Nat) (x : PortX) : (s.setPx p x).mill = s.mill := rfl
@[simp] theorem setPx_rte (p : Nat) (x : PortX) : (s.setPx p x).rte = s.rte := rfl
@[simp] theorem setPx_pool (p : Nat) (x : PortX) : (s.setPx p x).pool = s.pool := rfl
@[simp] theorem setPx_coh (p : Nat) (x : PortX) : (s.setPx p x).coh = s.coh := rfl
@[simp] theorem setPx_hep (p : Nat) (x : PortX) : (s.setPx p x).hep = s.hep := rfl
@[simp] theorem setPx_hopIn (p : Nat) (x : PortX) : (s.setPx p x).hopIn = s.hopIn := rfl
@[simp] theorem setPx_hop (p : Nat) (x : PortX) : (s.setPx p x).hop = s.hop := rfl
@[simp] theorem setPx_spdX (p : Nat) (x : PortX) : (s.setPx p x).spdX = s.spdX := rfl
@[simp] theorem setPx_mpu (p : Nat) (x : PortX) : (s.setPx p x).mpu = s.mpu := rfl
@[simp] theorem setPx_marks (p : Nat) (x : PortX) : (s.setPx p x).marks = s.marks := rfl
@[simp] theorem setPx_brk (p : Nat) (x : PortX) : (s.setPx p x).brk = s.brk := rfl
@[simp] theorem setPx_mgt (p : Nat) (x : PortX) : (s.setPx p x).mgt = s.mgt := rfl
@[simp] theorem setPx_pmc (p : Nat) (x : PortX) : (s.setPx p x).pmc = s.pmc := rfl
@[simp] theorem setPx_fan (p : Nat) (x : PortX) : (s.setPx p x).fan = s.fan := rfl
@[simp] theorem setPx_slc (p : Nat) (x : PortX) : (s.setPx p x).slc = s.slc := rfl
@[simp] theorem setPx_gov (p : Nat) (x : PortX) : (s.setPx p x).gov = s.gov := rfl
@[simp] theorem setPx_pwr (p : Nat) (x : PortX) : (s.setPx p x).pwr = s.pwr := rfl
@[simp] theorem setPx_outs (p : Nat) (x : PortX) : (s.setPx p x).outs = s.outs := rfl
@[simp] theorem setPx_fresh (p : Nat) (x : PortX) : (s.setPx p x).fresh = s.fresh := rfl
@[simp] theorem setPx_pending (p : Nat) (x : PortX) : (s.setPx p x).pending = s.pending := rfl
@[simp] theorem setPx_rd (p : Nat) (x : PortX) (q : Reg) : (s.setPx p x).rd q = s.rd q := rfl
@[simp] theorem setPx_get (p : Nat) (x : PortX) (fl : Fld) : (s.setPx p x).get fl = s.get fl := rfl
@[simp] theorem setPx_bit (p : Nat) (x : PortX) (fl : Fld) : (s.setPx p x).bit fl = s.bit fl := rfl

@[simp] theorem modPx_regs (p : Nat) (g : PortX → PortX) : (s.modPx p g).regs = s.regs := rfl
@[simp] theorem modPx_hold (p : Nat) (g : PortX → PortX) : (s.modPx p g).hold = s.hold := rfl
@[simp] theorem modPx_spd (p : Nat) (g : PortX → PortX) : (s.modPx p g).spd = s.spd := rfl
@[simp] theorem modPx_img (p : Nat) (g : PortX → PortX) : (s.modPx p g).img = s.img := rfl
@[simp] theorem modPx_fuse (p : Nat) (g : PortX → PortX) : (s.modPx p g).fuse = s.fuse := rfl
@[simp] theorem modPx_ofl (p : Nat) (g : PortX → PortX) : (s.modPx p g).ofl = s.ofl := rfl
@[simp] theorem modPx_mill (p : Nat) (g : PortX → PortX) : (s.modPx p g).mill = s.mill := rfl
@[simp] theorem modPx_rte (p : Nat) (g : PortX → PortX) : (s.modPx p g).rte = s.rte := rfl
@[simp] theorem modPx_pool (p : Nat) (g : PortX → PortX) : (s.modPx p g).pool = s.pool := rfl
@[simp] theorem modPx_coh (p : Nat) (g : PortX → PortX) : (s.modPx p g).coh = s.coh := rfl
@[simp] theorem modPx_hep (p : Nat) (g : PortX → PortX) : (s.modPx p g).hep = s.hep := rfl
@[simp] theorem modPx_hopIn (p : Nat) (g : PortX → PortX) : (s.modPx p g).hopIn = s.hopIn := rfl
@[simp] theorem modPx_hop (p : Nat) (g : PortX → PortX) : (s.modPx p g).hop = s.hop := rfl
@[simp] theorem modPx_spdX (p : Nat) (g : PortX → PortX) : (s.modPx p g).spdX = s.spdX := rfl
@[simp] theorem modPx_mpu (p : Nat) (g : PortX → PortX) : (s.modPx p g).mpu = s.mpu := rfl
@[simp] theorem modPx_marks (p : Nat) (g : PortX → PortX) : (s.modPx p g).marks = s.marks := rfl
@[simp] theorem modPx_brk (p : Nat) (g : PortX → PortX) : (s.modPx p g).brk = s.brk := rfl
@[simp] theorem modPx_mgt (p : Nat) (g : PortX → PortX) : (s.modPx p g).mgt = s.mgt := rfl
@[simp] theorem modPx_pmc (p : Nat) (g : PortX → PortX) : (s.modPx p g).pmc = s.pmc := rfl
@[simp] theorem modPx_fan (p : Nat) (g : PortX → PortX) : (s.modPx p g).fan = s.fan := rfl
@[simp] theorem modPx_slc (p : Nat) (g : PortX → PortX) : (s.modPx p g).slc = s.slc := rfl
@[simp] theorem modPx_gov (p : Nat) (g : PortX → PortX) : (s.modPx p g).gov = s.gov := rfl
@[simp] theorem modPx_pwr (p : Nat) (g : PortX → PortX) : (s.modPx p g).pwr = s.pwr := rfl
@[simp] theorem modPx_outs (p : Nat) (g : PortX → PortX) : (s.modPx p g).outs = s.outs := rfl
@[simp] theorem modPx_fresh (p : Nat) (g : PortX → PortX) : (s.modPx p g).fresh = s.fresh := rfl
@[simp] theorem modPx_pending (p : Nat) (g : PortX → PortX) : (s.modPx p g).pending = s.pending := rfl
@[simp] theorem modPx_rd (p : Nat) (g : PortX → PortX) (q : Reg) : (s.modPx p g).rd q = s.rd q := rfl
@[simp] theorem modPx_get (p : Nat) (g : PortX → PortX) (fl : Fld) : (s.modPx p g).get fl = s.get fl := rfl
@[simp] theorem modPx_bit (p : Nat) (g : PortX → PortX) (fl : Fld) : (s.modPx p g).bit fl = s.bit fl := rfl

@[simp] theorem setWait_regs (p : Nat) (w : PortWait) : (setWait s p w).regs = s.regs := rfl
@[simp] theorem setWait_hold (p : Nat) (w : PortWait) : (setWait s p w).hold = s.hold := rfl
@[simp] theorem setWait_spd (p : Nat) (w : PortWait) : (setWait s p w).spd = s.spd := rfl
@[simp] theorem setWait_img (p : Nat) (w : PortWait) : (setWait s p w).img = s.img := rfl
@[simp] theorem setWait_fuse (p : Nat) (w : PortWait) : (setWait s p w).fuse = s.fuse := rfl
@[simp] theorem setWait_ofl (p : Nat) (w : PortWait) : (setWait s p w).ofl = s.ofl := rfl
@[simp] theorem setWait_mill (p : Nat) (w : PortWait) : (setWait s p w).mill = s.mill := rfl
@[simp] theorem setWait_rte (p : Nat) (w : PortWait) : (setWait s p w).rte = s.rte := rfl
@[simp] theorem setWait_pool (p : Nat) (w : PortWait) : (setWait s p w).pool = s.pool := rfl
@[simp] theorem setWait_coh (p : Nat) (w : PortWait) : (setWait s p w).coh = s.coh := rfl
@[simp] theorem setWait_hep (p : Nat) (w : PortWait) : (setWait s p w).hep = s.hep := rfl
@[simp] theorem setWait_hopIn (p : Nat) (w : PortWait) : (setWait s p w).hopIn = s.hopIn := rfl
@[simp] theorem setWait_hop (p : Nat) (w : PortWait) : (setWait s p w).hop = s.hop := rfl
@[simp] theorem setWait_spdX (p : Nat) (w : PortWait) : (setWait s p w).spdX = s.spdX := rfl
@[simp] theorem setWait_mpu (p : Nat) (w : PortWait) : (setWait s p w).mpu = s.mpu := rfl
@[simp] theorem setWait_marks (p : Nat) (w : PortWait) : (setWait s p w).marks = s.marks := rfl
@[simp] theorem setWait_brk (p : Nat) (w : PortWait) : (setWait s p w).brk = s.brk := rfl
@[simp] theorem setWait_mgt (p : Nat) (w : PortWait) : (setWait s p w).mgt = s.mgt := rfl
@[simp] theorem setWait_pmc (p : Nat) (w : PortWait) : (setWait s p w).pmc = s.pmc := rfl
@[simp] theorem setWait_fan (p : Nat) (w : PortWait) : (setWait s p w).fan = s.fan := rfl
@[simp] theorem setWait_slc (p : Nat) (w : PortWait) : (setWait s p w).slc = s.slc := rfl
@[simp] theorem setWait_gov (p : Nat) (w : PortWait) : (setWait s p w).gov = s.gov := rfl
@[simp] theorem setWait_pwr (p : Nat) (w : PortWait) : (setWait s p w).pwr = s.pwr := rfl
@[simp] theorem setWait_outs (p : Nat) (w : PortWait) : (setWait s p w).outs = s.outs := rfl
@[simp] theorem setWait_fresh (p : Nat) (w : PortWait) : (setWait s p w).fresh = s.fresh := rfl
@[simp] theorem setWait_pending (p : Nat) (w : PortWait) : (setWait s p w).pending = s.pending := rfl
@[simp] theorem setWait_rd (p : Nat) (w : PortWait) (q : Reg) : (setWait s p w).rd q = s.rd q := rfl
@[simp] theorem setWait_get (p : Nat) (w : PortWait) (fl : Fld) : (setWait s p w).get fl = s.get fl := rfl
@[simp] theorem setWait_bit (p : Nat) (w : PortWait) (fl : Fld) : (setWait s p w).bit fl = s.bit fl := rfl

@[simp] theorem setOx_regs (p : Nat) (x : OflX) : (s.setOx p x).regs = s.regs := rfl
@[simp] theorem setOx_hold (p : Nat) (x : OflX) : (s.setOx p x).hold = s.hold := rfl
@[simp] theorem setOx_spd (p : Nat) (x : OflX) : (s.setOx p x).spd = s.spd := rfl
@[simp] theorem setOx_img (p : Nat) (x : OflX) : (s.setOx p x).img = s.img := rfl
@[simp] theorem setOx_fuse (p : Nat) (x : OflX) : (s.setOx p x).fuse = s.fuse := rfl
@[simp] theorem setOx_ports (p : Nat) (x : OflX) : (s.setOx p x).ports = s.ports := rfl
@[simp] theorem setOx_mill (p : Nat) (x : OflX) : (s.setOx p x).mill = s.mill := rfl
@[simp] theorem setOx_rte (p : Nat) (x : OflX) : (s.setOx p x).rte = s.rte := rfl
@[simp] theorem setOx_pool (p : Nat) (x : OflX) : (s.setOx p x).pool = s.pool := rfl
@[simp] theorem setOx_coh (p : Nat) (x : OflX) : (s.setOx p x).coh = s.coh := rfl
@[simp] theorem setOx_hep (p : Nat) (x : OflX) : (s.setOx p x).hep = s.hep := rfl
@[simp] theorem setOx_hopIn (p : Nat) (x : OflX) : (s.setOx p x).hopIn = s.hopIn := rfl
@[simp] theorem setOx_hop (p : Nat) (x : OflX) : (s.setOx p x).hop = s.hop := rfl
@[simp] theorem setOx_spdX (p : Nat) (x : OflX) : (s.setOx p x).spdX = s.spdX := rfl
@[simp] theorem setOx_mpu (p : Nat) (x : OflX) : (s.setOx p x).mpu = s.mpu := rfl
@[simp] theorem setOx_marks (p : Nat) (x : OflX) : (s.setOx p x).marks = s.marks := rfl
@[simp] theorem setOx_brk (p : Nat) (x : OflX) : (s.setOx p x).brk = s.brk := rfl
@[simp] theorem setOx_mgt (p : Nat) (x : OflX) : (s.setOx p x).mgt = s.mgt := rfl
@[simp] theorem setOx_pmc (p : Nat) (x : OflX) : (s.setOx p x).pmc = s.pmc := rfl
@[simp] theorem setOx_fan (p : Nat) (x : OflX) : (s.setOx p x).fan = s.fan := rfl
@[simp] theorem setOx_slc (p : Nat) (x : OflX) : (s.setOx p x).slc = s.slc := rfl
@[simp] theorem setOx_gov (p : Nat) (x : OflX) : (s.setOx p x).gov = s.gov := rfl
@[simp] theorem setOx_pwr (p : Nat) (x : OflX) : (s.setOx p x).pwr = s.pwr := rfl
@[simp] theorem setOx_outs (p : Nat) (x : OflX) : (s.setOx p x).outs = s.outs := rfl
@[simp] theorem setOx_fresh (p : Nat) (x : OflX) : (s.setOx p x).fresh = s.fresh := rfl
@[simp] theorem setOx_pending (p : Nat) (x : OflX) : (s.setOx p x).pending = s.pending := rfl
@[simp] theorem setOx_rd (p : Nat) (x : OflX) (q : Reg) : (s.setOx p x).rd q = s.rd q := rfl
@[simp] theorem setOx_get (p : Nat) (x : OflX) (fl : Fld) : (s.setOx p x).get fl = s.get fl := rfl
@[simp] theorem setOx_bit (p : Nat) (x : OflX) (fl : Fld) : (s.setOx p x).bit fl = s.bit fl := rfl

@[simp] theorem modOx_regs (p : Nat) (g : OflX → OflX) : (s.modOx p g).regs = s.regs := rfl
@[simp] theorem modOx_hold (p : Nat) (g : OflX → OflX) : (s.modOx p g).hold = s.hold := rfl
@[simp] theorem modOx_spd (p : Nat) (g : OflX → OflX) : (s.modOx p g).spd = s.spd := rfl
@[simp] theorem modOx_img (p : Nat) (g : OflX → OflX) : (s.modOx p g).img = s.img := rfl
@[simp] theorem modOx_fuse (p : Nat) (g : OflX → OflX) : (s.modOx p g).fuse = s.fuse := rfl
@[simp] theorem modOx_ports (p : Nat) (g : OflX → OflX) : (s.modOx p g).ports = s.ports := rfl
@[simp] theorem modOx_mill (p : Nat) (g : OflX → OflX) : (s.modOx p g).mill = s.mill := rfl
@[simp] theorem modOx_rte (p : Nat) (g : OflX → OflX) : (s.modOx p g).rte = s.rte := rfl
@[simp] theorem modOx_pool (p : Nat) (g : OflX → OflX) : (s.modOx p g).pool = s.pool := rfl
@[simp] theorem modOx_coh (p : Nat) (g : OflX → OflX) : (s.modOx p g).coh = s.coh := rfl
@[simp] theorem modOx_hep (p : Nat) (g : OflX → OflX) : (s.modOx p g).hep = s.hep := rfl
@[simp] theorem modOx_hopIn (p : Nat) (g : OflX → OflX) : (s.modOx p g).hopIn = s.hopIn := rfl
@[simp] theorem modOx_hop (p : Nat) (g : OflX → OflX) : (s.modOx p g).hop = s.hop := rfl
@[simp] theorem modOx_spdX (p : Nat) (g : OflX → OflX) : (s.modOx p g).spdX = s.spdX := rfl
@[simp] theorem modOx_mpu (p : Nat) (g : OflX → OflX) : (s.modOx p g).mpu = s.mpu := rfl
@[simp] theorem modOx_marks (p : Nat) (g : OflX → OflX) : (s.modOx p g).marks = s.marks := rfl
@[simp] theorem modOx_brk (p : Nat) (g : OflX → OflX) : (s.modOx p g).brk = s.brk := rfl
@[simp] theorem modOx_mgt (p : Nat) (g : OflX → OflX) : (s.modOx p g).mgt = s.mgt := rfl
@[simp] theorem modOx_pmc (p : Nat) (g : OflX → OflX) : (s.modOx p g).pmc = s.pmc := rfl
@[simp] theorem modOx_fan (p : Nat) (g : OflX → OflX) : (s.modOx p g).fan = s.fan := rfl
@[simp] theorem modOx_slc (p : Nat) (g : OflX → OflX) : (s.modOx p g).slc = s.slc := rfl
@[simp] theorem modOx_gov (p : Nat) (g : OflX → OflX) : (s.modOx p g).gov = s.gov := rfl
@[simp] theorem modOx_pwr (p : Nat) (g : OflX → OflX) : (s.modOx p g).pwr = s.pwr := rfl
@[simp] theorem modOx_outs (p : Nat) (g : OflX → OflX) : (s.modOx p g).outs = s.outs := rfl
@[simp] theorem modOx_fresh (p : Nat) (g : OflX → OflX) : (s.modOx p g).fresh = s.fresh := rfl
@[simp] theorem modOx_pending (p : Nat) (g : OflX → OflX) : (s.modOx p g).pending = s.pending := rfl
@[simp] theorem modOx_rd (p : Nat) (g : OflX → OflX) (q : Reg) : (s.modOx p g).rd q = s.rd q := rfl
@[simp] theorem modOx_get (p : Nat) (g : OflX → OflX) (fl : Fld) : (s.modOx p g).get fl = s.get fl := rfl
@[simp] theorem modOx_bit (p : Nat) (g : OflX → OflX) (fl : Fld) : (s.modOx p g).bit fl = s.bit fl := rfl

@[simp] theorem modVx_regs (v k : Nat) (g : VppbX → VppbX) : (s.modVx v k g).regs = s.regs := rfl
@[simp] theorem modVx_hold (v k : Nat) (g : VppbX → VppbX) : (s.modVx v k g).hold = s.hold := rfl
@[simp] theorem modVx_spd (v k : Nat) (g : VppbX → VppbX) : (s.modVx v k g).spd = s.spd := rfl
@[simp] theorem modVx_img (v k : Nat) (g : VppbX → VppbX) : (s.modVx v k g).img = s.img := rfl
@[simp] theorem modVx_fuse (v k : Nat) (g : VppbX → VppbX) : (s.modVx v k g).fuse = s.fuse := rfl
@[simp] theorem modVx_ports (v k : Nat) (g : VppbX → VppbX) : (s.modVx v k g).ports = s.ports := rfl
@[simp] theorem modVx_ofl (v k : Nat) (g : VppbX → VppbX) : (s.modVx v k g).ofl = s.ofl := rfl
@[simp] theorem modVx_mill (v k : Nat) (g : VppbX → VppbX) : (s.modVx v k g).mill = s.mill := rfl
@[simp] theorem modVx_pool (v k : Nat) (g : VppbX → VppbX) : (s.modVx v k g).pool = s.pool := rfl
@[simp] theorem modVx_coh (v k : Nat) (g : VppbX → VppbX) : (s.modVx v k g).coh = s.coh := rfl
@[simp] theorem modVx_hep (v k : Nat) (g : VppbX → VppbX) : (s.modVx v k g).hep = s.hep := rfl
@[simp] theorem modVx_hopIn (v k : Nat) (g : VppbX → VppbX) : (s.modVx v k g).hopIn = s.hopIn := rfl
@[simp] theorem modVx_hop (v k : Nat) (g : VppbX → VppbX) : (s.modVx v k g).hop = s.hop := rfl
@[simp] theorem modVx_spdX (v k : Nat) (g : VppbX → VppbX) : (s.modVx v k g).spdX = s.spdX := rfl
@[simp] theorem modVx_mpu (v k : Nat) (g : VppbX → VppbX) : (s.modVx v k g).mpu = s.mpu := rfl
@[simp] theorem modVx_marks (v k : Nat) (g : VppbX → VppbX) : (s.modVx v k g).marks = s.marks := rfl
@[simp] theorem modVx_brk (v k : Nat) (g : VppbX → VppbX) : (s.modVx v k g).brk = s.brk := rfl
@[simp] theorem modVx_mgt (v k : Nat) (g : VppbX → VppbX) : (s.modVx v k g).mgt = s.mgt := rfl
@[simp] theorem modVx_pmc (v k : Nat) (g : VppbX → VppbX) : (s.modVx v k g).pmc = s.pmc := rfl
@[simp] theorem modVx_fan (v k : Nat) (g : VppbX → VppbX) : (s.modVx v k g).fan = s.fan := rfl
@[simp] theorem modVx_slc (v k : Nat) (g : VppbX → VppbX) : (s.modVx v k g).slc = s.slc := rfl
@[simp] theorem modVx_gov (v k : Nat) (g : VppbX → VppbX) : (s.modVx v k g).gov = s.gov := rfl
@[simp] theorem modVx_pwr (v k : Nat) (g : VppbX → VppbX) : (s.modVx v k g).pwr = s.pwr := rfl
@[simp] theorem modVx_outs (v k : Nat) (g : VppbX → VppbX) : (s.modVx v k g).outs = s.outs := rfl
@[simp] theorem modVx_fresh (v k : Nat) (g : VppbX → VppbX) : (s.modVx v k g).fresh = s.fresh := rfl
@[simp] theorem modVx_pending (v k : Nat) (g : VppbX → VppbX) : (s.modVx v k g).pending = s.pending := rfl
@[simp] theorem modVx_rd (v k : Nat) (g : VppbX → VppbX) (q : Reg) : (s.modVx v k g).rd q = s.rd q := rfl
@[simp] theorem modVx_get (v k : Nat) (g : VppbX → VppbX) (fl : Fld) : (s.modVx v k g).get fl = s.get fl := rfl
@[simp] theorem modVx_bit (v k : Nat) (g : VppbX → VppbX) (fl : Fld) : (s.modVx v k g).bit fl = s.bit fl := rfl

@[simp] theorem modUx_regs (v : Nat) (g : UspX → UspX) : (s.modUx v g).regs = s.regs := rfl
@[simp] theorem modUx_hold (v : Nat) (g : UspX → UspX) : (s.modUx v g).hold = s.hold := rfl
@[simp] theorem modUx_spd (v : Nat) (g : UspX → UspX) : (s.modUx v g).spd = s.spd := rfl
@[simp] theorem modUx_img (v : Nat) (g : UspX → UspX) : (s.modUx v g).img = s.img := rfl
@[simp] theorem modUx_fuse (v : Nat) (g : UspX → UspX) : (s.modUx v g).fuse = s.fuse := rfl
@[simp] theorem modUx_ports (v : Nat) (g : UspX → UspX) : (s.modUx v g).ports = s.ports := rfl
@[simp] theorem modUx_ofl (v : Nat) (g : UspX → UspX) : (s.modUx v g).ofl = s.ofl := rfl
@[simp] theorem modUx_mill (v : Nat) (g : UspX → UspX) : (s.modUx v g).mill = s.mill := rfl
@[simp] theorem modUx_pool (v : Nat) (g : UspX → UspX) : (s.modUx v g).pool = s.pool := rfl
@[simp] theorem modUx_coh (v : Nat) (g : UspX → UspX) : (s.modUx v g).coh = s.coh := rfl
@[simp] theorem modUx_hep (v : Nat) (g : UspX → UspX) : (s.modUx v g).hep = s.hep := rfl
@[simp] theorem modUx_hopIn (v : Nat) (g : UspX → UspX) : (s.modUx v g).hopIn = s.hopIn := rfl
@[simp] theorem modUx_hop (v : Nat) (g : UspX → UspX) : (s.modUx v g).hop = s.hop := rfl
@[simp] theorem modUx_spdX (v : Nat) (g : UspX → UspX) : (s.modUx v g).spdX = s.spdX := rfl
@[simp] theorem modUx_mpu (v : Nat) (g : UspX → UspX) : (s.modUx v g).mpu = s.mpu := rfl
@[simp] theorem modUx_marks (v : Nat) (g : UspX → UspX) : (s.modUx v g).marks = s.marks := rfl
@[simp] theorem modUx_brk (v : Nat) (g : UspX → UspX) : (s.modUx v g).brk = s.brk := rfl
@[simp] theorem modUx_mgt (v : Nat) (g : UspX → UspX) : (s.modUx v g).mgt = s.mgt := rfl
@[simp] theorem modUx_pmc (v : Nat) (g : UspX → UspX) : (s.modUx v g).pmc = s.pmc := rfl
@[simp] theorem modUx_fan (v : Nat) (g : UspX → UspX) : (s.modUx v g).fan = s.fan := rfl
@[simp] theorem modUx_slc (v : Nat) (g : UspX → UspX) : (s.modUx v g).slc = s.slc := rfl
@[simp] theorem modUx_gov (v : Nat) (g : UspX → UspX) : (s.modUx v g).gov = s.gov := rfl
@[simp] theorem modUx_pwr (v : Nat) (g : UspX → UspX) : (s.modUx v g).pwr = s.pwr := rfl
@[simp] theorem modUx_outs (v : Nat) (g : UspX → UspX) : (s.modUx v g).outs = s.outs := rfl
@[simp] theorem modUx_fresh (v : Nat) (g : UspX → UspX) : (s.modUx v g).fresh = s.fresh := rfl
@[simp] theorem modUx_pending (v : Nat) (g : UspX → UspX) : (s.modUx v g).pending = s.pending := rfl
@[simp] theorem modUx_rd (v : Nat) (g : UspX → UspX) (q : Reg) : (s.modUx v g).rd q = s.rd q := rfl
@[simp] theorem modUx_get (v : Nat) (g : UspX → UspX) (fl : Fld) : (s.modUx v g).get fl = s.get fl := rfl
@[simp] theorem modUx_bit (v : Nat) (g : UspX → UspX) (fl : Fld) : (s.modUx v g).bit fl = s.bit fl := rfl

@[simp] theorem modFx_regs (n : Nat) (g : FnX → FnX) : (s.modFx n g).regs = s.regs := rfl
@[simp] theorem modFx_hold (n : Nat) (g : FnX → FnX) : (s.modFx n g).hold = s.hold := rfl
@[simp] theorem modFx_spd (n : Nat) (g : FnX → FnX) : (s.modFx n g).spd = s.spd := rfl
@[simp] theorem modFx_img (n : Nat) (g : FnX → FnX) : (s.modFx n g).img = s.img := rfl
@[simp] theorem modFx_fuse (n : Nat) (g : FnX → FnX) : (s.modFx n g).fuse = s.fuse := rfl
@[simp] theorem modFx_ports (n : Nat) (g : FnX → FnX) : (s.modFx n g).ports = s.ports := rfl
@[simp] theorem modFx_ofl (n : Nat) (g : FnX → FnX) : (s.modFx n g).ofl = s.ofl := rfl
@[simp] theorem modFx_mill (n : Nat) (g : FnX → FnX) : (s.modFx n g).mill = s.mill := rfl
@[simp] theorem modFx_rte (n : Nat) (g : FnX → FnX) : (s.modFx n g).rte = s.rte := rfl
@[simp] theorem modFx_pool (n : Nat) (g : FnX → FnX) : (s.modFx n g).pool = s.pool := rfl
@[simp] theorem modFx_coh (n : Nat) (g : FnX → FnX) : (s.modFx n g).coh = s.coh := rfl
@[simp] theorem modFx_hopIn (n : Nat) (g : FnX → FnX) : (s.modFx n g).hopIn = s.hopIn := rfl
@[simp] theorem modFx_hop (n : Nat) (g : FnX → FnX) : (s.modFx n g).hop = s.hop := rfl
@[simp] theorem modFx_spdX (n : Nat) (g : FnX → FnX) : (s.modFx n g).spdX = s.spdX := rfl
@[simp] theorem modFx_mpu (n : Nat) (g : FnX → FnX) : (s.modFx n g).mpu = s.mpu := rfl
@[simp] theorem modFx_marks (n : Nat) (g : FnX → FnX) : (s.modFx n g).marks = s.marks := rfl
@[simp] theorem modFx_brk (n : Nat) (g : FnX → FnX) : (s.modFx n g).brk = s.brk := rfl
@[simp] theorem modFx_mgt (n : Nat) (g : FnX → FnX) : (s.modFx n g).mgt = s.mgt := rfl
@[simp] theorem modFx_pmc (n : Nat) (g : FnX → FnX) : (s.modFx n g).pmc = s.pmc := rfl
@[simp] theorem modFx_fan (n : Nat) (g : FnX → FnX) : (s.modFx n g).fan = s.fan := rfl
@[simp] theorem modFx_slc (n : Nat) (g : FnX → FnX) : (s.modFx n g).slc = s.slc := rfl
@[simp] theorem modFx_gov (n : Nat) (g : FnX → FnX) : (s.modFx n g).gov = s.gov := rfl
@[simp] theorem modFx_pwr (n : Nat) (g : FnX → FnX) : (s.modFx n g).pwr = s.pwr := rfl
@[simp] theorem modFx_outs (n : Nat) (g : FnX → FnX) : (s.modFx n g).outs = s.outs := rfl
@[simp] theorem modFx_fresh (n : Nat) (g : FnX → FnX) : (s.modFx n g).fresh = s.fresh := rfl
@[simp] theorem modFx_pending (n : Nat) (g : FnX → FnX) : (s.modFx n g).pending = s.pending := rfl
@[simp] theorem modFx_rd (n : Nat) (g : FnX → FnX) (q : Reg) : (s.modFx n g).rd q = s.rd q := rfl
@[simp] theorem modFx_get (n : Nat) (g : FnX → FnX) (fl : Fld) : (s.modFx n g).get fl = s.get fl := rfl
@[simp] theorem modFx_bit (n : Nat) (g : FnX → FnX) (fl : Fld) : (s.modFx n g).bit fl = s.bit fl := rfl

@[simp] theorem modHc_regs (e c : Nat) (g : HopCh → HopCh) : (s.modHc e c g).regs = s.regs := rfl
@[simp] theorem modHc_hold (e c : Nat) (g : HopCh → HopCh) : (s.modHc e c g).hold = s.hold := rfl
@[simp] theorem modHc_spd (e c : Nat) (g : HopCh → HopCh) : (s.modHc e c g).spd = s.spd := rfl
@[simp] theorem modHc_img (e c : Nat) (g : HopCh → HopCh) : (s.modHc e c g).img = s.img := rfl
@[simp] theorem modHc_fuse (e c : Nat) (g : HopCh → HopCh) : (s.modHc e c g).fuse = s.fuse := rfl
@[simp] theorem modHc_ports (e c : Nat) (g : HopCh → HopCh) : (s.modHc e c g).ports = s.ports := rfl
@[simp] theorem modHc_ofl (e c : Nat) (g : HopCh → HopCh) : (s.modHc e c g).ofl = s.ofl := rfl
@[simp] theorem modHc_mill (e c : Nat) (g : HopCh → HopCh) : (s.modHc e c g).mill = s.mill := rfl
@[simp] theorem modHc_rte (e c : Nat) (g : HopCh → HopCh) : (s.modHc e c g).rte = s.rte := rfl
@[simp] theorem modHc_pool (e c : Nat) (g : HopCh → HopCh) : (s.modHc e c g).pool = s.pool := rfl
@[simp] theorem modHc_coh (e c : Nat) (g : HopCh → HopCh) : (s.modHc e c g).coh = s.coh := rfl
@[simp] theorem modHc_hep (e c : Nat) (g : HopCh → HopCh) : (s.modHc e c g).hep = s.hep := rfl
@[simp] theorem modHc_hopIn (e c : Nat) (g : HopCh → HopCh) : (s.modHc e c g).hopIn = s.hopIn := rfl
@[simp] theorem modHc_spdX (e c : Nat) (g : HopCh → HopCh) : (s.modHc e c g).spdX = s.spdX := rfl
@[simp] theorem modHc_mpu (e c : Nat) (g : HopCh → HopCh) : (s.modHc e c g).mpu = s.mpu := rfl
@[simp] theorem modHc_marks (e c : Nat) (g : HopCh → HopCh) : (s.modHc e c g).marks = s.marks := rfl
@[simp] theorem modHc_brk (e c : Nat) (g : HopCh → HopCh) : (s.modHc e c g).brk = s.brk := rfl
@[simp] theorem modHc_mgt (e c : Nat) (g : HopCh → HopCh) : (s.modHc e c g).mgt = s.mgt := rfl
@[simp] theorem modHc_pmc (e c : Nat) (g : HopCh → HopCh) : (s.modHc e c g).pmc = s.pmc := rfl
@[simp] theorem modHc_fan (e c : Nat) (g : HopCh → HopCh) : (s.modHc e c g).fan = s.fan := rfl
@[simp] theorem modHc_slc (e c : Nat) (g : HopCh → HopCh) : (s.modHc e c g).slc = s.slc := rfl
@[simp] theorem modHc_gov (e c : Nat) (g : HopCh → HopCh) : (s.modHc e c g).gov = s.gov := rfl
@[simp] theorem modHc_pwr (e c : Nat) (g : HopCh → HopCh) : (s.modHc e c g).pwr = s.pwr := rfl
@[simp] theorem modHc_outs (e c : Nat) (g : HopCh → HopCh) : (s.modHc e c g).outs = s.outs := rfl
@[simp] theorem modHc_fresh (e c : Nat) (g : HopCh → HopCh) : (s.modHc e c g).fresh = s.fresh := rfl
@[simp] theorem modHc_pending (e c : Nat) (g : HopCh → HopCh) : (s.modHc e c g).pending = s.pending := rfl
@[simp] theorem modHc_rd (e c : Nat) (g : HopCh → HopCh) (q : Reg) : (s.modHc e c g).rd q = s.rd q := rfl
@[simp] theorem modHc_get (e c : Nat) (g : HopCh → HopCh) (fl : Fld) : (s.modHc e c g).get fl = s.get fl := rfl
@[simp] theorem modHc_bit (e c : Nat) (g : HopCh → HopCh) (fl : Fld) : (s.modHc e c g).bit fl = s.bit fl := rfl

@[simp] theorem modSx_regs (n : Nat) (g : SlcX → SlcX) : (s.modSx n g).regs = s.regs := rfl
@[simp] theorem modSx_hold (n : Nat) (g : SlcX → SlcX) : (s.modSx n g).hold = s.hold := rfl
@[simp] theorem modSx_spd (n : Nat) (g : SlcX → SlcX) : (s.modSx n g).spd = s.spd := rfl
@[simp] theorem modSx_img (n : Nat) (g : SlcX → SlcX) : (s.modSx n g).img = s.img := rfl
@[simp] theorem modSx_fuse (n : Nat) (g : SlcX → SlcX) : (s.modSx n g).fuse = s.fuse := rfl
@[simp] theorem modSx_ports (n : Nat) (g : SlcX → SlcX) : (s.modSx n g).ports = s.ports := rfl
@[simp] theorem modSx_ofl (n : Nat) (g : SlcX → SlcX) : (s.modSx n g).ofl = s.ofl := rfl
@[simp] theorem modSx_mill (n : Nat) (g : SlcX → SlcX) : (s.modSx n g).mill = s.mill := rfl
@[simp] theorem modSx_rte (n : Nat) (g : SlcX → SlcX) : (s.modSx n g).rte = s.rte := rfl
@[simp] theorem modSx_pool (n : Nat) (g : SlcX → SlcX) : (s.modSx n g).pool = s.pool := rfl
@[simp] theorem modSx_coh (n : Nat) (g : SlcX → SlcX) : (s.modSx n g).coh = s.coh := rfl
@[simp] theorem modSx_hep (n : Nat) (g : SlcX → SlcX) : (s.modSx n g).hep = s.hep := rfl
@[simp] theorem modSx_hopIn (n : Nat) (g : SlcX → SlcX) : (s.modSx n g).hopIn = s.hopIn := rfl
@[simp] theorem modSx_hop (n : Nat) (g : SlcX → SlcX) : (s.modSx n g).hop = s.hop := rfl
@[simp] theorem modSx_spdX (n : Nat) (g : SlcX → SlcX) : (s.modSx n g).spdX = s.spdX := rfl
@[simp] theorem modSx_mpu (n : Nat) (g : SlcX → SlcX) : (s.modSx n g).mpu = s.mpu := rfl
@[simp] theorem modSx_marks (n : Nat) (g : SlcX → SlcX) : (s.modSx n g).marks = s.marks := rfl
@[simp] theorem modSx_brk (n : Nat) (g : SlcX → SlcX) : (s.modSx n g).brk = s.brk := rfl
@[simp] theorem modSx_mgt (n : Nat) (g : SlcX → SlcX) : (s.modSx n g).mgt = s.mgt := rfl
@[simp] theorem modSx_pmc (n : Nat) (g : SlcX → SlcX) : (s.modSx n g).pmc = s.pmc := rfl
@[simp] theorem modSx_fan (n : Nat) (g : SlcX → SlcX) : (s.modSx n g).fan = s.fan := rfl
@[simp] theorem modSx_gov (n : Nat) (g : SlcX → SlcX) : (s.modSx n g).gov = s.gov := rfl
@[simp] theorem modSx_pwr (n : Nat) (g : SlcX → SlcX) : (s.modSx n g).pwr = s.pwr := rfl
@[simp] theorem modSx_outs (n : Nat) (g : SlcX → SlcX) : (s.modSx n g).outs = s.outs := rfl
@[simp] theorem modSx_fresh (n : Nat) (g : SlcX → SlcX) : (s.modSx n g).fresh = s.fresh := rfl
@[simp] theorem modSx_pending (n : Nat) (g : SlcX → SlcX) : (s.modSx n g).pending = s.pending := rfl
@[simp] theorem modSx_rd (n : Nat) (g : SlcX → SlcX) (q : Reg) : (s.modSx n g).rd q = s.rd q := rfl
@[simp] theorem modSx_get (n : Nat) (g : SlcX → SlcX) (fl : Fld) : (s.modSx n g).get fl = s.get fl := rfl
@[simp] theorem modSx_bit (n : Nat) (g : SlcX → SlcX) (fl : Fld) : (s.modSx n g).bit fl = s.bit fl := rfl

@[simp] theorem modMill_regs (g : MillSt → MillSt) : (s.modMill g).regs = s.regs := rfl
@[simp] theorem modMill_hold (g : MillSt → MillSt) : (s.modMill g).hold = s.hold := rfl
@[simp] theorem modMill_spd (g : MillSt → MillSt) : (s.modMill g).spd = s.spd := rfl
@[simp] theorem modMill_img (g : MillSt → MillSt) : (s.modMill g).img = s.img := rfl
@[simp] theorem modMill_fuse (g : MillSt → MillSt) : (s.modMill g).fuse = s.fuse := rfl
@[simp] theorem modMill_ports (g : MillSt → MillSt) : (s.modMill g).ports = s.ports := rfl
@[simp] theorem modMill_ofl (g : MillSt → MillSt) : (s.modMill g).ofl = s.ofl := rfl
@[simp] theorem modMill_rte (g : MillSt → MillSt) : (s.modMill g).rte = s.rte := rfl
@[simp] theorem modMill_pool (g : MillSt → MillSt) : (s.modMill g).pool = s.pool := rfl
@[simp] theorem modMill_coh (g : MillSt → MillSt) : (s.modMill g).coh = s.coh := rfl
@[simp] theorem modMill_hep (g : MillSt → MillSt) : (s.modMill g).hep = s.hep := rfl
@[simp] theorem modMill_hopIn (g : MillSt → MillSt) : (s.modMill g).hopIn = s.hopIn := rfl
@[simp] theorem modMill_hop (g : MillSt → MillSt) : (s.modMill g).hop = s.hop := rfl
@[simp] theorem modMill_spdX (g : MillSt → MillSt) : (s.modMill g).spdX = s.spdX := rfl
@[simp] theorem modMill_mpu (g : MillSt → MillSt) : (s.modMill g).mpu = s.mpu := rfl
@[simp] theorem modMill_marks (g : MillSt → MillSt) : (s.modMill g).marks = s.marks := rfl
@[simp] theorem modMill_brk (g : MillSt → MillSt) : (s.modMill g).brk = s.brk := rfl
@[simp] theorem modMill_mgt (g : MillSt → MillSt) : (s.modMill g).mgt = s.mgt := rfl
@[simp] theorem modMill_pmc (g : MillSt → MillSt) : (s.modMill g).pmc = s.pmc := rfl
@[simp] theorem modMill_fan (g : MillSt → MillSt) : (s.modMill g).fan = s.fan := rfl
@[simp] theorem modMill_slc (g : MillSt → MillSt) : (s.modMill g).slc = s.slc := rfl
@[simp] theorem modMill_gov (g : MillSt → MillSt) : (s.modMill g).gov = s.gov := rfl
@[simp] theorem modMill_pwr (g : MillSt → MillSt) : (s.modMill g).pwr = s.pwr := rfl
@[simp] theorem modMill_outs (g : MillSt → MillSt) : (s.modMill g).outs = s.outs := rfl
@[simp] theorem modMill_fresh (g : MillSt → MillSt) : (s.modMill g).fresh = s.fresh := rfl
@[simp] theorem modMill_pending (g : MillSt → MillSt) : (s.modMill g).pending = s.pending := rfl
@[simp] theorem modMill_mill (g : MillSt → MillSt) : (s.modMill g).mill = g s.mill := rfl
@[simp] theorem modMill_rd (g : MillSt → MillSt) (q : Reg) : (s.modMill g).rd q = s.rd q := rfl
@[simp] theorem modMill_get (g : MillSt → MillSt) (fl : Fld) : (s.modMill g).get fl = s.get fl := rfl
@[simp] theorem modMill_bit (g : MillSt → MillSt) (fl : Fld) : (s.modMill g).bit fl = s.bit fl := rfl

@[simp] theorem modRte_regs (g : RteSt → RteSt) : (s.modRte g).regs = s.regs := rfl
@[simp] theorem modRte_hold (g : RteSt → RteSt) : (s.modRte g).hold = s.hold := rfl
@[simp] theorem modRte_spd (g : RteSt → RteSt) : (s.modRte g).spd = s.spd := rfl
@[simp] theorem modRte_img (g : RteSt → RteSt) : (s.modRte g).img = s.img := rfl
@[simp] theorem modRte_fuse (g : RteSt → RteSt) : (s.modRte g).fuse = s.fuse := rfl
@[simp] theorem modRte_ports (g : RteSt → RteSt) : (s.modRte g).ports = s.ports := rfl
@[simp] theorem modRte_ofl (g : RteSt → RteSt) : (s.modRte g).ofl = s.ofl := rfl
@[simp] theorem modRte_mill (g : RteSt → RteSt) : (s.modRte g).mill = s.mill := rfl
@[simp] theorem modRte_pool (g : RteSt → RteSt) : (s.modRte g).pool = s.pool := rfl
@[simp] theorem modRte_coh (g : RteSt → RteSt) : (s.modRte g).coh = s.coh := rfl
@[simp] theorem modRte_hep (g : RteSt → RteSt) : (s.modRte g).hep = s.hep := rfl
@[simp] theorem modRte_hopIn (g : RteSt → RteSt) : (s.modRte g).hopIn = s.hopIn := rfl
@[simp] theorem modRte_hop (g : RteSt → RteSt) : (s.modRte g).hop = s.hop := rfl
@[simp] theorem modRte_spdX (g : RteSt → RteSt) : (s.modRte g).spdX = s.spdX := rfl
@[simp] theorem modRte_mpu (g : RteSt → RteSt) : (s.modRte g).mpu = s.mpu := rfl
@[simp] theorem modRte_marks (g : RteSt → RteSt) : (s.modRte g).marks = s.marks := rfl
@[simp] theorem modRte_brk (g : RteSt → RteSt) : (s.modRte g).brk = s.brk := rfl
@[simp] theorem modRte_mgt (g : RteSt → RteSt) : (s.modRte g).mgt = s.mgt := rfl
@[simp] theorem modRte_pmc (g : RteSt → RteSt) : (s.modRte g).pmc = s.pmc := rfl
@[simp] theorem modRte_fan (g : RteSt → RteSt) : (s.modRte g).fan = s.fan := rfl
@[simp] theorem modRte_slc (g : RteSt → RteSt) : (s.modRte g).slc = s.slc := rfl
@[simp] theorem modRte_gov (g : RteSt → RteSt) : (s.modRte g).gov = s.gov := rfl
@[simp] theorem modRte_pwr (g : RteSt → RteSt) : (s.modRte g).pwr = s.pwr := rfl
@[simp] theorem modRte_outs (g : RteSt → RteSt) : (s.modRte g).outs = s.outs := rfl
@[simp] theorem modRte_fresh (g : RteSt → RteSt) : (s.modRte g).fresh = s.fresh := rfl
@[simp] theorem modRte_pending (g : RteSt → RteSt) : (s.modRte g).pending = s.pending := rfl
@[simp] theorem modRte_rte (g : RteSt → RteSt) : (s.modRte g).rte = g s.rte := rfl
@[simp] theorem modRte_rd (g : RteSt → RteSt) (q : Reg) : (s.modRte g).rd q = s.rd q := rfl
@[simp] theorem modRte_get (g : RteSt → RteSt) (fl : Fld) : (s.modRte g).get fl = s.get fl := rfl
@[simp] theorem modRte_bit (g : RteSt → RteSt) (fl : Fld) : (s.modRte g).bit fl = s.bit fl := rfl

@[simp] theorem modPool_regs (g : PoolSt → PoolSt) : (s.modPool g).regs = s.regs := rfl
@[simp] theorem modPool_hold (g : PoolSt → PoolSt) : (s.modPool g).hold = s.hold := rfl
@[simp] theorem modPool_spd (g : PoolSt → PoolSt) : (s.modPool g).spd = s.spd := rfl
@[simp] theorem modPool_img (g : PoolSt → PoolSt) : (s.modPool g).img = s.img := rfl
@[simp] theorem modPool_fuse (g : PoolSt → PoolSt) : (s.modPool g).fuse = s.fuse := rfl
@[simp] theorem modPool_ports (g : PoolSt → PoolSt) : (s.modPool g).ports = s.ports := rfl
@[simp] theorem modPool_ofl (g : PoolSt → PoolSt) : (s.modPool g).ofl = s.ofl := rfl
@[simp] theorem modPool_mill (g : PoolSt → PoolSt) : (s.modPool g).mill = s.mill := rfl
@[simp] theorem modPool_rte (g : PoolSt → PoolSt) : (s.modPool g).rte = s.rte := rfl
@[simp] theorem modPool_coh (g : PoolSt → PoolSt) : (s.modPool g).coh = s.coh := rfl
@[simp] theorem modPool_hep (g : PoolSt → PoolSt) : (s.modPool g).hep = s.hep := rfl
@[simp] theorem modPool_hopIn (g : PoolSt → PoolSt) : (s.modPool g).hopIn = s.hopIn := rfl
@[simp] theorem modPool_hop (g : PoolSt → PoolSt) : (s.modPool g).hop = s.hop := rfl
@[simp] theorem modPool_spdX (g : PoolSt → PoolSt) : (s.modPool g).spdX = s.spdX := rfl
@[simp] theorem modPool_mpu (g : PoolSt → PoolSt) : (s.modPool g).mpu = s.mpu := rfl
@[simp] theorem modPool_marks (g : PoolSt → PoolSt) : (s.modPool g).marks = s.marks := rfl
@[simp] theorem modPool_brk (g : PoolSt → PoolSt) : (s.modPool g).brk = s.brk := rfl
@[simp] theorem modPool_mgt (g : PoolSt → PoolSt) : (s.modPool g).mgt = s.mgt := rfl
@[simp] theorem modPool_pmc (g : PoolSt → PoolSt) : (s.modPool g).pmc = s.pmc := rfl
@[simp] theorem modPool_fan (g : PoolSt → PoolSt) : (s.modPool g).fan = s.fan := rfl
@[simp] theorem modPool_slc (g : PoolSt → PoolSt) : (s.modPool g).slc = s.slc := rfl
@[simp] theorem modPool_gov (g : PoolSt → PoolSt) : (s.modPool g).gov = s.gov := rfl
@[simp] theorem modPool_pwr (g : PoolSt → PoolSt) : (s.modPool g).pwr = s.pwr := rfl
@[simp] theorem modPool_outs (g : PoolSt → PoolSt) : (s.modPool g).outs = s.outs := rfl
@[simp] theorem modPool_fresh (g : PoolSt → PoolSt) : (s.modPool g).fresh = s.fresh := rfl
@[simp] theorem modPool_pending (g : PoolSt → PoolSt) : (s.modPool g).pending = s.pending := rfl
@[simp] theorem modPool_pool (g : PoolSt → PoolSt) : (s.modPool g).pool = g s.pool := rfl
@[simp] theorem modPool_rd (g : PoolSt → PoolSt) (q : Reg) : (s.modPool g).rd q = s.rd q := rfl
@[simp] theorem modPool_get (g : PoolSt → PoolSt) (fl : Fld) : (s.modPool g).get fl = s.get fl := rfl
@[simp] theorem modPool_bit (g : PoolSt → PoolSt) (fl : Fld) : (s.modPool g).bit fl = s.bit fl := rfl

@[simp] theorem modCoh_regs (g : CohSt → CohSt) : (s.modCoh g).regs = s.regs := rfl
@[simp] theorem modCoh_hold (g : CohSt → CohSt) : (s.modCoh g).hold = s.hold := rfl
@[simp] theorem modCoh_spd (g : CohSt → CohSt) : (s.modCoh g).spd = s.spd := rfl
@[simp] theorem modCoh_img (g : CohSt → CohSt) : (s.modCoh g).img = s.img := rfl
@[simp] theorem modCoh_fuse (g : CohSt → CohSt) : (s.modCoh g).fuse = s.fuse := rfl
@[simp] theorem modCoh_ports (g : CohSt → CohSt) : (s.modCoh g).ports = s.ports := rfl
@[simp] theorem modCoh_ofl (g : CohSt → CohSt) : (s.modCoh g).ofl = s.ofl := rfl
@[simp] theorem modCoh_mill (g : CohSt → CohSt) : (s.modCoh g).mill = s.mill := rfl
@[simp] theorem modCoh_rte (g : CohSt → CohSt) : (s.modCoh g).rte = s.rte := rfl
@[simp] theorem modCoh_pool (g : CohSt → CohSt) : (s.modCoh g).pool = s.pool := rfl
@[simp] theorem modCoh_hep (g : CohSt → CohSt) : (s.modCoh g).hep = s.hep := rfl
@[simp] theorem modCoh_hopIn (g : CohSt → CohSt) : (s.modCoh g).hopIn = s.hopIn := rfl
@[simp] theorem modCoh_hop (g : CohSt → CohSt) : (s.modCoh g).hop = s.hop := rfl
@[simp] theorem modCoh_spdX (g : CohSt → CohSt) : (s.modCoh g).spdX = s.spdX := rfl
@[simp] theorem modCoh_mpu (g : CohSt → CohSt) : (s.modCoh g).mpu = s.mpu := rfl
@[simp] theorem modCoh_marks (g : CohSt → CohSt) : (s.modCoh g).marks = s.marks := rfl
@[simp] theorem modCoh_brk (g : CohSt → CohSt) : (s.modCoh g).brk = s.brk := rfl
@[simp] theorem modCoh_mgt (g : CohSt → CohSt) : (s.modCoh g).mgt = s.mgt := rfl
@[simp] theorem modCoh_pmc (g : CohSt → CohSt) : (s.modCoh g).pmc = s.pmc := rfl
@[simp] theorem modCoh_fan (g : CohSt → CohSt) : (s.modCoh g).fan = s.fan := rfl
@[simp] theorem modCoh_slc (g : CohSt → CohSt) : (s.modCoh g).slc = s.slc := rfl
@[simp] theorem modCoh_gov (g : CohSt → CohSt) : (s.modCoh g).gov = s.gov := rfl
@[simp] theorem modCoh_pwr (g : CohSt → CohSt) : (s.modCoh g).pwr = s.pwr := rfl
@[simp] theorem modCoh_outs (g : CohSt → CohSt) : (s.modCoh g).outs = s.outs := rfl
@[simp] theorem modCoh_fresh (g : CohSt → CohSt) : (s.modCoh g).fresh = s.fresh := rfl
@[simp] theorem modCoh_pending (g : CohSt → CohSt) : (s.modCoh g).pending = s.pending := rfl
@[simp] theorem modCoh_coh (g : CohSt → CohSt) : (s.modCoh g).coh = g s.coh := rfl
@[simp] theorem modCoh_rd (g : CohSt → CohSt) (q : Reg) : (s.modCoh g).rd q = s.rd q := rfl
@[simp] theorem modCoh_get (g : CohSt → CohSt) (fl : Fld) : (s.modCoh g).get fl = s.get fl := rfl
@[simp] theorem modCoh_bit (g : CohSt → CohSt) (fl : Fld) : (s.modCoh g).bit fl = s.bit fl := rfl

@[simp] theorem modMgt_regs (g : MgtSt → MgtSt) : (s.modMgt g).regs = s.regs := rfl
@[simp] theorem modMgt_hold (g : MgtSt → MgtSt) : (s.modMgt g).hold = s.hold := rfl
@[simp] theorem modMgt_spd (g : MgtSt → MgtSt) : (s.modMgt g).spd = s.spd := rfl
@[simp] theorem modMgt_img (g : MgtSt → MgtSt) : (s.modMgt g).img = s.img := rfl
@[simp] theorem modMgt_fuse (g : MgtSt → MgtSt) : (s.modMgt g).fuse = s.fuse := rfl
@[simp] theorem modMgt_ports (g : MgtSt → MgtSt) : (s.modMgt g).ports = s.ports := rfl
@[simp] theorem modMgt_ofl (g : MgtSt → MgtSt) : (s.modMgt g).ofl = s.ofl := rfl
@[simp] theorem modMgt_mill (g : MgtSt → MgtSt) : (s.modMgt g).mill = s.mill := rfl
@[simp] theorem modMgt_rte (g : MgtSt → MgtSt) : (s.modMgt g).rte = s.rte := rfl
@[simp] theorem modMgt_pool (g : MgtSt → MgtSt) : (s.modMgt g).pool = s.pool := rfl
@[simp] theorem modMgt_coh (g : MgtSt → MgtSt) : (s.modMgt g).coh = s.coh := rfl
@[simp] theorem modMgt_hep (g : MgtSt → MgtSt) : (s.modMgt g).hep = s.hep := rfl
@[simp] theorem modMgt_hopIn (g : MgtSt → MgtSt) : (s.modMgt g).hopIn = s.hopIn := rfl
@[simp] theorem modMgt_hop (g : MgtSt → MgtSt) : (s.modMgt g).hop = s.hop := rfl
@[simp] theorem modMgt_spdX (g : MgtSt → MgtSt) : (s.modMgt g).spdX = s.spdX := rfl
@[simp] theorem modMgt_mpu (g : MgtSt → MgtSt) : (s.modMgt g).mpu = s.mpu := rfl
@[simp] theorem modMgt_marks (g : MgtSt → MgtSt) : (s.modMgt g).marks = s.marks := rfl
@[simp] theorem modMgt_brk (g : MgtSt → MgtSt) : (s.modMgt g).brk = s.brk := rfl
@[simp] theorem modMgt_pmc (g : MgtSt → MgtSt) : (s.modMgt g).pmc = s.pmc := rfl
@[simp] theorem modMgt_fan (g : MgtSt → MgtSt) : (s.modMgt g).fan = s.fan := rfl
@[simp] theorem modMgt_slc (g : MgtSt → MgtSt) : (s.modMgt g).slc = s.slc := rfl
@[simp] theorem modMgt_gov (g : MgtSt → MgtSt) : (s.modMgt g).gov = s.gov := rfl
@[simp] theorem modMgt_pwr (g : MgtSt → MgtSt) : (s.modMgt g).pwr = s.pwr := rfl
@[simp] theorem modMgt_outs (g : MgtSt → MgtSt) : (s.modMgt g).outs = s.outs := rfl
@[simp] theorem modMgt_fresh (g : MgtSt → MgtSt) : (s.modMgt g).fresh = s.fresh := rfl
@[simp] theorem modMgt_pending (g : MgtSt → MgtSt) : (s.modMgt g).pending = s.pending := rfl
@[simp] theorem modMgt_mgt (g : MgtSt → MgtSt) : (s.modMgt g).mgt = g s.mgt := rfl
@[simp] theorem modMgt_rd (g : MgtSt → MgtSt) (q : Reg) : (s.modMgt g).rd q = s.rd q := rfl
@[simp] theorem modMgt_get (g : MgtSt → MgtSt) (fl : Fld) : (s.modMgt g).get fl = s.get fl := rfl
@[simp] theorem modMgt_bit (g : MgtSt → MgtSt) (fl : Fld) : (s.modMgt g).bit fl = s.bit fl := rfl

@[simp] theorem modBrk_regs (g : BrkSt → BrkSt) : (s.modBrk g).regs = s.regs := rfl
@[simp] theorem modBrk_hold (g : BrkSt → BrkSt) : (s.modBrk g).hold = s.hold := rfl
@[simp] theorem modBrk_spd (g : BrkSt → BrkSt) : (s.modBrk g).spd = s.spd := rfl
@[simp] theorem modBrk_img (g : BrkSt → BrkSt) : (s.modBrk g).img = s.img := rfl
@[simp] theorem modBrk_fuse (g : BrkSt → BrkSt) : (s.modBrk g).fuse = s.fuse := rfl
@[simp] theorem modBrk_ports (g : BrkSt → BrkSt) : (s.modBrk g).ports = s.ports := rfl
@[simp] theorem modBrk_ofl (g : BrkSt → BrkSt) : (s.modBrk g).ofl = s.ofl := rfl
@[simp] theorem modBrk_mill (g : BrkSt → BrkSt) : (s.modBrk g).mill = s.mill := rfl
@[simp] theorem modBrk_rte (g : BrkSt → BrkSt) : (s.modBrk g).rte = s.rte := rfl
@[simp] theorem modBrk_pool (g : BrkSt → BrkSt) : (s.modBrk g).pool = s.pool := rfl
@[simp] theorem modBrk_coh (g : BrkSt → BrkSt) : (s.modBrk g).coh = s.coh := rfl
@[simp] theorem modBrk_hep (g : BrkSt → BrkSt) : (s.modBrk g).hep = s.hep := rfl
@[simp] theorem modBrk_hopIn (g : BrkSt → BrkSt) : (s.modBrk g).hopIn = s.hopIn := rfl
@[simp] theorem modBrk_hop (g : BrkSt → BrkSt) : (s.modBrk g).hop = s.hop := rfl
@[simp] theorem modBrk_spdX (g : BrkSt → BrkSt) : (s.modBrk g).spdX = s.spdX := rfl
@[simp] theorem modBrk_mpu (g : BrkSt → BrkSt) : (s.modBrk g).mpu = s.mpu := rfl
@[simp] theorem modBrk_marks (g : BrkSt → BrkSt) : (s.modBrk g).marks = s.marks := rfl
@[simp] theorem modBrk_mgt (g : BrkSt → BrkSt) : (s.modBrk g).mgt = s.mgt := rfl
@[simp] theorem modBrk_pmc (g : BrkSt → BrkSt) : (s.modBrk g).pmc = s.pmc := rfl
@[simp] theorem modBrk_fan (g : BrkSt → BrkSt) : (s.modBrk g).fan = s.fan := rfl
@[simp] theorem modBrk_slc (g : BrkSt → BrkSt) : (s.modBrk g).slc = s.slc := rfl
@[simp] theorem modBrk_gov (g : BrkSt → BrkSt) : (s.modBrk g).gov = s.gov := rfl
@[simp] theorem modBrk_pwr (g : BrkSt → BrkSt) : (s.modBrk g).pwr = s.pwr := rfl
@[simp] theorem modBrk_outs (g : BrkSt → BrkSt) : (s.modBrk g).outs = s.outs := rfl
@[simp] theorem modBrk_fresh (g : BrkSt → BrkSt) : (s.modBrk g).fresh = s.fresh := rfl
@[simp] theorem modBrk_pending (g : BrkSt → BrkSt) : (s.modBrk g).pending = s.pending := rfl
@[simp] theorem modBrk_brk (g : BrkSt → BrkSt) : (s.modBrk g).brk = g s.brk := rfl
@[simp] theorem modBrk_rd (g : BrkSt → BrkSt) (q : Reg) : (s.modBrk g).rd q = s.rd q := rfl
@[simp] theorem modBrk_get (g : BrkSt → BrkSt) (fl : Fld) : (s.modBrk g).get fl = s.get fl := rfl
@[simp] theorem modBrk_bit (g : BrkSt → BrkSt) (fl : Fld) : (s.modBrk g).bit fl = s.bit fl := rfl

@[simp] theorem modGov_regs (g : GovSt → GovSt) : (s.modGov g).regs = s.regs := rfl
@[simp] theorem modGov_hold (g : GovSt → GovSt) : (s.modGov g).hold = s.hold := rfl
@[simp] theorem modGov_spd (g : GovSt → GovSt) : (s.modGov g).spd = s.spd := rfl
@[simp] theorem modGov_img (g : GovSt → GovSt) : (s.modGov g).img = s.img := rfl
@[simp] theorem modGov_fuse (g : GovSt → GovSt) : (s.modGov g).fuse = s.fuse := rfl
@[simp] theorem modGov_ports (g : GovSt → GovSt) : (s.modGov g).ports = s.ports := rfl
@[simp] theorem modGov_ofl (g : GovSt → GovSt) : (s.modGov g).ofl = s.ofl := rfl
@[simp] theorem modGov_mill (g : GovSt → GovSt) : (s.modGov g).mill = s.mill := rfl
@[simp] theorem modGov_rte (g : GovSt → GovSt) : (s.modGov g).rte = s.rte := rfl
@[simp] theorem modGov_pool (g : GovSt → GovSt) : (s.modGov g).pool = s.pool := rfl
@[simp] theorem modGov_coh (g : GovSt → GovSt) : (s.modGov g).coh = s.coh := rfl
@[simp] theorem modGov_hep (g : GovSt → GovSt) : (s.modGov g).hep = s.hep := rfl
@[simp] theorem modGov_hopIn (g : GovSt → GovSt) : (s.modGov g).hopIn = s.hopIn := rfl
@[simp] theorem modGov_hop (g : GovSt → GovSt) : (s.modGov g).hop = s.hop := rfl
@[simp] theorem modGov_spdX (g : GovSt → GovSt) : (s.modGov g).spdX = s.spdX := rfl
@[simp] theorem modGov_mpu (g : GovSt → GovSt) : (s.modGov g).mpu = s.mpu := rfl
@[simp] theorem modGov_marks (g : GovSt → GovSt) : (s.modGov g).marks = s.marks := rfl
@[simp] theorem modGov_brk (g : GovSt → GovSt) : (s.modGov g).brk = s.brk := rfl
@[simp] theorem modGov_mgt (g : GovSt → GovSt) : (s.modGov g).mgt = s.mgt := rfl
@[simp] theorem modGov_pmc (g : GovSt → GovSt) : (s.modGov g).pmc = s.pmc := rfl
@[simp] theorem modGov_fan (g : GovSt → GovSt) : (s.modGov g).fan = s.fan := rfl
@[simp] theorem modGov_slc (g : GovSt → GovSt) : (s.modGov g).slc = s.slc := rfl
@[simp] theorem modGov_pwr (g : GovSt → GovSt) : (s.modGov g).pwr = s.pwr := rfl
@[simp] theorem modGov_outs (g : GovSt → GovSt) : (s.modGov g).outs = s.outs := rfl
@[simp] theorem modGov_fresh (g : GovSt → GovSt) : (s.modGov g).fresh = s.fresh := rfl
@[simp] theorem modGov_pending (g : GovSt → GovSt) : (s.modGov g).pending = s.pending := rfl
@[simp] theorem modGov_gov (g : GovSt → GovSt) : (s.modGov g).gov = g s.gov := rfl
@[simp] theorem modGov_rd (g : GovSt → GovSt) (q : Reg) : (s.modGov g).rd q = s.rd q := rfl
@[simp] theorem modGov_get (g : GovSt → GovSt) (fl : Fld) : (s.modGov g).get fl = s.get fl := rfl
@[simp] theorem modGov_bit (g : GovSt → GovSt) (fl : Fld) : (s.modGov g).bit fl = s.bit fl := rfl

@[simp] theorem modPmc_regs (g : PmcSt → PmcSt) : (s.modPmc g).regs = s.regs := rfl
@[simp] theorem modPmc_hold (g : PmcSt → PmcSt) : (s.modPmc g).hold = s.hold := rfl
@[simp] theorem modPmc_spd (g : PmcSt → PmcSt) : (s.modPmc g).spd = s.spd := rfl
@[simp] theorem modPmc_img (g : PmcSt → PmcSt) : (s.modPmc g).img = s.img := rfl
@[simp] theorem modPmc_fuse (g : PmcSt → PmcSt) : (s.modPmc g).fuse = s.fuse := rfl
@[simp] theorem modPmc_ports (g : PmcSt → PmcSt) : (s.modPmc g).ports = s.ports := rfl
@[simp] theorem modPmc_ofl (g : PmcSt → PmcSt) : (s.modPmc g).ofl = s.ofl := rfl
@[simp] theorem modPmc_mill (g : PmcSt → PmcSt) : (s.modPmc g).mill = s.mill := rfl
@[simp] theorem modPmc_rte (g : PmcSt → PmcSt) : (s.modPmc g).rte = s.rte := rfl
@[simp] theorem modPmc_pool (g : PmcSt → PmcSt) : (s.modPmc g).pool = s.pool := rfl
@[simp] theorem modPmc_coh (g : PmcSt → PmcSt) : (s.modPmc g).coh = s.coh := rfl
@[simp] theorem modPmc_hep (g : PmcSt → PmcSt) : (s.modPmc g).hep = s.hep := rfl
@[simp] theorem modPmc_hopIn (g : PmcSt → PmcSt) : (s.modPmc g).hopIn = s.hopIn := rfl
@[simp] theorem modPmc_hop (g : PmcSt → PmcSt) : (s.modPmc g).hop = s.hop := rfl
@[simp] theorem modPmc_spdX (g : PmcSt → PmcSt) : (s.modPmc g).spdX = s.spdX := rfl
@[simp] theorem modPmc_mpu (g : PmcSt → PmcSt) : (s.modPmc g).mpu = s.mpu := rfl
@[simp] theorem modPmc_marks (g : PmcSt → PmcSt) : (s.modPmc g).marks = s.marks := rfl
@[simp] theorem modPmc_brk (g : PmcSt → PmcSt) : (s.modPmc g).brk = s.brk := rfl
@[simp] theorem modPmc_mgt (g : PmcSt → PmcSt) : (s.modPmc g).mgt = s.mgt := rfl
@[simp] theorem modPmc_fan (g : PmcSt → PmcSt) : (s.modPmc g).fan = s.fan := rfl
@[simp] theorem modPmc_slc (g : PmcSt → PmcSt) : (s.modPmc g).slc = s.slc := rfl
@[simp] theorem modPmc_gov (g : PmcSt → PmcSt) : (s.modPmc g).gov = s.gov := rfl
@[simp] theorem modPmc_pwr (g : PmcSt → PmcSt) : (s.modPmc g).pwr = s.pwr := rfl
@[simp] theorem modPmc_outs (g : PmcSt → PmcSt) : (s.modPmc g).outs = s.outs := rfl
@[simp] theorem modPmc_fresh (g : PmcSt → PmcSt) : (s.modPmc g).fresh = s.fresh := rfl
@[simp] theorem modPmc_pending (g : PmcSt → PmcSt) : (s.modPmc g).pending = s.pending := rfl
@[simp] theorem modPmc_pmc (g : PmcSt → PmcSt) : (s.modPmc g).pmc = g s.pmc := rfl
@[simp] theorem modPmc_rd (g : PmcSt → PmcSt) (q : Reg) : (s.modPmc g).rd q = s.rd q := rfl
@[simp] theorem modPmc_get (g : PmcSt → PmcSt) (fl : Fld) : (s.modPmc g).get fl = s.get fl := rfl
@[simp] theorem modPmc_bit (g : PmcSt → PmcSt) (fl : Fld) : (s.modPmc g).bit fl = s.bit fl := rfl

@[simp] theorem modFan_regs (g : FanSt → FanSt) : (s.modFan g).regs = s.regs := rfl
@[simp] theorem modFan_hold (g : FanSt → FanSt) : (s.modFan g).hold = s.hold := rfl
@[simp] theorem modFan_spd (g : FanSt → FanSt) : (s.modFan g).spd = s.spd := rfl
@[simp] theorem modFan_img (g : FanSt → FanSt) : (s.modFan g).img = s.img := rfl
@[simp] theorem modFan_fuse (g : FanSt → FanSt) : (s.modFan g).fuse = s.fuse := rfl
@[simp] theorem modFan_ports (g : FanSt → FanSt) : (s.modFan g).ports = s.ports := rfl
@[simp] theorem modFan_ofl (g : FanSt → FanSt) : (s.modFan g).ofl = s.ofl := rfl
@[simp] theorem modFan_mill (g : FanSt → FanSt) : (s.modFan g).mill = s.mill := rfl
@[simp] theorem modFan_rte (g : FanSt → FanSt) : (s.modFan g).rte = s.rte := rfl
@[simp] theorem modFan_pool (g : FanSt → FanSt) : (s.modFan g).pool = s.pool := rfl
@[simp] theorem modFan_coh (g : FanSt → FanSt) : (s.modFan g).coh = s.coh := rfl
@[simp] theorem modFan_hep (g : FanSt → FanSt) : (s.modFan g).hep = s.hep := rfl
@[simp] theorem modFan_hopIn (g : FanSt → FanSt) : (s.modFan g).hopIn = s.hopIn := rfl
@[simp] theorem modFan_hop (g : FanSt → FanSt) : (s.modFan g).hop = s.hop := rfl
@[simp] theorem modFan_spdX (g : FanSt → FanSt) : (s.modFan g).spdX = s.spdX := rfl
@[simp] theorem modFan_mpu (g : FanSt → FanSt) : (s.modFan g).mpu = s.mpu := rfl
@[simp] theorem modFan_marks (g : FanSt → FanSt) : (s.modFan g).marks = s.marks := rfl
@[simp] theorem modFan_brk (g : FanSt → FanSt) : (s.modFan g).brk = s.brk := rfl
@[simp] theorem modFan_mgt (g : FanSt → FanSt) : (s.modFan g).mgt = s.mgt := rfl
@[simp] theorem modFan_pmc (g : FanSt → FanSt) : (s.modFan g).pmc = s.pmc := rfl
@[simp] theorem modFan_slc (g : FanSt → FanSt) : (s.modFan g).slc = s.slc := rfl
@[simp] theorem modFan_gov (g : FanSt → FanSt) : (s.modFan g).gov = s.gov := rfl
@[simp] theorem modFan_pwr (g : FanSt → FanSt) : (s.modFan g).pwr = s.pwr := rfl
@[simp] theorem modFan_outs (g : FanSt → FanSt) : (s.modFan g).outs = s.outs := rfl
@[simp] theorem modFan_fresh (g : FanSt → FanSt) : (s.modFan g).fresh = s.fresh := rfl
@[simp] theorem modFan_pending (g : FanSt → FanSt) : (s.modFan g).pending = s.pending := rfl
@[simp] theorem modFan_fan (g : FanSt → FanSt) : (s.modFan g).fan = g s.fan := rfl
@[simp] theorem modFan_rd (g : FanSt → FanSt) (q : Reg) : (s.modFan g).rd q = s.rd q := rfl
@[simp] theorem modFan_get (g : FanSt → FanSt) (fl : Fld) : (s.modFan g).get fl = s.get fl := rfl
@[simp] theorem modFan_bit (g : FanSt → FanSt) (fl : Fld) : (s.modFan g).bit fl = s.bit fl := rfl

@[simp] theorem modPwr_regs (g : PwrSt → PwrSt) : (s.modPwr g).regs = s.regs := rfl
@[simp] theorem modPwr_hold (g : PwrSt → PwrSt) : (s.modPwr g).hold = s.hold := rfl
@[simp] theorem modPwr_spd (g : PwrSt → PwrSt) : (s.modPwr g).spd = s.spd := rfl
@[simp] theorem modPwr_img (g : PwrSt → PwrSt) : (s.modPwr g).img = s.img := rfl
@[simp] theorem modPwr_fuse (g : PwrSt → PwrSt) : (s.modPwr g).fuse = s.fuse := rfl
@[simp] theorem modPwr_ports (g : PwrSt → PwrSt) : (s.modPwr g).ports = s.ports := rfl
@[simp] theorem modPwr_ofl (g : PwrSt → PwrSt) : (s.modPwr g).ofl = s.ofl := rfl
@[simp] theorem modPwr_mill (g : PwrSt → PwrSt) : (s.modPwr g).mill = s.mill := rfl
@[simp] theorem modPwr_rte (g : PwrSt → PwrSt) : (s.modPwr g).rte = s.rte := rfl
@[simp] theorem modPwr_pool (g : PwrSt → PwrSt) : (s.modPwr g).pool = s.pool := rfl
@[simp] theorem modPwr_coh (g : PwrSt → PwrSt) : (s.modPwr g).coh = s.coh := rfl
@[simp] theorem modPwr_hep (g : PwrSt → PwrSt) : (s.modPwr g).hep = s.hep := rfl
@[simp] theorem modPwr_hopIn (g : PwrSt → PwrSt) : (s.modPwr g).hopIn = s.hopIn := rfl
@[simp] theorem modPwr_hop (g : PwrSt → PwrSt) : (s.modPwr g).hop = s.hop := rfl
@[simp] theorem modPwr_spdX (g : PwrSt → PwrSt) : (s.modPwr g).spdX = s.spdX := rfl
@[simp] theorem modPwr_mpu (g : PwrSt → PwrSt) : (s.modPwr g).mpu = s.mpu := rfl
@[simp] theorem modPwr_marks (g : PwrSt → PwrSt) : (s.modPwr g).marks = s.marks := rfl
@[simp] theorem modPwr_brk (g : PwrSt → PwrSt) : (s.modPwr g).brk = s.brk := rfl
@[simp] theorem modPwr_mgt (g : PwrSt → PwrSt) : (s.modPwr g).mgt = s.mgt := rfl
@[simp] theorem modPwr_pmc (g : PwrSt → PwrSt) : (s.modPwr g).pmc = s.pmc := rfl
@[simp] theorem modPwr_fan (g : PwrSt → PwrSt) : (s.modPwr g).fan = s.fan := rfl
@[simp] theorem modPwr_slc (g : PwrSt → PwrSt) : (s.modPwr g).slc = s.slc := rfl
@[simp] theorem modPwr_gov (g : PwrSt → PwrSt) : (s.modPwr g).gov = s.gov := rfl
@[simp] theorem modPwr_outs (g : PwrSt → PwrSt) : (s.modPwr g).outs = s.outs := rfl
@[simp] theorem modPwr_fresh (g : PwrSt → PwrSt) : (s.modPwr g).fresh = s.fresh := rfl
@[simp] theorem modPwr_pending (g : PwrSt → PwrSt) : (s.modPwr g).pending = s.pending := rfl
@[simp] theorem modPwr_pwr (g : PwrSt → PwrSt) : (s.modPwr g).pwr = g s.pwr := rfl
@[simp] theorem modPwr_rd (g : PwrSt → PwrSt) (q : Reg) : (s.modPwr g).rd q = s.rd q := rfl
@[simp] theorem modPwr_get (g : PwrSt → PwrSt) (fl : Fld) : (s.modPwr g).get fl = s.get fl := rfl
@[simp] theorem modPwr_bit (g : PwrSt → PwrSt) (fl : Fld) : (s.modPwr g).bit fl = s.bit fl := rfl

@[simp] theorem present_regs (x : Present) : (present s x).regs = s.regs := rfl
@[simp] theorem present_hold (x : Present) : (present s x).hold = s.hold := rfl
@[simp] theorem present_spd (x : Present) : (present s x).spd = s.spd := rfl
@[simp] theorem present_img (x : Present) : (present s x).img = s.img := rfl
@[simp] theorem present_fuse (x : Present) : (present s x).fuse = s.fuse := rfl
@[simp] theorem present_ports (x : Present) : (present s x).ports = s.ports := rfl
@[simp] theorem present_ofl (x : Present) : (present s x).ofl = s.ofl := rfl
@[simp] theorem present_rte (x : Present) : (present s x).rte = s.rte := rfl
@[simp] theorem present_pool (x : Present) : (present s x).pool = s.pool := rfl
@[simp] theorem present_coh (x : Present) : (present s x).coh = s.coh := rfl
@[simp] theorem present_hep (x : Present) : (present s x).hep = s.hep := rfl
@[simp] theorem present_hopIn (x : Present) : (present s x).hopIn = s.hopIn := rfl
@[simp] theorem present_hop (x : Present) : (present s x).hop = s.hop := rfl
@[simp] theorem present_spdX (x : Present) : (present s x).spdX = s.spdX := rfl
@[simp] theorem present_mpu (x : Present) : (present s x).mpu = s.mpu := rfl
@[simp] theorem present_marks (x : Present) : (present s x).marks = s.marks := rfl
@[simp] theorem present_brk (x : Present) : (present s x).brk = s.brk := rfl
@[simp] theorem present_mgt (x : Present) : (present s x).mgt = s.mgt := rfl
@[simp] theorem present_pmc (x : Present) : (present s x).pmc = s.pmc := rfl
@[simp] theorem present_fan (x : Present) : (present s x).fan = s.fan := rfl
@[simp] theorem present_slc (x : Present) : (present s x).slc = s.slc := rfl
@[simp] theorem present_gov (x : Present) : (present s x).gov = s.gov := rfl
@[simp] theorem present_pwr (x : Present) : (present s x).pwr = s.pwr := rfl
@[simp] theorem present_outs (x : Present) : (present s x).outs = s.outs := rfl
@[simp] theorem present_fresh (x : Present) : (present s x).fresh = s.fresh := rfl
@[simp] theorem present_pending (x : Present) : (present s x).pending = s.pending := rfl
@[simp] theorem present_rd (x : Present) (q : Reg) : (present s x).rd q = s.rd q := rfl
@[simp] theorem present_get (x : Present) (fl : Fld) : (present s x).get fl = s.get fl := rfl
@[simp] theorem present_bit (x : Present) (fl : Fld) : (present s x).bit fl = s.bit fl := rfl

@[simp] theorem out_outs (o : Out) : (s.out o).outs = s.outs ++ [o] := rfl
@[simp] theorem bump_fresh : s.bump.fresh = s.fresh + 1 := rfl
@[simp] theorem present_mill (x : Present) :
    (present s x).mill = { s.mill with presented := s.mill.presented ++ [x] } := rfl
@[simp] theorem setPx_px (p : Nat) (x : PortX) : (s.setPx p x).px p = x := tget_tput_self ..
@[simp] theorem modPx_px (p : Nat) (g : PortX → PortX) : (s.modPx p g).px p = g (s.px p) := tget_tput_self ..
@[simp] theorem setOx_ox (p : Nat) (x : OflX) : (s.setOx p x).ox p = x := tget_tput_self ..
@[simp] theorem modOx_ox (p : Nat) (g : OflX → OflX) : (s.modOx p g).ox p = g (s.ox p) := tget_tput_self ..
@[simp] theorem modVx_vx (v k : Nat) (g : VppbX → VppbX) : (s.modVx v k g).vx v k = g (s.vx v k) := tget_tput_self ..
@[simp] theorem modUx_ux (v : Nat) (g : UspX → UspX) : (s.modUx v g).ux v = g (s.ux v) := tget_tput_self ..
@[simp] theorem modFx_fx (n : Nat) (g : FnX → FnX) : (s.modFx n g).fx n = g (s.fx n) := tget_tput_self ..
@[simp] theorem modHc_hc (e c : Nat) (g : HopCh → HopCh) : (s.modHc e c g).hc e c = g (s.hc e c) := tget_tput_self ..
@[simp] theorem modSx_sx (n : Nat) (g : SlcX → SlcX) : (s.modSx n g).sx n = g (s.sx n) := tget_tput_self ..

/-! ## Events -/

/-- An event reaches Brake whatever becomes of its detail. -/
@[simp] theorem raise_srcs (n : Nat) (d : Detail) :
    (s.raise n d).brk.queue.map (·.src) = s.brk.queue.map (·.src) ++ [n] := by
  unfold State.raise; split <;> simp [State.inc, State.put, State.wr]

/-- An event changes no register but BRK_LOSS. -/
theorem raise_rd (n : Nat) (d : Detail) (q : Reg) (h : q.addr ≠ R.BRK_LOSS.addr) : (s.raise n d).rd q = s.rd q := by
  unfold State.raise
  split
  · rfl
  · rw [State.inc, State.rd_put_ne _ _ _ _ h]; rfl

theorem raise_get (n : Nat) (d : Detail) (k : Fld) (h : k.reg.addr ≠ R.BRK_LOSS.addr) : (s.raise n d).get k = s.get k := by
  simp only [State.get, raise_rd s n d k.reg h]

/-- A refused write raises the refused-write event and changes no register but BRK_LOSS. -/
@[simp] theorem refuse_srcs (a m z : Nat) : (s.refuse a m z).brk.queue.map (·.src) = s.brk.queue.map (·.src) ++ [1] := by
  simp [State.refuse]

theorem refuse_rd (a m z : Nat) (q : Reg) (h : q.addr ≠ R.BRK_LOSS.addr) : (s.refuse a m z).rd q = s.rd q :=
  raise_rd _ _ _ _ h

end Sys2Proof.Machine
end

