-- ==== Sys2Proof/Laws/Write.lean ====
section
/-! SUPPORT. Laws of a register write (R450): each field takes it by its type, and no other bit moves. -/

namespace Sys2Proof.Machine

/-- Fields within 64 bits, no two of which share a bit. -/
def fldsOk (l : List FRow) : Bool :=
  l.all (fun f => decide (f.hi < 64) && decide (f.lo ≤ f.hi))
  && decide (l.Pairwise fun f g => f.hi < g.lo ∨ g.hi < f.lo)

/-- Is a field one that refuses the write? -/
def fieldNo (locked : Bool) (deny : Word) (w : Wr) (f : FRow) : Bool :=
  (bitsMask f.hi f.lo &&& deny != 0#64) || f.ty == .lk || (f.ty == .gv && w.mid != midGov) || (f.ty == .rwl && locked)

/-- A bit outside a field stays when the field takes a write. -/
theorem fieldWrite_other (locked : Bool) (deny : Word) (w : Wr) (old : Word) (acc : Word × Bool) (f : FRow) (i : Nat)
    (h : f.hi < 64) (hl : f.lo ≤ f.hi) (hi : i < f.lo ∨ f.hi < i) :
    (fieldWrite locked deny w old acc f).1.getLsbD i = acc.1.getLsbD i := by
  have hm : (bitsMask f.hi f.lo &&& w.mask).getLsbD i = false := by
    rw [BitVec.getLsbD_and, getLsbD_bitsMask _ _ _ h hl]
    rcases hi with hi | hi
    · simp [show ¬ f.lo ≤ i by omega]
    · simp [show ¬ i ≤ f.hi by omega]
  by_cases h64 : i < 64
  · simp only [fieldWrite]
    split
    · rfl
    · split <;> simp only [BitVec.getLsbD_or, BitVec.getLsbD_and, BitVec.getLsbD_not, hm] <;> simp [h64]
  · rw [BitVec.getLsbD_of_ge _ _ (by omega), BitVec.getLsbD_of_ge _ _ (by omega)]

/-- A bit of a field after a write, by the field's type. -/
theorem fieldWrite_bit (locked : Bool) (deny : Word) (w : Wr) (old : Word) (acc : Word × Bool) (f : FRow) (i : Nat)
    (h : f.hi < 64) (h1 : f.lo ≤ i) (h2 : i ≤ f.hi) :
    (fieldWrite locked deny w old acc f).1.getLsbD i =
      if fieldNo locked deny w f then acc.1.getLsbD i
      else match f.ty with
        | .rw | .gv | .rwl => if w.mask.getLsbD i then w.v.getLsbD i else acc.1.getLsbD i
        | .w1c => acc.1.getLsbD i && !(w.v.getLsbD i && w.mask.getLsbD i)
        | .w1s => acc.1.getLsbD i || (w.v.getLsbD i && w.mask.getLsbD i)
        | .wo | .rc | .lk => acc.1.getLsbD i := by
  have hm : (bitsMask f.hi f.lo &&& w.mask).getLsbD i = w.mask.getLsbD i := by
    rw [BitVec.getLsbD_and, getLsbD_bitsMask _ _ _ h (by omega)]; simp [h1, h2]
  have h64 : i < 64 := by omega
  simp only [fieldWrite]
  change ((if fieldNo locked deny w f then _ else _) : Word × Bool).1.getLsbD i = _
  split
  · rfl
  · cases f.ty <;>
      simp only [BitVec.getLsbD_or, BitVec.getLsbD_and, BitVec.getLsbD_not, hm, h64, decide_true, Bool.true_and] <;>
      cases w.mask.getLsbD i <;> simp

theorem fold_other (locked : Bool) (deny : Word) (w : Wr) (old : Word) (l : List FRow) (acc : Word × Bool) (i : Nat)
    (h : ∀ f ∈ l, f.hi < 64 ∧ f.lo ≤ f.hi ∧ (i < f.lo ∨ f.hi < i)) :
    (l.foldl (fieldWrite locked deny w old) acc).1.getLsbD i = acc.1.getLsbD i := by
  induction l generalizing acc with
  | nil => rfl
  | cons f l ih =>
    obtain ⟨h1, h2, h3⟩ := h f List.mem_cons_self
    rw [List.foldl_cons, ih _ (fun g hg => h g (List.mem_cons_of_mem _ hg)), fieldWrite_other _ _ _ _ _ _ _ h1 h2 h3]

/-- A bit of a listed field after a write of the register. -/
theorem fold_bit (locked : Bool) (deny : Word) (w : Wr) (old : Word) (l : List FRow) (acc : Word × Bool) (f : FRow) (i : Nat)
    (hl : fldsOk l = true) (hf : f ∈ l) (h1 : f.lo ≤ i) (h2 : i ≤ f.hi) :
    (l.foldl (fieldWrite locked deny w old) acc).1.getLsbD i =
      if fieldNo locked deny w f then acc.1.getLsbD i
      else match f.ty with
        | .rw | .gv | .rwl => if w.mask.getLsbD i then w.v.getLsbD i else acc.1.getLsbD i
        | .w1c => acc.1.getLsbD i && !(w.v.getLsbD i && w.mask.getLsbD i)
        | .w1s => acc.1.getLsbD i || (w.v.getLsbD i && w.mask.getLsbD i)
        | .wo | .rc | .lk => acc.1.getLsbD i := by
  simp only [fldsOk, Bool.and_eq_true, List.all_eq_true, decide_eq_true_eq] at hl
  obtain ⟨hok, hp⟩ := hl
  induction l generalizing acc with
  | nil => simp at hf
  | cons g l ih =>
    rw [List.pairwise_cons] at hp
    obtain ⟨hg1, hg2⟩ := hok g List.mem_cons_self
    rcases List.mem_cons.1 hf with rfl | hf'
    · rw [List.foldl_cons, fold_other _ _ _ _ _ _ _ (fun k hk => ?_), fieldWrite_bit _ _ _ _ _ _ _ hg1 h1 h2]
      obtain ⟨hk1, hk2⟩ := hok k (List.mem_cons_of_mem _ hk)
      have := hp.1 k hk
      omega
    · have hd := hp.1 f hf'
      have ho := fieldWrite_other locked deny w old acc g i hg1 hg2 (by omega)
      rw [List.foldl_cons, ih _ hf' (fun k hk => hok k (List.mem_cons_of_mem _ hk)) hp.2, ho]

/-- Contents of a register after a write of it. -/
theorem State.rd_writeReg (s : State) (r : Reg) (w : Wr) (deny : Word) {row : RegRow} {a : Nat}
    (h : regAt r.addr = some (row, a)) (hb : r.addr ≠ R.BRK_LOSS.addr) :
    (s.writeReg r w deny).rd r = (row.flds.foldl (fieldWrite (s.locked r.addr) deny w (s.rd r)) (s.rd r, false)).1 := by
  simp only [State.writeReg, h]
  split
  · rw [refuse_rd _ _ _ _ _ hb, State.rd_wr_self]
  · rw [State.rd_wr_self]

/-- A write of a register changes no other register but BRK_LOSS, where the refused-write event loses its detail. -/
theorem State.rd_writeReg_ne (s : State) (r q : Reg) (w : Wr) (deny : Word) (h : q.addr ≠ r.addr) (hb : q.addr ≠ R.BRK_LOSS.addr) :
    (s.writeReg r w deny).rd q = s.rd q := by
  unfold State.writeReg
  split
  · rfl
  · simp only []
    split
    · rw [refuse_rd _ _ _ _ _ hb, State.rd_wr_ne _ _ _ _ h]
    · rw [State.rd_wr_ne _ _ _ _ h]

theorem State.get_writeReg_ne (s : State) (r : Reg) (f : Fld) (w : Wr) (deny : Word) (h : f.reg.addr ≠ r.addr)
    (hb : f.reg.addr ≠ R.BRK_LOSS.addr) : (s.writeReg r w deny).get f = s.get f := by
  simp only [State.get, State.rd_writeReg_ne _ _ _ _ _ h hb]

/-- A field that takes writes holds what a write of all its bits presents. -/
theorem State.get_writeReg_rw (s : State) (r : Reg) (hi lo : Nat) (ty : FTy) (w : Wr) (deny : Word) {row : RegRow} {a : Nat}
    (h : regAt r.addr = some (row, a)) (hb : r.addr ≠ R.BRK_LOSS.addr) (hok : fldsOk row.flds = true)
    (hf : (⟨hi, lo, ty⟩ : FRow) ∈ row.flds) (ht : ty = .rw ∨ ty = .gv ∨ ty = .rwl)
    (hn : fieldNo (s.locked r.addr) deny w ⟨hi, lo, ty⟩ = false) (hm : ∀ i, lo ≤ i → i ≤ hi → w.mask.getLsbD i = true) :
    (s.writeReg r w deny).get ⟨r, hi, lo⟩ = bitsGet w.v hi lo := by
  apply Nat.eq_of_testBit_eq
  intro i
  simp only [State.get, State.rd_writeReg s r w deny h hb, testBit_bitsGet]
  by_cases hi' : i < hi + 1 - lo
  · rw [fold_bit _ _ _ _ _ _ _ _ hok hf (show lo ≤ lo + i by omega) (show lo + i ≤ hi by omega), hn,
      hm _ (by omega) (by omega)]
    rcases ht with rfl | rfl | rfl <;> simp
  · simp [hi']

/-- A field that is written only by hardware keeps its value. -/
theorem State.get_writeReg_ro (s : State) (r : Reg) (hi lo : Nat) (w : Wr) (deny : Word) {row : RegRow} {a : Nat}
    (h : regAt r.addr = some (row, a)) (hb : r.addr ≠ R.BRK_LOSS.addr) (hok : fldsOk row.flds = true)
    (hf : ∀ f ∈ row.flds, hi < f.lo ∨ f.hi < lo) : (s.writeReg r w deny).get ⟨r, hi, lo⟩ = s.get ⟨r, hi, lo⟩ := by
  simp only [fldsOk, Bool.and_eq_true, List.all_eq_true, decide_eq_true_eq] at hok
  apply Nat.eq_of_testBit_eq
  intro i
  simp only [State.get, State.rd_writeReg s r w deny h hb, testBit_bitsGet]
  by_cases hi' : i < hi + 1 - lo
  · rw [fold_other]
    intro f hf'
    have := hf f hf'
    have := hok.1 f hf'
    omega
  · simp [hi']

/-- What a write that sets one field presents for it. -/
theorem wrField_v (s : State) (mid : Nat) (wide : Bool) (f : Fld) (n : Nat) (h : f.hi < 64) (hl : f.lo ≤ f.hi) :
    bitsGet (wrField s mid wide f n).v f.hi f.lo = n % 2 ^ (f.hi + 1 - f.lo) := bitsGet_bitsPut _ _ _ _ h hl

end Sys2Proof.Machine
end

section
namespace Sys2Proof.Machine

/-!
Every step keeps the five memories of the device in canonical form (O60).

`State.Canon` is `State.canon` as a structure. One lemma per function of the model, `State.Canon.<function>`, says
that the state it answers is canonical when the one it is given is. The lemmas stand in the order of the model, and
the proof of each cites those of the functions that it calls, in the order of the calls: `h.put.raise` is the proof
for a `put` and then a `raise`. Only a few functions write a memory: `State.wr`, `State.clearRegs`, `State.spdWr`,
`tblPut`, the writes of DRAM and flash, and the resets. For a function that changes none of the memories,
`State.Canon.frame` is the proof.
-/

/-- The canonical form of each memory. -/
structure State.Canon (s : State) : Prop where
  regs : Tab.wf 0#64 s.regs = true
  spd : Tab.wf 0#8 s.spd = true
  flash : Tab.wf 0xFF#8 s.img.flash = true
  store : Tab.wf 0#8 s.rte.store = true
  data : Tab.wf 0#8 s.pool.data = true

/-- The five memories of the device. -/
def State.mems (s : State) := (s.regs, s.spd, s.img.flash, s.rte.store, s.pool.data)

theorem State.canon_iff (s : State) : s.canon = true ↔ s.Canon := by
  simp only [State.canon, Bool.and_eq_true]
  constructor
  · rintro ⟨⟨⟨⟨regs, spd⟩, flash⟩, store⟩, data⟩
    exact ⟨regs, spd, flash, store, data⟩
  · rintro ⟨regs, spd, flash, store, data⟩
    exact ⟨⟨⟨⟨regs, spd⟩, flash⟩, store⟩, data⟩

/-- The next state of an outcome, if it has one, is canonical. -/
def Keeps (o : Host.Outcome State Fault Refusal) : Prop := ∀ t, o = .next t → t.Canon

/-- A value that is there has a property. -/
def AllSome {α : Type} (p : α → Prop) (o : Option α) : Prop := ∀ a, o = some a → p a

/-- The state that a started access of an engine leaves is canonical. -/
def Started.Canon {α : Type} : Started α → Prop
  | .wait => True
  | .fail s _ => s.Canon
  | .ok s _ => s.Canon

/-- The state that the read of a line leaves is canonical. -/
def LineAns.Canon : LineAns → Prop
  | .got s _ => s.Canon
  | .wait => True
  | .fault s => s.Canon

variable {s t : State}

/-! ### Rules for the shapes that the model's functions have -/

protected theorem State.Canon.frame (h : s.Canon) (e : t.mems = s.mems) : t.Canon := by
  obtain ⟨e1, e2, e3, e4, e5⟩ : _ ∧ _ ∧ _ ∧ _ ∧ _ := by simpa [State.mems] using e
  exact ⟨e1 ▸ h.regs, e2 ▸ h.spd, e3 ▸ h.flash, e4 ▸ h.store, e5 ▸ h.data⟩

protected theorem State.Canon.ite {c : Prop} [Decidable c] (hs : s.Canon) (ht : t.Canon) :
    (if c then s else t).Canon := by
  split
  · exact hs
  · exact ht

protected theorem State.Canon.ite_fst {α : Type} {c : Prop} [Decidable c] {x y : State × α} (hx : x.1.Canon)
    (hy : y.1.Canon) : (if c then x else y).1.Canon := by
  split
  · exact hx
  · exact hy

protected theorem State.Canon.pair {α : Type} {a : α} (h : s.Canon) : (s, a).1.Canon := h

protected theorem State.Canon.of_pair {α : Type} {x : State × α} {a : α} (h : x.1.Canon) (e : x = (s, a)) :
    s.Canon := by
  subst e
  exact h

protected theorem State.Canon.foldl {β : Type} {f : State → β → State} {l : List β} (h : s.Canon)
    (hf : ∀ s x, s.Canon → (f s x).Canon) : (l.foldl f s).Canon := by
  induction l generalizing s with
  | nil => exact h
  | cons x l ih => exact ih (hf s x h)

protected theorem State.Canon.foldl_fst {α β : Type} {f : State × α → β → State × α} {l : List β} {y : State × α}
    (h : y.1.Canon) (hf : ∀ y x, y.1.Canon → (f y x).1.Canon) : (l.foldl f y).1.Canon := by
  induction l generalizing y with
  | nil => exact h
  | cons x l ih => exact ih (hf y x h)

protected theorem Keeps.next (h : s.Canon) : Keeps (.next s) := fun _ e => Host.Outcome.next.inj e ▸ h

protected theorem Keeps.fault {f} : Keeps (.fault f) := fun _ e => by cases e

protected theorem Keeps.ite {c : Prop} [Decidable c] {x y : Host.Outcome State Fault Refusal} (hx : Keeps x)
    (hy : Keeps y) : Keeps (if c then x else y) := by
  split
  · exact hx
  · exact hy

section
variable {α β : Type} {p : α → Prop} {a : α} {o : Option α}

protected theorem AllSome.of (h : AllSome p o) (e : o = some a) : p a := h a e

protected theorem AllSome.none : AllSome p none := nofun

protected theorem AllSome.some (h : p a) : AllSome p (some a) := fun _ e => Option.some.inj e ▸ h

protected theorem AllSome.ite {c : Prop} [Decidable c] {x y : Option α} (hx : AllSome p x) (hy : AllSome p y) :
    AllSome p (if c then x else y) := by
  split
  · exact hx
  · exact hy

protected theorem AllSome.map {q : β → Prop} {f : α → β} (h : AllSome p o) (hf : ∀ a, p a → q (f a)) :
    AllSome q (o.map f) := by
  intro b hb
  obtain ⟨a, ha, rfl⟩ := Option.map_eq_some_iff.1 hb
  exact hf a (h a ha)

end

section
variable {α : Type} {x y : Started α} {a : α} {err : HopErr}

protected theorem Started.Canon.wait : (Started.wait (α := α)).Canon := trivial

protected theorem Started.Canon.fail (h : s.Canon) : (Started.fail s err : Started α).Canon := h

protected theorem Started.Canon.ok (h : s.Canon) : (Started.ok s a).Canon := h

protected theorem Started.Canon.of_fail (h : x.Canon) (e : x = .fail s err) : s.Canon := by
  subst e
  exact h

protected theorem Started.Canon.of_ok (h : x.Canon) (e : x = .ok s a) : s.Canon := by
  subst e
  exact h

protected theorem Started.Canon.ite {c : Prop} [Decidable c] (hx : x.Canon) (hy : y.Canon) :
    (if c then x else y).Canon := by
  split
  · exact hx
  · exact hy

end

section
variable {x y : LineAns} {l : CLine}

protected theorem LineAns.Canon.wait : LineAns.wait.Canon := trivial

protected theorem LineAns.Canon.fault (h : s.Canon) : (LineAns.fault s).Canon := h

protected theorem LineAns.Canon.got (h : s.Canon) : (LineAns.got s l).Canon := h

protected theorem LineAns.Canon.of_fault (h : x.Canon) (e : x = .fault s) : s.Canon := by
  subst e
  exact h

protected theorem LineAns.Canon.of_got (h : x.Canon) (e : x = .got s l) : s.Canon := by
  subst e
  exact h

protected theorem LineAns.Canon.ite {c : Prop} [Decidable c] (hx : x.Canon) (hy : y.Canon) :
    (if c then x else y).Canon := by
  split
  · exact hx
  · exact hy

end

/-! ### Sys2Proof/Machine/State -/

protected theorem State.Canon.reset : State.reset.Canon := ⟨rfl, rfl, rfl, rfl, rfl⟩

/-! ### Sys2Proof/Machine/Ops -/

protected theorem State.Canon.wr {r v} (h : s.Canon) : (s.wr r v).Canon :=
  ⟨wf_tput _ _ h.regs, h.spd, h.flash, h.store, h.data⟩

protected theorem State.Canon.put {f n} (h : s.Canon) : (s.put f n).Canon := h.wr

protected theorem State.Canon.putB {f b} (h : s.Canon) : (s.putB f b).Canon := h.put

protected theorem State.Canon.inc {f n} (h : s.Canon) : (s.inc f n).Canon := h.put

protected theorem State.Canon.setBit {f i} (h : s.Canon) : (s.setBit f i).Canon := h.put

protected theorem State.Canon.clrBit {f i} (h : s.Canon) : (s.clrBit f i).Canon := h.put

protected theorem State.Canon.out {o} (h : s.Canon) : (s.out o).Canon := h.frame rfl

protected theorem State.Canon.bump (h : s.Canon) : s.bump.Canon := h.frame rfl

protected theorem State.Canon.raise {src d} (h : s.Canon) : (s.raise src d).Canon :=
  .ite (h.frame rfl) (.inc (h.frame rfl))

protected theorem State.Canon.refuse {addr mid size} (h : s.Canon) : (s.refuse addr mid size).Canon := h.raise

protected theorem State.Canon.injWrite {target i addr} (h : s.Canon) : (injWrite s target i addr).Canon :=
  .frame (.ite h.put.put.put h) rfl

protected theorem State.Canon.writeReg {r w deny} (h : s.Canon) : (s.writeReg r w deny).Canon := by
  unfold State.writeReg
  split
  · exact h
  · exact .ite h.wr.refuse h.wr

protected theorem State.Canon.clearRegs {lo hi keep} (h : s.Canon) : (s.clearRegs lo hi keep).Canon :=
  ⟨wf_tdrop (fun a => decide (lo ≤ a) && decide (a < hi) && !keep a) h.regs, h.spd, h.flash, h.store, h.data⟩

protected theorem State.Canon.spdWr {a b} (h : s.Canon) : (s.spdWr a b).Canon :=
  ⟨h.regs, wf_tputs _ _ h.spd, h.flash, h.store, h.data⟩

/-! ### Sys2Proof/Machine/Sample -/

protected theorem State.Canon.modPmc {f} (h : s.Canon) : (s.modPmc f).Canon := h.frame rfl

protected theorem State.Canon.smpShow (h : s.Canon) : (smpShow s).Canon := h.put.putB.foldl fun _ _ h => h.wr

protected theorem State.Canon.smpPut {r} (h : s.Canon) : (smpPut s r).Canon :=
  .ite h (.ite h.inc (.ite h.modPmc.smpShow.raise h.modPmc.smpShow))

protected theorem State.Canon.tsEnd {k timeout err} (h : s.Canon) : (tsEnd s k timeout err).Canon := by
  unfold tsEnd
  split
  · exact h
  · exact h.bump.bump.modPmc.smpPut

protected theorem State.Canon.tsCount {src d q k} (h : s.Canon) : (tsCount src d q s k).Canon :=
  .ite h (.modPmc (.ite h.bump h))

protected theorem State.Canon.sampleTake {src d q} (h : s.Canon) : (sampleTake s src d q).Canon :=
  h.foldl fun _ _ h => h.tsCount

protected theorem State.Canon.sampleOut {e q} (h : s.Canon) : (sampleOut s e q).Canon :=
  h.foldl fun _ _ h => .ite h.tsEnd (.ite h.tsEnd h)

protected theorem State.Canon.sampleErr {q} (h : s.Canon) : (sampleErr s q).Canon :=
  h.foldl fun _ _ h => .ite h.tsEnd h

protected theorem State.Canon.fanResult {kind result unit} (h : s.Canon) : (fanResult s kind result unit).Canon :=
  .ite h.put.put.put.put.inc (.ite h.put.put.put.put.inc.raise h.put.put.put.put.inc.raise)

/-! ### Sys2Proof/Machine/Route -/

protected theorem State.Canon.setPx {p x} (h : s.Canon) : (s.setPx p x).Canon := h.frame rfl

protected theorem State.Canon.modPx {p f} (h : s.Canon) : (s.modPx p f).Canon := h.setPx

protected theorem State.Canon.setOx {p x} (h : s.Canon) : (s.setOx p x).Canon := h.frame rfl

protected theorem State.Canon.modOx {p f} (h : s.Canon) : (s.modOx p f).Canon := h.setOx

protected theorem State.Canon.setWait {p w} (h : s.Canon) : (setWait s p w).Canon := h.modPx

protected theorem State.Canon.modVx {v k f} (h : s.Canon) : (s.modVx v k f).Canon := h.frame rfl

protected theorem State.Canon.modUx {v f} (h : s.Canon) : (s.modUx v f).Canon := h.frame rfl

protected theorem State.Canon.modFx {n f} (h : s.Canon) : (s.modFx n f).Canon := h.frame rfl

protected theorem State.Canon.modMill {f} (h : s.Canon) : (s.modMill f).Canon := h.frame rfl

protected theorem State.Canon.modRte {f} (h : s.Canon) (hf : (f s.rte).store = s.rte.store) :
    (s.modRte f).Canon :=
  ⟨h.regs, h.spd, h.flash, hf ▸ h.store, h.data⟩

protected theorem State.Canon.tblPut {t i b} (h : s.Canon) : (tblPut s t i b).Canon :=
  .foldl ⟨h.regs, h.spd, h.flash, wf_tputs _ _ h.store, h.data⟩ fun _ _ h => h.injWrite

protected theorem State.Canon.present {x} (h : s.Canon) : (present s x).Canon := h.modMill

protected theorem State.Canon.fnCpl {n tag rid tc addr status d poison} (h : s.Canon) :
    (fnCpl s n tag rid tc addr status d poison).Canon :=
  h.present

protected theorem State.Canon.bridgeAnswer {n q} (h : s.Canon) : (bridgeAnswer s n q).Canon := by
  unfold bridgeAnswer
  split
  · exact h.modFx.fnCpl
  · exact h

protected theorem State.Canon.fnStray {p q} (h : s.Canon) : (fnStray s p q).Canon := by
  unfold fnStray
  split
  · exact h.out
  · exact .ite h.inc h.modFx.raise

protected theorem State.Canon.answer {req a} (h : s.Canon) : (answer s req a).Canon := by
  unfold answer
  split
  · exact h.present
  · exact h.present
  · exact h

protected theorem State.Canon.decodeMiss {q} (h : s.Canon) : (decodeMiss s q).Canon := by
  unfold decodeMiss
  refine .ite h.inc.sampleErr.answer (.ite h.inc.sampleErr.answer.raise ?_)
  exact .ite (.ite h.inc.sampleErr.raise h.inc.sampleErr.answer) h.inc.sampleErr

/-! ### Sys2Proof/Machine/Buffer -/

protected theorem State.Canon.putOcc {c n} (h : s.Canon) : (putOcc s c n).Canon := h.put.put

protected theorem State.Canon.freeCell {b} (h : s.Canon) : (freeCell s b).Canon := .ite h.modMill h.modMill.put

protected theorem State.Canon.freeCells {q} (h : s.Canon) : (freeCells s q).Canon :=
  .putOcc (h.foldl fun _ _ h => h.freeCell)

protected theorem State.Canon.cellWrite {b} (h : s.Canon) : (cellWrite s b).Canon := .ite h h.bump.injWrite.injWrite

protected theorem State.Canon.takeCells {c q} (h : s.Canon) : (takeCells s c q).1.Canon :=
  .pair (h.modMill.put.putOcc.foldl fun _ _ h => h.cellWrite)

protected theorem State.Canon.putQueue {k l} (h : s.Canon) : (putQueue s k l).Canon := h.modMill

protected theorem State.Canon.updCong {k} (h : s.Canon) : (updCong s k).Canon :=
  .ite (.ite (.ite h.modMill.modMill h.modMill) h) (.ite h.modMill h)

protected theorem State.Canon.pushQueue {k x} (h : s.Canon) : (pushQueue s k x).Canon := h.putQueue.updCong

protected theorem State.Canon.sentAdd {e q} (h : s.Canon) : (sentAdd s e q).Canon := by
  unfold sentAdd
  refine .ite h (.ite h ?_)
  extract_lets
  split
  · exact .put (h.modRte rfl)
  · exact h.modRte rfl

protected theorem State.Canon.sentDone {x} (h : s.Canon) : (sentDone s x).Canon := by
  unfold sentDone
  extract_lets
  split
  · exact .put (h.modRte rfl)
  · exact h.modRte rfl

protected theorem State.Canon.sentClose {q} (h : s.Canon) : (sentClose s q).Canon := by
  unfold sentClose
  split
  · exact h.sentDone
  · exact h

protected theorem State.Canon.mcEnd {m} (h : s.Canon) : (mcEnd s m).Canon :=
  .ite h.modMill.freeCells h.modMill.freeCells.put.put.put.put.raise

protected theorem State.Canon.mcRelease {id port} (h : s.Canon) : (mcRelease s id port).Canon := by
  unfold mcRelease
  split
  · exact h
  · exact .ite (.mcEnd (.ite h.inc h)) (.modMill (.ite h.inc h))

protected theorem State.Canon.answerHeld {q a} (h : s.Canon) : (answerHeld s q a).Canon := by
  unfold answerHeld
  extract_lets
  split
  · exact .ite h.freeCells.present (.ite h.freeCells.freeCells.inc h.freeCells.putOcc.putOcc.pushQueue)
  · exact h.freeCells.freeCells.present
  · exact h.freeCells.freeCells

protected theorem State.Canon.losePkt {e q} (h : s.Canon) : (losePkt e s q).Canon := by
  unfold losePkt
  refine .ite h.sampleErr.freeCells (.ite h.sampleErr.sentClose.answerHeld (.ite h.sampleErr.freeCells.raise ?_))
  exact .ite (.ite h.sampleErr.freeCells.raise h.sampleErr.sentClose.answerHeld) h.sampleErr.freeCells

protected theorem State.Canon.flushPkt {p q} (h : s.Canon) : (flushPkt p s q).Canon := h.inc.losePkt

protected theorem State.Canon.flushEnt {p x} (h : s.Canon) : (flushEnt p s x).Canon := by
  unfold flushEnt
  split
  · exact .ite h h.inc.mcRelease
  · exact h.flushPkt

protected theorem State.Canon.vppbLink {up x} (h : s.Canon) : (vppbLink up s x).Canon := h.modVx

protected theorem State.Canon.restoreLost {p} (h : s.Canon) : (restoreLost s p).Canon := by
  unfold restoreLost
  split
  · exact .ite (.ite (.put (.put (.put (h.modRte rfl)))) (h.modRte rfl)) h
  · exact h

protected theorem State.Canon.reportDown {p} (h : s.Canon) : (reportDown s p).Canon := by
  unfold reportDown
  extract_lets s1 s2 s3
  have h3 : s3.Canon := .restoreLost (h.modPx.modMill.foldl fun _ _ h => h.vppbLink)
  clear_value s3
  exact .ite (h3.modRte rfl) h3

protected theorem State.Canon.reportUp {p} (h : s.Canon) : (reportUp s p).Canon :=
  .foldl (.ite h.modPx.modMill h.modPx) fun _ _ h => h.vppbLink

/-! ### Sys2Proof/Machine/Ofl -/

protected theorem State.Canon.putLanes {p set} (h : s.Canon) : (putLanes s p set).Canon := h.put.put.put

protected theorem State.Canon.showHeld {p} (h : s.Canon) : (showHeld s p).Canon := h.put

protected theorem State.Canon.cmdDone {p r} (h : s.Canon) : (cmdDone s p r).Canon := .ite h.put.put h

protected theorem State.Canon.unacked {p q} (h : s.Canon) : (unacked p s q).Canon :=
  .ite (.ite (.inc (.present (h.frame rfl))) h.present.inc) (.ite h.raise.inc h.inc)

protected theorem State.Canon.oflDown {p w} (h : s.Canon) : (oflDown s p w).Canon := by
  unfold oflDown
  extract_lets x s1 s2 s3 s4 s5 dis s6 s7 s8 s9
  have h2 : s2.Canon := .foldl (h.foldl fun _ _ h => h.unacked) fun _ _ h => h.flushPkt
  have h5 : s5.Canon := .setOx (.cmdDone (.ite h2.inc h2))
  have h9 : s9.Canon := h5.putLanes.put.put.put.put.put.put.put.put.wr
  exact .setWait (.ite h9.reportDown.raise h9)

protected theorem State.Canon.failover {p} (h : s.Canon) : (failover s p).Canon := h.oflDown.put.inc.raise

protected theorem State.Canon.enterRecovery {p lost} (h : s.Canon) : (enterRecovery s p lost).Canon := by
  unfold enterRecovery
  refine .ite h ?_
  exact .ite h.put.put.inc.raise.cmdDone.put.modOx.failover h.put.put.inc.raise.cmdDone.put.modOx.out

protected theorem State.Canon.protocolError {p} (h : s.Canon) : (protocolError s p).Canon := h.raise.enterRecovery

protected theorem State.Canon.nextHdr {p nak} (h : s.Canon) : (nextHdr s p nak).2.Canon := .ite h.setOx.inc h.setOx

protected theorem State.Canon.sendFlit {p ho payload} (h : s.Canon) : (sendFlit s p ho payload).Canon := h.out

protected theorem State.Canon.sendCtl {p c} (h : s.Canon) : (sendCtl s p c).Canon := h.nextHdr.sendFlit

protected theorem State.Canon.sendCtls {p} (h : s.Canon) : (sendCtls s p).Canon :=
  h.modOx.foldl fun _ _ h => h.sendCtl

protected theorem State.Canon.sendIdle {p} (h : s.Canon) : (sendIdle s p).Canon := h.nextHdr.sendFlit

protected theorem State.Canon.sendPayload {p} (h : s.Canon) : (sendPayload s p).Canon := by
  unfold sendPayload
  refine .ite h.sendIdle ?_
  exact .sendFlit (.injWrite (.showHeld (.put (h.nextHdr.modOx.foldl fun _ _ h => h.put))))

protected theorem State.Canon.execFlitSend {p} (h : s.Canon) : Keeps (execFlitSend p s) := by
  unfold execFlitSend
  refine .next (.ite h (.ite ?_ (.ite h.sendIdle (.ite h.put.sendIdle h.sendPayload))))
  split
  · exact h.setOx.sendCtl
  · exact h

protected theorem State.Canon.release {p k} (h : s.Canon) : (release s p k).Canon :=
  .ite h h.setOx.put.put.put.showHeld

protected theorem State.Canon.ackIn {p kind q} (h : s.Canon) : (ackIn s p kind q).1.Canon := by
  unfold ackIn
  refine .ite_fst (.ite_fst (.pair h.release) (.ite_fst (.pair h.protocolError) (.pair h)))
      (.ite_fst (.ite_fst (.pair (.ite h.release h.release.modOx)) (.ite_fst (.pair h.protocolError) (.pair h))) ?_)
  exact .pair h

protected theorem State.Canon.resend {p} (h : s.Canon) : (resend s p).Canon :=
  h.foldl fun _ _ h => h.nextHdr.sendFlit.inc

protected theorem State.Canon.replayCounted {p} (h : s.Canon) : (replayCounted s p).Canon :=
  .ite h.oflDown (.ite h.inc.sendCtls.resend h.enterRecovery)

protected theorem State.Canon.execReplay {p} (h : s.Canon) : Keeps (execReplay p s) :=
  .next (.ite h.modOx.replayCounted h)

protected theorem State.Canon.execNakTimeout {p} (h : s.Canon) : Keeps (execNakTimeout p s) := .next (.ite h.modOx h)

protected theorem State.Canon.execReplayTimeout {p} (h : s.Canon) : Keeps (execReplayTimeout p s) :=
  .next (.ite h.modOx.replayCounted h)

protected theorem State.Canon.switchTx {p set} (h : s.Canon) : (switchTx s p set).Canon :=
  .out (.ite h.putLanes.inc (.ite h.putLanes.inc h.putLanes))

protected theorem State.Canon.queueCtl {p c} (h : s.Canon) : (queueCtl s p c).Canon := h.modOx

protected theorem State.Canon.request {p set cause} (h : s.Canon) : (request s p set cause).Canon :=
  h.modOx.put.queueCtl

protected theorem State.Canon.laneIdle {p} (h : s.Canon) : (laneIdle s p).Canon :=
  .ite (.ite h.modOx.request h.modOx.cmdDone) h

protected theorem State.Canon.endChg {p r} (h : s.Canon) : (endChg s p r).Canon := by
  unfold endChg
  extract_lets s1
  have h1 : s1.Canon := by
    dsimp only [s1]
    split
    · exact .ite h.cmdDone h
    · exact h
  exact h1.modOx.put.laneIdle

protected theorem State.Canon.withdraw {p} (h : s.Canon) : (withdraw s p).Canon := by
  unfold withdraw
  split
  · exact .ite (.modOx (.ite h.cmdDone h)) h.modOx
  · exact h

protected theorem State.Canon.declareLanes {p lanes} (h : s.Canon) : (declareLanes s p lanes).Canon :=
  .ite h.enterRecovery (.ite h.put.raise h.put.raise.withdraw.switchTx.request)

protected theorem State.Canon.laneReq {p id set cause low} (h : s.Canon) : (laneReq s p id set cause low).Canon := by
  unfold laneReq
  refine .ite h ?_
  extract_lets accept answer
  have hacc : ∀ s : State, s.Canon → (accept s).Canon := fun s h =>
    .ite h.modOx.put.queueCtl h.switchTx.queueCtl.laneIdle
  have hans : ∀ s : State, s.Canon → (answer s).Canon := fun s h =>
    .ite (hacc s h) (.ite h.queueCtl (.ite h.queueCtl (.ite h.queueCtl (hacc s h))))
  split
  · exact .ite h.queueCtl (hans s h)
  · refine .ite (.ite h.queueCtl (.ite (hans _ h.withdraw) h.queueCtl)) ?_
    exact .ite (.ite h (hans _ h.withdraw.put)) (.ite h (.ite (hans _ h.withdraw.put) h.queueCtl))

protected theorem State.Canon.execLaneReq {p id set cause low} (h : s.Canon) :
    Keeps (execLaneReq p id set cause low s) :=
  .next h.laneReq

protected theorem State.Canon.laneAcc {p id} (h : s.Canon) : (laneAcc s p id).Canon := by
  unfold laneAcc
  refine .ite h ?_
  split
  · exact .ite (.ite h.endChg (.ite h.modOx h.switchTx.endChg)) (.ite h.queueCtl h)
  · exact .ite h.queueCtl h

protected theorem State.Canon.execLaneAcc {p id} (h : s.Canon) : Keeps (execLaneAcc p id s) := .next h.laneAcc

protected theorem State.Canon.laneRej {p id set cause} (h : s.Canon) : (laneRej s p id set cause).Canon := by
  unfold laneRej
  refine .ite h ?_
  split
  · exact .ite (.endChg (.ite h.modOx h)) h
  · exact h

protected theorem State.Canon.execLaneRej {p id set cause} (h : s.Canon) : Keeps (execLaneRej p id set cause s) :=
  .next h.laneRej

protected theorem State.Canon.laneReady {p id} (h : s.Canon) : (laneReady s p id).Canon := by
  unfold laneReady
  refine .ite h ?_
  split
  · exact .ite (.ite h.switchTx.endChg h.modOx) h
  · exact h

protected theorem State.Canon.execLaneReady {p id} (h : s.Canon) : Keeps (execLaneReady p id s) := .next h.laneReady

protected theorem State.Canon.execAddLaneLock {p} (h : s.Canon) : Keeps (execAddLaneLock p s) := by
  unfold execAddLaneLock
  refine .next (.ite h ?_)
  split
  · exact .ite (.ite h.queueCtl.switchTx.endChg h.queueCtl.modOx) h
  · exact h

protected theorem State.Canon.execAddLaneTimeout {p lanes} (h : s.Canon) : Keeps (execAddLaneTimeout p lanes s) := by
  unfold execAddLaneTimeout
  refine .next (.ite h ?_)
  split
  · exact .ite h.put.raise.queueCtl.endChg h
  · exact h

protected theorem State.Canon.execAlignmentRun {p set intact} (h : s.Canon) :
    Keeps (execAlignmentRun p set intact s) :=
  .next (.ite h.modOx h)

protected theorem State.Canon.execLaneReqResend {p} (h : s.Canon) : Keeps (execLaneReqResend p s) := by
  unfold execLaneReqResend
  refine .next (.ite h ?_)
  split
  · exact .ite (.ite h.modOx.queueCtl h.enterRecovery) h
  · exact h

protected theorem State.Canon.execOflLaneFailed {p lanes _cause} (h : s.Canon) :
    Keeps (execOflLaneFailed p lanes _cause s) :=
  .next (.ite h.declareLanes h)

protected theorem State.Canon.execLaneCheck {p c} (h : s.Canon) : Keeps (execLaneCheck p c s) := by
  unfold execLaneCheck
  refine .next (.ite h ?_)
  split
  · exact .ite h.modOx.put.out h
  · refine .ite (.ite (.ite ?_ ?_) ?_) (.declareLanes (.ite (.ite ?_ ?_) ?_))
    · exact h.modOx.put.laneIdle
    · exact h.modOx
    · exact h.out
    · exact h.modOx.put.laneIdle
    · exact h.modOx
    · exact h.out

protected theorem State.Canon.execOflPmNarrow {p} (h : s.Canon) : Keeps (execOflPmNarrow p s) :=
  .next (.ite h.request h)

protected theorem State.Canon.execOflPmWiden {p} (h : s.Canon) : Keeps (execOflPmWiden p s) :=
  .next (.ite h.request h)

protected theorem State.Canon.wrLaneCmd {p w} (h : s.Canon) : (wrLaneCmd p w s).Canon := by
  unfold wrLaneCmd
  refine .ite ?_ h.writeReg
  refine .ite h.refuse ?_
  exact .ite h.writeReg.put (.ite h.writeReg.modOx.put (.ite h.writeReg.put.request h.writeReg.put))

protected theorem State.Canon.execOflLaneCmd {mid p mask} (h : s.Canon) : Keeps (execOflLaneCmd mid p mask s) :=
  .next (.ite h.wrLaneCmd h.refuse)

protected theorem State.Canon.freeCredits {p vc n} (h : s.Canon) : (freeCredits s p vc n).Canon := h.modOx

protected theorem State.Canon.nakE {p} (h : s.Canon) : (nakE s p).Canon := .ite h h.put.modOx

protected theorem State.Canon.creditIn {p c} (h : s.Canon) : (creditIn s p c).Canon := h.setOx.put

protected theorem State.Canon.msgDone {p r} (h : s.Canon) : (msgDone s p r).Canon := by
  unfold msgDone
  extract_lets
  split
  · exact h
  · exact h.present

protected theorem AllSome.slotIn {p k pay n} {a : Option State} (h : AllSome State.Canon a) :
    AllSome State.Canon (slotIn p k pay a n) := by
  cases a with
  | none => exact .none
  | some s =>
    have h : s.Canon := h.of rfl
    unfold slotIn
    dsimp only
    split
    · exact .ite (.some h.modOx.msgDone) (.some h.modOx)
    · refine .ite (.some h) (.ite (.some h) (.ite (.some h.inc.raise.modOx) ?_))
      exact .ite .none (.ite (.some h.setOx.msgDone) (.some h.setOx.modOx))

protected theorem State.Canon.acceptPayload {p k pay} (h : s.Canon) : (acceptPayload s p k pay).Canon := by
  unfold acceptPayload
  extract_lets s1 s2
  have h2 : s2.Canon := h.put.put.modOx
  have hs : AllSome State.Canon ((List.range 14).foldl (slotIn p k pay) (some s2)) :=
    List.foldlRecOn _ _ (.some h2) fun _ h _ _ => h.slotIn
  split
  · next heq => exact hs.of heq
  · exact h2.raise.oflDown

protected theorem State.Canon.ctlIn {p pay low} (h : s.Canon) : (ctlIn s p pay low).Canon := by
  unfold ctlIn
  extract_lets
  split
  · exact h.laneReq
  · exact h.laneAcc
  · exact h.laneRej
  · exact h.laneReady
  · exact h

protected theorem State.Canon.resume {p e counts} (h : s.Canon) : (resume s p e counts).Canon := by
  unfold resume
  refine .ite h ?_
  exact .ite h.oflDown (.resend (.modOx (.put (.put (.put (h.release.foldl fun _ _ h => h.creditIn))))))

protected theorem State.Canon.trainIn {p pay} (h : s.Canon) : (trainIn s p pay).Canon :=
  .ite h.protocolError (.ite (.ite h.resume h.protocolError) h.enterRecovery)

protected theorem State.Canon.flitOk {p f low} (h : s.Canon) : (flitOk s p f low).Canon := by
  unfold flitOk
  refine .ite h.trainIn (.ite h ?_)
  split
  next s1 ok heq =>
    have h1 : s1.Canon := h.ackIn.of_pair heq
    refine .ite h1 ?_
    extract_lets s2 d s3
    have h2 : s2.Canon := h1.creditIn.creditIn
    have h3 : s3.Canon := .ite h2.nakE h2
    exact .ite (.ite h2.acceptPayload (.ite h2.nakE h2)) (.ite h3.ctlIn h3)

protected theorem State.Canon.execFlitReceive {p flit low} (h : s.Canon) : Keeps (execFlitReceive p flit low s) :=
  .ite .fault (.next (.ite h (.ite h.inc.modOx.flitOk (.ite h.inc.raise.modOx.nakE h))))

protected theorem State.Canon.execResumeFlit {p e counts} (h : s.Canon) : Keeps (execResumeFlit p e counts s) :=
  .next h.resume

protected theorem State.Canon.execRecoveryRetrainComplete {p locked} (h : s.Canon) :
    Keeps (execRecoveryRetrainComplete p locked s) := by
  unfold execRecoveryRetrainComplete
  refine .next (.ite h (.ite (.ite h h.put.raise) ?_))
  extract_lets _ _ _ s1
  have h1 : s1.Canon := .modOx
      (.putLanes (.ite (.inc (.ite h h.put.raise)) (.ite (.inc (.ite h h.put.raise)) (.ite h h.put.raise))))
  exact h1.sendFlit

protected theorem State.Canon.execRecoveryRateDrop {p} (h : s.Canon) : Keeps (execRecoveryRateDrop p s) :=
  .next (.ite h.put.out h)

protected theorem State.Canon.execOflRecoveryTimeout {p} (h : s.Canon) : Keeps (execOflRecoveryTimeout p s) :=
  .next (.ite h.oflDown h)

protected theorem State.Canon.oflTrainFail {p} (h : s.Canon) : (oflTrainFail s p).Canon :=
  .setWait (.ite h.modOx.put.raise h.modOx.put)

protected theorem State.Canon.oflTrain {p pe} (h : s.Canon) : (oflTrain s p pe).Canon := by
  unfold oflTrain
  extract_lets w link failed s1 good target rate set
  have h1 : s1.Canon := h.put.setWait
  clear_value s1
  refine .ite h1.oflTrainFail ?_
  split
  next share dflt =>
    extract_lets x s2 s3 me s4 s5 s6 s7 s8 s9
    have h5 : s5.Canon := h1.setOx.putLanes.put.put.put.putB.putB.wr
    have h8 : s8.Canon := .put (.put (.put (.putB (.put (.put (h5.foldl fun _ _ h => h.put))))))
    clear_value s8
    exact .reportUp (.ite h8.put.raise h8)

protected theorem State.Canon.execOflTraining {p t} (h : s.Canon) : Keeps (execOflTraining p t s) :=
  .next (.ite h.oflTrain h)

protected theorem State.Canon.execOflTrainingRetry {p t} (h : s.Canon) : Keeps (execOflTrainingRetry p t s) :=
  .next (.ite h.oflTrain h)

protected theorem State.Canon.execOflRedetect {p} (h : s.Canon) : Keeps (execOflRedetect p s) :=
  .next (.ite h.setWait.put h)

protected theorem State.Canon.execTrackerExpire {i} (h : s.Canon) : Keeps (execTrackerExpire i s) :=
  .next (h.frame rfl)

/-! ### Sys2Proof/Machine/Millrace -/

protected theorem State.Canon.enterSpill {k} (h : s.Canon) : (enterSpill s k).Canon := .ite h h.modMill.put

protected theorem State.Canon.markPkt {cong q} (h : s.Canon) : (markPkt s cong q).1.Canon :=
  .ite_fst (.pair h.inc) (.pair h)

protected theorem State.Canon.rspClose {e q} (h : s.Canon) : (rspClose s e q).Canon := by
  unfold rspClose
  refine .ite h ?_
  split
  · exact h.sentDone
  · exact h

protected theorem State.Canon.admitOne {e q} (h : s.Canon) : AllSome State.Canon (admitOne s e q) := by
  unfold admitOne
  refine .ite (.ite (.some h.markPkt.takeCells.enterSpill.modMill.sentAdd) .none)
      (.ite (.ite (.some h.markPkt.takeCells.pushQueue.sentAdd.rspClose) .none) ?_)
  exact .ite (.ite (.some h.markPkt.takeCells.enterSpill.modMill.sentAdd) .none) .none

protected theorem State.Canon.mcTarget {q id c fail p} (h : s.Canon) : (mcTarget q id c fail s p).Canon :=
  .ite h.enterSpill.modMill h.pushQueue

protected theorem State.Canon.admitGroup {src g ps q} (h : s.Canon) :
    AllSome State.Canon (admitGroup s src g ps q) := by
  unfold admitGroup
  refine .ite (.some h) (.ite .none (.some (.ite h.markPkt.takeCells.inc.inc.modMill.mcEnd ?_)))
  exact h.markPkt.takeCells.inc.inc.modMill.foldl fun _ _ h => h.mcTarget

protected theorem State.Canon.admitDir {hla grp q} (h : s.Canon) : AllSome State.Canon (admitDir s hla grp q) :=
  .ite .none (.ite (.some (.sentAdd (h.takeCells.frame rfl))) .none)

protected theorem State.Canon.trackRsp {e q} (h : s.Canon) : (trackRsp s e q).1.Canon := by
  unfold trackRsp
  split
  · exact .pair h
  · exact .ite_fst (.pair h.inc) (.pair (h.frame rfl))

protected theorem State.Canon.acsViolation {n q} (h : s.Canon) : (acsViolation s n q).Canon :=
  .ite h.modVx.raise.inc h.modVx.raise.inc.answer

protected theorem State.Canon.carryDec {x d} (h : s.Canon) : AllSome State.Canon (carryDec s x d) := by
  unfold carryDec
  extract_lets
  split
  · exact .ite (.some h.trackRsp) (.ite (.some h.trackRsp.flushPkt) h.trackRsp.admitOne)
  · exact .ite (.some h.inc.trackRsp) (.ite (.some h.inc.trackRsp.flushPkt) h.inc.trackRsp.admitOne)
  · exact h.admitGroup
  · exact h.admitDir
  · exact .none
  · exact .some h.decodeMiss
  · exact .some h.sampleErr.answer
  · exact .some h.answer.inc
  · exact .some h.sampleErr
  · exact .some h.sampleErr.acsViolation
  · exact .some h.sampleErr.inc

protected theorem State.Canon.carry {x} (h : s.Canon) : AllSome State.Canon (carry s x) := h.sampleTake.carryDec

protected theorem State.Canon.freeCred {x} (h : s.Canon) : (freeCred s x).Canon := by
  unfold freeCred
  split
  · exact .ite h.freeCredits h
  · exact h

protected theorem State.Canon.accept {x} (h : s.Canon) : (accept s x).Canon := by
  unfold accept
  refine .ite h.modMill ?_
  split
  · next heq =>
      exact (h.carry.of heq).freeCred
  · exact h.modMill

protected theorem State.Canon.execHeadraceAccept {x} (h : s.Canon) : Keeps (execHeadraceAccept x s) := by
  unfold execHeadraceAccept
  refine .next ?_
  split
  · exact .ite h.accept h
  · split
    · exact h
    · exact h.modMill.accept

protected theorem State.Canon.execAdmitWaiting {i} (h : s.Canon) : Keeps (execAdmitWaiting i s) := by
  unfold execAdmitWaiting
  refine .next ?_
  split
  · exact h
  · refine .ite h ?_
    split
    · next heq =>
        exact (h.carry.of heq).modMill.freeCred
    · exact h

protected theorem State.Canon.toMillwright {q} (h : s.Canon) : (toMillwright s q).Canon := by
  unfold toMillwright
  refine .ite (h.frame rfl) ?_
  split
  · exact h
  · exact .out (h.frame rfl)

protected theorem State.Canon.egress {e q} (h : s.Canon) : (egress s e q).Canon := by
  unfold egress
  extract_lets _ _ s1
  have h1 : s1.Canon := .ite h.sampleOut.injWrite h.sampleOut.injWrite.inc
  refine .ite (.ite (.modOx (.ite h1.modMill h1)) (.out (.ite h1.modMill h1)))
      (.ite (.frame (.ite h1.modMill h1) rfl) (.ite (.frame (.ite h1.modMill h1) rfl) (.ite ?_ ?_)))
  · refine .ite ?_ ?_
    · split
      · exact .bridgeAnswer (.ite h1.modMill h1)
      · exact .ite h1.modMill h1
    · split
      · exact .ite (.fnStray (.ite h1.modMill h1)) (.out (.ite h1.modMill h1))
      · exact .out (.ite h1.modMill h1)
  · refine .ite (.toMillwright (.ite h1.modMill h1)) ?_
    exact .ite (.frame (.ite h1.modMill h1) rfl) (.out (.ite h1.modMill h1))

protected theorem State.Canon.takeEnt {e k i x} (h : s.Canon) : (takeEnt s e k i x).Canon := by
  unfold takeEnt
  extract_lets
  split
  · exact h.putQueue.updCong.egress.mcRelease
  · refine .ite h.putQueue.updCong.freeCells ?_
    exact .ite h.putQueue.updCong.flushPkt h.putQueue.updCong.freeCells.egress

protected theorem State.Canon.execTailraceDequeue {e cr} (h : s.Canon) : Keeps (execTailraceDequeue e cr s) := by
  unfold execTailraceDequeue
  refine .next (.ite h ?_)
  split
  · exact h
  · split
    · exact h
    · exact h.modMill.takeEnt

protected theorem State.Canon.wrTcMap {w} (h : s.Canon) : (wrTcMap w s).Canon := .ite h.writeReg h.refuse

protected theorem State.Canon.execTcMapWrite {mid v} (h : s.Canon) : Keeps (execTcMapWrite mid v s) :=
  .next h.wrTcMap

protected theorem State.Canon.wrClassCtrl {c w} (h : s.Canon) : (wrClassCtrl c w s).Canon :=
  h.writeReg.foldl fun _ _ h => .ite h.updCong h

protected theorem State.Canon.execCongestionHoldExpire {e} (h : s.Canon) : Keeps (execCongestionHoldExpire e s) :=
  .next h.modMill

protected theorem State.Canon.execMulticastTimeout {p id} (h : s.Canon) : Keeps (execMulticastTimeout p id s) := by
  unfold execMulticastTimeout
  refine .next ?_
  split
  · exact h
  · exact h.putQueue.updCong.mcRelease

protected theorem State.Canon.flushPort {p} (h : s.Canon) : (flushPort p s).Canon := by
  unfold flushPort
  extract_lets s1
  have h1 : s1.Canon := h.foldl fun _ _ h => h.putQueue.updCong.foldl fun _ _ h => h.flushEnt
  exact h1.modMill.foldl fun _ _ h => h.flushEnt

protected theorem State.Canon.leaveSpill {k} (h : s.Canon) : (leaveSpill s k).Canon := .ite h.modMill.put h

protected theorem State.Canon.freeChain {k} (h : s.Canon) : (freeChain s k).Canon := h.modMill.put.leaveSpill

protected theorem State.Canon.execFlushComplete {p} (h : s.Canon) : Keeps (execFlushComplete p s) := by
  unfold execFlushComplete
  refine .next (.ite ?_ h)
  extract_lets s1
  have h1 : s1.Canon := h.foldl fun _ _ h => h.freeChain.foldl fun _ _ h => h.flushPkt
  exact .modMill (.ite h1 (h1.foldl fun _ _ h => h.sentDone))

protected theorem State.Canon.cutShares (h : s.Canon) : (cutShares s).Canon :=
  .ite (.raise (.put (h.foldl fun _ _ h => h.put))) h

protected theorem State.Canon.bankQueue {b x} (h : s.Canon) : (bankQueue b s x).Canon :=
  h.putQueue.updCong.foldl fun _ _ h => h.inc.losePkt

protected theorem State.Canon.bankMc {m} (h : s.Canon) : (bankMc s m).Canon := by
  unfold bankMc
  extract_lets _ s1
  have h1 : s1.Canon := h.inc.foldl fun _ _ h => .ite h.putQueue.mcRelease h
  exact h1.modMill.foldl fun _ _ h => h.mcRelease

protected theorem State.Canon.bankFail {b} (h : s.Canon) : (bankFail b s).Canon := by
  unfold bankFail
  refine .ite h ?_
  extract_lets _ _ _ s1
  have h1 : s1.Canon := h.setBit.put.put.raise.inc.foldl fun _ _ h => h.bankQueue
  exact .cutShares (.foldl (h1.modMill.foldl fun _ _ h => h.inc.losePkt) fun _ _ h => h.bankMc)

protected theorem State.Canon.execBankFailed {b} (h : s.Canon) : Keeps (execBankFailed b s) := .next h.bankFail

protected theorem State.Canon.wrBankCtrl {w} (h : s.Canon) : (wrBankCtrl w s).Canon :=
  .ite h.writeReg.bankFail h.writeReg

protected theorem State.Canon.execBankMapout {mid b} (h : s.Canon) : Keeps (execBankMapout mid b s) :=
  .next h.wrBankCtrl

/-! ### Sys2Proof/Machine/RouteOps -/

protected theorem State.Canon.tblAccess (h : s.Canon) : (tblAccess s).Canon :=
  .ite h.put (.ite h.put.tblPut (h.put.foldl fun _ _ h => h.put))

protected theorem State.Canon.wrTblCmd {w} (h : s.Canon) : (wrTblCmd w s).Canon :=
  .ite h.writeReg.tblAccess h.writeReg

protected theorem State.Canon.execTableRead {mid t i} (h : s.Canon) : Keeps (execTableRead mid t i s) :=
  .next h.wrTblCmd

protected theorem State.Canon.execTableWrite {mid t i} (h : s.Canon) : Keeps (execTableWrite mid t i s) :=
  .next h.wrTblCmd

protected theorem State.Canon.commitVcs {v i d} (h : s.Canon) : (commitVcs v i d s).Canon :=
  .ite h (.ite h.tblPut.modUx h.modUx)

protected theorem State.Canon.commitPool {n i d} (h : s.Canon) : (commitPool n i d s).Canon :=
  .ite h (.ite (h.frame rfl) (h.frame rfl))

protected theorem State.Canon.execDecoderCommit {o i d} (h : s.Canon) : Keeps (execDecoderCommit o i d s) := by
  unfold execDecoderCommit
  refine .next ?_
  split
  · exact h.commitVcs
  · exact h.commitPool

protected theorem State.Canon.wrVcsCfg {v w} (h : s.Canon) : (wrVcsCfg v w s).Canon := h.writeReg

protected theorem State.Canon.wrVcsTbl {v w} (h : s.Canon) : (wrVcsTbl v w s).Canon := h.writeReg

protected theorem State.Canon.vppbBound {n} (h : s.Canon) : (vppbBound s n).Canon := .ite h.modVx.out h.modVx

protected theorem State.Canon.bindDone {r} (h : s.Canon) : (bindDone s r).Canon := h.put.put.put

protected theorem State.Canon.bindEnd {cmd r} (h : s.Canon) : (bindEnd s cmd r).Canon :=
  .ite h.bindDone (.ite h h.raise)

protected theorem State.Canon.bindFinish {n e cmd} (h : s.Canon) : (bindFinish s n e cmd).Canon :=
  h.wr.vppbBound.bindEnd

protected theorem State.Canon.bindStart {r cmd} (h : s.Canon) : (bindStart s r cmd).Canon := by
  unfold bindStart
  refine .ite h.bindEnd ?_
  split
  · exact h.bindEnd
  · exact .ite (h.modRte rfl) h.bindFinish

protected theorem State.Canon.bindHeld {r} (h : s.Canon) : (bindHeld s r).Canon := by
  unfold bindHeld
  split
  · exact h.raise
  · exact .ite h.raise h.wr

protected theorem State.Canon.unbindFree {n r} (h : s.Canon) : (unbindFree s n r).Canon :=
  (.bindDone (.modVx (h.wr.put.modRte rfl)))

protected theorem State.Canon.unbindCut {n surprise} (h : s.Canon) : (unbindCut s n surprise).Canon :=
  .ite (.out (.modVx (h.modRte rfl))) (.modVx (h.modRte rfl))

protected theorem State.Canon.unbindGo {n} (h : s.Canon) : (unbindGo s n).Canon := .ite h.unbindCut h

protected theorem State.Canon.unbindStart (h : s.Canon) : (unbindStart s).Canon := by
  unfold unbindStart
  split
  · exact h.bindDone
  · exact .ite h.bindDone
        (.ite h.unbindFree (.ite (.unbindCut (h.put.put.modRte rfl)) (.modVx (h.put.put.modRte rfl))))

protected theorem State.Canon.setRpid (h : s.Canon) : (setRpid s).Canon := by
  unfold setRpid
  split
  · exact h.bindDone
  · exact .ite h.bindDone (.ite h.bindDone (.ite h.bindDone h.put.put.vppbBound.bindDone))

protected theorem State.Canon.wrBindCmd {w} (h : s.Canon) : (wrBindCmd w s).Canon := by
  unfold wrBindCmd
  refine .ite h.refuse (.ite h.writeReg ?_)
  split
  · exact h.writeReg.put.bindStart
  · exact h.writeReg.unbindStart
  · exact h.writeReg.setRpid
  · exact h.writeReg

protected theorem State.Canon.execBind {mid v} (h : s.Canon) : Keeps (execBind mid v s) := by
  unfold execBind
  refine .next ?_
  split
  · exact h.wrBindCmd
  · split
    · exact h
    · exact .ite (.bindHeld (h.modRte rfl)) (.bindStart (h.modRte rfl))

protected theorem State.Canon.bindDrop {n} (h : s.Canon) : (bindDrop s n).Canon := (h.modRte rfl)

protected theorem State.Canon.execLdAllocationConfirm {n ok} (h : s.Canon) :
    Keeps (execLdAllocationConfirm n ok s) := by
  unfold execLdAllocationConfirm
  refine .next ?_
  split
  · exact h
  · exact .ite h.bindDrop.bindEnd (.ite h.bindDrop.bindEnd h.bindDrop.bindFinish)

protected theorem State.Canon.execLdAllocationTimeout {n} (h : s.Canon) : Keeps (execLdAllocationTimeout n s) := by
  unfold execLdAllocationTimeout
  refine .next ?_
  split
  · exact h
  · exact h.bindDrop.bindEnd

protected theorem State.Canon.execUnbind {mid v} (h : s.Canon) : Keeps (execUnbind mid v s) := .next h.wrBindCmd

protected theorem State.Canon.execSetRpid {mid v} (h : s.Canon) : Keeps (execSetRpid mid v s) := .next h.wrBindCmd

protected theorem State.Canon.execUnbindDrainEnd {n} (h : s.Canon) : Keeps (execUnbindDrainEnd n s) := by
  unfold execUnbindDrainEnd
  refine .next ?_
  split
  · exact .ite h.unbindFree h
  · exact h

protected theorem State.Canon.drainAnswer {x} (h : s.Canon) : (drainAnswer s x).Canon :=
  .ite (.answer (h.sentDone.frame rfl)) (.ite (.answer (h.sentDone.frame rfl)) (.answer (h.sentDone.frame rfl)))

protected theorem State.Canon.execUnbindDrainTimeout {n} (h : s.Canon) : Keeps (execUnbindDrainTimeout n s) := by
  unfold execUnbindDrainTimeout
  refine .next ?_
  split
  · exact .ite h.unbindFree (.unbindFree (h.foldl fun _ _ h => h.drainAnswer))
  · exact h

protected theorem State.Canon.execManagedUnbindTimeout {n} (h : s.Canon) : Keeps (execManagedUnbindTimeout n s) :=
  .next (.ite (.unbindCut (h.modRte rfl)) h)

protected theorem State.Canon.setDrain {d} (h : s.Canon) :
    ({ s with rte := { s.rte with drain := d } } : State).Canon :=
  (h.frame rfl)

protected theorem State.Canon.winCommit (h : s.Canon) : (winCommit s).Canon := by
  unfold winCommit
  extract_lets v old l s1 s2
  have h2 : s2.Canon := .put (.put (h.modRte rfl))
  exact .ite h2.put.setDrain h2.put

protected theorem State.Canon.wrWinCommit {w} (h : s.Canon) : (wrWinCommit w s).Canon :=
  .ite h.refuse (.ite h.writeReg.winCommit h.writeReg)

protected theorem State.Canon.execWindowCommit {mid v drain} (h : s.Canon) : Keeps (execWindowCommit mid v drain s) :=
  .next h.wrWinCommit

protected theorem State.Canon.execWindowDrainEnd (h : s.Canon) : Keeps (execWindowDrainEnd s) := by
  unfold execWindowDrainEnd
  refine .next ?_
  split
  · exact .ite h (.put (.put (h.frame rfl)))
  · exact h

protected theorem State.Canon.execFailoverReenable {p} (h : s.Canon) : Keeps (execFailoverReenable p s) :=
  .next (.ite h.setWait.put h)

protected theorem State.Canon.restoreStart {p cmd} (h : s.Canon) : (restoreStart p cmd s).Canon := by
  unfold restoreStart
  exact h.modRte rfl

protected theorem State.Canon.execAutoRestore {p} (h : s.Canon) : Keeps (execAutoRestore p s) :=
  .next (.ite h.restoreStart h)

protected theorem State.Canon.pathDone {r} (h : s.Canon) : (pathDone s r).Canon := h.put.put.put

protected theorem State.Canon.wrPathCmd {w} (h : s.Canon) : (wrPathCmd w s).Canon := by
  unfold wrPathCmd
  refine .ite h.refuse ?_
  exact .ite h.writeReg (.ite h.writeReg.pathDone (.ite h.writeReg.pathDone h.writeReg.put.restoreStart))

protected theorem State.Canon.execPathRestore {mid p} (h : s.Canon) : Keeps (execPathRestore mid p s) :=
  .next h.wrPathCmd

protected theorem State.Canon.execRestoreComplete (h : s.Canon) : Keeps (execRestoreComplete s) := by
  unfold execRestoreComplete
  refine .next ?_
  split
  · exact .ite (.ite (.pathDone (.inc (h.modRte rfl))) (.inc (h.modRte rfl))) h
  · exact h

protected theorem State.Canon.execRestoreAbort (h : s.Canon) : Keeps (execRestoreAbort s) := by
  unfold execRestoreAbort
  refine .next ?_
  split
  · exact .ite (.pathDone (.raise (.inc (h.modRte rfl)))) (.raise (.inc (h.modRte rfl)))
  · exact h

/-! ### Sys2Proof/Machine/Pool -/

protected theorem State.Canon.modPool {f} (h : s.Canon) (hf : (f s.pool).data = s.pool.data) :
    (s.modPool f).Canon :=
  ⟨h.regs, h.spd, h.flash, h.store, hf ▸ h.data⟩

protected theorem State.Canon.leatPlace (h : s.Canon) : (leatPlace s).Canon := h.put

protected theorem State.Canon.poolToReset (h : s.Canon) : (poolToReset s).Canon :=
  have hr := h.clearRegs (lo := 0x47000000) (hi := 0x48000000) (keep := fun _ => false)
  ⟨hr.regs, h.spd, h.flash, h.store, rfl⟩

protected theorem State.Canon.poolInit {f} (h : s.Canon) : (poolInit f s).Canon := by
  unfold poolInit
  extract_lets pop
  split
  · exact h.put.modPool rfl
  · extract_lets pat d0 same good all set bad s1 s2 s3
    have h2 : s2.Canon := h.put.foldl fun _ _ h => h.raise
    have h3 : s3.Canon := .ite h2.put.raise h2
    clear_value s3
    split
    · exact h.put.modPool rfl
    · refine .ite (h3.put.modPool rfl) ?_
      extract_lets s4 s5 s6 s7
      have h7 : s7.Canon := h3.put.put.put.putB.putB.putB.put.put.leatPlace
      clear_value s7
      exact h7.modPool rfl

protected theorem State.Canon.execPoolInit {f} (h : s.Canon) : Keeps (execPoolInit f s) := .next (.ite h.poolInit h)

protected theorem State.Canon.zeroExt {b} (h : s.Canon) : (zeroExt s b).Canon :=
  ⟨h.regs, h.spd, h.flash, h.store, wf_tdrop (fun a => a / 2 ^ 28 == b) h.data⟩

protected theorem State.Canon.setPoison {l b} (h : s.Canon) : (setPoison s l b).Canon := (h.modPool rfl)

protected theorem State.Canon.dramWr {o b} (h : s.Canon) : (dramWr s o b).Canon :=
  .foldl ⟨h.regs, h.spd, h.flash, h.store, wf_tputs _ _ h.data⟩ fun _ _ h => h.injWrite

protected theorem State.Canon.lastErr {kind o} (h : s.Canon) : (lastErr s kind o).Canon :=
  h.put.put.put.put.put.put.put.put.put

protected theorem State.Canon.corrected {o} (h : s.Canon) : (corrected s o).Canon :=
  .ite (.raise (h.lastErr.inc.modPool rfl)) (h.lastErr.inc.modPool rfl)

protected theorem State.Canon.uncorrectable {kind o} (h : s.Canon) : (uncorrectable s kind o).Canon :=
  (.raise (h.lastErr.inc.modPool rfl))

protected theorem State.Canon.execErrorWindowExpire (h : s.Canon) : Keeps (execErrorWindowExpire s) :=
  .next (h.modPool rfl)

protected theorem State.Canon.execChannelFailed {c} (h : s.Canon) : Keeps (execChannelFailed c s) :=
  .next (.ite (.raise (h.setBit.modPool rfl)) h)

protected theorem State.Canon.execPhyTrainingLost {c} (h : s.Canon) : Keeps (execPhyTrainingLost c s) :=
  .next (.ite (h.modPool rfl) h)

protected theorem State.Canon.execChannelRetrainComplete {c} (h : s.Canon) : Keeps (execChannelRetrainComplete c s) :=
  .next (h.modPool rfl)

protected theorem State.Canon.activate {o} (h : s.Canon) : (activate s o).Canon := by
  unfold activate
  exact h.modPool rfl

protected theorem State.Canon.poolReply {c q a devload} (h : s.Canon) : (poolReply s c q a devload).Canon := by
  unfold poolReply
  split
  · exact h.present
  · exact h.present
  · exact h

protected theorem State.Canon.poolRead {c q e d} (h : s.Canon) : (poolRead s c q e d).Canon := by
  unfold poolRead
  extract_lets _ _ s1
  have h1 : s1.Canon := .ite h.corrected (.ite h.uncorrectable.setPoison h)
  exact h1.poolReply

protected theorem State.Canon.poolWrite {q e} (h : s.Canon) : (poolWrite s q e).Canon := by
  unfold poolWrite
  refine .ite (h.dramWr.foldl fun _ _ h => h.setPoison) ?_
  exact .ite (.ite h (.ite h.uncorrectable.setPoison (.dramWr (.ite h.corrected h)))) h.dramWr.setPoison

protected theorem State.Canon.poolAtomic {c q e failed d} (h : s.Canon) : (poolAtomic s c q e failed d).Canon := by
  unfold poolAtomic
  extract_lets _ _ s1
  have h1 : s1.Canon := .ite h.raise (.ite h.corrected (.ite h.uncorrectable.setPoison h))
  exact .poolReply (.ite h1 h1.dramWr)

protected theorem State.Canon.poolServe {c q e d} (h : s.Canon) : (poolServe s c q e d).Canon := by
  unfold poolServe
  refine .ite h.poolAtomic (.ite (.ite h.poolReply h.poolRead) ?_)
  exact .ite (.ite (.poolReply (.ite h.raise h.poolWrite)) (.ite h.raise h.poolWrite)) h.poolReply

protected theorem State.Canon.execDramAccess {c e act bw} (h : s.Canon) : Keeps (execDramAccess c e act bw s) := by
  unfold execDramAccess
  refine .next ?_
  split
  · exact h
  · exact .ite h (.poolServe (.ite (.activate (h.modPool rfl)) (h.modPool rfl)))

protected theorem State.Canon.execPatrolScrubRead {e} (h : s.Canon) : Keeps (execPatrolScrubRead e s) := by
  unfold execPatrolScrubRead
  refine .next (.ite h ?_)
  split
  · exact .put (h.modPool rfl)
  · extract_lets _ _ s1
    have h1 : s1.Canon := .ite h (.ite h.corrected (.ite h.uncorrectable.setPoison h))
    exact .put (h1.modPool rfl)

protected theorem State.Canon.refreshBank {k} (h : s.Canon) : (refreshBank s k).Canon := by
  unfold refreshBank
  extract_lets a n rfm s1 s2
  have h1 : s1.Canon := .ite h.inc h
  have h2 : s2.Canon := .ite h1 h1.inc
  clear_value s2
  exact h2.modPool rfl

protected theorem State.Canon.execDramRefresh {c} (h : s.Canon) : Keeps (execDramRefresh c s) := by
  unfold execDramRefresh
  refine .next (.ite h (.ite (.modPool (h.foldl fun _ _ h => h.refreshBank) rfl) ?_))
  exact .foldl (.modPool (h.foldl fun _ _ h => h.refreshBank) rfl) fun _ _ h => h.modPool rfl

protected theorem State.Canon.putExt {b x} (h : s.Canon) : (putExt s b x).Canon := (h.modPool rfl)

protected theorem State.Canon.extDo {op b} (h : s.Canon) : (extDo s op b).Canon := by
  unfold extDo
  refine .ite h.putExt ?_
  exact .ite h.putExt (.ite h.putExt (.ite (h.putExt.put.modPool rfl) (.ite (.put (h.putExt.modPool rfl)) h.put)))

protected theorem State.Canon.extOp (h : s.Canon) : (extOp s).Canon :=
  .ite h (.ite (.ite h.put.extDo h.put) (.put (.ite h.put.extDo h.put)))

protected theorem State.Canon.wrExtCmd {w} (h : s.Canon) : (wrExtCmd w s).Canon :=
  .ite h.refuse (.ite h.writeReg.extOp h.writeReg)

protected theorem State.Canon.execExtentGrant {mid b shared owner dpa} (h : s.Canon) :
    Keeps (execExtentGrant mid b shared owner dpa s) :=
  .next h.wrExtCmd

protected theorem State.Canon.execExtentActivate {mid b} (h : s.Canon) : Keeps (execExtentActivate mid b s) :=
  .next h.wrExtCmd

protected theorem State.Canon.execExtentCancel {mid b} (h : s.Canon) : Keeps (execExtentCancel mid b s) :=
  .next h.wrExtCmd

protected theorem State.Canon.execExtentRelease {mid b} (h : s.Canon) : Keeps (execExtentRelease mid b s) :=
  .next h.wrExtCmd

protected theorem State.Canon.execExtentZero {mid b} (h : s.Canon) : Keeps (execExtentZero mid b s) :=
  .next h.wrExtCmd

protected theorem State.Canon.execExtentRead {mid b} (h : s.Canon) : Keeps (execExtentRead mid b s) :=
  .next h.wrExtCmd

protected theorem State.Canon.execReleaseDrainDone (h : s.Canon) : Keeps (execReleaseDrainDone s) := by
  unfold execReleaseDrainDone
  refine .next ?_
  split
  · exact .ite h (.put (.put (h.modPool rfl)))
  · exact h

protected theorem State.Canon.execExtentZeroed {b} (h : s.Canon) : Keeps (execExtentZeroed b s) := by
  unfold execExtentZeroed
  refine .next ?_
  split
  · exact .ite (.put (h.zeroExt.putExt.modPool rfl)) h
  · exact .ite (.put (h.modPool rfl)) (.ite (h.modPool rfl) h)

protected theorem State.Canon.wrMapCmd {w} (h : s.Canon) : (wrMapCmd w s).Canon :=
  .ite h.writeReg (.ite (h.writeReg.modPool rfl) h.writeReg.put)

protected theorem State.Canon.execMapSlotRead {mid i} (h : s.Canon) : Keeps (execMapSlotRead mid i s) :=
  .next h.wrMapCmd

protected theorem State.Canon.execMapSlotWrite {mid i} (h : s.Canon) : Keeps (execMapSlotWrite mid i s) :=
  .next h.wrMapCmd

protected theorem State.Canon.wrLdMap {n w} (h : s.Canon) : (wrLdMap n w s).Canon := h.writeReg

protected theorem State.Canon.wrPoolProxy {k w} (h : s.Canon) : (wrPoolProxy k w s).Canon :=
  .ite h.refuse h.writeReg

/-! ### Sys2Proof/Machine/Coherence -/

protected theorem State.Canon.modCoh {f} (h : s.Canon) : (s.modCoh f).Canon := h.frame rfl

protected theorem State.Canon.putDir {k e} (h : s.Canon) : (putDir s k e).Canon := h.put.put.modCoh.injWrite

protected theorem State.Canon.countDoubtful {p} (h : s.Canon) : (countDoubtful s p).Canon := h.put

protected theorem State.Canon.markDoubtful {p r set} (h : s.Canon) : (markDoubtful s p r set).Canon :=
  .ite h h.modCoh.countDoubtful

protected theorem State.Canon.retrack {p} (h : s.Canon) : (retrack p s).Canon := h.put.put.put

protected theorem State.Canon.sendSnoop {p id ho a op} (h : s.Canon) : (sendSnoop s p id ho a op).Canon := by
  unfold sendSnoop
  refine .ite h.inc.present ?_
  split
  · exact h.inc.present
  · exact h.inc

protected theorem State.Canon.memRead {p hla id} (h : s.Canon) : (memRead s p hla id).Canon := by
  unfold memRead
  split
  · exact h.present
  · exact h

protected theorem State.Canon.memWrite {t data be poison} (h : s.Canon) : (memWrite s t data be poison).1.Canon := by
  unfold memWrite
  split
  · exact .pair h.present
  · exact .pair h

protected theorem State.Canon.memAtomic {t} (h : s.Canon) : (memAtomic s t).1.Canon :=
  .ite_fst (.pair h.present) (.pair h)

protected theorem State.Canon.poisonTxn {t cause} (h : s.Canon) : (poisonTxn s t cause).1.Canon :=
  .pair h.memWrite.inc.put.put.put.raise

protected theorem State.Canon.putTxn {t} (h : s.Canon) : (putTxn s t).Canon := h.modCoh

protected theorem State.Canon.newId (h : s.Canon) : (newId s).1.Canon := .pair h.modCoh

protected theorem State.Canon.snoopAll {t op hs} (h : s.Canon) : (snoopAll s t op hs).1.Canon := by
  unfold snoopAll
  refine .foldl_fst (.pair h) fun _ _ h => ?_
  split
  · exact h
  · exact .pair (.ite h h.sendSnoop)

protected theorem State.Canon.flushCheck (h : s.Canon) : (flushCheck s).Canon := by
  unfold flushCheck
  split
  · exact .ite h.put.put.modCoh.put h
  · exact h

protected theorem State.Canon.flushLine {hla} (h : s.Canon) : (flushLine s hla).Canon := h.modCoh.flushCheck

protected theorem State.Canon.removeLine {ho hla bad} (h : s.Canon) : (removeLine s ho hla bad).Canon := h.modCoh

protected theorem State.Canon.startOwn {k hla kind op hs} (h : s.Canon) : (startOwn s k hla kind op hs).1.Canon :=
  h.newId.snoopAll

protected theorem State.Canon.settle {tx} (h : s.Canon) : (settle s tx).1.Canon := by
  unfold settle
  extract_lets bad x e s1 tx1 q w
  have hx : x.1.Canon := .ite_fst h.poisonTxn (.pair h)
  have h1 : s1.Canon := by
    dsimp only [s1]
    split
    · exact .ite hx.putDir.inc hx.putDir
    · exact hx
  have hw : w.1.Canon := .ite_fst h1.memAtomic (.ite_fst h1.memWrite (.pair h1))
  clear_value s1 w
  split
  · exact .ite_fst (.pair hw) (.pair hw.sentClose.answerHeld)
  · exact .pair (.ite h1.modCoh h1)
  · exact .pair (.ite h1.removeLine h1)
  · exact .pair h1

protected theorem State.Canon.advanceOnce {t} (h : s.Canon) : (advanceOnce s t).1.Canon := by
  unfold advanceOnce
  refine .ite_fst (.pair (.answerHeld (.sentClose (.ite_fst h.settle (.pair h))))) ?_
  exact .ite_fst (.pair (.ite_fst h.settle (.pair h))) (.pair (.ite_fst h.settle (.pair h)))

protected theorem State.Canon.dropOwn {p hla} (h : s.Canon) : (dropOwn s p hla).Canon :=
  .foldl (.ite h.flushLine h) fun _ _ h => .ite h.removeLine h

protected theorem State.Canon.startNext {k hla kind} (h : s.Canon) : (startNext s k hla kind).1.Canon := by
  unfold startNext
  split
  · exact h.modCoh.startOwn
  · exact h.startOwn

protected theorem State.Canon.lineFreed {p hla fuel} (h : s.Canon) : (lineFreed p hla fuel s).Canon := by
  induction fuel generalizing s with
  | zero => exact h
  | succ fuel ih =>
    unfold lineFreed
    refine .ite h ?_
    extract_lets s1
    split
    · exact h.dropOwn
    · extract_lets x y s2
      have hy : y.1.Canon := h.dropOwn.startNext.advanceOnce
      have h2 : s2.Canon := by
        dsimp only [s2]
        split
        · exact hy.removeLine
        · exact hy
      clear_value s2
      split
      · exact hy.putTxn
      · exact ih h2

protected theorem State.Canon.advance {tx} (h : s.Canon) : (advance s tx).Canon := by
  unfold advance
  extract_lets x s1 s2
  have hx : x.1.Canon := h.advanceOnce
  have h2 : s2.Canon := by
    dsimp only [s2]
    split
    · exact hx.modCoh.removeLine
    · exact hx.modCoh
  split
  · exact hx.putTxn.retrack
  · exact h2.lineFreed.retrack

protected theorem State.Canon.ageSet {ways} (h : s.Canon) : (ageSet s ways).Canon :=
  h.foldl fun _ _ h => .ite h h.putDir

protected theorem State.Canon.allocWay {p set} (h : s.Canon) : AllSome (·.1.Canon) (allocWay s p set) := by
  unfold allocWay
  extract_lets
  split
  · exact .some (.pair h)
  · refine .ite .none ?_
    extract_lets
    split
    · exact .none
    · exact .some (.pair h.ageSet.startOwn.putDir.inc.advance)

protected theorem State.Canon.homeMiss {q} (h : s.Canon) : (homeMiss s q).Canon := h.sentClose.freeCells.decodeMiss

protected theorem State.Canon.beginReq {p r a} (h : s.Canon) : AllSome State.Canon (beginReq s p r a) := by
  unfold beginReq
  extract_lets l host found doubt fresh way
  clear_value found
  have hw : AllSome (·.1.Canon) way := by
    dsimp only [way]
    split
    · exact .some h
    · exact .ite (h.allocWay.map fun _ h => h) (.some h)
  clear_value way
  split
  · exact .none
  · next s1 k =>
    have h1 : s1.Canon := hw.of rfl
    extract_lets old s2 n plan stay tx buf tx1 s3 x
    have h2 : s2.Canon := by
      dsimp only [s2]
      split
      · exact h1.putDir
      · exact h1
    have hn : n.1.Canon := h2.inc.newId
    have h3 : s3.Canon := .ite hn.memRead hn
    exact .some h3.snoopAll.putTxn.advance

protected theorem State.Canon.writeBack {t q} (h : s.Canon) : (writeBack s t q).Canon :=
  h.memWrite.sentClose.answerHeld.putTxn

protected theorem State.Canon.serveReq {earlier r} (h : s.Canon) : AllSome State.Canon (serveReq s earlier r) := by
  unfold serveReq
  split
  · exact .some h.writeBack
  · refine .ite .none (.ite (.some h.inc.homeMiss) ?_)
    split
    · exact .some h.homeMiss
    · exact .ite .none h.beginReq

protected theorem State.Canon.serveWaiting {before l} (h : s.Canon) :
    AllSome State.Canon (serveWaiting s before l) := by
  induction l generalizing before with
  | nil => exact .none
  | cons r rs ih =>
    unfold serveWaiting
    split
    · next heq => exact .some (h.serveReq.of heq).modCoh.retrack
    · exact ih

protected theorem State.Canon.entryUe {k} (h : s.Canon) : (entryUe s k).Canon :=
  .ite h (.raise (.ite h.putDir.markDoubtful.markDoubtful h.putDir.markDoubtful))

protected theorem State.Canon.execDirectoryRequest {ue} (h : s.Canon) : Keeps (execDirectoryRequest ue s) := by
  unfold execDirectoryRequest
  refine .next ?_
  split
  · next heq =>
      exact (h.serveWaiting.of heq)
  · split
    · exact h
    · extract_lets _ _ s1
      have h1 : s1.Canon := .ite (h.modCoh.foldl fun _ _ h => h.entryUe) h.modCoh
      split
      · next heq =>
          exact (h1.serveReq.of heq)
      · exact h1.modCoh.retrack

protected theorem State.Canon.birsp {q} (h : s.Canon) : (birsp s q).Canon := by
  unfold birsp
  extract_lets
  split
  · exact h.inc
  · exact h.advance

protected theorem State.Canon.execBirspReceive (h : s.Canon) : Keeps (execBirspReceive s) := by
  unfold execBirspReceive
  refine .next ?_
  split
  · exact h
  · refine .ite h.modCoh.birsp ?_
    split
    · exact h.modCoh
    · exact .ite h.modCoh.advance (.ite h.modCoh.advance (.ite h.modCoh.advance h.modCoh))

protected theorem State.Canon.execBiconflict (h : s.Canon) : Keeps (execBiconflict s) := by
  unfold execBiconflict
  refine .next ?_
  split
  · exact h
  · exact .ite h h.modCoh.sentClose.answerHeld

protected theorem State.Canon.startRemoval {ho cmd} (h : s.Canon) : (startRemoval s ho cmd).Canon :=
  .ite h (h.put.modCoh.foldl fun _ _ h => h.lineFreed.retrack)

protected theorem State.Canon.hostLate {t ho} (h : s.Canon) : (hostLate s t ho).Canon := h.inc.raise.advance

protected theorem State.Canon.execBiTimeout {t ho} (h : s.Canon) : Keeps (execBiTimeout t ho s) := by
  unfold execBiTimeout
  refine .next ?_
  split
  · exact h.startRemoval.hostLate
  · exact h

protected theorem State.Canon.endRemoval {r} (h : s.Canon) : (endRemoval s r).Canon :=
  .ite h.modCoh.put.raise.put.put.put h.modCoh.put.raise

protected theorem State.Canon.execHostRemovalComplete {ho timeout} (h : s.Canon) :
    Keeps (execHostRemovalComplete ho timeout s) := by
  unfold execHostRemovalComplete
  refine .next ?_
  split
  · exact h
  · refine .ite (.ite h.endRemoval h) ?_
    extract_lets s1
    have h1 : s1.Canon := by
      refine .foldl h fun _ _ h => ?_
      split
      · exact h.hostLate
      · exact h
    exact h1.endRemoval

protected theorem State.Canon.hostCmd (h : s.Canon) : (hostCmd s).Canon :=
  .ite (.ite h.put.put h.put.startRemoval) (.ite (.ite h.put.put.put h.put.put) h)

protected theorem State.Canon.wrHostCmd {w} (h : s.Canon) : (wrHostCmd w s).Canon :=
  .ite h.refuse (.ite h.writeReg.hostCmd h.writeReg)

protected theorem State.Canon.execHostRemove {mid ho} (h : s.Canon) : Keeps (execHostRemove mid ho s) :=
  .next h.wrHostCmd

protected theorem State.Canon.execHostAdmit {mid ho} (h : s.Canon) : Keeps (execHostAdmit mid ho s) :=
  .next h.wrHostCmd

protected theorem State.Canon.autoRemove {p} (h : s.Canon) : (autoRemove s p).Canon := by
  unfold autoRemove
  split
  · exact h.startRemoval
  · exact h

protected theorem State.Canon.startFlush {base count} (h : s.Canon) : (startFlush s base count).Canon :=
  .flushCheck (h.put.modCoh.foldl fun _ _ h => h.lineFreed.retrack)

protected theorem State.Canon.clearDoubtful {l} (h : s.Canon) : (clearDoubtful s l).Canon := h.modCoh.countDoubtful

protected theorem State.Canon.flushCmd (h : s.Canon) : (flushCmd s).Canon :=
  .ite (.ite h.put.put h.startFlush) (.ite h.clearDoubtful.put.put h)

protected theorem State.Canon.wrFlushCmd {w} (h : s.Canon) : (wrFlushCmd w s).Canon :=
  .ite h.refuse (.ite h.writeReg.flushCmd h.writeReg)

protected theorem State.Canon.execFlushExtents {mid base count} (h : s.Canon) :
    Keeps (execFlushExtents mid base count s) :=
  .next h.wrFlushCmd

protected theorem State.Canon.execClearDoubtfulSets {mid l} (h : s.Canon) : Keeps (execClearDoubtfulSets mid l s) :=
  .next h.wrFlushCmd

protected theorem State.Canon.putLmap {l p} (h : s.Canon) : (putLmap s l p).Canon := h.put

protected theorem State.Canon.takeOpen {p dst} (h : s.Canon) : (takeOpen s p dst).Canon := by
  unfold takeOpen
  exact h.modCoh

protected theorem State.Canon.emptySlice {p} (h : s.Canon) : (emptySlice s p).Canon := h.modCoh.put.put.put.put.put

protected theorem State.Canon.resumeOwn {p} (h : s.Canon) : (resumeOwn s p).Canon :=
  .retrack (h.foldl fun _ _ h => h.lineFreed)

protected theorem State.Canon.takeRanges {p dst} (h : s.Canon) : (takeRanges s p dst).Canon := by
  unfold takeRanges
  extract_lets _ s1
  have h1 : s1.Canon := .put (.put (.put (h.foldl fun _ _ h => h.putLmap)))
  exact h1.put.put.put.raise

protected theorem State.Canon.moveDoubtful {p dst} (h : s.Canon) : (moveDoubtful s p dst).Canon :=
  h.modCoh.countDoubtful

protected theorem State.Canon.copyEnt {p dst f x} (h : s.Canon) : (copyEnt p dst f s x).Canon := .ite h.putDir h

protected theorem State.Canon.evictToDoubt {p dst t} (h : s.Canon) : (evictToDoubt p dst s t).Canon := by
  unfold evictToDoubt
  refine .ite ?_ h
  extract_lets
  split
  · exact h.putDir
  · exact h.markDoubtful

protected theorem State.Canon.sliceFailover {p dst bad} (h : s.Canon) : (sliceFailover s p dst bad).Canon :=
  .resumeOwn (.retrack (.inc
      (.emptySlice (.takeRanges
          (.takeOpen (.foldl (.foldl (.moveDoubtful (h.put.foldl fun _ _ h => h.copyEnt)) fun _ _ h =>
              .ite h.markDoubtful.markDoubtful h.markDoubtful) fun _ _ h => h.evictToDoubt))))))

protected theorem State.Canon.foldRange {p l} (h : s.Canon) : (foldRange p s l).Canon := by
  unfold foldRange
  split
  · exact h.putLmap.raise
  · exact h.putLmap.put.put.put.modCoh.countDoubtful.put.put.inc.raise

protected theorem State.Canon.foldSlice {p} (h : s.Canon) : (foldSlice s p).Canon := by
  unfold foldSlice
  extract_lets _ _ _ s1
  have h1 : s1.Canon := .emptySlice (h.put.takeOpen.foldl fun _ _ h => h.foldRange)
  exact h1.modCoh.retrack.foldl fun _ _ h => .ite h.resumeOwn h

protected theorem State.Canon.dropUnserved (h : s.Canon) : (dropUnserved s).Canon := h.modCoh.flushCheck

protected theorem State.Canon.fanRotEnd {result} (h : s.Canon) : (fanRotEnd s result).Canon :=
  .ite h (.ite (.fanResult (h.frame rfl)) (h.frame rfl))

protected theorem State.Canon.endRotation {result} (h : s.Canon) : (endRotation s result).Canon :=
  h.fanRotEnd.modCoh.put.put.put

protected theorem State.Canon.abortRotation (h : s.Canon) : (abortRotation s).Canon := h.inc.raise

protected theorem State.Canon.sliceFail {p bad} (h : s.Canon) : (sliceFail s p bad).Canon := by
  unfold sliceFail
  refine .ite h ?_
  extract_lets
  split
  · refine .ite h.raise.fanRotEnd.modCoh.put.put.sliceFailover
        (.ite h.raise.put.endRotation.abortRotation (.ite h.raise.put ?_))
    split
    · exact h.raise.sliceFailover
    · exact h.raise.foldSlice.dropUnserved
  · refine .ite h.raise.put ?_
    split
    · exact h.raise.sliceFailover
    · exact h.raise.foldSlice.dropUnserved

protected theorem State.Canon.execSliceFailed {p bad} (h : s.Canon) : Keeps (execSliceFailed p bad s) :=
  .next h.sliceFail

protected theorem State.Canon.execDoubtSweep {p i} (h : s.Canon) : Keeps (execDoubtSweep p i s) :=
  .next (.ite h h.startOwn.putTxn.advance)

protected theorem State.Canon.rotStart {l} (h : s.Canon) : (rotStart s l).Canon := by
  unfold rotStart
  split
  · exact .ite h.put.put.abortRotation h.put.modCoh
  · exact h.put.put.abortRotation

protected theorem State.Canon.wrRotCtrl {w} (h : s.Canon) : (wrRotCtrl w s).Canon :=
  .ite (.rotStart (.ite h.writeReg.sliceFail h.writeReg)) (.ite h.writeReg.sliceFail h.writeReg)

protected theorem State.Canon.execSliceFail {mid l} (h : s.Canon) : Keeps (execSliceFail mid l s) :=
  .next h.wrRotCtrl

protected theorem State.Canon.execRotationStart {mid l} (h : s.Canon) : Keeps (execRotationStart mid l s) := by
  unfold execRotationStart
  refine .next ?_
  split
  · exact h.wrRotCtrl
  · exact h.rotStart

protected theorem State.Canon.execRotationDrainEnd (h : s.Canon) : Keeps (execRotationDrainEnd s) := by
  unfold execRotationDrainEnd
  refine .next ?_
  split
  · exact h
  · refine .ite h ?_
    exact .resumeOwn (.endRotation
        (.modCoh (.inc (.put (.emptySlice (.takeRanges (.moveDoubtful (h.foldl fun _ _ h => h.copyEnt))))))))

protected theorem State.Canon.execRotationDrainTimeout (h : s.Canon) : Keeps (execRotationDrainTimeout s) :=
  .next (.ite h.endRotation.abortRotation h)

protected theorem State.Canon.wrCohHost {ho w} (h : s.Canon) : (wrCohHost ho w s).Canon := h.writeReg

protected theorem State.Canon.wrCohProxy {n w} (h : s.Canon) : (wrCohProxy n w s).Canon := .ite h.refuse h.writeReg

/-! ### Sys2Proof/Machine/Mpu -/

protected theorem State.Canon.mpuRefused {m mid priv op addr x} (h : s.Canon) :
    (mpuRefused s m mid priv op addr x).Canon :=
  .raise (.ite h.inc h.inc.put.put.putB.put.put)

protected theorem State.Canon.mpuPass {m mid priv op addr len} (h : s.Canon) :
    (mpuPass s m mid priv op addr len).1.Canon := by
  unfold mpuPass
  split
  · exact .pair h
  · exact .pair h.mpuRefused

protected theorem State.Canon.wrRegA {m r w} (h : s.Canon) : (wrRegA m r w s).Canon := by
  unfold wrRegA
  refine .ite h.writeReg ?_
  extract_lets
  split
  · exact h.writeReg.wr.frame rfl
  · exact h.writeReg

protected theorem State.Canon.wrRegB {m r w} (h : s.Canon) : (wrRegB m r w s).Canon := .ite h.writeReg (h.frame rfl)

protected theorem State.Canon.execRegionWord0Write {mid m r v} (h : s.Canon) :
    Keeps (execRegionWord0Write mid m r v s) :=
  .next h.wrRegA

protected theorem State.Canon.execRegionWord1Write {mid m r v} (h : s.Canon) :
    Keeps (execRegionWord1Write mid m r v s) :=
  .next h.wrRegB

protected theorem State.Canon.wrFence {m w} (h : s.Canon) : (wrFence m w s).Canon :=
  .ite h.writeReg (.ite h.refuse (.put (.put (h.frame rfl))))

protected theorem State.Canon.execMpuFence {mid m} (h : s.Canon) : Keeps (execMpuFence mid m s) := .next h.wrFence

protected theorem State.Canon.execFenceComplete {m} (h : s.Canon) : Keeps (execFenceComplete m s) :=
  .next (.ite h (.ite (.put (.put (.put (h.frame rfl)))) (.put (h.frame rfl))))

/-! ### Sys2Proof/Machine/Spd -/

protected theorem State.Canon.bankRefused (h : s.Canon) : (bankRefused s).Canon := h.inc.raise

protected theorem State.Canon.spdCe {b} (h : s.Canon) : (spdCe s b).Canon :=
  .ite (.raise (h.inc.frame rfl)) (h.inc.frame rfl)

protected theorem State.Canon.spdCheck {a n e} (h : s.Canon) : (spdCheck s a n e).1.Canon := by
  unfold spdCheck
  generalize wordsOf a n = l
  extract_lets _ x1
  have h1 : x1.1.Canon := .foldl_fst (.pair (.ite h.spdCe h)) fun _ _ h =>
    .ite_fst (.pair h.spdCe) (.ite_fst (.pair h.inc.raise) h)
  exact .ite_fst (.pair (h1.inc.raise.frame rfl)) h1

protected theorem State.Canon.spdWord {a d skip} {x : State × Bool} {w} (h : x.1.Canon) :
    (spdWord a d skip x w).1.Canon :=
  .ite_fst h (.ite_fst (.pair h.inc.raise) (.pair (.injWrite (.spdWr (.ite h.spdCe h)))))

protected theorem State.Canon.spdPut {a d skip} (h : s.Canon) : (spdPut s a d skip).1.Canon :=
  .foldl_fst (.pair h) fun _ _ h => h.spdWord

protected theorem State.Canon.spdDo {op a n d e} (h : s.Canon) : (spdDo s op a n d e).1.Canon := by
  unfold spdDo
  split
  · exact .pair h.spdCheck
  · exact .pair h.spdCheck
  · exact .pair h.spdPut
  · exact .ite_fst (.pair h.spdCheck) (.pair h.spdCheck.spdPut)
  · exact .ite_fst (.pair h.spdCheck) (.pair h.spdCheck.spdPut)

protected theorem State.Canon.hopDeliver {r status bad d} (h : s.Canon) : (hopDeliver s r status bad d).Canon :=
  (h.frame rfl)

protected theorem State.Canon.portBTake {r} (h : s.Canon) : (portBTake s r).Canon := h.frame rfl

protected theorem State.Canon.serveB {r e skip} (h : s.Canon) : (serveB s r e skip).Canon :=
  .ite h.portBTake.spdPut.hopDeliver h.portBTake.spdDo.hopDeliver

protected theorem State.Canon.cycleB {b e} (h : s.Canon) : (cycleB s b e).Canon := by
  unfold cycleB
  split
  · exact h
  · split
    · exact h.serveB
    · exact h
    · exact h.portBTake.bankRefused.hopDeliver

protected theorem State.Canon.answerA {a err d} (h : s.Canon) : (answerA s a err d).Canon := h.out

protected theorem State.Canon.bankA {a e} (h : s.Canon) : (bankA s a e).1.Canon := by
  unfold bankA
  split
  · exact .pair h.bankRefused.answerA
  · exact .pair h
  · exact .pair h.spdDo.answerA

protected theorem State.Canon.collide {a r e} (h : s.Canon) : (collide s a r e).Canon :=
  .ite h (.ite (.ite h h.serveB) (.ite h (.ite h.serveB h.serveB.put.put.put.put.inc.raise)))

protected theorem State.Canon.execScratchpadAccess {a b e} (h : s.Canon) : Keeps (execScratchpadAccess a b e s) := by
  unfold execScratchpadAccess
  refine .next ?_
  split
  · split
    · exact h.cycleB
    · exact h
  · refine .ite h ?_
    extract_lets pass x
    have hp : pass.1.Canon := by
      dsimp only [pass]
      split
      · exact h.mpuPass
      · exact h
    have hx : x.1.Canon := .ite_fst hp.bankA (.pair hp.answerA)
    clear_value x
    split
    · exact hx
    · refine .ite hx.cycleB ?_
      split
      · exact hx.collide
      · exact hx

protected theorem State.Canon.wrBankCfg {b w} (h : s.Canon) : (wrBankCfg b w s).Canon :=
  .ite h.refuse (.ite (.put (.writeReg (h.frame rfl))) (.writeReg (h.frame rfl)))

protected theorem State.Canon.execBankOwnerWrite {mid b o} (h : s.Canon) : Keeps (execBankOwnerWrite mid b o s) :=
  .next h.wrBankCfg

protected theorem State.Canon.execBankPowerWrite {mid b p} (h : s.Canon) : Keeps (execBankPowerWrite mid b p s) :=
  .next h.wrBankCfg

protected theorem State.Canon.bankClear {b} (h : s.Canon) : (bankClear s b).Canon :=
  ⟨h.regs, wf_tdrop (fun a => bankOf a == b) h.spd, h.flash, h.store, h.data⟩

protected theorem State.Canon.bankSettled {b} (h : s.Canon) : (bankSettled s b).Canon := .ite h.put.put h

protected theorem State.Canon.execOwnerDrainEnd {b} (h : s.Canon) : Keeps (execOwnerDrainEnd b s) :=
  .next (.ite h (.bankSettled (.ite (.bankClear (.ite h.put h.put.put)) (.ite h.put h.put.put))))

protected theorem State.Canon.execBankReady {b} (h : s.Canon) : Keeps (execBankReady b s) :=
  .next (.ite h (.ite h.put h.put.put.bankSettled))

/-! ### Sys2Proof/Machine/FnCore -/

protected theorem State.Canon.fnUnc {n bit ho} (h : s.Canon) : (fnUnc s n bit ho).Canon := h.modFx.raise

protected theorem State.Canon.fnCor {n bit} (h : s.Canon) : (fnCor s n bit).Canon := h.modFx.raise

protected theorem State.Canon.fnWrite {n addr d} (h : s.Canon) : (fnWrite s n addr d).Canon := by
  unfold fnWrite
  split
  · exact h
  · exact h.present

protected theorem State.Canon.msixSend {n k} (h : s.Canon) : (msixSend s n k).Canon :=
  .ite h (.ite h.modFx h.fnWrite)

protected theorem State.Canon.msixFlush {n} (h : s.Canon) : (msixFlush s n).Canon :=
  h.foldl fun _ _ h => .ite h h.modFx.msixSend

protected theorem State.Canon.syncFn {n} (h : s.Canon) : (syncFn n s).Canon :=
  .ite h.put.putB.put.put.putB.msixSend h.put.putB.put.put.putB

protected theorem State.Canon.passOne {n q} (h : s.Canon) : (passOne s n q).Canon := by
  unfold passOne
  split
  · exact h
  · exact h.modFx.put

protected theorem State.Canon.passHeld {n fuel} (h : s.Canon) : (passHeld n fuel s).Canon := by
  induction fuel generalizing s with
  | zero => exact h
  | succ fuel ih =>
    unfold passHeld
    refine .ite h ?_
    split
    · exact h
    · exact ih h.modFx.passOne

protected theorem State.Canon.fnPass {n} (h : s.Canon) : (fnPass s n).Canon := h.passHeld.syncFn

protected theorem State.Canon.fnCompleted {n q} (h : s.Canon) : (fnCompleted s n q).Canon := h.modFx.fnPass

/-! ### Sys2Proof/Machine/HopPath -/

protected theorem State.Canon.modHc {e c f} (h : s.Canon) : (s.modHc e c f).Canon := h.frame rfl

protected theorem State.Canon.setCh {e c st} (h : s.Canon) : (setCh s e c st).Canon := h.put.put.put

protected theorem State.Canon.hopId (h : s.Canon) : (hopId s).1.Canon := .pair (h.frame rfl)

protected theorem State.Canon.readSpd {e c sp addr base} {x : State × List Piece} {r}
    (h : x.1.Canon) :
    (readSpd e c sp addr base x r).1.Canon :=
  .pair (h.hopId.frame rfl)

protected theorem State.Canon.readPool {e c sp addr base} {x : State × List Piece} {r}
    (h : x.1.Canon) :
    (readPool e c sp addr base x r).1.Canon :=
  .pair h.hopId.present

protected theorem State.Canon.readHost {e c n v} {x : State × List Piece} {r}
    (h : x.1.Canon) :
    (readHost e c n v x r).1.Canon := by
  unfold readHost
  split
  · exact h
  · exact .pair h.modFx.present

protected theorem State.Canon.hopRead {e c sp addr n dir} (h : s.Canon) : (hopRead s e c sp addr n dir).Canon := by
  unfold hopRead
  extract_lets
  split
  · exact .fail h
  · refine .ite (.fail h.mpuPass) ?_
    extract_lets x1
    have h1 : x1.1.Canon := .foldl_fst (.pair h.mpuPass) fun _ _ h => h.readSpd
    exact .ok h1
  · refine .ite (.fail h.mpuPass) (.ite (.fail h.mpuPass.inc) ?_)
    extract_lets x2
    have h2 : x2.1.Canon := .foldl_fst (.pair h.mpuPass) fun _ _ h => h.readPool
    exact .ok h2
  · split
    · exact .fail h
    · split
      · exact .fail h
      · exact .ite .wait (.ok (.foldl_fst (.pair h) fun _ _ h => h.readHost))

protected theorem State.Canon.writeSpd {e c base d} {x : State × List ℕ} {r} (h : x.1.Canon) :
    (writeSpd e c base d x r).1.Canon :=
  .pair (h.hopId.frame rfl)

protected theorem State.Canon.writePool {e c base d} {x : State × List ℕ} {r} (h : x.1.Canon) :
    (writePool e c base d x r).1.Canon :=
  .pair h.hopId.present

protected theorem State.Canon.writeHost {n base d r} (h : s.Canon) : (writeHost n base d s r).Canon := h.fnWrite

protected theorem State.Canon.hopWrite {e c sp addr d} (h : s.Canon) : (hopWrite s e c sp addr d).Canon := by
  unfold hopWrite
  extract_lets
  split
  · exact .fail h
  · refine .ite (.fail h.mpuPass) ?_
    extract_lets x1
    have h1 : x1.1.Canon := .foldl_fst (.pair h.mpuPass) fun _ _ h => h.writeSpd
    exact .ok h1
  · refine .ite (.fail h.mpuPass) (.ite (.fail h.mpuPass.decodeMiss) ?_)
    extract_lets x2
    have h2 : x2.1.Canon := .foldl_fst (.pair h.mpuPass) fun _ _ h => h.writePool
    exact .ok h2
  · split
    · exact .fail h
    · exact .ok (h.foldl fun _ _ h => h.writeHost)

protected theorem State.Canon.hopAtomic {e c d} (h : s.Canon) : (hopAtomic s e c d).Canon := by
  unfold hopAtomic
  extract_lets
  split
  · exact .fail h
  · exact .fail h
  · exact .fail h.mpuPass
  · refine .ite (.fail h.mpuPass) ?_
    exact .ite (.fail h.mpuPass.inc) (.ite (.fail h.mpuPass) (.ok h.mpuPass.hopId.present))

/-! ### Sys2Proof/Machine/Hopper -/

protected theorem State.Canon.writeRec {e c slot b quiet} (h : s.Canon) : (writeRec s e c slot b quiet).1.Canon := by
  unfold writeRec
  refine .ite_fst (.pair h) (.ite_fst (.pair h) ?_)
  split
  · exact .ite_fst (.pair h.mpuPass) (.ite_fst (.pair h.mpuPass.bankRefused) (.pair h.mpuPass.spdPut))
  · split
    · next heq =>
        exact .pair (h.hopWrite.of_ok heq)
    · next heq =>
        exact .pair (h.hopWrite.of_fail heq)
    · exact .pair h

protected theorem State.Canon.putLast {e c b} (h : s.Canon) : (putLast s e c b).Canon := h.foldl fun _ _ h => h.wr

protected theorem State.Canon.advanceHead {e c} (h : s.Canon) : (advanceHead s e c).Canon :=
  .ite h.put (.ite h.put.modHc h.put)

protected theorem State.Canon.chIrq {e c} (h : s.Canon) : (chIrq s e c).Canon := by
  unfold chIrq
  split
  · exact h.msixSend
  · exact h.setBit

protected theorem State.Canon.slotDone {e c} (h : s.Canon) : (slotDone s e c).Canon := by
  unfold slotDone
  split
  · exact h.fnCompleted
  · exact h

protected theorem State.Canon.endSlot {e c d code detail residue irq quiet} (h : s.Canon) :
    (endSlot s e c d code detail residue irq quiet).1.Canon := by
  unfold endSlot
  refine .pair (.ite (.putLast (.ite_fst (.pair h) h.writeRec)) ?_)
  exact .slotDone (.advanceHead (.putLast (.ite_fst (.pair h) h.writeRec)))

protected theorem State.Canon.hopHalt {e c d err rest residue} (h : s.Canon) :
    (hopHalt s e c d err rest residue).Canon :=
  .chIrq (.modHc (.inc (.setCh (.ite h.endSlot.put.put.put.put.wr h.endSlot.put.put))))

protected theorem State.Canon.readAll {e c dir ps l} (h : s.Canon) : (readAll e c dir s ps l).Canon := by
  induction l generalizing s ps with
  | nil => exact .ok h
  | cons r rs ih =>
    unfold readAll
    split
    · exact .wait
    · next heq => exact .fail (h.hopRead.of_fail heq)
    · next heq => exact ih (h.hopRead.of_ok heq)

protected theorem State.Canon.writeAll {e c ws l} (h : s.Canon) : (writeAll e c s ws l).Canon := by
  induction l generalizing s ws with
  | nil => exact .ok h
  | cons r rs ih =>
    unfold writeAll
    split
    · exact .wait
    · next heq => exact .fail (h.hopWrite.of_fail heq)
    · next heq => exact ih (h.hopWrite.of_ok heq)

protected theorem State.Canon.putDesc {e c i d} (h : s.Canon) : (putDesc s e c i d).Canon := h.modHc

protected theorem State.Canon.issueDesc {e c i d} (h : s.Canon) : AllSome State.Canon (issueDesc s e c i d) := by
  unfold issueDesc
  extract_lets fin data
  have hfin : ∀ x kind n, x.Canon → AllSome State.Canon (fin x kind n) := by
    intro x kind n hx
    dsimp only [fin]
    split
    · exact .none
    · exact .some (hx.of_fail rfl).putDesc
    · exact .some (hx.of_ok rfl).putDesc
  have hdata : ∀ n, AllSome State.Canon (data n) := by
    intro n
    dsimp only [data]
    split
    · exact .none
    · next heq => exact .some (h.readAll.of_fail heq).putDesc
    · next heq =>
      have h1 := h.readAll.of_ok heq
      split
      · exact .none
      · next heq => exact .some (h1.readAll.of_fail heq).putDesc
      · next heq => exact .some (h1.readAll.of_ok heq).putDesc
  refine .ite (hfin _ _ _ h.hopAtomic) (.ite ?_ (hdata _))
  split
  · refine .ite .none ?_
    extract_lets
    split
    · exact .none
    · next heq => exact .some (h.hopRead.of_fail heq).putDesc
    · next heq => exact .some (h.hopRead.of_ok heq).putDesc
  · exact .ite .none (hdata _)

protected theorem State.Canon.issueCh {e c} (h : s.Canon) : AllSome State.Canon (issueCh s e c) := by
  unfold issueCh
  refine .ite .none ?_
  split
  · exact .none
  · split
    · exact .none
    · exact .ite .none h.issueDesc

protected theorem State.Canon.hopGo {e c fuel} (h : s.Canon) : (hopGo e c fuel s).Canon := by
  induction fuel generalizing s with
  | zero => exact h
  | succ fuel ih =>
    unfold hopGo
    split
    · exact h
    · extract_lets put
      split
      · refine .ite h (.ite h.modHc ?_)
        split
        · exact h
        · exact .ite h (ih h.modHc)
      · split
        · exact h.hopHalt
        · refine .ite h ?_
          split
          · exact ih h.modHc
          · split
            · exact h.modHc
            · exact h.hopHalt
          · refine .ite (.ite (ih h.inc.modHc) h) ?_
            split
            · exact h.modHc
            · split
              · exact h
              · next heq => exact (h.writeAll.of_fail heq).hopHalt
              · next heq => exact ih (h.writeAll.of_ok heq).modHc

protected theorem State.Canon.hopStep {e c} (h : s.Canon) : (hopStep s e c).Canon := .ite h h.hopGo

protected theorem State.Canon.execBurstIssue {e} (h : s.Canon) : Keeps (execBurstIssue e s) := by
  unfold execBurstIssue
  refine .next ?_
  extract_lets
  split
  · exact h
  · next heq =>
    obtain ⟨_, _, hc⟩ := List.exists_of_findSome?_eq_some heq
    obtain ⟨_, hi, he⟩ := Option.map_eq_some_iff.1 hc
    obtain ⟨rfl, rfl⟩ := Prod.mk.inj he
    exact .hopStep (.frame (h.issueCh.of hi) rfl)

protected theorem State.Canon.fetchFailed {e c d err} (h : s.Canon) : (fetchFailed s e c d err).Canon :=
  .hopStep (.ite h.modHc h.modHc.setCh)

protected theorem State.Canon.fetchAt {e c d sp a again} (h : s.Canon) : (fetchAt s e c d sp a again).Canon := by
  unfold fetchAt
  split
  · exact h
  · next heq =>
      exact (h.hopRead.of_fail heq).fetchFailed
  · next heq =>
      exact (h.hopRead.of_ok heq).modHc

protected theorem State.Canon.fetchRing {e c} (h : s.Canon) : (fetchRing s e c).Canon := by
  unfold fetchRing
  refine .ite h (.ite h ?_)
  extract_lets
  split
  · exact h.fetchAt
  · exact h.fetchFailed
  · exact h.fetchFailed

protected theorem State.Canon.execDescriptorFetch {e c} (h : s.Canon) : Keeps (execDescriptorFetch e c s) := by
  unfold execDescriptorFetch
  refine .next (.ite h ?_)
  split
  · exact .ite (.ite h (.ite h.fetchAt (.ite h.hopHalt.modHc h))) (.ite h h.fetchRing)
  · exact .ite h h.fetchRing

protected theorem State.Canon.putShadow {e c ws} (h : s.Canon) : (putShadow s e c ws).Canon :=
  h.foldl fun _ _ h => h.wr

protected theorem State.Canon.fetchDone {e c} (h : s.Canon) : (fetchDone s e c).Canon := by
  unfold fetchDone
  split
  · exact h
  · exact .ite h (.ite h.modHc.hopStep h.putShadow.modHc)

protected theorem State.Canon.execHandOver {e c} (h : s.Canon) : Keeps (execHandOver e c s) := by
  unfold execHandOver
  refine .next (.ite h ?_)
  split
  · exact h
  · exact .hopStep (.setCh (.modHc (.put (.put (h.foldl fun _ _ h => h.wr)))))

protected theorem State.Canon.hopAnswer {e c id d bad} (h : s.Canon) : (hopAnswer s e c id d bad).Canon := by
  unfold hopAnswer
  extract_lets _ s1
  have h1 : s1.Canon := by
    dsimp only [s1]
    split
    · split
      · split
        · exact h.injWrite.modHc.fetchFailed
        · exact h.injWrite.modHc.modHc.fetchDone
      · exact h.injWrite.modHc
    · exact h.injWrite.modHc
  exact h1.hopStep

protected theorem State.Canon.hostCpl {e n q} (h : s.Canon) : (hostCpl s e n q).Canon := by
  unfold hostCpl
  split
  · exact h
  · exact .ite h.inc.modFx (.ite h.modFx (.ite h.hopAnswer h.hopAnswer.modFx))

protected theorem State.Canon.execReadDataArrive {e} (h : s.Canon) : Keeps (execReadDataArrive e s) := by
  unfold execReadDataArrive
  refine .next ?_
  split
  · exact h
  · refine .ite (h.frame rfl) (.ite ?_ ?_)
    · split
      · split
        · split
          · exact .hostCpl (h.frame rfl)
          · exact h.frame rfl
        · exact h.frame rfl
      · exact h.frame rfl
    · split
      · exact .hopAnswer (h.frame rfl)
      · exact h.frame rfl

protected theorem State.Canon.execDataTimeout {e c} (h : s.Canon) : Keeps (execDataTimeout e c s) := by
  unfold execDataTimeout
  refine .next ?_
  split
  · exact .ite h h.hopAnswer
  · exact h

protected theorem State.Canon.execFetchTimeout {e c} (h : s.Canon) : Keeps (execFetchTimeout e c s) := by
  unfold execFetchTimeout
  refine .next ?_
  split
  · split
    · exact .ite h h.fetchFailed
    · exact h
  · exact h

protected theorem State.Canon.execHostCompletionTimeout {n tag} (h : s.Canon) :
    Keeps (execHostCompletionTimeout n tag s) := by
  unfold execHostCompletionTimeout
  refine .next ?_
  split
  · exact h
  · refine .ite h ?_
    extract_lets
    split
    · split
      · exact h.modFx.fnUnc.fetchFailed
      · exact h.modFx.fnUnc.hopAnswer
    · exact h.modFx.fnUnc.hopAnswer

protected theorem State.Canon.restCh {e c} (h : s.Canon) : (restCh s e c).Canon := .ite h.setCh h

protected theorem State.Canon.execChainComplete {e c} (h : s.Canon) : Keeps (execChainComplete e c s) := by
  unfold execChainComplete
  refine .next ?_
  split
  · exact h
  · split
    · exact h
    · refine .ite h ?_
      extract_lets
      split
      · exact .hopHalt (h.endSlot.frame rfl)
      · exact .hopStep (.restCh (.ite h.endSlot.modHc.inc.chIrq h.endSlot.modHc.inc))

protected theorem State.Canon.abortNow {e c} (h : s.Canon) : (abortNow s e c).Canon := by
  unfold abortNow
  split
  · exact h.hopHalt
  · exact h

protected theorem State.Canon.hopAbort {e c} (h : s.Canon) : (hopAbort s e c).Canon :=
  .ite h.abortNow (.ite h.modHc h)

protected theorem State.Canon.execAbortComplete {e c} (h : s.Canon) : Keeps (execAbortComplete e c s) :=
  .next (.ite h.abortNow h)

protected theorem State.Canon.pauseBit {e c i on} (h : s.Canon) : (pauseBit s e c i on).Canon := by
  unfold pauseBit
  refine .ite (.ite (.setCh (.ite h.setBit h.clrBit)) (.ite h.setBit h.clrBit)) (.ite ?_ (.ite h.setBit h.clrBit))
  split
  · split
    · exact .fetchAt (.setCh (.modHc (.ite h.setBit h.clrBit)))
    · exact .ite h.setBit h.clrBit
  · exact .restCh (.setCh (.ite h.setBit h.clrBit))

protected theorem State.Canon.hopSkip {e c} (h : s.Canon) : (hopSkip s e c).Canon :=
  .ite h.modHc.setCh.setCh h.modHc.setCh

protected theorem State.Canon.hopRetry {e c} (h : s.Canon) : (hopRetry s e c).Canon := by
  unfold hopRetry
  refine .ite h.hopSkip ?_
  split
  · exact h.modHc.setCh.fetchAt
  · extract_lets
    split
    · exact h.modHc.setCh.fetchAt
    · exact h.modHc.setCh.modHc
  · exact h.hopSkip

protected theorem State.Canon.hopClear {e c} (h : s.Canon) : (hopClear s e c).Canon := by
  unfold hopClear
  refine .setCh ?_
  split
  · exact .fnPass (.modFx (.put (.ite h.modHc h.modHc.put)))
  · exact .ite h.modHc h.modHc.put

protected theorem State.Canon.hopCmd {e c cmd} (h : s.Canon) : (hopCmd s e c cmd).Canon :=
  .ite h (.ite h.hopAbort (.ite h (.ite h.hopRetry (.ite h.hopSkip (.ite h.hopClear h)))))

protected theorem State.Canon.wrChCtrl {e c w} (h : s.Canon) : (wrChCtrl e c w s).Canon := by
  unfold wrChCtrl
  extract_lets _ _ _ _ _ s1
  have h1 : s1.Canon := .ite (.ite h.writeReg.setCh h.writeReg) (.ite h.writeReg.modHc.setCh h.writeReg)
  exact .ite (.ite h1 h1.pauseBit) (.hopCmd (.ite h1 h1.pauseBit))

protected theorem State.Canon.execChannelEnable {mid e c} (h : s.Canon) : Keeps (execChannelEnable mid e c s) :=
  .next h.wrChCtrl

protected theorem State.Canon.execChannelDisable {mid e c} (h : s.Canon) : Keeps (execChannelDisable mid e c s) :=
  .next h.wrChCtrl

protected theorem State.Canon.execChannelPause {mid e c} (h : s.Canon) : Keeps (execChannelPause mid e c s) :=
  .next h.wrChCtrl

protected theorem State.Canon.execChannelResume {mid e c} (h : s.Canon) : Keeps (execChannelResume mid e c s) :=
  .next h.wrChCtrl

protected theorem State.Canon.execChannelRetry {mid e c} (h : s.Canon) : Keeps (execChannelRetry mid e c s) :=
  .next h.wrChCtrl

protected theorem State.Canon.execChannelSkip {mid e c} (h : s.Canon) : Keeps (execChannelSkip mid e c s) :=
  .next h.wrChCtrl

protected theorem State.Canon.execChannelClear {mid e c} (h : s.Canon) : Keeps (execChannelClear mid e c s) :=
  .next h.wrChCtrl

protected theorem State.Canon.execChannelAbort {mid e c} (h : s.Canon) : Keeps (execChannelAbort mid e c s) :=
  .next h.wrChCtrl

protected theorem State.Canon.wrChRing {e c w} (h : s.Canon) : (wrChRing e c w s).Canon :=
  .ite h.refuse h.writeReg

protected theorem State.Canon.wrChCq {e c w} (h : s.Canon) : (wrChCq e c w s).Canon := .ite h.writeReg h.refuse

protected theorem State.Canon.wrChPtr {e c w} (h : s.Canon) : (wrChPtr e c w s).Canon := h.writeReg

protected theorem State.Canon.execTailWrite {mid e c t} (h : s.Canon) : Keeps (execTailWrite mid e c t s) :=
  .next h.wrChPtr

protected theorem State.Canon.wrChShd {e c k w} (h : s.Canon) : (wrChShd e c k w s).Canon :=
  .ite h.writeReg.put h.refuse

protected theorem State.Canon.execShadowWrite {mid e c k v} (h : s.Canon) : Keeps (execShadowWrite mid e c k v s) :=
  .next h.wrChShd

protected theorem State.Canon.wrShdCtrl {e c w} (h : s.Canon) : (wrShdCtrl e c w s).Canon :=
  .ite h.writeReg h.refuse

protected theorem State.Canon.execShadowArm {mid e c} (h : s.Canon) : Keeps (execShadowArm mid e c s) :=
  .next h.wrShdCtrl

protected theorem State.Canon.execShadowDisarm {mid e c} (h : s.Canon) : Keeps (execShadowDisarm mid e c s) :=
  .next h.wrShdCtrl

protected theorem State.Canon.faultRec {e c unreadable d} (h : s.Canon) : (faultRec e c unreadable s d).Canon :=
  h.endSlot.chIrq

protected theorem State.Canon.faultCh {e unreadable c} (h : s.Canon) : (faultCh e unreadable s c).Canon :=
  .setCh (.modHc (h.foldl fun _ _ h => h.faultRec))

protected theorem State.Canon.losePortB {r} (h : s.Canon) : (losePortB s r).Canon := .ite h.spdPut.bump h

protected theorem State.Canon.engineFail {e unreadable} (h : s.Canon) : (engineFail e unreadable s).Canon := by
  unfold engineFail
  refine .ite h (.foldl (.flushPort (.frame (.foldl ?_ fun _ _ h => h.losePortB) rfl)) fun _ _ h => h.faultCh)
  exact h.put.raise.frame rfl

protected theorem State.Canon.execEngineFailed {e unreadable} (h : s.Canon) :
    Keeps (execEngineFailed e unreadable s) :=
  .next h.engineFail

protected theorem State.Canon.wrEngCtrl {e w} (h : s.Canon) : (wrEngCtrl e w s).Canon :=
  .ite h.writeReg.put.engineFail h.writeReg.put

protected theorem State.Canon.execEngineModeWrite {mid e m} (h : s.Canon) : Keeps (execEngineModeWrite mid e m s) :=
  .next h.wrEngCtrl

protected theorem State.Canon.execEngineFail {mid e} (h : s.Canon) : Keeps (execEngineFail mid e s) :=
  .next h.wrEngCtrl

/-! ### Sys2Proof/Machine/Ports -/

protected theorem State.Canon.pcieDown {p st w} (h : s.Canon) : (pcieDown s p st w).Canon := by
  unfold pcieDown
  refine .ite h.put.put.put.put.put.put.put.put.setWait.reportDown.raise ?_
  exact h.put.put.put.put.put.put.put.put.setWait

protected theorem State.Canon.linkDown {p st w} (h : s.Canon) : (linkDown s p st w).Canon :=
  .ite (.ite h.oflDown.put (.ite h.oflDown.put h.oflDown)) (.ite h.pcieDown h)

protected theorem State.Canon.execRefclkLost {g} (h : s.Canon) : Keeps (execRefclkLost g s) :=
  .next (.raise (h.put.put.put.foldl fun _ _ h => h.linkDown))

protected theorem State.Canon.execRefclkRestored {g} (h : s.Canon) : Keeps (execRefclkRestored g s) :=
  .next (h.put.put.foldl fun _ _ h => .ite h.setWait h)

protected theorem State.Canon.pcieTrainFail {p} (h : s.Canon) : (pcieTrainFail s p).Canon :=
  .ite (.raise (.ite h.modPx.pcieDown h.modPx.put)) (.ite h.modPx.pcieDown h.modPx.put)

protected theorem State.Canon.pcieTrain {p t} (h : s.Canon) : (pcieTrain s p t).Canon := by
  unfold pcieTrain
  refine .ite h.pcieTrainFail ?_
  extract_lets _ _ _ _ _ s1
  have h1 : s1.Canon := by
    refine .ite h.put.put.put.put.putB.put.putB.put.modPx.put.raise ?_
    exact h.put.put.put.put.putB.put.putB.put.modPx
  exact .ite h1 h1.reportUp

protected theorem State.Canon.execLinkTraining {p t} (h : s.Canon) : Keeps (execLinkTraining p t s) :=
  .next (.ite h.pcieTrain (.ite h.pcieTrain h))

protected theorem State.Canon.execTrainingRetry {p t} (h : s.Canon) : Keeps (execTrainingRetry p t s) :=
  .next (.ite h.pcieTrain h)

protected theorem State.Canon.pcieRecovery {p} (h : s.Canon) : (pcieRecovery s p).Canon := .ite h.put.put h

protected theorem State.Canon.wrLinkCtrl {p w} (h : s.Canon) : (wrLinkCtrl p w s).Canon := by
  unfold wrLinkCtrl
  refine .ite h.refuse ?_
  extract_lets was s1 now s2 s3 s4 s5 s6
  have h2 : s2.Canon := .ite h.writeReg.linkDown h.writeReg
  have h3 : s3.Canon := .ite (.ite h2.put h2.put) h2
  have h4 : s4.Canon := .ite h3.modPx.modOx h3
  have h5 : s5.Canon := .ite h4.put.put h4
  have h6 : s6.Canon := .ite h5.modOx h5
  exact .ite (.ite h6.enterRecovery h6.pcieRecovery) h6

protected theorem State.Canon.execLinkDisable {mid p} (h : s.Canon) : Keeps (execLinkDisable mid p s) :=
  .next h.wrLinkCtrl

protected theorem State.Canon.execRetrain {mid p} (h : s.Canon) : Keeps (execRetrain mid p s) := .next h.wrLinkCtrl

protected theorem State.Canon.execEqRedo {mid p} (h : s.Canon) : Keeps (execEqRedo mid p s) := .next h.wrLinkCtrl

protected theorem State.Canon.execLaneClear {mid p} (h : s.Canon) : Keeps (execLaneClear mid p s) :=
  .next h.wrLinkCtrl

protected theorem State.Canon.l0pTo {p n} (h : s.Canon) : (l0pTo s p n).Canon := h.put.out

protected theorem State.Canon.execL0pNarrow {p} (h : s.Canon) : Keeps (execL0pNarrow p s) := .next (.ite h.l0pTo h)

protected theorem State.Canon.execL0pWiden {p} (h : s.Canon) : Keeps (execL0pWiden p s) := .next (.ite h.l0pTo h)

protected theorem State.Canon.execL0pPartnerRequest {p lanes} (h : s.Canon) :
    Keeps (execL0pPartnerRequest p lanes s) :=
  .next (.ite h.l0pTo h)

protected theorem State.Canon.laneFail {p lane} (h : s.Canon) : (laneFail s p lane).Canon :=
  .ite (.ite h.put.raise.pcieDown h.put.raise.put.putB.l0pTo) h.put.raise.pcieRecovery

protected theorem State.Canon.execLaneFailed {p lane} (h : s.Canon) : Keeps (execLaneFailed p lane s) :=
  .next (.ite h.laneFail h)

protected theorem State.Canon.execWidenLaneTimeout {p lane} (h : s.Canon) : Keeps (execWidenLaneTimeout p lane s) :=
  .next (.ite h.laneFail h)

protected theorem State.Canon.execRecoveryTimeout {p} (h : s.Canon) : Keeps (execRecoveryTimeout p s) :=
  .next (.ite h.pcieDown h)

protected theorem State.Canon.enterL1 {p} (h : s.Canon) : (enterL1 s p).Canon := h.put.putB.out

protected theorem State.Canon.execL1Entry {p hdmDb} (h : s.Canon) : Keeps (execL1Entry p hdmDb s) :=
  .next (.ite h.enterL1 h)

protected theorem State.Canon.execL1RequestAccept {p hdmDb} (h : s.Canon) : Keeps (execL1RequestAccept p hdmDb s) :=
  .next (.ite h.enterL1 h)

protected theorem State.Canon.execL1Exit {p} (h : s.Canon) : Keeps (execL1Exit p s) := .next (.ite h.put.put h)

protected theorem State.Canon.execPortRedetect {p} (h : s.Canon) : Keeps (execPortRedetect p s) :=
  .next (.ite h.setWait.put h)

protected theorem State.Canon.portClear {p} (h : s.Canon) : (portClear s p).Canon :=
  h.linkDown.clearRegs.clearRegs.put.setPx.setOx

/-! ### Sys2Proof/Machine/HostFn -/

protected theorem State.Canon.syncFns {l} (h : s.Canon) : (syncFns s l).Canon := h.foldl fun _ _ h => h.syncFn

protected theorem State.Canon.doorbell {n q t} (h : s.Canon) : (doorbell s n q t).Canon := by
  unfold doorbell
  refine .ite h (.ite h.fnUnc ?_)
  extract_lets
  split
  · exact h.modFx
  · exact .ite h.modFx h.modFx.put.modFx.fnPass

protected theorem State.Canon.execDoorbell {n q t} (h : s.Canon) : Keeps (execDoorbell n q t s) :=
  .next h.doorbell

protected theorem State.Canon.shutPkts {n} (h : s.Canon) : (shutPkts s n).Canon := by
  unfold shutPkts
  exact h.modMill

protected theorem State.Canon.cutChan {e c} (h : s.Canon) : (cutChan s e c).Canon := by
  unfold cutChan
  extract_lets
  split
  · exact h.clrBit.modHc
  · exact h.clrBit.modHc.endSlot.put.put.setCh.inc.modHc

protected theorem State.Canon.migEnd {result} (h : s.Canon) : (migEnd s result).Canon := h.put.put.put

protected theorem State.Canon.shutStart {cause n} (h : s.Canon) : (shutStart cause s n).Canon := by
  unfold shutStart
  split
  · exact h.modFx
  · exact .syncFn (.foldl (.shutPkts (.modFx (.ite h.migEnd h))) fun _ _ h => h.cutChan)

protected theorem State.Canon.vfDisable (h : s.Canon) : (vfDisable s).Canon := h.modFx.foldl fun _ _ h => h.shutStart

protected theorem State.Canon.fnReset {n} (h : s.Canon) : (fnReset s n).Canon := by
  unfold fnReset
  extract_lets _ s1
  have h1 : s1.Canon := .foldl (.ite h.vfDisable h) fun _ _ h => h.put.put.put
  exact .modFx (h1.foldl fun _ _ h => h.modHc)

protected theorem State.Canon.shutDone {n} (h : s.Canon) : (shutDone s n).Canon := by
  unfold shutDone
  split
  · exact h
  · exact .ite h (.syncFn (.modFx (.ite h.modFx h.modFx.fnReset)))

protected theorem State.Canon.execShutdownComplete {n} (h : s.Canon) : Keeps (execShutdownComplete n s) :=
  .next h.shutDone

protected theorem State.Canon.reclaim {n} (h : s.Canon) : (reclaim s n).Canon := h.modFx.inc

protected theorem State.Canon.execTagReclaim {n} (h : s.Canon) : Keeps (execTagReclaim n s) :=
  .next (.ite h.reclaim h)

protected theorem State.Canon.execTagRelease {n} (h : s.Canon) : Keeps (execTagRelease n s) := .next h.modFx

protected theorem State.Canon.fnPower {n d3} (h : s.Canon) : (fnPower s n d3).Canon := by
  unfold fnPower
  refine .ite h ?_
  exact .syncFn (.ite (h.modFx.foldl fun _ _ h => h.pauseBit) (.msixFlush (h.modFx.foldl fun _ _ h => h.pauseBit)))

protected theorem State.Canon.fnCmdWr {n d} (h : s.Canon) : (fnCmdWr s n d).Canon :=
  .ite h.modFx.shutStart (.syncFn (.ite h.modFx.msixFlush h.modFx))

protected theorem State.Canon.sriovWr {d} (h : s.Canon) : (sriovWr s d).Canon :=
  .ite h.modFx.vfDisable (.ite h.modFx.modFx.syncFns h.modFx)

protected theorem State.Canon.fnCfgWr {n r d} (h : s.Canon) : (fnCfgWr s n r d).Canon := by
  unfold fnCfgWr
  extract_lets
  split
  · exact h.fnCmdWr
  · exact .ite h h.modFx
  · exact .ite h h.modFx
  · exact .ite h (.ite h.fnPower (.ite h.fnPower h))
  · exact .ite h.modFx.shutStart h.modFx
  · exact h.modFx
  · exact h.modFx.msixFlush
  · exact .ite h.sriovWr h
  · exact .ite h.modFx h
  · exact .ite h.modFx h
  · exact .ite h.modFx h
  · exact h.modFx

protected theorem State.Canon.fnCfg {v n r w} (h : s.Canon) : (fnCfg s v n r w).Canon := by
  unfold fnCfg
  refine .ite h.out (.ite h.inc.out ?_)
  split
  · exact h.out
  · exact h.fnCfgWr.out

protected theorem State.Canon.execFunctionLevelReset {n} (h : s.Canon) : Keeps (execFunctionLevelReset n s) :=
  .next h.fnCfg

protected theorem State.Canon.execBusMasterEnableClear {n} (h : s.Canon) : Keeps (execBusMasterEnableClear n s) :=
  .next h.fnCfg

protected theorem State.Canon.execVfEnableClear (h : s.Canon) : Keeps (execVfEnableClear s) := .next h.fnCfg

protected theorem State.Canon.execD3hotEnter {n} (h : s.Canon) : Keeps (execD3hotEnter n s) := .next h.fnCfg

protected theorem State.Canon.execD0Return {n} (h : s.Canon) : Keeps (execD0Return n s) := .next h.fnCfg

protected theorem State.Canon.busShut {v} (h : s.Canon) : (busShut s v).Canon := h.foldl fun _ _ h => h.shutStart

protected theorem State.Canon.vppbDisable {v k} (h : s.Canon) : (vppbDisable s v k).Canon := by
  unfold vppbDisable
  refine .ite h.modVx.busShut ?_
  split
  · exact h.modVx.unbindGo
  · exact h.modVx

protected theorem State.Canon.execVppbLinkDisable {v k} (h : s.Canon) : Keeps (execVppbLinkDisable v k s) :=
  .next h.vppbDisable

protected theorem State.Canon.execSecondaryBusReset {v link} (h : s.Canon) : Keeps (execSecondaryBusReset v link s) :=
  .next (.ite h (.ite h.vppbDisable h.modVx.busShut))

protected theorem State.Canon.wrFnCfg {n w} (h : s.Canon) : (wrFnCfg n w s).Canon :=
  .ite h.writeReg.fnPass (.ite h.refuse (.ite h.writeReg.shutStart h.writeReg.fnPass))

protected theorem State.Canon.execFnCfgWrite {mid n v} (h : s.Canon) : Keeps (execFnCfgWrite mid n v s) :=
  .next h.wrFnCfg

protected theorem State.Canon.wrHepVcs {v w} (h : s.Canon) : (wrHepVcs v w s).Canon :=
  .ite h.writeReg (.ite h.writeReg.modVx.syncFns (h.writeReg.modVx.foldl fun _ _ h => h.shutStart))

protected theorem State.Canon.wrHepPf {w} (h : s.Canon) : (wrHepPf w s).Canon := h.writeReg.syncFns

protected theorem State.Canon.wrFnWin {n w} (h : s.Canon) : (wrFnWin n w s).Canon := .ite h.writeReg h.refuse

protected theorem State.Canon.mapQueue {n q ch} (h : s.Canon) : (mapQueue s n q ch).Canon := by
  unfold mapQueue
  extract_lets s1
  have h1 : s1.Canon := by
    dsimp only [s1]
    split
    · exact h.put
    · exact h
  split
  · exact h1.modFx
  · exact h1.put.put.put.modFx

protected theorem State.Canon.qmapCmd (h : s.Canon) : (qmapCmd s).Canon := by
  unfold qmapCmd
  refine .ite h.put (.ite ?_ (.ite h.put (.ite h.mapQueue.put (.ite h.put h.mapQueue.put))))
  extract_lets
  split <;> exact h.put.put.put.put

protected theorem State.Canon.wrQmapCmd {w} (h : s.Canon) : (wrQmapCmd w s).Canon :=
  .ite h.writeReg.qmapCmd h.writeReg

protected theorem State.Canon.execQmapRead {mid n q} (h : s.Canon) : Keeps (execQmapRead mid n q s) :=
  .next h.wrQmapCmd

protected theorem State.Canon.execQmapWrite {mid n q} (h : s.Canon) : Keeps (execQmapWrite mid n q s) :=
  .next h.wrQmapCmd

protected theorem State.Canon.freezeEnd {n result} (h : s.Canon) : (freezeEnd s n result).Canon :=
  h.modFx.syncFn.migEnd

protected theorem State.Canon.freeze {n} (h : s.Canon) : (freeze s n).Canon := by
  unfold freeze
  refine .ite h.migEnd (.ite (h.modFx.put.foldl fun _ _ h => h.pauseBit) ?_)
  exact .freezeEnd (h.modFx.put.foldl fun _ _ h => h.pauseBit)

protected theorem State.Canon.execFreezeComplete {n} (h : s.Canon) : Keeps (execFreezeComplete n s) :=
  .next (.ite h.freezeEnd h)

protected theorem State.Canon.execFreezeTimeout {n} (h : s.Canon) : Keeps (execFreezeTimeout n s) :=
  .next (.ite h (.ite (.ite h h.freezeEnd) h.reclaim.freezeEnd))

protected theorem State.Canon.savePiece {n base b r} (h : s.Canon) : (savePiece n base b s r).Canon := h.present

protected theorem State.Canon.recPut {n a b} (h : s.Canon) : (recPut s n a b).Canon :=
  .ite h.spdPut (.ite (h.dramWr.foldl fun _ _ h => h.setPoison) (h.foldl fun _ _ h => h.savePiece))

protected theorem State.Canon.save {n} (h : s.Canon) : (save s n).Canon :=
  .ite h.migEnd (.ite h.migEnd (.ite h.migEnd h.recPut.migEnd))

protected theorem State.Canon.loadQueue {n rec q} (h : s.Canon) : (loadQueue n rec s q).Canon := by
  unfold loadQueue
  split
  · exact h
  · exact .modFx (.ite h.put.put.wr.put.put.put.put.modHc h.put.put.wr.put.put.put.put.modHc.setCh)

protected theorem State.Canon.restore {n ext} (h : s.Canon) : (restore s n ext).Canon := by
  unfold restore
  refine .ite h.migEnd (.ite h.migEnd ?_)
  exact .ite h.migEnd (.ite h.migEnd (.migEnd (.syncFn (h.put.modFx.foldl fun _ _ h => h.loadQueue))))

protected theorem State.Canon.dropLostReads {n y} (h : s.Canon) : (dropLostReads n s y).Canon :=
  h.foldl fun _ _ h => h.hopAnswer

protected theorem State.Canon.unfreeze {n} (h : s.Canon) : (unfreeze s n).Canon := by
  unfold unfreeze
  refine .ite h.migEnd ?_
  exact .migEnd (.msixFlush (.fnPass (h.modFx.foldl fun _ _ h => h.dropLostReads.pauseBit)))

protected theorem State.Canon.migCmd {ext} (h : s.Canon) : (migCmd s ext).Canon :=
  .ite h (.ite h.migEnd (.ite h.freeze (.ite h.save (.ite h.restore h.unfreeze))))

protected theorem State.Canon.wrMigCmd {ext w} (h : s.Canon) : (wrMigCmd ext w s).Canon :=
  .ite h.refuse (.ite h.writeReg.migCmd h.writeReg)

protected theorem State.Canon.execFreeze {mid n} (h : s.Canon) : Keeps (execFreeze mid n s) := .next h.wrMigCmd

protected theorem State.Canon.execSave {mid n} (h : s.Canon) : Keeps (execSave mid n s) := .next h.wrMigCmd

protected theorem State.Canon.execRestore {mid n ext} (h : s.Canon) : Keeps (execRestore mid n ext s) :=
  .next h.wrMigCmd

protected theorem State.Canon.execUnfreeze {mid n} (h : s.Canon) : Keeps (execUnfreeze mid n s) := .next h.wrMigCmd

protected theorem State.Canon.contain {v k reason} (h : s.Canon) : (contain s v k reason).Canon := by
  unfold contain
  refine .ite h ?_
  extract_lets
  split
  · exact h.modVx.bump
  · exact h.modVx.bump.linkDown.modPx

protected theorem State.Canon.execDpcTrigger {v k sw} (h : s.Canon) : Keeps (execDpcTrigger v k sw s) :=
  .next (.ite (.ite h h.contain) (.ite h.contain h))

protected theorem State.Canon.dpcLift {v k x} (h : s.Canon) : (dpcLift v k s x).Canon :=
  .ite h (.ite h.modPx.put h.modPx)

protected theorem State.Canon.dpcClear {v k} (h : s.Canon) : (dpcClear s v k).Canon :=
  .ite h (h.modVx.foldl fun _ _ h => h.dpcLift)

protected theorem State.Canon.execDpcClear {v k} (h : s.Canon) : Keeps (execDpcClear v k s) := .next h.dpcClear

/-! ### Sys2Proof/Machine/PortDown -/

protected theorem State.Canon.uncommit {v} (h : s.Canon) : (uncommit s v).Canon :=
  h.foldl fun _ _ h => .ite h h.tblPut

protected theorem State.Canon.hotReset {p} (h : s.Canon) : (hotReset s p).Canon := .ite h.linkDown.modPx h

protected theorem State.Canon.ldReset {n} (h : s.Canon) : (ldReset s n).Canon := h.modFx

protected theorem State.Canon.vcsResetDo {v} (h : s.Canon) : (vcsResetDo s v).Canon := by
  unfold vcsResetDo
  extract_lets _ _ _ s1
  have h1 : s1.Canon := .foldl (.uncommit (.modRte h.setBit rfl)) fun _ _ h => h.shutStart
  exact .foldl (h1.foldl fun _ _ h => h.ldReset) fun _ _ h => h.hotReset

protected theorem State.Canon.vcsReset {v} (h : s.Canon) : (vcsReset s v).Canon := .ite h h.vcsResetDo

protected theorem State.Canon.dropBinds {p} (h : s.Canon) : (dropBinds s p).Canon :=
  h.foldl fun _ _ h => h.bindDrop.bindEnd

protected theorem State.Canon.surpriseDown {p} (h : s.Canon) : (surpriseDown s p).Canon := by
  unfold surpriseDown
  split
  · exact h
  · exact .ite h h.modVx.raise

protected theorem State.Canon.upstreamDown {p} (h : s.Canon) : (upstreamDown s p).Canon := by
  unfold upstreamDown
  split
  · exact h.autoRemove.vcsReset
  · exact h

protected theorem State.Canon.dsaCut {p} (h : s.Canon) : (dsaCut s p).Canon := .ite h.put.put.put h

protected theorem State.Canon.execPortDown {p} (h : s.Canon) : Keeps (execPortDown p s) :=
  .next (.ite h h.modMill.dsaCut.flushPort.dropBinds.surpriseDown.modPx.upstreamDown)

/-! ### Sys2Proof/Machine/Millwright -/

protected theorem State.Canon.modMgt {f} (h : s.Canon) : (s.modMgt f).Canon := h.frame rfl

protected theorem State.Canon.l1Drop {k} (h : s.Canon) : (l1Drop s k).Canon := h.modMgt

protected theorem State.Canon.coreStart {k} (h : s.Canon) : (coreStart s k).Canon := h.setBit.modMgt.out

protected theorem State.Canon.coresRelease (h : s.Canon) : (coresRelease s).Canon :=
  h.modMgt.foldl fun _ _ h => h.coreStart

protected theorem State.Canon.swiSet {k} (h : s.Canon) : (swiSet s k).Canon := h.setBit.out

protected theorem State.Canon.coreFail {k} (h : s.Canon) : (coreFail s k).Canon := by
  unfold coreFail
  refine .ite h ?_
  extract_lets _ _ s1
  have h1 : s1.Canon := .ite h.setBit.clrBit.raise.l1Drop.modMgt.put h.setBit.clrBit.raise.l1Drop.modMgt
  exact h1.foldl fun _ _ h => h.swiSet

protected theorem State.Canon.execCoreFailed {k} (h : s.Canon) : Keeps (execCoreFailed k s) := .next h.coreFail

protected theorem State.Canon.coreRestart {k} (h : s.Canon) : (coreRestart s k).Canon :=
  .ite h h.l1Drop.modMgt.coreStart

protected theorem State.Canon.wrCoreCtrl {w} (h : s.Canon) : (wrCoreCtrl w s).Canon :=
  .foldl (h.writeReg.foldl fun _ _ h => h.coreFail) fun _ _ h => h.coreRestart

protected theorem State.Canon.execCoreFail {mid k} (h : s.Canon) : Keeps (execCoreFail mid k s) :=
  .next h.wrCoreCtrl

protected theorem State.Canon.execCoreRestart {mid k} (h : s.Canon) : Keeps (execCoreRestart mid k s) :=
  .next h.wrCoreCtrl

protected theorem State.Canon.execTimerInterrupt {k} (h : s.Canon) : Keeps (execTimerInterrupt k s) :=
  .next (.ite h.out h)

protected theorem State.Canon.wrSwiSet {w} (h : s.Canon) : (wrSwiSet w s).Canon :=
  h.writeReg.foldl fun _ _ h => h.swiSet

protected theorem State.Canon.execSoftwareInterrupt {mid set} (h : s.Canon) :
    Keeps (execSoftwareInterrupt mid set s) :=
  .next h.wrSwiSet

protected theorem State.Canon.nmiAll (h : s.Canon) : (nmiAll s).Canon := h.foldl fun _ _ h => h.out

protected theorem State.Canon.wrWdog {k w} (h : s.Canon) : (wrWdog k w s).Canon := .ite h.writeReg.modMgt h.writeReg

protected theorem State.Canon.execWatchdogKick {mid k} (h : s.Canon) : Keeps (execWatchdogKick mid k s) :=
  .next h.wrWdog

protected theorem State.Canon.execWatchdogExpire {k} (h : s.Canon) : Keeps (execWatchdogExpire k s) :=
  .next (.ite h.raise.modMgt h)

protected theorem State.Canon.execReadySet {mid} (h : s.Canon) : Keeps (execReadySet mid s) := .next h.writeReg

protected theorem State.Canon.rxPlace {t src d} (h : s.Canon) : (rxPlace s t src d).Canon :=
  .ite h (.ite h.inc h.spdPut.spdPut.modMgt)

protected theorem State.Canon.execTransportReceive {x} (h : s.Canon) : Keeps (execTransportReceive x s) := by
  unfold execTransportReceive
  refine .next ?_
  split
  · exact .ite h.rxPlace h.out
  · split
    · exact h
    · exact .ite h.modMgt.rxPlace h.modMgt

protected theorem State.Canon.txSend {t dst d} (h : s.Canon) : (txSend s t dst d).Canon :=
  .ite h.present (.ite h.present (.ite h.modMgt.out h.out))

protected theorem State.Canon.execTransportSend {t} (h : s.Canon) : Keeps (execTransportSend t s) :=
  .next (.ite h (.ite h h.txSend.spdPut.modMgt))

protected theorem State.Canon.execEthernetFrame {f fcs} (h : s.Canon) : Keeps (execEthernetFrame f fcs s) := by
  unfold execEthernetFrame
  refine .next (.ite h (.ite h.rxPlace.modMgt (.ite h.rxPlace.modMgt.out ?_)))
  split
  · exact h.rxPlace.modMgt.modMgt
  · exact h.rxPlace.modMgt

protected theorem State.Canon.dsaPut {q} (h : s.Canon) : (dsaPut s q).Canon := h.put.put.put.put.put.put.put

protected theorem State.Canon.dsaResult {r} (h : s.Canon) : (dsaResult s r).Canon := h.put.put.put

protected theorem State.Canon.dsaIssue (h : s.Canon) : (dsaIssue s).Canon := .ite h.put.out h.dsaResult

protected theorem State.Canon.wrDsaCmd {w} (h : s.Canon) : (wrDsaCmd w s).Canon :=
  .ite h.refuse (.ite h.writeReg.dsaIssue h.writeReg)

protected theorem State.Canon.execDsaConfigRead {mid} (h : s.Canon) : Keeps (execDsaConfigRead mid s) :=
  .next h.wrDsaCmd

protected theorem State.Canon.execDsaConfigWrite {mid} (h : s.Canon) : Keeps (execDsaConfigWrite mid s) :=
  .next h.wrDsaCmd

protected theorem State.Canon.execDsaMemoryRead {mid} (h : s.Canon) : Keeps (execDsaMemoryRead mid s) :=
  .next h.wrDsaCmd

protected theorem State.Canon.execDsaMemoryWrite {mid} (h : s.Canon) : Keeps (execDsaMemoryWrite mid s) :=
  .next h.wrDsaCmd

/-! ### Sys2Proof/Machine/Brake -/

protected theorem State.Canon.modBrk {f} (h : s.Canon) : (s.modBrk f).Canon := h.frame rfl

protected theorem State.Canon.setPwr {k : PwrSt} (h : s.Canon) : ({ s with pwr := k } : State).Canon := h.frame rfl

protected theorem State.Canon.chipRequest {cause src} (h : s.Canon) : (chipRequest s cause src).Canon :=
  .ite h.put h.put.inc.setPwr

protected theorem State.Canon.histShow (h : s.Canon) : (histShow s).Canon := h.put.put.foldl fun _ _ h => h.wr

protected theorem State.Canon.histPut {r} (h : s.Canon) : (histPut s r).Canon :=
  .ite h.modBrk.histShow h.inc.modBrk.raise

protected theorem State.Canon.srcSet {f n} (h : s.Canon) : (srcSet s f n).Canon := h.setBit

protected theorem State.Canon.srcClr {f n} (h : s.Canon) : (srcClr s f n).Canon := h.clrBit

protected theorem State.Canon.pinAssert {k src} (h : s.Canon) : (pinAssert s k src).Canon :=
  .ite h.modBrk h.setBit.put.modBrk

protected theorem State.Canon.hostSignal {unc} (h : s.Canon) : (hostSignal s unc).Canon :=
  h.foldl fun _ _ h => .ite h (.ite h.modUx.raise h.modUx.raise)

protected theorem State.Canon.blockMark {k} (h : s.Canon) : (blockMark s k).Canon := h.modBrk

protected theorem State.Canon.blockGroup {g} (h : s.Canon) : (blockGroup s g).Canon :=
  h.clearRegs.blockMark.foldl fun _ _ h => h.portClear.setWait.blockMark

protected theorem State.Canon.blockReset {n} (h : s.Canon) : (blockReset s n).Canon := by
  unfold blockReset
  split
  · exact h
  · exact .ite h.blockGroup (.ite h.blockMark.linkDown h.blockMark.coreRestart)

protected theorem State.Canon.react {e severe set pin wincnt} (h : s.Canon) :
    (react s e severe set pin wincnt).Canon := by
  unfold react
  extract_lets n acts r s1 s2 s3 s4 s5 _ s6 s7 s8 s9 s10 s11
  have h2 : s2.Canon := .ite (.srcSet (.ite h.bump h)) (.ite h.bump h)
  have h3 : s3.Canon := .ite h2.nmiAll h2
  have h4 : s4.Canon := .ite h3.pinAssert h3
  have h5 : s5.Canon := .ite h4.pinAssert h4
  have h6 : s6.Canon := .ite (h5.frame rfl) h5
  have h7 : s7.Canon := .ite (h6.foldl fun _ _ h => h.wr) h6
  have h8 : s8.Canon := .ite h7.histPut h7
  have h9 : s9.Canon := .ite h8.hostSignal h8
  have h10 : s10.Canon := .ite h9.hostSignal h9
  have h11 : s11.Canon := .ite h10.blockReset h10
  exact .ite h11.inc.put.chipRequest h11

protected theorem State.Canon.windowClose {n} (h : s.Canon) : (windowClose s n).Canon := h.put.modBrk

protected theorem State.Canon.windowCount {n} (h : s.Canon) : (windowCount s n).Canon :=
  .ite h (.ite (.srcSet (.ite h.inc h.put.modBrk)) (.ite h.inc h.put.modBrk))

protected theorem State.Canon.reactionLost {n} (h : s.Canon) : (reactionLost s n).Canon := .ite h h.put.modBrk.raise

protected theorem State.Canon.brkCheck {n x} (h : s.Canon) : (brkCheck s n x).Canon := by
  unfold brkCheck
  split
  · exact h
  · exact h.reactionLost
  · exact h.windowClose
  · exact .ite h.modBrk.histShow h

protected theorem State.Canon.brkAccept {e err} (h : s.Canon) : (brkAccept s e err).Canon :=
  .ite h.brkCheck.inc.put.srcSet.react h.brkCheck.inc.put.srcSet.windowCount.react

protected theorem State.Canon.linkErrLog {p bit unc} (h : s.Canon) : (linkErrLog s p bit unc).Canon := by
  unfold linkErrLog
  refine .ite ?_ ?_
  · split
    · exact h.modUx.raise
    · exact h
  · split
    · exact .ite h h.modVx.raise
    · exact h

protected theorem State.Canon.unitEvent {x} (h : s.Canon) : (unitEvent s x).Canon := by
  unfold unitEvent
  split
  · exact .ite h.raise.linkErrLog h
  · exact .ite h.raise h
  · exact h.raise
  · exact h.raise

protected theorem State.Canon.execBrakeEvent {u e} (h : s.Canon) : Keeps (execBrakeEvent u e s) := by
  unfold execBrakeEvent
  refine .next ?_
  extract_lets s1
  have h1 : s1.Canon := by
    dsimp only [s1]
    split
    · exact h.unitEvent
    · exact h
  split
  · exact h1
  · exact h1.modBrk.brkAccept

protected theorem State.Canon.execBlockResetRelease {g} (h : s.Canon) : Keeps (execBlockResetRelease g s) :=
  .next (h.foldl fun _ _ h => .ite (.ite h.setWait.put h.setWait) h)

protected theorem State.Canon.execWindowClose {n} (h : s.Canon) : Keeps (execWindowClose n s) :=
  .next (.ite h.windowClose h)

protected theorem State.Canon.wrSev {j w} (h : s.Canon) : (wrSev j w s).Canon :=
  h.writeReg.foldl fun _ _ h => h.windowClose

protected theorem State.Canon.execSevereClear {mid n} (h : s.Canon) : Keeps (execSevereClear mid n s) :=
  .next h.wrSev

protected theorem State.Canon.wrReact {n w} (h : s.Canon) : (wrReact n w s).Canon :=
  .ite h.writeReg (.ite h.refuse (.ite h.writeReg.modBrk h.writeReg.modBrk.windowClose.srcClr))

protected theorem State.Canon.execReactionWrite {n v} (h : s.Canon) : Keeps (execReactionWrite n v s) :=
  .next h.wrReact

protected theorem State.Canon.execReactionRewrite {n} (h : s.Canon) : Keeps (execReactionRewrite n s) :=
  .next (.ite h.wr.modBrk.windowClose.srcClr h)

protected theorem State.Canon.pinRelease {k} (h : s.Canon) : (pinRelease s k).Canon := h.clrBit.modBrk

protected theorem State.Canon.wrPin {w} (h : s.Canon) : (wrPin w s).Canon :=
  h.foldl fun _ _ h => .ite (.ite h h.modBrk) h.pinRelease

protected theorem State.Canon.execPinRelease {mid k} (h : s.Canon) : Keeps (execPinRelease mid k s) := .next h.wrPin

protected theorem State.Canon.execPinReleaseDeferred {k} (h : s.Canon) : Keeps (execPinReleaseDeferred k s) :=
  .next (.ite h.pinRelease h)

protected theorem State.Canon.histDrop {n} (h : s.Canon) : (histDrop s n).Canon := by
  unfold histDrop
  exact h.put.modBrk.histShow

protected theorem State.Canon.wrHistCtrl {w} (h : s.Canon) : (wrHistCtrl w s).Canon :=
  .ite h.histDrop (.ite h.histDrop h)

protected theorem State.Canon.execHistoryPop {mid} (h : s.Canon) : Keeps (execHistoryPop mid s) := .next h.wrHistCtrl

protected theorem State.Canon.execHistoryClear {mid} (h : s.Canon) : Keeps (execHistoryClear mid s) :=
  .next h.wrHistCtrl

protected theorem State.Canon.wrInjCtrl {w} (h : s.Canon) : (wrInjCtrl w s).Canon := .ite h.refuse h.writeReg

protected theorem State.Canon.execInjectionArm {mid target index ue m bit} (h : s.Canon) :
    Keeps (execInjectionArm mid target index ue m bit s) :=
  .next h.wrInjCtrl

protected theorem State.Canon.execInjectionDisarm {mid} (h : s.Canon) : Keeps (execInjectionDisarm mid s) :=
  .next h.wrInjCtrl

protected theorem State.Canon.wrSwRaise {w} (h : s.Canon) : (wrSwRaise w s).Canon := .ite h.writeReg.raise h.writeReg

protected theorem State.Canon.execSoftwareRaise {mid i} (h : s.Canon) : Keeps (execSoftwareRaise mid i s) :=
  .next h.wrSwRaise

/-! ### Sys2Proof/Machine/Sluice -/

protected theorem State.Canon.modSx {n f} (h : s.Canon) : (s.modSx n f).Canon := h.frame rfl

protected theorem State.Canon.slcEvent {n f} (h : s.Canon) : (slcEvent s n f).Canon := h.put.raise

protected theorem State.Canon.feedsOff {n st} (h : s.Canon) : (feedsOff s n st).Canon := h.put.put.modSx

protected theorem State.Canon.slotCheck {n} (h : s.Canon) : (slotCheck s n).Canon := .ite h h.feedsOff

protected theorem State.Canon.slcLatch {n cause ev} (h : s.Canon) : (slcLatch s n cause ev).Canon := by
  unfold slcLatch
  extract_lets _ _ s1
  have h1 : s1.Canon := .ite h.feedsOff.put h.feedsOff.put.put.put.inc.modSx
  exact h1.slcEvent.foldl fun _ _ h => h.modVx

protected theorem State.Canon.feedRamp {n x} (h : s.Canon) : (feedRamp s n x).Canon := h.put.put.modSx

protected theorem State.Canon.execSlotPowerUp {n} (h : s.Canon) : Keeps (execSlotPowerUp n s) := by
  unfold execSlotPowerUp
  refine .next (.ite h (.ite ?_ (.ite h.put.put h)))
  split
  · exact h.feedRamp
  · exact h.put

protected theorem State.Canon.execRampFail {n} (h : s.Canon) : Keeps (execRampFail n s) := .next (.ite h.slcLatch h)

protected theorem State.Canon.execCurrentLimit {n on} (h : s.Canon) : Keeps (execCurrentLimit n on s) :=
  .next (.ite h.modSx h)

protected theorem State.Canon.execSlowTrip {n} (h : s.Canon) : Keeps (execSlowTrip n s) := .next (.ite h.slcLatch h)

protected theorem State.Canon.execFastTrip {n} (h : s.Canon) : Keeps (execFastTrip n s) := .next (.ite h.slcLatch h)

protected theorem State.Canon.execCoolDownExpire {n} (h : s.Canon) : Keeps (execCoolDownExpire n s) := .next h.put

protected theorem State.Canon.presence {n on} (h : s.Canon) : (presence s n on).Canon :=
  .ite h (.slotCheck (h.putB.slcEvent.foldl fun _ _ h => h.modVx))

protected theorem State.Canon.execPresenceInsert {n} (h : s.Canon) : Keeps (execPresenceInsert n s) :=
  .next h.presence

protected theorem State.Canon.execPresenceRemove {n} (h : s.Canon) : Keeps (execPresenceRemove n s) :=
  .next h.presence

protected theorem State.Canon.execReverseCurrent {n} (h : s.Canon) : Keeps (execReverseCurrent n s) :=
  .next (.ite h.inc.modSx.slcEvent h)

protected theorem State.Canon.execReverseRecover {n} (h : s.Canon) : Keeps (execReverseRecover n s) :=
  .next (.ite h.modSx h)

protected theorem State.Canon.decide5 {n y} (h : s.Canon) : (decide5 s n y).Canon := h.put.modSx

protected theorem State.Canon.busLost {n x high} (h : s.Canon) : (busLost s n x high).Canon := by
  unfold busLost
  refine .ite h (.ite h.put (.ite ?_ ?_))
  · refine .ite (.modSx (.ite h.put.slcEvent h.put.slcEvent.inc)) ?_
    exact .feedsOff (.ite h.put.slcEvent h.put.slcEvent.inc)
  · refine .ite (.decide5 (.ite h.put.slcEvent h.put.slcEvent.inc))
        (.ite (.feedsOff (.ite h.put.slcEvent h.put.slcEvent.inc)) ?_)
    exact .modSx (.ite h.put.slcEvent h.put.slcEvent.inc)

protected theorem State.Canon.execBusUndervoltage {n x} (h : s.Canon) : Keeps (execBusUndervoltage n x s) :=
  .next h.busLost

protected theorem State.Canon.execBusOvervoltage {n x} (h : s.Canon) : Keeps (execBusOvervoltage n x s) :=
  .next h.busLost

protected theorem State.Canon.execUvHoldExpire {n below} (h : s.Canon) : Keeps (execUvHoldExpire n below s) :=
  .next (.ite h (.ite h.feedsOff h.modSx))

protected theorem State.Canon.moveCheck {n} (h : s.Canon) : (moveCheck s n).Canon := by
  unfold moveCheck
  split
  · exact h.decide5
  · exact h

protected theorem State.Canon.execBusGood {n x} (h : s.Canon) : Keeps (execBusGood n x s) := by
  unfold execBusGood
  refine .next (.ite h (.ite ?_ (.moveCheck (.ite h.put.modSx h.put))))
  split
  · exact .feedRamp (.ite h.put.modSx h.put)
  · exact .ite h.put.modSx h.put

protected theorem State.Canon.execSwitchover {n} (h : s.Canon) : Keeps (execSwitchover n s) :=
  .next (.ite h.moveCheck.modSx h.moveCheck)

protected theorem State.Canon.execDeadTimeExpire {n low held} (h : s.Canon) :
    Keeps (execDeadTimeExpire n low held s) := by
  unfold execDeadTimeExpire
  refine .next ?_
  split
  · refine .ite ?_ (.ite h.feedRamp (.ite h.feedRamp.inc.slcEvent.put h.feedRamp.inc.slcEvent.put.putB))
    split
    · exact h.put.feedRamp
    · exact h.feedsOff
  · exact h

protected theorem State.Canon.latchWrite {n en} (h : s.Canon) : (latchWrite s n en).Canon :=
  .ite h (.ite h.put (.ite h.put (.ite h.put.put.put h)))

protected theorem State.Canon.wrSlcCtrl {n w} (h : s.Canon) : (wrSlcCtrl n w s).Canon :=
  h.writeReg.latchWrite.slotCheck.moveCheck

protected theorem State.Canon.execSlotEnable {mid n} (h : s.Canon) : Keeps (execSlotEnable mid n s) :=
  .next h.wrSlcCtrl

protected theorem State.Canon.execSlotDisable {mid n} (h : s.Canon) : Keeps (execSlotDisable mid n s) :=
  .next h.wrSlcCtrl

protected theorem State.Canon.execForceWrite {mid n f} (h : s.Canon) : Keeps (execForceWrite mid n f s) :=
  .next h.wrSlcCtrl

protected theorem State.Canon.slotPower {v k on} (h : s.Canon) : (slotPower s v k on).Canon := by
  unfold slotPower
  extract_lets
  split
  · exact h.modVx
  · exact .ite h.modVx.wrSlcCtrl h.modVx

protected theorem State.Canon.execSlotPowerControl {v k on} (h : s.Canon) : Keeps (execSlotPowerControl v k on s) :=
  .next h.slotPower

protected theorem State.Canon.execPassTransistorShort {n x} (h : s.Canon) : Keeps (execPassTransistorShort n x s) :=
  .next (.ite h.slcLatch h)

protected theorem State.Canon.slcValid {n} (h : s.Canon) : (slcValid s n).Canon := .ite h.putB.putB.put h.putB.putB

protected theorem State.Canon.wrSlcLim {n i w} (h : s.Canon) : (wrSlcLim n i w s).Canon :=
  .ite h.refuse (.ite h.writeReg.slcValid (.ite (.ite h.writeReg h.writeReg.feedsOff) h.writeReg))

protected theorem State.Canon.execLimitWrite {n i v} (h : s.Canon) : Keeps (execLimitWrite n i v s) :=
  .next h.wrSlcLim

protected theorem State.Canon.execMeasurementRefresh {n vout busA busB iout} (h : s.Canon) :
    Keeps (execMeasurementRefresh n vout busA busB iout s) :=
  .next h.put.put.put.put

protected theorem State.Canon.slcAllOff (h : s.Canon) : (slcAllOff s).Canon := h.foldl fun _ _ h => .ite h h.feedsOff

/-! ### Sys2Proof/Machine/ResetCore -/

protected theorem State.Canon.unitsReset (h : s.Canon) : (unitsReset s).Canon := by
  unfold unitsReset
  refine .histShow (.put ?_)
  exact ⟨wf_tdrop (fun a => !keptReg a) h.regs, rfl, h.flash, rfl, rfl⟩

protected theorem State.Canon.unitsHold (h : s.Canon) : (unitsHold s).Canon := h.unitsReset

protected theorem State.Canon.bankTestFail {b} (h : s.Canon) : (bankTestFail s b).Canon := h.setBit.put.put.raise

protected theorem State.Canon.sliceAssign {bad} (h : s.Canon) : (sliceAssign s bad).Canon := by
  unfold sliceAssign
  extract_lets _ s1
  have h1 : s1.Canon := by
    refine .foldl h fun _ _ h => ?_
    split
    · exact .ite h.put.putLmap.put h.put
    · exact h.put.raise
  exact h1

protected theorem State.Canon.selfTests {t} (h : s.Canon) : (selfTests s t).Canon :=
  .foldl (.ite (h.foldl fun _ _ h => h.bankTestFail) (.sliceAssign (h.foldl fun _ _ h => h.bankTestFail)))
      fun _ _ h => h.put.raise

protected theorem State.Canon.debugRegion (h : s.Canon) : (debugRegion s).Canon := h.wr.wr

protected theorem State.Canon.releaseUnits {t} (h : s.Canon) : (releaseUnits s t).Canon :=
  (.selfTests (h.put.put.debugRegion.put.frame rfl))

protected theorem State.Canon.tryRelease {t} (h : s.Canon) : (tryRelease s t).Canon := .ite h h.releaseUnits.raise

/-! ### Sys2Proof/Machine/Alarm -/

protected theorem State.Canon.modGov {f} (h : s.Canon) : (s.modGov f).Canon := h.frame rfl

protected theorem State.Canon.tokenDrop (h : s.Canon) : (tokenDrop s).Canon := h.put.put.put.put.put

protected theorem State.Canon.govResult {req code} (h : s.Canon) : (govResult s req code).Canon :=
  .ite h.put.put h.out

protected theorem State.Canon.fuseShow (h : s.Canon) : (fuseShow s).Canon := h.put.put.putB

protected theorem State.Canon.setKey {i f} (h : s.Canon) : (setKey s i f).Canon := h.frame rfl

protected theorem State.Canon.burnAbort {code} (h : s.Canon) : (burnAbort s code).Canon := by
  unfold burnAbort
  split
  · exact h
  · refine .govResult (.fuseShow (.ite ?_ (.ite ?_ ?_)))
    · exact h.modGov.setKey.bump
    · exact h.modGov.setKey
    · exact h.frame rfl

protected theorem State.Canon.keysErase (h : s.Canon) : (keysErase s).Canon := h.modGov

protected theorem State.Canon.alarmTo {level cause} (h : s.Canon) : (alarmTo s level cause).Canon := by
  unfold alarmTo
  extract_lets old first s1 s2 s3 s4 s5
  have h2 : s2.Canon := .ite h.burnAbort.setBit.put h.burnAbort.setBit
  have h4 : s4.Canon := .ite h2.put.put.raise.tokenDrop h2.put.put
  have h5 : s5.Canon := .ite h4.keysErase h4
  exact .ite h2 (.ite h5.unitsHold h5)

protected theorem State.Canon.tamperToPolicy (h : s.Canon) : (tamperToPolicy s).Canon := .ite h h.alarmTo

protected theorem State.Canon.execTamperInput {i low} (h : s.Canon) : Keeps (execTamperInput i low s) :=
  .next (.ite h.setBit.setBit.raise.alarmTo h.clrBit)

protected theorem State.Canon.glitch {cause} (h : s.Canon) : (glitch s cause).Canon := h.modGov.alarmTo

protected theorem State.Canon.execVoltageGlitch (h : s.Canon) : Keeps (execVoltageGlitch s) := .next h.raise.glitch

protected theorem State.Canon.execClockGlitch (h : s.Canon) : Keeps (execClockGlitch s) := .next h.raise.glitch

protected theorem State.Canon.newChallenge (h : s.Canon) : (newChallenge s).Canon := h.bump.foldl fun _ _ h => h.put

protected theorem State.Canon.execLockstepMismatch (h : s.Canon) : Keeps (execLockstepMismatch s) := by
  unfold execLockstepMismatch
  refine .next ?_
  extract_lets _ _ _ s1
  have h1 : s1.Canon := h.burnAbort.modGov.raise.tokenDrop.newChallenge
  exact .alarmTo (.ite h1.put h1.inc)

/-! ### Sys2Proof/Machine/Governor -/

protected theorem State.Canon.cmdFail (h : s.Canon) : (cmdFail s).Canon := .ite h.inc.alarmTo h.inc

protected theorem State.Canon.tokenIssue {perm life} (h : s.Canon) : (tokenIssue s perm life).Canon :=
  h.put.putB.putB.put.putB.modGov.raise

protected theorem State.Canon.cmdRun {req c} (h : s.Canon) : (cmdRun s req c).Canon :=
  .ite (.ite h.modGov.put.put h.modGov) (.govResult (.ite h.put.put h.tokenIssue))

protected theorem State.Canon.signedCmd {path} (h : s.Canon) : (signedCmd s path).Canon :=
  .ite h.govResult (.ite h.newChallenge.cmdRun h.newChallenge.cmdFail.govResult)

protected theorem State.Canon.spdmRun (h : s.Canon) : (spdmRun s).Canon :=
  .ite h.govResult (.ite h.govResult (.ite h.bump.govResult h.bump.spdPut.put.modGov.govResult))

protected theorem State.Canon.wrReqCmd {w} (h : s.Canon) : (wrReqCmd w s).Canon := by
  unfold wrReqCmd
  refine .ite h.refuse (.ite h.writeReg
      (.ite (.ite h.writeReg.signedCmd h.writeReg.newChallenge.cmdFail.govResult) ?_))
  exact .ite h.writeReg.spdmRun h.writeReg

protected theorem State.Canon.cmdArrive {op path} (h : s.Canon) : (cmdArrive op path s).Canon := by
  unfold cmdArrive
  refine .ite h ?_
  split
  · exact h.wrReqCmd
  · exact .ite h.govResult h.signedCmd
  · exact .ite h (.ite h.signedCmd h.govResult)

protected theorem State.Canon.execProgramKeySet {path} (h : s.Canon) : Keeps (execProgramKeySet path s) :=
  .next h.cmdArrive

protected theorem State.Canon.execRevokeKeySet {path} (h : s.Canon) : Keeps (execRevokeKeySet path s) :=
  .next h.cmdArrive

protected theorem State.Canon.execProgramImageSeed {path} (h : s.Canon) : Keeps (execProgramImageSeed path s) :=
  .next h.cmdArrive

protected theorem State.Canon.execClearAlarm {path} (h : s.Canon) : Keeps (execClearAlarm path s) := .next h.cmdArrive

protected theorem State.Canon.execDebugToken {path} (h : s.Canon) : Keeps (execDebugToken path s) := .next h.cmdArrive

protected theorem State.Canon.execFuseBurnDone {ok} (h : s.Canon) : Keeps (execFuseBurnDone ok s) := by
  unfold execFuseBurnDone
  refine .next ?_
  split
  · exact h
  · refine .ite h.burnAbort (.govResult (.fuseShow (.ite ?_ (.ite ?_ (.ite (.bump ?_) ?_)))))
    · exact h.modGov.setKey
    · exact h.modGov.setKey
    · exact h.frame rfl
    · exact h.frame rfl

protected theorem State.Canon.execTokenExpire (h : s.Canon) : Keeps (execTokenExpire s) := .next (.ite h.tokenDrop h)

protected theorem State.Canon.execSpdmMessage {mid p len} (h : s.Canon) : Keeps (execSpdmMessage mid p len s) :=
  .next h.wrReqCmd

protected theorem State.Canon.wrKprog {w} (h : s.Canon) : (wrKprog w s).Canon := by
  unfold wrKprog
  refine .ite h.writeReg ?_
  exact .ite h.refuse (.ite h.writeReg.put (.ite h.writeReg.put.modGov h.writeReg.put.modGov))

protected theorem State.Canon.execKeyProgram {v} (h : s.Canon) : Keeps (execKeyProgram v s) := .next h.wrKprog

protected theorem State.Canon.keyProg {p dir sub stream kset key iv} (h : s.Canon) :
    (keyProg s p dir sub stream kset key iv).Canon :=
  .wrKprog (.wr (h.foldl fun _ _ h => h.wr))

protected theorem State.Canon.execKeyProg {p dir sub stream kset key iv} (h : s.Canon) :
    Keeps (execKeyProg p dir sub stream kset key iv s) :=
  .next (.ite h.keyProg h)

protected theorem State.Canon.execKSetGo {p dir sub stream kset} (h : s.Canon) :
    Keeps (execKSetGo p dir sub stream kset s) :=
  .next (.ite h.modGov h)

protected theorem State.Canon.execKSetStop {p dir sub stream kset} (h : s.Canon) :
    Keeps (execKSetStop p dir sub stream kset s) :=
  .next (.ite h.modGov h)

protected theorem State.Canon.execLimiterTick {want} (h : s.Canon) : Keeps (execLimiterTick want s) := by
  unfold execLimiterTick
  refine .next ?_
  extract_lets _ _ _ _ s1
  have h1 : s1.Canon := by
    refine .ite (.inc (.ite h.modGov.put.putB.inc h.modGov.put.putB)) ?_
    exact .ite h.modGov.put.putB.inc h.modGov.put.putB
  exact .ite h1.raise h1

protected theorem State.Canon.execThermalSample {t sensor} (h : s.Canon) : Keeps (execThermalSample t sensor s) := by
  unfold execThermalSample
  refine .next (.ite h.put.put.put.modGov
      (.ite h.put.put.put.put.unitsHold.modGov (.ite h.put.put.put.brkAccept.put.unitsHold.modGov ?_)))
  exact .ite h.put.put.put.put.raise (.ite h.put.put.put.put h.put.put.put)

protected theorem State.Canon.execThermalHoldEnd (h : s.Canon) : Keeps (execThermalHoldEnd s) :=
  .next (.ite h.put.modGov.chipRequest h)

/-! ### Sys2Proof/Machine/Pmc -/

protected theorem State.Canon.coreSample {n cs} (h : s.Canon) : (coreSample s n cs).Canon := h.smpPut

protected theorem State.Canon.overflow {cs n} (h : s.Canon) : (overflow cs s n).Canon :=
  .ite (.coreSample (.ite h.setBit.raise h)) (.ite h.setBit.raise h)

protected theorem State.Canon.tickOne {ev s0} {x : State × Nat × List Nat} {n} (h : x.1.Canon) :
    (tickOne ev s0 x n).1.Canon :=
  .ite_fst (.pair h) (.pair h.put.modPmc)

protected theorem State.Canon.tickIdle {ev} (h : s.Canon) : (tickIdle ev s).Canon := h.foldl fun _ _ h => h.modPmc

protected theorem State.Canon.execCounterTick {ev cs} (h : s.Canon) : Keeps (execCounterTick ev cs s) := by
  unfold execCounterTick
  have hx : (List.foldl (tickOne ev s) (s, 0, []) (List.range 1024)).1.Canon :=
    .foldl_fst (.pair h) fun _ _ h => h.tickOne
  exact .next (.ite h.tickIdle (.ite (hx.foldl fun _ _ h => h.overflow).put (hx.foldl fun _ _ h => h.overflow)))

protected theorem State.Canon.snapshot (h : s.Canon) : (snapshot s).Canon := .put (h.foldl fun _ _ h => h.put)

protected theorem State.Canon.wrPmcCtrl {w} (h : s.Canon) : (wrPmcCtrl w s).Canon := by
  unfold wrPmcCtrl
  refine .ite (.foldl (.ite h.writeReg.snapshot h.writeReg) fun _ _ h => h.put) ?_
  exact .ite h.writeReg.snapshot h.writeReg

protected theorem State.Canon.execSnapshot {mid} (h : s.Canon) : Keeps (execSnapshot mid s) := .next h.wrPmcCtrl

protected theorem State.Canon.execCounterClear {mid} (h : s.Canon) : Keeps (execCounterClear mid s) :=
  .next h.wrPmcCtrl

protected theorem State.Canon.wrSel {n w} (h : s.Canon) : (wrSel n w s).Canon := .ite h.writeReg h.refuse

protected theorem State.Canon.execSelectorWrite {mid n v} (h : s.Canon) : Keeps (execSelectorWrite mid n v s) :=
  .next h.wrSel

protected theorem State.Canon.execSampleTimeout {k} (h : s.Canon) : Keeps (execSampleTimeout k s) := .next h.tsEnd

protected theorem State.Canon.wrSmpCtrl {w} (h : s.Canon) : (wrSmpCtrl w s).Canon :=
  .ite h.writeReg.modPmc.smpShow (.ite h.writeReg.modPmc.smpShow h.writeReg)

protected theorem State.Canon.execSamplePop {mid} (h : s.Canon) : Keeps (execSamplePop mid s) := .next h.wrSmpCtrl

protected theorem State.Canon.execSampleClear {mid} (h : s.Canon) : Keeps (execSampleClear mid s) := .next h.wrSmpCtrl

/-! ### Sys2Proof/Machine/Fantail -/

protected theorem State.Canon.modFan {f} (h : s.Canon) : (s.modFan f).Canon := h.frame rfl

protected theorem State.Canon.scrubFound {w} (h : s.Canon) : (scrubFound s w).Canon := by
  unfold scrubFound
  split
  · exact h.bankFail
  · exact h.bankFail
  · exact h.entryUe
  · exact h.frame rfl
  · exact h.inc.raise.frame rfl
  · split
    · exact .ite h.oflDown h
    · exact h
  · exact h.engineFail
  · exact h.raise

protected theorem State.Canon.execSramScrubRead {w e last} (h : s.Canon) : Keeps (execSramScrubRead w e last s) := by
  unfold execSramScrubRead
  refine .next (.ite h (.ite (.ite h.modFan.inc h.modFan)
      (.ite (.scrubFound (.raise (.inc (.ite h.modFan.inc h.modFan)))) ?_)))
  exact .ite (.frame (.inc (.ite h.modFan.inc h.modFan)) rfl) (.ite h.modFan.inc h.modFan)

protected theorem State.Canon.execAdaptationVisit {t lane cdr more} (h : s.Canon) :
    Keeps (execAdaptationVisit t lane cdr more s) :=
  .next (.ite h h.modFan)

protected theorem State.Canon.execAdaptationDecide {t keep} (h : s.Canon) :
    Keeps (execAdaptationDecide t keep s) := by
  unfold execAdaptationDecide
  refine .next ?_
  split
  · exact h
  · exact .ite h.modFan.inc h.modFan.inc.modFan

protected theorem State.Canon.logShow (h : s.Canon) : (logShow s).Canon := h.put.put.put

protected theorem State.Canon.logPrepare {x} (h : s.Canon) : (logPrepare s x).Canon := by
  unfold logPrepare
  split
  · exact h.modFan
  · exact h

protected theorem State.Canon.execLogStart (h : s.Canon) : Keeps (execLogStart s) := by
  unfold execLogStart
  refine .next ?_
  extract_lets n s1 best s2
  have h2 : s2.Canon := h.put.modFan
  refine .ite h.put ?_
  generalize best = o
  split
  · exact h2.modFan.logPrepare.logShow
  · exact h2.modFan.logPrepare.logShow

protected theorem State.Canon.execLogRecord (h : s.Canon) : Keeps (execLogRecord s) := by
  unfold execLogRecord
  refine .next ?_
  split
  · exact h
  · exact .ite h.modFan (.ite h.modFan.inc h.modFan.modFan)

protected theorem State.Canon.logTurn (h : s.Canon) : (logTurn s).Canon := by
  unfold logTurn
  refine .ite ?_ h
  split
  · exact h.modFan.logShow
  · exact h

protected theorem State.Canon.logProgram (h : s.Canon) : (logProgram s).Canon := .ite h.logTurn h.logTurn.modFan

protected theorem State.Canon.execLogPageProgram (h : s.Canon) : Keeps (execLogPageProgram s) :=
  .next (.ite h.logProgram h)

protected theorem State.Canon.execLogFlushTimeout (h : s.Canon) : Keeps (execLogFlushTimeout s) := .next h.logProgram

protected theorem State.Canon.logFlash {a b} (h : s.Canon) : (logFlash s a b).Canon :=
  ⟨h.regs, h.spd, wf_tputs _ _ h.flash, h.store, h.data⟩

protected theorem State.Canon.logBad {i recs} (h : s.Canon) : (logBad s i recs).Canon := by
  unfold logBad
  extract_lets _ _ _ s1
  have h1 : s1.Canon := by
    refine .ite (.ite h.raise.modFan.modFan h.raise.modFan) ?_
    exact .logPrepare (.modFan (.ite h.raise.modFan.modFan h.raise.modFan))
  exact h1.logShow

protected theorem State.Canon.execLogFlashDone {ok} (h : s.Canon) : Keeps (execLogFlashDone ok s) := by
  unfold execLogFlashDone
  refine .next ?_
  split
  · exact h
  · next i _ =>
    refine .ite h.logBad (.modFan ?_)
    exact ⟨h.regs, h.spd, wf_tdrop
        (fun a => decide (sectorAt i ≤ a) && decide (a < sectorAt (i + 1))) h.flash, h.store, h.data⟩
  · exact .ite h.logBad h.logFlash.modFan.logTurn
  · exact .ite h.logBad (.logTurn (.ite h.logFlash.inc.modFan.logPrepare h.logFlash.inc.modFan))

protected theorem State.Canon.execTelemetrySnapshot (h : s.Canon) : Keeps (execTelemetrySnapshot s) :=
  .next (.ite h.snapshot.put h)

protected theorem State.Canon.fanRotate (h : s.Canon) : (fanRotate s).Canon :=
  .ite h (.ite (.modFan (.ite h h.rotStart)) (.fanResult (.modFan (.ite h h.rotStart))))

protected theorem State.Canon.execRotationDue (h : s.Canon) : Keeps (execRotationDue s) := .next h.fanRotate

protected theorem State.Canon.execRotationRetry (h : s.Canon) : Keeps (execRotationRetry s) :=
  .next (.ite h.fanRotate h)

protected theorem State.Canon.execSliceTestDone {ok} (h : s.Canon) : Keeps (execSliceTestDone ok s) := by
  unfold execSliceTestDone
  refine .next ?_
  split
  · exact h
  · exact h.modCoh.put.fanResult

protected theorem State.Canon.engStart {e} (h : s.Canon) : (engStart s e).Canon := h.modFan

protected theorem State.Canon.execEngineTestTurn (h : s.Canon) : Keeps (execEngineTestTurn s) := by
  unfold execEngineTestTurn
  refine .next (.ite h ?_)
  split
  · exact h
  · exact .ite h.modFan.engStart h.modFan.modFan

protected theorem State.Canon.execEngineTestSlice {fault} (h : s.Canon) : Keeps (execEngineTestSlice fault s) := by
  unfold execEngineTestSlice
  refine .next (.ite h ?_)
  extract_lets s1
  have h1 : s1.Canon := by
    dsimp only [s1]
    split
    · exact .ite h.engStart h
    · exact h
  split
  · exact h1
  · refine .ite h1.modFan (.ite (.ite h1 h1.modFan.inc) ?_)
    exact .ite h1.modFan.engineFail.fanResult (.ite h1.modFan.fanResult h1.modFan)

protected theorem State.Canon.execEngineTestSkip (h : s.Canon) : Keeps (execEngineTestSkip s) := by
  unfold execEngineTestSkip
  refine .next ?_
  split
  · exact h
  · exact h.modFan.fanResult

protected theorem State.Canon.execSpareLaneTest {tile lane ok} (h : s.Canon) :
    Keeps (execSpareLaneTest tile lane ok s) :=
  .next (.ite h (.ite h.fanResult h.modFan.fanResult))

protected theorem State.Canon.execTileCrossingLaneFail {tile} (h : s.Canon) :
    Keeps (execTileCrossingLaneFail tile s) := by
  unfold execTileCrossingLaneFail
  refine .next ?_
  split
  · exact h.modFan.raise
  · exact h.raise

/-! ### Sys2Proof/Machine/Reset -/

protected theorem State.Canon.modPwr {f} (h : s.Canon) : (s.modPwr f).Canon := h.frame rfl

protected theorem State.Canon.execPowerOnReset (h : s.Canon) : Keeps (execPowerOnReset s) :=
  .next ⟨rfl, rfl, h.flash, rfl, rfl⟩

protected theorem State.Canon.railShow (h : s.Canon) : (railShow s).Canon := h.putB

protected theorem State.Canon.fusesSensed (h : s.Canon) : (fusesSensed s).Canon := h.fuseShow.put.put

protected theorem State.Canon.execPowerUp {t} (h : s.Canon) : Keeps (execPowerUp t s) := by
  unfold execPowerUp
  refine .next (.ite h ?_)
  extract_lets _ s1
  have h1 : s1.Canon := h.modPwr.fusesSensed.debugRegion.newChallenge.put.railShow.put
  exact .ite h1.putB h1.putB.releaseUnits

protected theorem State.Canon.releaseAgain {t} (h : s.Canon) : (releaseAgain s t).Canon := .ite h.tryRelease h

protected theorem State.Canon.chipClear (h : s.Canon) : (chipClear s).Canon := h.unitsReset.wr.wr.put.put.put

protected theorem State.Canon.execChipReset {t} (h : s.Canon) : Keeps (execChipReset t s) :=
  .next (.ite h h.chipClear.releaseAgain)

protected theorem State.Canon.execResetPin {low} (h : s.Canon) : Keeps (execResetPin low s) :=
  .next (.ite h.modPwr.chipRequest h.modPwr)

protected theorem State.Canon.wrSwReset {w} (h : s.Canon) : (wrSwReset w s).Canon :=
  .ite h.writeReg.put.chipRequest h.writeReg

protected theorem State.Canon.execSoftwareChipReset {mid} (h : s.Canon) : Keeps (execSoftwareChipReset mid s) :=
  .next h.wrSwReset

protected theorem State.Canon.railOk {m ok} (h : s.Canon) : (railOk s m ok).Canon :=
  .railShow (.ite h.setBit h.clrBit)

protected theorem State.Canon.raiseUp {n} (h : s.Canon) : (raiseUp s n).Canon := .ite h h.raise

protected theorem State.Canon.execRailFault {m bad} (h : s.Canon) : Keeps (execRailFault m bad s) :=
  .next (.ite h.railOk.setBit.raiseUp h.railOk)

protected theorem State.Canon.holdCause {cause} (h : s.Canon) : (holdCause s cause).Canon :=
  .ite h.put h.put.inc.modPwr

protected theorem State.Canon.execBrownOut {m} (h : s.Canon) : Keeps (execBrownOut m s) :=
  .next h.unitsHold.railOk.setBit.holdCause.modPwr

protected theorem State.Canon.execBrownOutEnd {t} (h : s.Canon) : Keeps (execBrownOutEnd t s) :=
  .next (.ite h (.releaseAgain (.modPwr (h.foldl fun _ _ h => h.railOk))))

protected theorem State.Canon.execSlcSupplyLoss (h : s.Canon) : Keeps (execSlcSupplyLoss s) :=
  .next h.railOk.modPwr.slcAllOff

protected theorem State.Canon.execSlcSupplyRestore (h : s.Canon) : Keeps (execSlcSupplyRestore s) :=
  .next (.ite h.railOk.modPwr h)

protected theorem State.Canon.avsRequest {mv} (h : s.Canon) : (avsRequest s mv).Canon :=
  .ite h.put.raiseUp (.ite h.put.raiseUp h.put)

protected theorem State.Canon.execAvsAdjust {up steps} (h : s.Canon) : Keeps (execAvsAdjust up steps s) :=
  .next (.ite h h.avsRequest)

protected theorem State.Canon.wrAvs {w} (h : s.Canon) : (wrAvs w s).Canon := h.writeReg.avsRequest

protected theorem State.Canon.execSysclkLoss {pll} (h : s.Canon) : Keeps (execSysclkLoss pll s) :=
  .next (.modPwr (.holdCause
      (.put (.put (.ite (.put (.unitsHold (.ite h h.brkAccept))) (.put (.unitsHold (.ite h h.brkAccept))))))))

protected theorem State.Canon.execSysclkRestore {t} (h : s.Canon) : Keeps (execSysclkRestore t s) :=
  .next (.ite h h.put.put.modPwr.releaseAgain)

protected theorem State.Canon.execAoclkLoss (h : s.Canon) : Keeps (execAoclkLoss s) := .next h.put.put

protected theorem State.Canon.execAoclkRestore (h : s.Canon) : Keeps (execAoclkRestore s) := .next h.put

protected theorem State.Canon.execPerstAssert {i} (h : s.Canon) : Keeps (execPerstAssert i s) :=
  .next (h.setBit.foldl fun _ _ h => h.linkDown.upstreamDown)

protected theorem State.Canon.execPerstRelease {i} (h : s.Canon) : Keeps (execPerstRelease i s) := .next h.clrBit

protected theorem State.Canon.execHotReset {p} (h : s.Canon) : Keeps (execHotReset p s) :=
  .next (.ite h.linkDown.upstreamDown h)

protected theorem State.Canon.execVcsResetComplete {v} (h : s.Canon) : Keeps (execVcsResetComplete v s) :=
  .next (.ite h.clrBit h)

protected theorem State.Canon.standbyExit (h : s.Canon) : (standbyExit s).Canon := h.put.put

protected theorem State.Canon.wrCrpPwr {w} (h : s.Canon) : (wrCrpPwr w s).Canon :=
  .ite (.ite h (.ite h.put.put h.refuse)) h.standbyExit

protected theorem State.Canon.execPoolStandbyEnter {mid} (h : s.Canon) : Keeps (execPoolStandbyEnter mid s) :=
  .next h.wrCrpPwr

protected theorem State.Canon.execPoolStandbyExit {mid} (h : s.Canon) : Keeps (execPoolStandbyExit mid s) := by
  unfold execPoolStandbyExit
  refine .next ?_
  split
  · exact h.wrCrpPwr
  · exact .ite h.standbyExit h

/-! ### Sys2Proof/Machine/ImageLoad -/

protected theorem State.Canon.forN {n f} (h : s.Canon) (hf : ∀ s x, s.Canon → (f s x).Canon) : (forN n f s).Canon :=
  h.foldl hf

protected theorem State.Canon.applyPolicy {b} (h : s.Canon) : (applyPolicy b s).Canon :=
  h.put.put.put.put.put.put.put.put.tamperToPolicy

protected theorem State.Canon.setBrk {k : BrkSt} (h : s.Canon) : ({ s with brk := k } : State).Canon := h.frame rfl

protected theorem State.Canon.applyBrake {b} (h : s.Canon) : (applyBrake b s).Canon :=
  .setBrk (h.put.forN fun _ _ h => h.wr)

protected theorem State.Canon.applyMpu {b} (h : s.Canon) : (applyMpu b s).Canon :=
  h.foldl fun _ _ h => h.put.forN fun _ _ h => h.wr.wr

protected theorem State.Canon.applySplit {b} (h : s.Canon) : (applySplit b s).Canon := h.forN fun _ _ h => h.put.put

protected theorem State.Canon.applyPreload {b} (h : s.Canon) : (applyPreload b s).Canon :=
  ⟨h.regs, h.spd, h.flash, wf_tputs _ _ h.store, h.data⟩

protected theorem State.Canon.applyShares {b} (h : s.Canon) : (applyShares b s).Canon :=
  .leatPlace (.put (.put (.put (.put (h.forN fun _ _ h => h.put.put.putB.putB.putB.put)))))

protected theorem State.Canon.applySluice {b} (h : s.Canon) : (applySluice b s).Canon :=
  h.forN fun _ _ h => h.put.put.put.put.put.put.put.put.put.put.slcValid

protected theorem State.Canon.applyLane {b} (h : s.Canon) : (applyLane b s).Canon :=
  h.put.putB.put.putB.forN fun _ _ h => .ite h.wr.put h.put.put.put.put.putB.putB.put.put.put

protected theorem State.Canon.applyVcs {b} (h : s.Canon) : (applyVcs b s).Canon :=
  .frame (h.put.forN fun _ _ h => h.put.put.put.put) rfl

protected theorem State.Canon.applyFw {b} (h : s.Canon) : (applyFw b s).Canon := h.spdWr.put

protected theorem State.Canon.applyAll {ss ty f} (h : s.Canon) (hf : ∀ b s, s.Canon → (f b s).Canon) :
    (applyAll ss ty f s).Canon :=
  h.foldl fun s b => hf b s

protected theorem State.Canon.applyImage {ss} (h : s.Canon) : (applyImage ss s).Canon := by
  unfold applyImage
  extract_lets s1 s2 s3 s4
  have h1 : s1.Canon := .applyAll (h.applyAll fun _ _ h => h.applyPolicy) fun _ _ h => h.applyBrake
  have h2 : s2.Canon := .applyAll (.applyAll (h1.applyAll fun _ _ h => h.applyMpu) fun _ _ h => h.applySplit)
    fun _ _ h => h.applyPreload
  have h3 : s3.Canon := .applyAll (h2.applyAll fun _ _ h => h.applyShares) fun _ _ h => h.applySluice
  have h4 : s4.Canon := h3.forN fun _ _ h => h.foldl fun _ _ h => h.applyLane
  exact .applyAll (h4.applyAll fun _ _ h => h.applyVcs) fun _ _ h => h.applyFw

protected theorem State.Canon.putSlotCode {slot c} (h : s.Canon) : (putSlotCode s slot c).Canon := h.put

protected theorem State.Canon.zeroBanks {lo hi} (h : s.Canon) : (zeroBanks s lo hi).Canon :=
  ⟨h.regs, wf_tdrop (fun a => decide (lo * 0x40000 ≤ a) && decide (a < hi * 0x40000)) h.spd, h.flash, h.store, h.data⟩

protected theorem State.Canon.runImage {slot fallback ss} (h : s.Canon) : (runImage s slot fallback ss).Canon := by
  unfold runImage
  extract_lets _ _ _ _ s1
  have h1 : s1.Canon := h.applyImage.zeroBanks.put.put.putB.put.put.put.put
  exact .coresRelease (.ite h1.raise h1)

protected theorem State.Canon.enterRecoveryState (h : s.Canon) : (enterRecoveryState s).Canon :=
  h.put.poolToReset.raise

protected theorem State.Canon.fullLoad {sfdp} (h : s.Canon) : (fullLoad sfdp s).Canon := by
  unfold fullLoad
  split
  · exact h.putSlotCode.putSlotCode.put.enterRecoveryState
  · refine .ite (.runImage (.put (.putSlotCode (h.frame rfl))))
        (.ite (.runImage (.putSlotCode (.zeroBanks (.put (.putSlotCode (h.frame rfl)))))) ?_)
    exact .enterRecoveryState (.put (.put (.putSlotCode (.zeroBanks (.put (.putSlotCode (h.frame rfl)))))))

protected theorem State.Canon.execFullLoad {sfdp} (h : s.Canon) : Keeps (execFullLoad sfdp s) :=
  .next (.ite h.fullLoad h)

protected theorem State.Canon.wrBootOk {w} (h : s.Canon) : (wrBootOk w s).Canon := .ite h.writeReg.put h.writeReg

protected theorem State.Canon.execBootOk {mid} (h : s.Canon) : Keeps (execBootOk mid s) := .next h.wrBootOk

protected theorem State.Canon.execBootConfirmTimeout (h : s.Canon) : Keeps (execBootConfirmTimeout s) :=
  .next (.ite h.put.put.raise.chipRequest h)

protected theorem State.Canon.wrArb {w} (h : s.Canon) : (wrArb w s).Canon :=
  .ite (.ite h.refuse (.ite h.put h)) h.writeReg

protected theorem State.Canon.execAntiRollbackCommit {mid} (h : s.Canon) : Keeps (execAntiRollbackCommit mid s) :=
  .next h.wrArb

protected theorem State.Canon.execArbBurnDone (h : s.Canon) : Keeps (execArbBurnDone s) :=
  .next (.ite (.put (.put (.put (h.frame rfl)))) h)

protected theorem State.Canon.reloadApply {g ss} (h : s.Canon) : (reloadApply g ss s).Canon :=
  .raise (.applyAll (.applyAll (h.clearRegs.forN fun _ _ h => h.portClear) fun _ _ h => h.applyLane) fun _ _ h =>
      h.applySluice)

protected theorem State.Canon.wrLoadCtrl {w} (h : s.Canon) : (wrLoadCtrl w s).Canon :=
  .ite (.put (.put (.put (.ite h.reloadApply h)))) h.writeReg

protected theorem State.Canon.execGroupReload {mid} (h : s.Canon) : Keeps (execGroupReload mid s) :=
  .next h.wrLoadCtrl

protected theorem State.Canon.flashStart (h : s.Canon) : (flashStart s).Canon :=
  .ite h (.ite h.put.put (.ite h.put.put (h.put.frame rfl)))

protected theorem State.Canon.wrFlashCtrl {w} (h : s.Canon) : (wrFlashCtrl w s).Canon := by
  unfold wrFlashCtrl
  refine .ite h.refuse ?_
  exact .ite h.writeReg.put (.ite (.ite h.writeReg.put.put.put h.writeReg.put) h.writeReg.put.flashStart)

protected theorem State.Canon.flashCmd {mid op len} (h : s.Canon) : (flashCmd mid op len s).Canon := h.wrFlashCtrl

protected theorem State.Canon.execFlashErase {mid} (h : s.Canon) : Keeps (execFlashErase mid s) := .next h.flashCmd

protected theorem State.Canon.execFlashProgram {mid len} (h : s.Canon) : Keeps (execFlashProgram mid len s) :=
  .next h.flashCmd

protected theorem State.Canon.execFlashRead {mid len} (h : s.Canon) : Keeps (execFlashRead mid len s) :=
  .next h.flashCmd

protected theorem State.Canon.flashEffect {ok o} (h : s.Canon) : (flashEffect ok o s).Canon := by
  unfold flashEffect
  extract_lets free src old new s1
  have h1 : s1.Canon := .ite h h.bump
  exact .ite h1.spdWr ⟨h1.regs, h1.spd, wf_tputs _ _ h1.flash, h1.store, h1.data⟩

protected theorem State.Canon.execFlashOpDone {ok} (h : s.Canon) : Keeps (execFlashOpDone ok s) := by
  unfold execFlashOpDone
  refine .next ?_
  split
  · exact h
  · exact .put (.put (.put (h.flashEffect.frame rfl)))

/-! ### Sys2Proof/Machine/MgtCmd -/

protected theorem State.Canon.mboxShow {rc} (h : s.Canon) : (mboxShow s rc).Canon := h.modMgt

protected theorem State.Canon.mgtAnswer {t rc d} (h : s.Canon) : (mgtAnswer s t rc d).Canon := by
  unfold mgtAnswer
  refine .ite h.out.mboxShow (.ite ?_ h.out)
  split
  · exact h.out.out
  · exact h.out

protected theorem State.Canon.mgtTake {tr f} (h : s.Canon) (hf : ∀ s, s.Canon → (f s).Canon) :
    (mgtTake tr s f).Canon :=
  .ite (.ite h.out h) (.ite h.mgtAnswer (hf s h))

protected theorem State.Canon.mgtRead {t d} (h : s.Canon) : (mgtRead t s d).Canon :=
  h.mgtTake fun _ h => h.mgtAnswer

protected theorem State.Canon.bgAnswer {t rc d} (h : s.Canon) : (bgAnswer s t rc d).Canon :=
  .ite h.modMgt h.modMgt.mgtAnswer

protected theorem State.Canon.bgEnd {t rc d} (h : s.Canon) : (bgEnd s t rc d).Canon :=
  .ite h.modMgt (.ite h.modMgt.out.modMgt h.modMgt.out)

protected theorem State.Canon.bgStart {t k} (h : s.Canon) : (bgStart s t k).Canon := .modMgt (.ite h h.mgtAnswer)

protected theorem State.Canon.bgHold {t k} (h : s.Canon) : (bgHold s t k).Canon := h.modMgt

protected theorem State.Canon.mapWrite {i v} (h : s.Canon) : (mapWrite s i v).Canon := h.writeReg.wrMapCmd

protected theorem State.Canon.extGrant {b shared owner dpa} (h : s.Canon) : (extGrant s b shared owner dpa).Canon :=
  h.wrExtCmd

protected theorem State.Canon.grantAll {shared owner l} (h : s.Canon) : (grantAll shared owner l s).1.Canon := by
  induction l generalizing s with
  | nil => exact h
  | cons x xs ih =>
    rw [grantAll]
    have h1 := h.extGrant (b := x.1) (shared := shared) (owner := owner) (dpa := x.2)
    generalize extGrant s x.1 shared owner x.2 = s1 at h1 ⊢
    exact .ite_fst (.pair h1) (.ite_fst (.pair (ih h1).wrExtCmd) (ih h1))

protected theorem State.Canon.ldSignal {n} (h : s.Canon) : (ldSignal s n).Canon := .ite h.modFx h

protected theorem State.Canon.postEvents {ns kind bs} (h : s.Canon) : (postEvents s ns kind bs).Canon :=
  .modMgt (h.foldl fun _ _ h => h.ldSignal)

protected theorem State.Canon.acceptOne {n b} (h : s.Canon) : (acceptOne n s b).Canon :=
  .ite h (.ite (.wrExtCmd (.ite h.mapWrite h)) (.ite h.mapWrite h))

protected theorem State.Canon.rejectOne {n b} (h : s.Canon) : (rejectOne n s b).Canon := .ite h.wrExtCmd h

protected theorem State.Canon.dcAnswer {n acc rej} (h : s.Canon) : (dcAnswer s n acc rej).Canon := by
  unfold dcAnswer
  extract_lets s1
  have h1 : s1.Canon := .foldl (h.foldl fun _ _ h => h.acceptOne) fun _ _ h => h.rejectOne
  split
  · exact h1.bgHold
  · exact h1

protected theorem State.Canon.unmapAll {b} (h : s.Canon) : (unmapAll s b).Canon := h.foldl fun _ _ h => h.mapWrite

protected theorem State.Canon.relAdvance {t await todo cur all snap} (h : s.Canon) :
    (relAdvance s t await todo cur all snap).Canon := by
  unfold relAdvance
  extract_lets
  split
  · exact .ite h.bgEnd h
  · exact .ite h h.wrExtCmd.bgHold
  · exact .ite h (.ite h.unmapAll.wrFlushCmd.bgHold h.unmapAll.bgHold)
  · exact .ite h h.bgHold
  · exact .ite h h.wrExtCmd.bgHold

protected theorem State.Canon.portControl {p disable} (h : s.Canon) : (portControl s p disable).Canon := by
  unfold portControl
  split <;> exact h.wrLinkCtrl

protected theorem State.Canon.aerEvent {v k bit unc} (h : s.Canon) : (aerEvent s v k bit unc).Canon :=
  .ite h.modVx.raise h.modVx.raise

protected theorem State.Canon.ldParam {n x} (h : s.Canon) : (ldParam s n x).Canon := by
  unfold ldParam
  split
  · exact .ite h.writeReg.wrLdMap.writeReg h.writeReg.wrLdMap
  · exact h.writeReg
  · exact h.writeReg
  · exact h.writeReg

protected theorem State.Canon.sharingWrite {g members valid} (h : s.Canon) : (sharingWrite s g members valid).Canon :=
  .wrTblCmd (h.foldl fun _ _ h => h.writeReg)

protected theorem State.Canon.proxyWrite {n k c p} (h : s.Canon) : (proxyWrite s n k c p).Canon :=
  h.wrCohProxy.wrPoolProxy

protected theorem State.Canon.dsaQueue {w j} (h : s.Canon) : (dsaQueue s w j).Canon := h.modMgt

protected theorem State.Canon.flashOp {op addr len spd} (h : s.Canon) : (flashOp s op addr len spd).Canon :=
  h.writeReg.flashCmd

protected theorem State.Canon.reloadFrom {spd} (h : s.Canon) : (reloadFrom s spd).Canon := h.writeReg.wrLoadCtrl

protected theorem State.Canon.mgtRun {t x} (h : s.Canon) : (mgtRun s t x).Canon := by
  unfold mgtRun
  split
  · exact h.portControl.mgtAnswer
  · exact .ite h.mgtAnswer (.ite h.wrBindCmd.bgStart h.wrBindCmd.mgtAnswer)
  · exact .ite h.mgtAnswer (.ite h.wrBindCmd.bgStart h.wrBindCmd.mgtAnswer)
  · exact h.aerEvent.mgtAnswer
  · exact h.ldParam.mgtAnswer
  · exact .ite h.mgtAnswer h.wrLdMap.mgtAnswer
  · exact .ite h.mgtAnswer (.ite h.mgtAnswer (.ite h.grantAll.mgtAnswer h.grantAll.postEvents.bgStart))
  · exact .ite h.mgtAnswer (.bgStart (.ite h (h.foldl fun _ _ h => h.postEvents)))
  · exact h.dcAnswer
  · refine .ite h.mgtAnswer (.ite h.mgtAnswer ?_)
    exact .ite (.bgHold (.flashOp (.ite h.spdWr h))) (.mgtAnswer (.flashOp (.ite h.spdWr h)))
  · exact .ite h.mgtAnswer (.ite h.wrArb.bgHold h.wrArb.mgtAnswer)
  · exact .ite h.mgtAnswer (.ite h.mgtAnswer (.ite h.flashOp.bgHold h.flashOp.mgtAnswer))
  · exact .ite h.mgtAnswer (.ite h.mgtAnswer (.ite h.wrHostCmd.bgStart h.wrHostCmd.mgtAnswer))
  · exact .ite h.mgtAnswer h.sharingWrite.mgtAnswer
  · refine .ite h.mgtAnswer ?_
    extract_lets
    split
    · exact h.proxyWrite.mgtAnswer
    · exact h.bgHold.dsaQueue
  · exact h.bgHold.dsaQueue

protected theorem State.Canon.bgAdvance (h : s.Canon) : (bgAdvance s).Canon := by
  unfold bgAdvance
  split
  · exact h
  · exact .ite h h.bgEnd
  · exact .ite h h.bgEnd
  · exact .ite h h.bgEnd
  · exact .ite h.bgEnd h
  · exact h.relAdvance
  · exact .ite h h.bgAnswer
  · exact .ite h h.bgAnswer
  · exact .ite h (.ite h.bgAnswer h.reloadFrom.bgAnswer)
  · exact h
  · exact h

protected theorem State.Canon.bgDsa {r d} (h : s.Canon) : (bgDsa s r d).Canon := by
  unfold bgDsa
  split
  · refine .ite h.bgAnswer ?_
    split
    · exact h.proxyWrite.bgAnswer
    · exact h.bgHold.dsaQueue
  · exact .ite h.bgAnswer h.bgAnswer
  · exact h

protected theorem State.Canon.dsaStart {x} (h : s.Canon) : (dsaStart s x).Canon := by
  unfold dsaStart
  split
  · exact .ite h.dsaPut.dsaIssue h.dsaPut.dsaResult
  · exact .ite h.put.put.out h.put.dsaResult

protected theorem State.Canon.dsaAdvance (h : s.Canon) : (dsaAdvance s).Canon := by
  unfold dsaAdvance
  refine .ite h ?_
  split
  · extract_lets
    split
    · exact .ite h.modMgt.mgtAnswer h.modMgt.mgtAnswer
    · exact h.modMgt.bgDsa
  · split
    · exact h
    · exact h.modMgt.dsaStart

protected theorem State.Canon.mgtStep (h : s.Canon) : (mgtStep s).Canon := by
  unfold mgtStep
  extract_lets
  split
  · exact h.dsaAdvance.bgAdvance.modMgt.mgtRun
  · exact h.dsaAdvance.bgAdvance

protected theorem State.Canon.mgtSteps {n} (h : s.Canon) : (mgtSteps n s).Canon := by
  induction n generalizing s with
  | zero => exact h
  | succ n ih => exact ih h.mgtStep

protected theorem State.Canon.mgtServe (h : s.Canon) : (mgtServe s).Canon := .ite h h.mgtSteps

protected theorem State.Canon.idle (h : s.Canon) : (idle s).Canon := h.put.mgtServe

protected theorem State.Canon.mgtPut {t q} (h : s.Canon) : (mgtPut s t q).Canon :=
  .mgtServe (.ite h.mgtServe.mgtRun h.mgtServe.modMgt)

protected theorem State.Canon.mgtCmd {t q} (h : s.Canon) : (mgtCmd t q s).Canon := h.mgtTake fun _ h => h.mgtPut

protected theorem State.Canon.mgtGet {t d} (h : s.Canon) : (mgtGet t s d).Canon := h.mgtServe.mgtRead

protected theorem State.Canon.mgtDsa {t j} (h : s.Canon) : (mgtDsa t j s).Canon :=
  h.mgtTake fun _ h => h.dsaQueue.mgtServe

/-! ### Sys2Proof/Machine/MgtRows -/

protected theorem State.Canon.execDsaComplete {st data} (h : s.Canon) : Keeps (execDsaComplete st data s) :=
  .next (.ite h (.mgtServe (.dsaResult (.ite h.modMgt (.ite h.put h)))))

protected theorem State.Canon.execDsaTimeout (h : s.Canon) : Keeps (execDsaTimeout s) :=
  .next (.ite h.dsaResult.mgtServe h)

protected theorem State.Canon.execCommandWaitTimeout (h : s.Canon) : Keeps (execCommandWaitTimeout s) := by
  unfold execCommandWaitTimeout
  refine .next ?_
  extract_lets
  split
  · exact .ite h.mgtServe.modMgt h.mgtServe.modMgt.mgtAnswer
  · exact h.mgtServe

protected theorem State.Canon.execUnsupportedCommand {t _opcode} (h : s.Canon) :
    Keeps (execUnsupportedCommand t _opcode s) :=
  .next (h.mgtTake fun _ h => h.mgtAnswer)

protected theorem State.Canon.execIdentifySwitchDevice {t} (h : s.Canon) : Keeps (execIdentifySwitchDevice t s) :=
  .next h.mgtGet

protected theorem State.Canon.execGetPhysicalPortState {t ps} (h : s.Canon) :
    Keeps (execGetPhysicalPortState t ps s) :=
  .next h.mgtGet

protected theorem State.Canon.execGetVirtualCxlSwitchInfo {t vs} (h : s.Canon) :
    Keeps (execGetVirtualCxlSwitchInfo t vs s) :=
  .next h.mgtGet

protected theorem State.Canon.execGetLdInfo {t} (h : s.Canon) : Keeps (execGetLdInfo t s) := .next h.mgtGet

protected theorem State.Canon.execGetLdAllocations {t n count} (h : s.Canon) :
    Keeps (execGetLdAllocations t n count s) :=
  .next h.mgtGet

protected theorem State.Canon.execGetQosControl {t} (h : s.Canon) : Keeps (execGetQosControl t s) := .next h.mgtGet

protected theorem State.Canon.execGetQosStatus {t} (h : s.Canon) : Keeps (execGetQosStatus t s) := .next h.mgtGet

protected theorem State.Canon.execGetQosAllocatedBw {t n count} (h : s.Canon) :
    Keeps (execGetQosAllocatedBw t n count s) :=
  .next h.mgtGet

protected theorem State.Canon.execGetQosBwLimit {t n count} (h : s.Canon) : Keeps (execGetQosBwLimit t n count s) :=
  .next h.mgtGet

protected theorem State.Canon.execGetDcdInfo {t} (h : s.Canon) : Keeps (execGetDcdInfo t s) := .next h.mgtGet

protected theorem State.Canon.execGetHostDcRegionConfiguration {t n} (h : s.Canon) :
    Keeps (execGetHostDcRegionConfiguration t n s) :=
  .next h.mgtGet

protected theorem State.Canon.execGetDcRegionExtentLists {t n} (h : s.Canon) :
    Keeps (execGetDcRegionExtentLists t n s) :=
  .next h.mgtGet

protected theorem State.Canon.execGetTelemetry {t first count} (h : s.Canon) :
    Keeps (execGetTelemetry t first count s) :=
  .next (h.mgtServe.mgtTake fun _ h => .ite h.mgtAnswer h.mgtAnswer)

protected theorem State.Canon.execGetFaultHistory {t n} (h : s.Canon) : Keeps (execGetFaultHistory t n s) :=
  .next h.mgtGet

protected theorem State.Canon.execPhysicalPortControl {t p disable} (h : s.Canon) :
    Keeps (execPhysicalPortControl t p disable s) :=
  .next h.mgtCmd

protected theorem State.Canon.execBindVppb {t v} (h : s.Canon) : Keeps (execBindVppb t v s) := .next h.mgtCmd

protected theorem State.Canon.execUnbindVppb {t v} (h : s.Canon) : Keeps (execUnbindVppb t v s) := .next h.mgtCmd

protected theorem State.Canon.execGenerateAerEvent {t v k bit unc} (h : s.Canon) :
    Keeps (execGenerateAerEvent t v k bit unc s) :=
  .next h.mgtCmd

protected theorem State.Canon.execSetLdAllocations {t ext n en base count} (h : s.Canon) :
    Keeps (execSetLdAllocations t ext n en base count s) :=
  .next h.mgtCmd

protected theorem State.Canon.execSetQosControl {t ext optimal moderate severe} (h : s.Canon) :
    Keeps (execSetQosControl t ext optimal moderate severe s) :=
  .next h.mgtCmd

protected theorem State.Canon.execSetQosAllocatedBw {t ext n v} (h : s.Canon) :
    Keeps (execSetQosAllocatedBw t ext n v s) :=
  .next h.mgtCmd

protected theorem State.Canon.execSetQosBwLimit {t ext n v} (h : s.Canon) : Keeps (execSetQosBwLimit t ext n v s) :=
  .next h.mgtCmd

protected theorem State.Canon.execSetDcRegionConfiguration {t n base count sharedFirst} (h : s.Canon) :
    Keeps (execSetDcRegionConfiguration t n base count sharedFirst s) :=
  .next h.mgtCmd

protected theorem State.Canon.execInitiateDynamicCapacityAdd {t shared owner exts} (h : s.Canon) :
    Keeps (execInitiateDynamicCapacityAdd t shared owner exts s) :=
  .next h.mgtCmd

protected theorem State.Canon.execInitiateDynamicCapacityRelease {t exts forced} (h : s.Canon) :
    Keeps (execInitiateDynamicCapacityRelease t exts forced s) :=
  .next h.mgtCmd

protected theorem State.Canon.execFlashOperation {t op addr len spd data} (h : s.Canon) :
    Keeps (execFlashOperation t op addr len spd data s) :=
  .next h.mgtCmd

protected theorem State.Canon.execCommitAntiRollback {t} (h : s.Canon) : Keeps (execCommitAntiRollback t s) :=
  .next h.mgtCmd

protected theorem State.Canon.execGroupReloadCommand {t addr spd} (h : s.Canon) :
    Keeps (execGroupReloadCommand t addr spd s) :=
  .next h.mgtCmd

protected theorem State.Canon.execHostCoherence {t op ho} (h : s.Canon) : Keeps (execHostCoherence t op ho s) :=
  .next h.mgtCmd

protected theorem State.Canon.execSetSharingGroup {t g members valid} (h : s.Canon) :
    Keeps (execSetSharingGroup t g members valid s) :=
  .next h.mgtCmd

protected theorem State.Canon.execSetProxyExpander {t n port ldid k base count dpaBase valid prep} (h : s.Canon) :
    Keeps (execSetProxyExpander t n port ldid k base count dpaBase valid prep s) :=
  .next h.mgtCmd

protected theorem State.Canon.execSendPpbCxlIoConfigRequest {t p write target addr be data} (h : s.Canon) :
    Keeps (execSendPpbCxlIoConfigRequest t p write target addr be data s) :=
  .next h.mgtDsa

protected theorem State.Canon.execSendLdCxlIoConfigRequest {t p ld write target addr be data} (h : s.Canon) :
    Keeps (execSendLdCxlIoConfigRequest t p ld write target addr be data s) :=
  .next h.mgtDsa

protected theorem State.Canon.execSendLdCxlIoMemoryRequest {t p ld write addr be data} (h : s.Canon) :
    Keeps (execSendLdCxlIoMemoryRequest t p ld write addr be data s) :=
  .next h.mgtDsa

protected theorem State.Canon.execTunnelManagementCommand {t p inner changes} (h : s.Canon) :
    Keeps (execTunnelManagementCommand t p inner changes s) :=
  .next (.ite h.mgtCmd h.mgtDsa)

protected theorem State.Canon.mctpCtl {tr f} (h : s.Canon) (hf : ∀ s, s.Canon → (f s).Canon) :
    (mctpCtl tr s f).Canon :=
  .ite (.ite h.out h) (.ite h (hf s h))

protected theorem State.Canon.execSetEndpointId {t eid} (h : s.Canon) : Keeps (execSetEndpointId t eid s) :=
  .next (h.mctpCtl fun _ h => .ite h.mgtAnswer h.modMgt.mgtAnswer)

protected theorem State.Canon.execGetEndpointId {t} (h : s.Canon) : Keeps (execGetEndpointId t s) :=
  .next (h.mctpCtl fun _ h => h.mgtAnswer)

protected theorem State.Canon.execGetEndpointUuid {t} (h : s.Canon) : Keeps (execGetEndpointUuid t s) :=
  .next (h.mctpCtl fun _ h => h.mgtAnswer)

protected theorem State.Canon.execGetMctpVersionSupport {t} (h : s.Canon) : Keeps (execGetMctpVersionSupport t s) :=
  .next (h.mctpCtl fun _ h => h.mgtAnswer)

protected theorem State.Canon.execGetMessageTypeSupport {t} (h : s.Canon) : Keeps (execGetMessageTypeSupport t s) :=
  .next (h.mctpCtl fun _ h => h.mgtAnswer)

protected theorem State.Canon.ldMbox {n f} (h : s.Canon) (hf : ∀ s, s.Canon → (f s).Canon) : (ldMbox n s f).Canon :=
  .ite (hf _ h.mgtServe) h

protected theorem State.Canon.ldRead {n d} (h : s.Canon) : (ldRead n s d).Canon := h.ldMbox fun _ h => h.mgtAnswer

protected theorem State.Canon.execIdentifyMemoryDevice {n} (h : s.Canon) : Keeps (execIdentifyMemoryDevice n s) :=
  .next h.ldRead

protected theorem State.Canon.execGetEventRecords {n} (h : s.Canon) : Keeps (execGetEventRecords n s) :=
  .next h.ldRead

protected theorem State.Canon.execClearEventRecords {n count} (h : s.Canon) :
    Keeps (execClearEventRecords n count s) :=
  .next (h.ldMbox fun _ h => h.modMgt.mgtAnswer)

protected theorem State.Canon.execGetDynamicCapacityConfiguration {n} (h : s.Canon) :
    Keeps (execGetDynamicCapacityConfiguration n s) :=
  .next h.ldRead

protected theorem State.Canon.execGetDynamicCapacityExtentList {n} (h : s.Canon) :
    Keeps (execGetDynamicCapacityExtentList n s) :=
  .next h.ldRead

protected theorem State.Canon.execAddDynamicCapacityResponse {n accept reject} (h : s.Canon) :
    Keeps (execAddDynamicCapacityResponse n accept reject s) := by
  unfold execAddDynamicCapacityResponse
  refine .next (.ldMbox h fun _ h => ?_)
  extract_lets
  split
  · exact .ite h.mgtAnswer.dcAnswer.mgtServe h.mgtAnswer.mgtPut
  · exact h.mgtAnswer.mgtPut

protected theorem State.Canon.execReleaseDynamicCapacity {n exts} (h : s.Canon) :
    Keeps (execReleaseDynamicCapacity n exts s) := by
  unfold execReleaseDynamicCapacity
  refine .next (.ldMbox h fun _ h => ?_)
  refine .ite h.mgtAnswer ?_
  extract_lets _ _ s1
  have h1 : s1.Canon := by
    dsimp only [s1]
    split
    · exact h.mgtAnswer.bgHold.mgtServe
    · exact h.mgtAnswer
  exact .ite h1 h1.mgtPut

protected theorem State.Canon.execGetHealthInfo {n} (h : s.Canon) : Keeps (execGetHealthInfo n s) := .next h.ldRead

protected theorem State.Canon.execGetSupportedLogs {n} (h : s.Canon) : Keeps (execGetSupportedLogs n s) :=
  .next h.ldRead

protected theorem State.Canon.execGetLog {n log} (h : s.Canon) : Keeps (execGetLog n log s) := .next h.ldRead

/-! ### Sys2Proof/Machine/Bus -/

/-- Writes to the registers of a row keep the memories canonical. -/
def WrRow.Keeps (r : WrRow) : Prop := ∀ l w s, s.Canon → (r.act l w s).Canon

theorem wrRowsA_keep : ∀ r ∈ wrRowsA, r.Keeps := by
  simp only [wrRowsA, List.forall_mem_cons, WrRow.Keeps]
  exact
    ⟨fun _ _ _ h => h.wrBootOk, fun _ _ _ h => h.wrArb, fun _ _ _ h => h.wrLoadCtrl, fun _ _ _ h => h.wrFlashCtrl,
      fun _ _ _ h => h.wrLinkCtrl, fun _ _ _ h => h.wrLaneCmd, fun _ _ _ h => h.wrTcMap,
      fun _ _ _ h => h.wrClassCtrl, fun _ _ _ h => h.wrBankCtrl, fun _ _ _ h => h.wrTblCmd,
      fun _ _ _ h => h.wrVcsCfg, fun _ _ _ h => h.wrVcsTbl, fun _ _ _ h => h.wrBindCmd,
      fun _ _ _ h => h.wrWinCommit, fun _ _ _ h => h.wrPathCmd, fun _ _ _ h => h.wrHostCmd,
      fun _ _ _ h => h.wrFlushCmd, fun _ _ _ h => h.wrRotCtrl, fun _ _ _ h => h.wrCohHost,
      fun _ _ _ h => h.wrCohProxy, List.forall_mem_nil _⟩

theorem wrRowsB_keep : ∀ r ∈ wrRowsB, r.Keeps := by
  simp only [wrRowsB, List.forall_mem_cons, WrRow.Keeps]
  exact
    ⟨fun _ _ _ h => h.wrExtCmd, fun _ _ _ h => h.wrMapCmd, fun _ _ _ h => h.wrLdMap, fun _ _ _ h => h.wrPoolProxy,
      fun _ _ _ h => h.wrFnCfg, fun _ _ _ h => h.wrHepVcs, fun _ _ _ h => h.wrHepPf, fun _ _ _ h => h.wrFnWin,
      fun _ _ _ h => h.wrQmapCmd, fun _ _ _ h => h.bump.wrMigCmd, fun _ _ _ h => h.wrEngCtrl,
      fun _ _ _ h => h.wrChCtrl, fun _ _ _ h => h.wrChRing, fun _ _ _ h => h.wrChCq, fun _ _ _ h => h.wrChPtr,
      fun _ _ _ h => h.wrChShd, fun _ _ _ h => h.wrShdCtrl, fun _ _ _ h => h.wrBankCfg, fun _ _ _ h => h.wrRegA,
      fun _ _ _ h => h.wrRegB, fun _ _ _ h => h.wrFence, fun _ _ _ h => h.wrRegA, fun _ _ _ h => h.wrRegB,
      fun _ _ _ h => h.wrFence, List.forall_mem_nil _⟩

theorem wrRowsC_keep : ∀ r ∈ wrRowsC, r.Keeps := by
  simp only [wrRowsC, List.forall_mem_cons, WrRow.Keeps]
  exact
    ⟨fun _ _ _ h => h.wrCoreCtrl, fun _ _ _ h => h.wrSwiSet, fun _ _ _ h => h.wrWdog, fun _ _ _ h => h.wrDsaCmd,
      fun _ _ _ h => h.wrSlcCtrl, fun _ _ _ h => h.wrSlcLim, fun _ _ _ h => h.wrSev, fun _ _ _ h => h.wrReact,
      fun _ _ _ h => h.wrPin, fun _ _ _ h => h.wrHistCtrl, fun _ _ _ h => h.wrInjCtrl, fun _ _ _ h => h.wrSwRaise,
      fun _ _ _ h => h.wrReqCmd, fun _ _ _ h => h.wrKprog, fun _ _ _ h => h.wrPmcCtrl, fun _ _ _ h => h.wrSel,
      fun _ _ _ h => h.wrSmpCtrl, fun _ _ _ h => h.wrSwReset, fun _ _ _ h => h.wrAvs,
      fun _ _ _ h => h.wrCrpPwr, List.forall_mem_nil _⟩

theorem handlerAt_keeps {a f w} (hf : handlerAt a = some f) (h : s.Canon) : (f w s).Canon := by
  obtain ⟨r, hr, hc⟩ := List.exists_of_findSome?_eq_some hf
  have hk : r.Keeps := by
    rcases List.mem_append.1 hr with hr | hr
    · rcases List.mem_append.1 hr with hr | hr
      · exact wrRowsA_keep r hr
      · exact wrRowsB_keep r hr
    · exact wrRowsC_keep r hr
  split at hc
  · cases hc
  · obtain ⟨l, -, rfl⟩ := Option.map_eq_some_iff.1 hc
    exact hk l w s h

protected theorem State.Canon.clearRc {row r mask} (h : s.Canon) : (clearRc s row r mask).Canon := h.wr

protected theorem State.Canon.regWrite {r w} (h : s.Canon) : (regWrite s r w).Canon := by
  unfold regWrite
  refine .ite h.refuse ?_
  split
  · next heq => exact handlerAt_keeps heq h
  · exact h.writeReg

protected theorem State.Canon.holdPut {mid ho} (h : s.Canon) : (holdPut s mid ho).Canon := h.frame rfl

protected theorem State.Canon.accErr {mid a size write} (h : s.Canon) : (accErr s mid a size write).Canon :=
  h.raise

protected theorem State.Canon.busRead {mid a size} (h : s.Canon) : (busRead s mid a size).1.Canon := by
  unfold busRead
  refine .ite_fst (.pair h) ?_
  split
  · exact .pair h.accErr
  · exact .pair (.ite h.clearRc.holdPut h.clearRc)
  · exact .pair h.clearRc.holdPut
  · split
    · exact .ite_fst (.pair h.holdPut) (.pair h.clearRc.holdPut)
    · exact .pair h.clearRc.holdPut

protected theorem State.Canon.busWrite {mid a size v} (h : s.Canon) : (busWrite s mid a size v).1.Canon := by
  unfold busWrite
  refine .ite_fst (.pair h.refuse) ?_
  split
  · exact .pair h.accErr
  · exact .pair (.regWrite (.ite h.holdPut h))
  · exact .pair h.holdPut
  · extract_lets whole s1
    clear_value whole
    split <;> exact .pair h.holdPut.regWrite

protected theorem State.Canon.busPass {mid write a size} (h : s.Canon) : (busPass s mid write a size).1.Canon :=
  .ite_fst h.mpuPass (.pair h)

protected theorem State.Canon.busReadRow {mid a size} (h : s.Canon) : (busReadRow s mid a size).Canon :=
  .ite h.busPass.out h.busPass.busRead.out

protected theorem State.Canon.busWriteRow {mid a size v} (h : s.Canon) : (busWriteRow s mid a size v).Canon :=
  .ite h.busPass.out h.busPass.busWrite.out

protected theorem State.Canon.execRegisterWrite {mid addr wide v} (h : s.Canon) :
    Keeps (execRegisterWrite mid addr wide v s) :=
  .next h.busWriteRow

protected theorem State.Canon.execRegisterAccessError {mid addr size write} (h : s.Canon) :
    Keeps (execRegisterAccessError mid addr size write s) := by
  unfold execRegisterAccessError
  refine .next ?_
  split
  · exact h.busReadRow
  · exact h.busWriteRow

protected theorem State.Canon.execLowHalfWrite {mid addr v} (h : s.Canon) : Keeps (execLowHalfWrite mid addr v s) :=
  .next h.busWriteRow

protected theorem State.Canon.execHighHalfWrite {mid addr v} (h : s.Canon) : Keeps (execHighHalfWrite mid addr v s) :=
  .next h.busWriteRow

protected theorem State.Canon.execLowHalfRead {mid addr} (h : s.Canon) : Keeps (execLowHalfRead mid addr s) :=
  .next h.busReadRow

protected theorem State.Canon.execHighHalfRead {mid addr} (h : s.Canon) : Keeps (execHighHalfRead mid addr s) :=
  .next h.busReadRow

protected theorem State.Canon.execReadClearField {mid addr wide} (h : s.Canon) :
    Keeps (execReadClearField mid addr wide s) :=
  .next h.busReadRow

protected theorem State.Canon.execBlockLock {mid b} (h : s.Canon) : Keeps (execBlockLock mid b s) :=
  .next h.busWriteRow

/-! ### Sys2Proof/Machine/CoreAccess -/

protected theorem State.Canon.corePass {a} (h : s.Canon) : (corePass s a).1.Canon := .ite_fst (.pair h) h.mpuPass

protected theorem State.Canon.coreAns {a d} (h : s.Canon) : (coreAns s a d).Canon := h.out

protected theorem State.Canon.coreFault {a} (h : s.Canon) : (coreFault s a).Canon := h.out

protected theorem State.Canon.linePut {l x} (h : s.Canon) : (linePut s l x).Canon := h.modMgt

protected theorem State.Canon.l2Put {l x} (h : s.Canon) : (l2Put s l x).Canon := h.linePut.injWrite

protected theorem State.Canon.resvLose {l k} (h : s.Canon) : (resvLose s l k).Canon := h.modMgt

protected theorem State.Canon.l2Check {l} (h : s.Canon) : (l2Check s l).1.Canon := .ite_fst (.pair h.raise) (.pair h)

protected theorem State.Canon.lineBack {l x} (h : s.Canon) : (lineBack s l x).Canon := by
  unfold lineBack
  refine .ite h ?_
  extract_lets
  split
  · exact .bankRefused (.ite h.l2Check h.l2Check.bump)
  · exact .spdPut (.ite h.l2Check h.l2Check.bump)

protected theorem State.Canon.lineEvict {l} (h : s.Canon) : (lineEvict s l).Canon := by
  unfold lineEvict
  split
  · exact h
  · exact h.lineBack.linePut.resvLose

protected theorem State.Canon.lineManage {op l} (h : s.Canon) : (lineManage s op l).Canon := by
  unfold lineManage
  split
  · exact h
  · split
    · exact h.lineBack.linePut
    · exact h.lineEvict
    · exact h.linePut.resvLose
    · exact h

protected theorem State.Canon.lineFill {l e} (h : s.Canon) : (lineFill s l e).Canon := by
  unfold lineFill
  split
  · exact .ite (.got h.l2Check) (.fault h.l2Check)
  · split
    · exact .fault h.bankRefused
    · exact .wait
    · exact .ite (.fault h.spdDo) (.got h.spdDo.l2Put)

protected theorem State.Canon.lineStore {k l x off d} (h : s.Canon) : (lineStore s k l x off d).Canon :=
  .resvLose (.ite h.l2Put h.l2Put.injWrite)

protected theorem State.Canon.cachedLoad {a e len l off} (h : s.Canon) :
    AllSome (·.1.Canon) (cachedPart.cachedLoad a s e len l off) := by
  unfold cachedPart.cachedLoad
  split
  · next heq =>
      exact .some (.pair (h.lineFill.of_got heq).linePut.injWrite)
  · exact .none
  · next heq =>
      exact .some (.pair (h.lineFill.of_fault heq))

protected theorem State.Canon.cachedPart {a e addr len} (h : s.Canon) :
    AllSome (·.1.Canon) (cachedPart a s e addr len) := by
  unfold cachedPart
  extract_lets
  split
  · exact .some (.pair h.l2Put.resvLose)
  · split
    · exact .ite (.ite (.some (.pair h.coreFail)) (.some (.pair h))) h.cachedLoad
    · exact h.cachedLoad
  · split
    · next heq =>
        exact .some (.pair (h.lineFill.of_got heq))
    · exact .none
    · next heq =>
        exact .some (.pair (h.lineFill.of_fault heq))
  · split
    · next heq =>
        exact .some (.pair (h.lineFill.of_got heq).lineStore)
    · exact .none
    · next heq =>
        exact .some (.pair (h.lineFill.of_fault heq))
  · split
    · next heq =>
        exact .some (.pair (h.lineFill.of_got heq).lineStore)
    · exact .none
    · next heq =>
        exact .some (.pair (h.lineFill.of_fault heq))
  · split
    · next heq =>
        exact .some (.pair (h.lineFill.of_got heq).modMgt)
    · exact .none
    · next heq =>
        exact .some (.pair (h.lineFill.of_fault heq))
  · refine .ite (.some (.pair h.modMgt)) ?_
    split
    · next heq =>
        exact .some (.pair (h.lineFill.of_got heq).lineStore.modMgt)
    · exact .none
    · next heq =>
        exact .some (.pair (h.lineFill.of_fault heq).modMgt)
  · exact .some (.pair h)
  · exact .some (.pair h)
  · exact .some (.pair h)

protected theorem State.Canon.uncachedPart {a e addr len} (h : s.Canon) :
    AllSome (·.1.Canon) (uncachedPart a s e addr len) := by
  unfold uncachedPart
  split
  · exact .some (.pair h)
  · split
    · exact .some (.pair h.bankRefused)
    · exact .none
    · exact .some h.spdDo

protected theorem State.Canon.coreSpd {a e} (h : s.Canon) : AllSome (·.1.Canon) (coreSpd s a e) := by
  refine List.foldlRecOn _ _ (.some h) fun x hx r _ => ?_
  split
  · exact .none
  · exact .some (hx.of rfl)
  · have h := hx.of rfl
    exact AllSome.map (.ite h.cachedPart h.uncachedPart) fun _ h => h

protected theorem State.Canon.coreReg {a} (h : s.Canon) : (coreReg s a).Canon := by
  unfold coreReg
  refine .ite h.coreFault ?_
  exact .ite (.ite h.busWrite.coreFault h.busWrite.coreAns) (.ite h.busRead.coreFault h.busRead.coreAns)

protected theorem State.Canon.corePool {a} (h : s.Canon) : (corePool s a).Canon :=
  .ite h.coreFault h.hopId.modMgt.present

protected theorem State.Canon.coreDo {a e} (h : s.Canon) : (coreDo s a e).Canon := by
  unfold coreDo
  refine .ite h.corePass.coreFault
      (.ite h.corePass.lineManage.coreAns
          (.ite h.corePass.coreFault (.ite ?_ (.ite h.corePass.corePool h.corePass.coreReg))))
  split
  · exact h
  · next heq =>
      exact .ite (h.corePass.coreSpd.of heq).coreFault (h.corePass.coreSpd.of heq)
  · next heq =>
      exact (h.corePass.coreSpd.of heq).coreAns

protected theorem State.Canon.execCoreAccess {k op priv addr len data evict e} (h : s.Canon) :
    Keeps (execCoreAccess k op priv addr len data evict e s) :=
  .next (.ite h (.coreDo (h.foldl fun _ _ h => h.lineEvict)))

/-! ### Sys2Proof/Machine/HostAccess -/

protected theorem State.Canon.busResetSet {v k} (h : s.Canon) : (busResetSet s v k).Canon := by
  unfold busResetSet
  refine .ite h.busShut ?_
  split
  · exact h.hotReset
  · split
    · exact .ite h.ldReset h
    · exact h

protected theorem State.Canon.vppbWr {v k r d} (h : s.Canon) : (vppbWr s v k r d).Canon := by
  unfold vppbWr
  extract_lets
  split
  · exact h.modVx
  · exact h.modVx
  · exact h.modVx
  · exact h.modVx
  · exact h.modVx
  · exact .ite h.modVx.busResetSet h.modVx
  · exact h.modVx
  · exact h.modVx
  · exact .ite h.modVx.vppbDisable h.modVx
  · exact .ite h.modVx h.modVx.slotPower
  · exact h.modVx
  · exact .ite h (.ite h.modVx.contain h.modVx)
  · exact .ite h.dpcClear h
  · exact h.modVx

protected theorem State.Canon.uspWr {v r d} (h : s.Canon) : (uspWr s v r d).Canon := h.modUx

protected theorem State.Canon.ldWr {n r d} (h : s.Canon) : (ldWr s n r d).Canon := by
  unfold ldWr
  extract_lets
  split
  · exact h.modFx
  · exact h.modFx
  · exact .ite h.ldReset h.modFx
  · exact h.modFx
  · exact h.modFx
  · exact h.modFx

protected theorem State.Canon.cfgDo {v ok rd wr w} (h : s.Canon) (hw : ∀ d, (wr d).Canon) :
    (cfgDo s v ok rd wr w).Canon := by
  unfold cfgDo
  refine .ite h.out ?_
  split
  · exact h.out
  · exact (hw _).out

protected theorem State.Canon.execConfigRequest {v t r w} (h : s.Canon) : Keeps (execConfigRequest v t r w s) := by
  unfold execConfigRequest
  refine .next ?_
  extract_lets
  split
  · exact h.fnCfg
  · exact h.cfgDo fun _ => h.vppbWr
  · exact h.cfgDo fun _ => h.uspWr
  · exact .ite h.inc.out (h.cfgDo fun _ => h.ldWr)

protected theorem State.Canon.barErr {n bit a} (h : s.Canon) : (barErr s n bit a).Canon :=
  .ite (.ite h.fnCor h.fnCor.fnUnc) h.fnUnc

protected theorem State.Canon.barFail {n status bit a} (h : s.Canon) : (barFail s n status bit a).Canon :=
  .ite h.barErr.fnCpl h.barErr

protected theorem State.Canon.msixWr {n o len d} (h : s.Canon) : (msixWr s n o len d).Canon := h.modFx.msixFlush

protected theorem State.Canon.mboxWr {o d} (h : s.Canon) : (mboxWr s o d).Canon := h.frame rfl

protected theorem State.Canon.pageWr {n o d} (h : s.Canon) : (pageWr s n o d).Canon :=
  .ite (.ite h.doorbell h) (.ite h.modFx (.ite h.msixWr (.ite h.mboxWr h)))

protected theorem State.Canon.pageAcc {n a} (h : s.Canon) : (pageAcc s n a).Canon := by
  unfold pageAcc
  refine .ite h.barFail ?_
  split
  · exact h.pageWr
  · exact h.fnCpl

protected theorem State.Canon.rowsRead {a len e} (h : s.Canon) : (rowsRead s a len e).1.Canon :=
  .foldl_fst (.pair h) fun _ _ h => .pair h.spdDo

protected theorem State.Canon.winSpdRead {n b a e} (h : s.Canon) : (winSpdRead s n b a e).Canon :=
  h.foldl fun _ _ h => h.rowsRead.fnCpl

protected theorem State.Canon.winPoolRead {n b a} (h : s.Canon) : (winPoolRead s n b a).Canon :=
  h.foldl fun _ _ h => h.hopId.modFx.present

protected theorem State.Canon.winPoolWrite {n b d} (h : s.Canon) : (winPoolWrite s n b d).Canon :=
  h.foldl fun _ _ h => h.savePiece

protected theorem State.Canon.winAcc {n a e} (h : s.Canon) : (winAcc s n a e).Canon := by
  unfold winAcc
  refine .ite h.mpuPass.barFail (.ite ?_ ?_)
  · split
    · exact h.mpuPass.bankRefused.barFail
    · exact h
    · split
      · exact h.mpuPass.spdPut
      · exact h.mpuPass.winSpdRead
  · split
    · exact h.mpuPass.winPoolWrite
    · exact h.mpuPass.winPoolRead

protected theorem State.Canon.execWindowAccess {n a e} (h : s.Canon) : Keeps (execWindowAccess n a e s) :=
  .next (.ite h (.ite h.fnUnc (.ite h.barFail (.ite h.pageAcc h.winAcc))))

/-! ### Sys2Proof/Machine/Leat -/

protected theorem State.Canon.execLeatWindow (h : s.Canon) : Keeps (execLeatWindow s) := .next h.modMill.put

protected theorem State.Canon.execLeatWrite (h : s.Canon) : Keeps (execLeatWrite s) := by
  unfold execLeatWrite
  refine .next ?_
  split
  · exact h
  · refine .ite h.put ?_
    split
    · exact .ite h h.put.raise
    · extract_lets
      split
      · exact h.modMill.put.inc.mcRelease
      · exact h.modMill.put.inc.freeCells

protected theorem State.Canon.chainLost {e q} (h : s.Canon) : (chainLost e s q).Canon :=
  .ite h.inc.raise (.ite h.inc.sentClose.answer h.inc)

protected theorem State.Canon.execLeatRefill {k err} (h : s.Canon) : Keeps (execLeatRefill k err s) := by
  unfold execLeatRefill
  refine .next ?_
  split
  · exact h.leaveSpill
  · exact h
  · refine .ite h (.ite (h.freeChain.raise.foldl fun _ _ h => h.chainLost) (.ite h (.ite h.put ?_)))
    extract_lets _ _ s1
    have h1 : s1.Canon := by
      dsimp only [s1]
      split
      · exact .raise (.inc (.uncorrectable (.ite h.modMill.put h.modMill)))
      · exact .ite h.modMill.put h.modMill
    exact h1.takeCells.pushQueue.leaveSpill

/-! ### Sys2Proof/Machine/Step -/

protected theorem State.Canon.exec (h : s.Canon) : ∀ c, Keeps (exec c s)
  | .registerWrite .. => h.execRegisterWrite
  | .registerAccessError .. => h.execRegisterAccessError
  | .lowHalfWrite .. => h.execLowHalfWrite
  | .highHalfWrite .. => h.execHighHalfWrite
  | .lowHalfRead .. => h.execLowHalfRead
  | .highHalfRead .. => h.execHighHalfRead
  | .readClearField .. => h.execReadClearField
  | .blockLock .. => h.execBlockLock
  | .tileCrossingLaneFail .. => h.execTileCrossingLaneFail
  | .fullLoad .. => h.execFullLoad
  | .bootOk .. => h.execBootOk
  | .bootConfirmTimeout => h.execBootConfirmTimeout
  | .antiRollbackCommit .. => h.execAntiRollbackCommit
  | .arbBurnDone => h.execArbBurnDone
  | .groupReload .. => h.execGroupReload
  | .flashErase .. => h.execFlashErase
  | .flashProgram .. => h.execFlashProgram
  | .flashRead .. => h.execFlashRead
  | .flashOpDone .. => h.execFlashOpDone
  | .refclkLost .. => h.execRefclkLost
  | .refclkRestored .. => h.execRefclkRestored
  | .linkTraining .. => h.execLinkTraining
  | .trainingRetry .. => h.execTrainingRetry
  | .linkDisable .. => h.execLinkDisable
  | .retrain .. => h.execRetrain
  | .eqRedo .. => h.execEqRedo
  | .laneClear .. => h.execLaneClear
  | .l0pNarrow .. => h.execL0pNarrow
  | .l0pWiden .. => h.execL0pWiden
  | .l0pPartnerRequest .. => h.execL0pPartnerRequest
  | .widenLaneTimeout .. => h.execWidenLaneTimeout
  | .l1Entry .. => h.execL1Entry
  | .l1RequestAccept .. => h.execL1RequestAccept
  | .l1Exit .. => h.execL1Exit
  | .laneFailed .. => h.execLaneFailed
  | .recoveryTimeout .. => h.execRecoveryTimeout
  | .flitSend .. => h.execFlitSend
  | .flitReceive .. => h.execFlitReceive
  | .replay .. => h.execReplay
  | .nakTimeout .. => h.execNakTimeout
  | .replayTimeout .. => h.execReplayTimeout
  | .oflTraining .. => h.execOflTraining
  | .oflTrainingRetry .. => h.execOflTrainingRetry
  | .laneReq .. => h.execLaneReq
  | .laneAcc .. => h.execLaneAcc
  | .laneRej .. => h.execLaneRej
  | .laneReady .. => h.execLaneReady
  | .alignmentRun .. => h.execAlignmentRun
  | .addLaneTimeout .. => h.execAddLaneTimeout
  | .laneReqResend .. => h.execLaneReqResend
  | .oflLaneFailed _ _ cause => h.execOflLaneFailed (_cause := cause)
  | .laneCheck .. => h.execLaneCheck
  | .oflPmNarrow .. => h.execOflPmNarrow
  | .oflPmWiden .. => h.execOflPmWiden
  | .oflLaneCmd .. => h.execOflLaneCmd
  | .resumeFlit .. => h.execResumeFlit
  | .recoveryRateDrop .. => h.execRecoveryRateDrop
  | .oflRecoveryTimeout .. => h.execOflRecoveryTimeout
  | .oflRedetect .. => h.execOflRedetect
  | .trackerExpire .. => h.execTrackerExpire
  | .headraceAccept .. => h.execHeadraceAccept
  | .admitWaiting .. => h.execAdmitWaiting
  | .tailraceDequeue .. => h.execTailraceDequeue
  | .tcMapWrite .. => h.execTcMapWrite
  | .congestionHoldExpire .. => h.execCongestionHoldExpire
  | .multicastTimeout .. => h.execMulticastTimeout
  | .portDown .. => h.execPortDown
  | .flushComplete .. => h.execFlushComplete
  | .leatWrite => h.execLeatWrite
  | .leatRefill .. => h.execLeatRefill
  | .leatWindow => h.execLeatWindow
  | .bankFailed .. => h.execBankFailed
  | .bankMapout .. => h.execBankMapout
  | .tableRead .. => h.execTableRead
  | .tableWrite .. => h.execTableWrite
  | .decoderCommit .. => h.execDecoderCommit
  | .bind .. => h.execBind
  | .ldAllocationConfirm .. => h.execLdAllocationConfirm
  | .ldAllocationTimeout .. => h.execLdAllocationTimeout
  | .unbind .. => h.execUnbind
  | .unbindDrainEnd .. => h.execUnbindDrainEnd
  | .unbindDrainTimeout .. => h.execUnbindDrainTimeout
  | .managedUnbindTimeout .. => h.execManagedUnbindTimeout
  | .setRpid .. => h.execSetRpid
  | .slotPowerControl .. => h.execSlotPowerControl
  | .windowCommit .. => h.execWindowCommit
  | .windowDrainEnd => h.execWindowDrainEnd
  | .failoverReenable .. => h.execFailoverReenable
  | .autoRestore .. => h.execAutoRestore
  | .pathRestore .. => h.execPathRestore
  | .restoreComplete => h.execRestoreComplete
  | .restoreAbort => h.execRestoreAbort
  | .directoryRequest .. => h.execDirectoryRequest
  | .birspReceive => h.execBirspReceive
  | .biconflict => h.execBiconflict
  | .biTimeout .. => h.execBiTimeout
  | .hostRemove .. => h.execHostRemove
  | .hostRemovalComplete .. => h.execHostRemovalComplete
  | .hostAdmit .. => h.execHostAdmit
  | .flushExtents .. => h.execFlushExtents
  | .clearDoubtfulSets .. => h.execClearDoubtfulSets
  | .sliceFailed .. => h.execSliceFailed
  | .sliceFail .. => h.execSliceFail
  | .doubtSweep .. => h.execDoubtSweep
  | .rotationStart .. => h.execRotationStart
  | .rotationDrainEnd => h.execRotationDrainEnd
  | .rotationDrainTimeout => h.execRotationDrainTimeout
  | .poolInit .. => h.execPoolInit
  | .extentZeroed .. => h.execExtentZeroed
  | .extentGrant .. => h.execExtentGrant
  | .extentActivate .. => h.execExtentActivate
  | .extentCancel .. => h.execExtentCancel
  | .extentRelease .. => h.execExtentRelease
  | .releaseDrainDone => h.execReleaseDrainDone
  | .extentZero .. => h.execExtentZero
  | .extentRead .. => h.execExtentRead
  | .mapSlotRead .. => h.execMapSlotRead
  | .mapSlotWrite .. => h.execMapSlotWrite
  | .dramAccess .. => h.execDramAccess
  | .errorWindowExpire => h.execErrorWindowExpire
  | .channelFailed .. => h.execChannelFailed
  | .phyTrainingLost .. => h.execPhyTrainingLost
  | .patrolScrubRead .. => h.execPatrolScrubRead
  | .dramRefresh .. => h.execDramRefresh
  | .configRequest .. => h.execConfigRequest
  | .doorbell .. => h.execDoorbell
  | .fnCfgWrite .. => h.execFnCfgWrite
  | .qmapRead .. => h.execQmapRead
  | .qmapWrite .. => h.execQmapWrite
  | .windowAccess .. => h.execWindowAccess
  | .dpcTrigger .. => h.execDpcTrigger
  | .dpcClear .. => h.execDpcClear
  | .functionLevelReset .. => h.execFunctionLevelReset
  | .busMasterEnableClear .. => h.execBusMasterEnableClear
  | .vfEnableClear => h.execVfEnableClear
  | .secondaryBusReset .. => h.execSecondaryBusReset
  | .tagReclaim .. => h.execTagReclaim
  | .tagRelease .. => h.execTagRelease
  | .shutdownComplete .. => h.execShutdownComplete
  | .d3hotEnter .. => h.execD3hotEnter
  | .d0Return .. => h.execD0Return
  | .freeze .. => h.execFreeze
  | .freezeComplete .. => h.execFreezeComplete
  | .freezeTimeout .. => h.execFreezeTimeout
  | .save .. => h.execSave
  | .restore .. => h.execRestore
  | .unfreeze .. => h.execUnfreeze
  | .descriptorFetch .. => h.execDescriptorFetch
  | .handOver .. => h.execHandOver
  | .burstIssue .. => h.execBurstIssue
  | .readDataArrive .. => h.execReadDataArrive
  | .dataTimeout .. => h.execDataTimeout
  | .fetchTimeout .. => h.execFetchTimeout
  | .chainComplete .. => h.execChainComplete
  | .tailWrite .. => h.execTailWrite
  | .shadowWrite .. => h.execShadowWrite
  | .shadowArm .. => h.execShadowArm
  | .shadowDisarm .. => h.execShadowDisarm
  | .channelEnable .. => h.execChannelEnable
  | .channelDisable .. => h.execChannelDisable
  | .channelPause .. => h.execChannelPause
  | .channelResume .. => h.execChannelResume
  | .channelRetry .. => h.execChannelRetry
  | .channelSkip .. => h.execChannelSkip
  | .channelClear .. => h.execChannelClear
  | .channelAbort .. => h.execChannelAbort
  | .abortComplete .. => h.execAbortComplete
  | .engineModeWrite .. => h.execEngineModeWrite
  | .engineFailed .. => h.execEngineFailed
  | .engineFail .. => h.execEngineFail
  | .scratchpadAccess .. => h.execScratchpadAccess
  | .bankOwnerWrite .. => h.execBankOwnerWrite
  | .ownerDrainEnd .. => h.execOwnerDrainEnd
  | .bankPowerWrite .. => h.execBankPowerWrite
  | .bankReady .. => h.execBankReady
  | .regionWord0Write .. => h.execRegionWord0Write
  | .regionWord1Write .. => h.execRegionWord1Write
  | .mpuFence .. => h.execMpuFence
  | .fenceComplete .. => h.execFenceComplete
  | .coreAccess .. => h.execCoreAccess
  | .timerInterrupt .. => h.execTimerInterrupt
  | .softwareInterrupt .. => h.execSoftwareInterrupt
  | .coreFailed .. => h.execCoreFailed
  | .coreFail .. => h.execCoreFail
  | .coreRestart .. => h.execCoreRestart
  | .watchdogKick .. => h.execWatchdogKick
  | .watchdogExpire .. => h.execWatchdogExpire
  | .readySet .. => h.execReadySet
  | .transportReceive .. => h.execTransportReceive
  | .transportSend .. => h.execTransportSend
  | .ethernetFrame .. => h.execEthernetFrame
  | .commandWaitTimeout => h.execCommandWaitTimeout
  | .unsupportedCommand _ opcode => h.execUnsupportedCommand (_opcode := opcode)
  | .identifySwitchDevice .. => h.execIdentifySwitchDevice
  | .getPhysicalPortState .. => h.execGetPhysicalPortState
  | .getVirtualCxlSwitchInfo .. => h.execGetVirtualCxlSwitchInfo
  | .getLdInfo .. => h.execGetLdInfo
  | .getLdAllocations .. => h.execGetLdAllocations
  | .getQosControl .. => h.execGetQosControl
  | .getQosStatus .. => h.execGetQosStatus
  | .getQosAllocatedBw .. => h.execGetQosAllocatedBw
  | .getQosBwLimit .. => h.execGetQosBwLimit
  | .getDcdInfo .. => h.execGetDcdInfo
  | .getHostDcRegionConfiguration .. => h.execGetHostDcRegionConfiguration
  | .getDcRegionExtentLists .. => h.execGetDcRegionExtentLists
  | .physicalPortControl .. => h.execPhysicalPortControl
  | .sendPpbCxlIoConfigRequest .. => h.execSendPpbCxlIoConfigRequest
  | .sendLdCxlIoConfigRequest .. => h.execSendLdCxlIoConfigRequest
  | .sendLdCxlIoMemoryRequest .. => h.execSendLdCxlIoMemoryRequest
  | .bindVppb .. => h.execBindVppb
  | .unbindVppb .. => h.execUnbindVppb
  | .generateAerEvent .. => h.execGenerateAerEvent
  | .tunnelManagementCommand .. => h.execTunnelManagementCommand
  | .setLdAllocations .. => h.execSetLdAllocations
  | .setQosControl .. => h.execSetQosControl
  | .setQosAllocatedBw .. => h.execSetQosAllocatedBw
  | .setQosBwLimit .. => h.execSetQosBwLimit
  | .setDcRegionConfiguration .. => h.execSetDcRegionConfiguration
  | .initiateDynamicCapacityAdd .. => h.execInitiateDynamicCapacityAdd
  | .initiateDynamicCapacityRelease .. => h.execInitiateDynamicCapacityRelease
  | .getTelemetry .. => h.execGetTelemetry
  | .getFaultHistory .. => h.execGetFaultHistory
  | .flashOperation .. => h.execFlashOperation
  | .commitAntiRollback .. => h.execCommitAntiRollback
  | .groupReloadCommand .. => h.execGroupReloadCommand
  | .hostCoherence .. => h.execHostCoherence
  | .setSharingGroup .. => h.execSetSharingGroup
  | .setProxyExpander .. => h.execSetProxyExpander
  | .setEndpointId .. => h.execSetEndpointId
  | .getEndpointId .. => h.execGetEndpointId
  | .getEndpointUuid .. => h.execGetEndpointUuid
  | .getMctpVersionSupport .. => h.execGetMctpVersionSupport
  | .getMessageTypeSupport .. => h.execGetMessageTypeSupport
  | .identifyMemoryDevice .. => h.execIdentifyMemoryDevice
  | .getEventRecords .. => h.execGetEventRecords
  | .clearEventRecords .. => h.execClearEventRecords
  | .getDynamicCapacityConfiguration .. => h.execGetDynamicCapacityConfiguration
  | .getDynamicCapacityExtentList .. => h.execGetDynamicCapacityExtentList
  | .addDynamicCapacityResponse .. => h.execAddDynamicCapacityResponse
  | .releaseDynamicCapacity .. => h.execReleaseDynamicCapacity
  | .getHealthInfo .. => h.execGetHealthInfo
  | .getSupportedLogs .. => h.execGetSupportedLogs
  | .getLog .. => h.execGetLog
  | .dsaConfigRead .. => h.execDsaConfigRead
  | .dsaConfigWrite .. => h.execDsaConfigWrite
  | .dsaMemoryRead .. => h.execDsaMemoryRead
  | .dsaMemoryWrite .. => h.execDsaMemoryWrite
  | .dsaComplete .. => h.execDsaComplete
  | .dsaTimeout => h.execDsaTimeout
  | .slotEnable .. => h.execSlotEnable
  | .slotDisable .. => h.execSlotDisable
  | .slotPowerUp .. => h.execSlotPowerUp
  | .rampFail .. => h.execRampFail
  | .slowTrip .. => h.execSlowTrip
  | .fastTrip .. => h.execFastTrip
  | .coolDownExpire .. => h.execCoolDownExpire
  | .presenceInsert .. => h.execPresenceInsert
  | .presenceRemove .. => h.execPresenceRemove
  | .reverseCurrent .. => h.execReverseCurrent
  | .reverseRecover .. => h.execReverseRecover
  | .busUndervoltage .. => h.execBusUndervoltage
  | .busOvervoltage .. => h.execBusOvervoltage
  | .uvHoldExpire .. => h.execUvHoldExpire
  | .busGood .. => h.execBusGood
  | .switchover .. => h.execSwitchover
  | .deadTimeExpire .. => h.execDeadTimeExpire
  | .forceWrite .. => h.execForceWrite
  | .passTransistorShort .. => h.execPassTransistorShort
  | .limitWrite .. => h.execLimitWrite
  | .measurementRefresh .. => h.execMeasurementRefresh
  | .brakeEvent .. => h.execBrakeEvent
  | .blockResetRelease .. => h.execBlockResetRelease
  | .windowClose .. => h.execWindowClose
  | .severeClear .. => h.execSevereClear
  | .reactionWrite .. => h.execReactionWrite
  | .reactionRewrite .. => h.execReactionRewrite
  | .pinRelease .. => h.execPinRelease
  | .pinReleaseDeferred .. => h.execPinReleaseDeferred
  | .historyPop .. => h.execHistoryPop
  | .historyClear .. => h.execHistoryClear
  | .injectionArm .. => h.execInjectionArm
  | .injectionDisarm .. => h.execInjectionDisarm
  | .softwareRaise .. => h.execSoftwareRaise
  | .programKeySet .. => h.execProgramKeySet
  | .revokeKeySet .. => h.execRevokeKeySet
  | .programImageSeed .. => h.execProgramImageSeed
  | .clearAlarm .. => h.execClearAlarm
  | .debugToken .. => h.execDebugToken
  | .fuseBurnDone .. => h.execFuseBurnDone
  | .tokenExpire => h.execTokenExpire
  | .spdmMessage .. => h.execSpdmMessage
  | .keyProg .. => h.execKeyProg
  | .kSetGo .. => h.execKSetGo
  | .kSetStop .. => h.execKSetStop
  | .keyProgram .. => h.execKeyProgram
  | .tamperInput .. => h.execTamperInput
  | .voltageGlitch => h.execVoltageGlitch
  | .clockGlitch => h.execClockGlitch
  | .limiterTick .. => h.execLimiterTick
  | .thermalSample .. => h.execThermalSample
  | .thermalHoldEnd => h.execThermalHoldEnd
  | .lockstepMismatch => h.execLockstepMismatch
  | .sramScrubRead .. => h.execSramScrubRead
  | .adaptationVisit .. => h.execAdaptationVisit
  | .adaptationDecide .. => h.execAdaptationDecide
  | .logStart => h.execLogStart
  | .logRecord => h.execLogRecord
  | .logPageProgram => h.execLogPageProgram
  | .logFlushTimeout => h.execLogFlushTimeout
  | .logFlashDone .. => h.execLogFlashDone
  | .telemetrySnapshot => h.execTelemetrySnapshot
  | .rotationDue => h.execRotationDue
  | .rotationRetry => h.execRotationRetry
  | .sliceTestDone .. => h.execSliceTestDone
  | .engineTestTurn => h.execEngineTestTurn
  | .engineTestSlice .. => h.execEngineTestSlice
  | .engineTestSkip => h.execEngineTestSkip
  | .spareLaneTest .. => h.execSpareLaneTest
  | .counterTick .. => h.execCounterTick
  | .snapshot .. => h.execSnapshot
  | .counterClear .. => h.execCounterClear
  | .selectorWrite .. => h.execSelectorWrite
  | .sampleTimeout .. => h.execSampleTimeout
  | .samplePop .. => h.execSamplePop
  | .sampleClear .. => h.execSampleClear
  | .powerOnReset => h.execPowerOnReset
  | .powerUp .. => h.execPowerUp
  | .chipReset .. => h.execChipReset
  | .resetPin .. => h.execResetPin
  | .softwareChipReset .. => h.execSoftwareChipReset
  | .railFault .. => h.execRailFault
  | .brownOut .. => h.execBrownOut
  | .brownOutEnd .. => h.execBrownOutEnd
  | .slcSupplyLoss => h.execSlcSupplyLoss
  | .slcSupplyRestore => h.execSlcSupplyRestore
  | .sysclkLoss .. => h.execSysclkLoss
  | .sysclkRestore .. => h.execSysclkRestore
  | .aoclkLoss => h.execAoclkLoss
  | .aoclkRestore => h.execAoclkRestore
  | .avsAdjust .. => h.execAvsAdjust
  | .perstAssert .. => h.execPerstAssert
  | .perstRelease .. => h.execPerstRelease
  | .hotReset .. => h.execHotReset
  | .vcsResetComplete .. => h.execVcsResetComplete
  | .poolStandbyEnter .. => h.execPoolStandbyEnter
  | .poolStandbyExit .. => h.execPoolStandbyExit
  | .recoveryRetrainComplete .. => h.execRecoveryRetrainComplete
  | .addLaneLock .. => h.execAddLaneLock
  | .hostCompletionTimeout .. => h.execHostCompletionTimeout
  | .channelRetrainComplete .. => h.execChannelRetrainComplete
  | .portRedetect .. => h.execPortRedetect
  | .vppbLinkDisable .. => h.execVppbLinkDisable
  | .currentLimit .. => h.execCurrentLimit

protected theorem State.Canon.step (h : s.Canon) : Keeps (step s) := by
  unfold step
  split
  · exact .next h.idle
  · refine State.Canon.exec ?_ _
    exact h.frame rfl

protected theorem State.Canon.withFetchWord {nbits w} (h : s.Canon) : (s.withFetchWord nbits w).Canon := by
  unfold State.withFetchWord
  split
  · exact h.frame rfl
  · exact h

/-- Settles O60: `State.Canon` is kept by every function of the model, so by `exec` of every command and by `step`. -/
theorem stepsKeepMemoriesCanonical : Obligations.StepsKeepMemoriesCanonical :=
  fun s t h e => t.canon_iff.2 (State.Canon.step (s.canon_iff.1 h) t e)

end Sys2Proof.Machine
end

section
namespace Sys2Proof.Machine

/-- Settles O1: `step` on a queue that is not empty is by definition `exec` of its front. -/
theorem stepRunsTheFrontCommand : Obligations.StepRunsTheFrontCommand := fun _ _ _ => rfl

/-- A register whose difference from its Reset value is not listed reads its Reset value. -/
theorem State.rd_of_regs_nil {s : State} (h : s.regs = []) (r : Reg) : s.rd r = r.rst := by
  simp only [State.rd, h, tget, BitVec.zero_xor]

/-- Settles O3: in the state after reset no difference from a Reset value is listed. -/
theorem resetState : Obligations.ResetState := ⟨State.reset.canon_iff.2 .reset, State.rd_of_regs_nil rfl⟩

end Sys2Proof.Machine
end

section
/-!
Register accesses by address (R4, R5, R9, R450): what an access of each kind does, said once, for O4, O5 and O6.
-/

namespace Sys2Proof.Machine

variable {s : State} {mid a size v : Nat} {row : RegRow} {r : Reg}

/-! ### Holding registers (R5) -/

@[simp] theorem holdPut_outs (s : State) (mid : Nat) (x : Option Hold) : (holdPut s mid x).outs = s.outs := rfl

@[simp] theorem holdPut_get (s : State) (mid : Nat) (x : Option Hold) (f : Fld) : (holdPut s mid x).get f = s.get f := rfl

@[simp] theorem holdOf_holdPut (s : State) (mid : Nat) (x : Option Hold) : holdOf (holdPut s mid x) mid = x :=
  tget_tput_self ..

@[simp] theorem holdOf_out (s : State) (o : Out) (mid : Nat) : holdOf (s.out o) mid = holdOf s mid := rfl

/-! ### A write of a register -/

@[simp] theorem writeReg_hold (s : State) (r : Reg) (w : Wr) (deny : Word) : (s.writeReg r w deny).hold = s.hold := by
  unfold State.writeReg
  split
  · rfl
  · simp only
    split <;> simp

@[simp] theorem holdOf_writeReg (s : State) (r : Reg) (w : Wr) (deny : Word) (mid : Nat) :
    holdOf (s.writeReg r w deny) mid = holdOf s mid := by
  simp [holdOf]

/-- A write of a register that no handler takes, and of no unused port, is applied field by field. -/
theorem regWrite_eq_writeReg {w : Wr} (hh : handlerAt r.addr = none) (hp : portShut s r.addr = false) :
    regWrite s r w = s.writeReg r w := by
  simp [regWrite, hh, hp]

theorem fldsOk_of {l : List FRow} {n : Nat} (hn : n ≤ 64)
    (h : (l.all fun f => decide (f.hi < n) && decide (f.lo ≤ f.hi)) = true)
    (hp : l.Pairwise fun f g => f.hi < g.lo ∨ g.hi < f.lo) : fldsOk l = true := by
  simp only [List.all_eq_true, Bool.and_eq_true, decide_eq_true_eq] at h
  simp only [fldsOk, Bool.and_eq_true, List.all_eq_true, decide_eq_true_eq]
  exact ⟨fun f hf => ⟨lt_of_lt_of_le (h f hf).1 hn, (h f hf).2⟩, hp⟩

/-- A field that refuses the write, or none of whose bits are presented, keeps its value. -/
theorem State.get_writeReg_keep (s : State) (r : Reg) {f : FRow} (w : Wr) (deny : Word) {a : Nat}
    (h : regAt r.addr = some (row, a)) (hb : r.addr ≠ R.BRK_LOSS.addr) (hok : fldsOk row.flds = true)
    (hf : f ∈ row.flds)
    (hn : fieldNo (s.locked r.addr) deny w f = true ∨ ∀ i, f.lo ≤ i → i ≤ f.hi → w.mask.getLsbD i = false) :
    (s.writeReg r w deny).get ⟨r, f.hi, f.lo⟩ = s.get ⟨r, f.hi, f.lo⟩ := by
  apply Nat.eq_of_testBit_eq
  intro i
  simp only [State.get, State.rd_writeReg s r w deny h hb, testBit_bitsGet]
  by_cases hi : i < f.hi + 1 - f.lo
  · rw [fold_bit _ _ _ _ _ _ _ _ hok hf (show f.lo ≤ f.lo + i by omega) (show f.lo + i ≤ f.hi by omega)]
    rcases hn with hn | hn
    · rw [if_pos hn]
    · split
      · rfl
      · cases f.ty <;> simp [hn (f.lo + i) (by omega) (by omega)]
  · simp [hi]

/-- A read-write field takes what a write presents for all its bits. -/
theorem State.get_writeReg_presented (s : State) (r : Reg) {f : FRow} (w : Wr) {a : Nat}
    (h : regAt r.addr = some (row, a)) (hb : r.addr ≠ R.BRK_LOSS.addr) (hok : fldsOk row.flds = true)
    (hf : f ∈ row.flds)
    (ht : f.ty = .rw) (hm : ∀ i, f.lo ≤ i → i ≤ f.hi → w.mask.getLsbD i = true) :
    (s.writeReg r w).get ⟨r, f.hi, f.lo⟩ = bitsGet w.v f.hi f.lo := by
  obtain ⟨hi, lo, ty⟩ := f
  subst ht
  exact State.get_writeReg_rw s r hi lo .rw w 0#64 h hb hok hf (.inl rfl) (by simp [fieldNo]) hm

/-! ### RC fields (R6, R9) -/

theorem getLsbD_foldl_mask (l : List FRow) (m : Word) (i : Nat) :
    (l.foldl (fun m f => m ||| bitsMask f.hi f.lo) m).getLsbD i
      = (m.getLsbD i || l.any fun f => (bitsMask f.hi f.lo).getLsbD i) := by
  induction l generalizing m with
  | nil => simp
  | cons f l ih => simp [ih, Bool.or_assoc]

/-- A read of a register clears its RC fields that lie in the bits read. -/
theorem get_clearRc {f : FRow} {mask : Word} (hf : f ∈ row.flds) (ht : f.ty = .rc) (hhi : f.hi < 64)
    (hlo : f.lo ≤ f.hi) (hm : mask.getLsbD f.lo = true) : (clearRc s row r mask).get ⟨r, f.hi, f.lo⟩ = 0 := by
  have hne : (bitsMask f.hi f.lo &&& mask != 0#64) = true := by
    rw [bne_iff_ne]
    intro h
    have := congrArg (·.getLsbD f.lo) h
    simp [getLsbD_bitsMask _ _ _ hhi hlo, hm, hlo] at this
  apply Nat.eq_of_testBit_eq
  intro i
  simp only [State.get, clearRc, State.rd_wr_self, testBit_bitsGet, Nat.zero_testBit, Bool.and_eq_false_iff,
    decide_eq_false_iff_not]
  by_cases hi : i < f.hi + 1 - f.lo
  · right
    have : (bitsMask f.hi f.lo).getLsbD (f.lo + i) = true := by
      simp [getLsbD_bitsMask _ _ _ hhi hlo, show f.lo + i ≤ f.hi by omega]
    simp only [BitVec.getLsbD_and, BitVec.getLsbD_not, getLsbD_foldl_mask, Bool.and_eq_false_iff]
    right
    have : ((row.flds.filter fun f => f.ty == .rc && bitsMask f.hi f.lo &&& mask != 0#64).any
        fun g => (bitsMask g.hi g.lo).getLsbD (f.lo + i)) = true :=
      List.any_eq_true.2 ⟨f, List.mem_filter.2 ⟨hf, by simp [ht, hne]⟩, this⟩
    simp [this]
  · exact .inl hi

@[simp] theorem clearRc_outs (s : State) (row : RegRow) (r : Reg) (mask : Word) :
    (clearRc s row r mask).outs = s.outs := rfl

/-! ### Accesses (R4, R5), after the debug port's MPU -/

theorem busWrite_bad (ht : inTblWin a = false) (hk : accKind a size = .bad) :
    busWrite s mid a size v = (accErr s mid a size true, true) := by
  simp [busWrite, ht, hk]

theorem busWrite_whole (ht : inTblWin a = false) (hk : accKind a size = .whole row r) :
    busWrite s mid a size v =
      (regWrite (if row.wide then holdPut s mid none else s) r (wrFull mid row.wide (BitVec.ofNat 64 v)), false) := by
  simp [busWrite, ht, hk]

theorem busWrite_low (ht : inTblWin a = false) (hk : accKind a size = .low row r) :
    busWrite s mid a size v = (holdPut s mid (some ⟨v % 2 ^ 32, r.addr, false⟩), false) := by
  simp [busWrite, ht, hk]

/-- What a write of the high half presents when its low half is held: the whole register. -/
def wrJoined (mid v low : Nat) : Wr :=
  { wrFull mid true (BitVec.ofNat 64 (v % 2 ^ 32 * 2 ^ 32 + low)) with size := 4 }

/-- What a write of the high half presents with nothing held. -/
def wrHighOnly (mid v : Nat) : Wr := { mid := mid, v := BitVec.ofNat 64 (v % 2 ^ 32 * 2 ^ 32), mask := hiMask, size := 4 }

theorem busWrite_high_held {low : Nat} (ht : inTblWin a = false) (hk : accKind a size = .high row r)
    (hh : holdOf s mid = some ⟨low, r.addr, false⟩) :
    busWrite s mid a size v = (regWrite (holdPut s mid none) r (wrJoined mid v low), false) := by
  simp [busWrite, ht, hk, hh, wrJoined]

theorem busWrite_high_none (ht : inTblWin a = false) (hk : accKind a size = .high row r) (hh : holdOf s mid = none) :
    busWrite s mid a size v = (regWrite (holdPut s mid none) r (wrHighOnly mid v), false) := by
  simp [busWrite, ht, hk, hh, wrHighOnly]

theorem busRead_bad (ht : inTblWin a = false) (hk : accKind a size = .bad) :
    busRead s mid a size = (accErr s mid a size false, true, 0) := by
  simp [busRead, ht, hk]

theorem busRead_whole (ht : inTblWin a = false) (hk : accKind a size = .whole row r) :
    busRead s mid a size =
      (if row.wide then holdPut (clearRc s row r (BitVec.allOnes 64)) mid none else clearRc s row r loMask, false,
        (regShow s mid r).toNat) := by
  cases hw : row.wide <;> simp [busRead, ht, hk, hw]

theorem busRead_low (ht : inTblWin a = false) (hk : accKind a size = .low row r) :
    busRead s mid a size = (holdPut (clearRc s row r (BitVec.allOnes 64)) mid
      (some ⟨hiHalf (regShow s mid r), r.addr, true⟩), false, loHalf (regShow s mid r)) := by
  simp [busRead, ht, hk]

theorem busRead_high_held {val : Nat} (ht : inTblWin a = false) (hk : accKind a size = .high row r)
    (hh : holdOf s mid = some ⟨val, r.addr, true⟩) : busRead s mid a size = (holdPut s mid none, false, val) := by
  simp [busRead, ht, hk, hh]

theorem busRead_high_none (ht : inTblWin a = false) (hk : accKind a size = .high row r) (hh : holdOf s mid = none) :
    busRead s mid a size = (holdPut (clearRc s row r hiMask) mid none, false, hiHalf (regShow s mid r)) := by
  simp [busRead, ht, hk, hh]

/-! ### Accesses and their answers -/

/-- No MPU checks here what another master than the debug port accesses (R291). -/
theorem busWriteRow_of_ne (h : mid ≠ 0x020) :
    busWriteRow s mid a size v = (busWrite s mid a size v).1.out (.resp mid (busWrite s mid a size v).2 0) := by
  simp [busWriteRow, busPass, h]

theorem busReadRow_of_ne (h : mid ≠ 0x020) :
    busReadRow s mid a size =
      (busRead s mid a size).1.out (.resp mid (busRead s mid a size).2.1 (busRead s mid a size).2.2) := by
  simp [busReadRow, busPass, h]

theorem busWriteRow_low (h : mid ≠ 0x020) (ht : inTblWin a = false) (hk : accKind a size = .low row r) :
    busWriteRow s mid a size v = (holdPut s mid (some ⟨v % 2 ^ 32, r.addr, false⟩)).out (.resp mid false 0) := by
  rw [busWriteRow_of_ne h, busWrite_low ht hk]

theorem busWriteRow_high_held {low : Nat} (h : mid ≠ 0x020) (ht : inTblWin a = false)
    (hk : accKind a size = .high row r) (hn : handlerAt r.addr = none) (hp : portShut s r.addr = false)
    (hh : holdOf s mid = some ⟨low, r.addr, false⟩) :
    busWriteRow s mid a size v = ((holdPut s mid none).writeReg r (wrJoined mid v low)).out (.resp mid false 0) := by
  have hp' : portShut (holdPut s mid none) r.addr = false := hp
  rw [busWriteRow_of_ne h, busWrite_high_held ht hk hh, regWrite_eq_writeReg hn hp']

theorem busWriteRow_high_none (h : mid ≠ 0x020) (ht : inTblWin a = false) (hk : accKind a size = .high row r)
    (hn : handlerAt r.addr = none) (hp : portShut s r.addr = false) (hh : holdOf s mid = none) :
    busWriteRow s mid a size v = ((holdPut s mid none).writeReg r (wrHighOnly mid v)).out (.resp mid false 0) := by
  have hp' : portShut (holdPut s mid none) r.addr = false := hp
  rw [busWriteRow_of_ne h, busWrite_high_none ht hk hh, regWrite_eq_writeReg hn hp']

theorem busReadRow_low (h : mid ≠ 0x020) (ht : inTblWin a = false) (hk : accKind a size = .low row r) :
    busReadRow s mid a size = (holdPut (clearRc s row r (BitVec.allOnes 64)) mid
      (some ⟨hiHalf (regShow s mid r), r.addr, true⟩)).out (.resp mid false (loHalf (regShow s mid r))) := by
  rw [busReadRow_of_ne h, busRead_low ht hk]

theorem busReadRow_high_held {val : Nat} (h : mid ≠ 0x020) (ht : inTblWin a = false) (hk : accKind a size = .high row r)
    (hh : holdOf s mid = some ⟨val, r.addr, true⟩) :
    busReadRow s mid a size = (holdPut s mid none).out (.resp mid false val) := by
  rw [busReadRow_of_ne h, busRead_high_held ht hk hh]

theorem busReadRow_high_none (h : mid ≠ 0x020) (ht : inTblWin a = false) (hk : accKind a size = .high row r)
    (hh : holdOf s mid = none) : busReadRow s mid a size =
      (holdPut (clearRc s row r hiMask) mid none).out (.resp mid false (hiHalf (regShow s mid r))) := by
  rw [busReadRow_of_ne h, busRead_high_none ht hk hh]

/-! ### O4 -/

theorem getLsbD_allOnes_of_lt {i : Nat} (h : i < 64) : (BitVec.allOnes 64).getLsbD i = true := by
  rw [BitVec.getLsbD_allOnes, decide_eq_true h]

theorem getLsbD_hiMask (i : Nat) : hiMask.getLsbD i = (decide (32 ≤ i) && decide (i < 64)) := by
  have e : hiMask = bitsMask 63 32 := by decide
  rw [e, getLsbD_bitsMask _ _ _ (by omega) (by omega)]
  congr 1
  exact decide_eq_decide.2 (by omega)

theorem getLsbD_mask_wrJoined {i : Nat} (hi : i < 64) (mid v low : Nat) : (wrJoined mid v low).mask.getLsbD i = true := by
  simp only [wrJoined, wrFull, if_true, BitVec.getLsbD_allOnes, hi, decide_true]

/-- Settles O4: each half access is one of the kinds of `busRead` and `busWrite`. -/
theorem splitAccesses : Obligations.SplitAccesses := by
  refine ⟨fun mid addr v row r s hm ht hk => ?lowWrite,
    fun mid addr v row r s low hm ht hk hr hn hp hb _ hok hd => ?highWrite,
    fun mid addr row r s hm ht => ⟨fun hk => ?lowRead,
      fun hk => ⟨fun val hold => ?heldRead, fun hold => ?highRead⟩⟩⟩
  case lowWrite =>
    refine ⟨_, congrArg Host.Outcome.next (busWriteRow_low hm ht hk), ?_⟩
    rw [Nat.mod_eq_of_lt v.isLt]
    exact ⟨by simp, rfl, rfl, rfl⟩
  case highWrite =>
    have hlt : ∀ f ∈ row.flds, f.hi < 64 := by simp_all
    have hok := fldsOk_of le_rfl hok hd
    refine ⟨fun hold => ⟨_, congrArg Host.Outcome.next (busWriteRow_high_held hm ht hk hn hp hold), by simp, ?_⟩,
      fun hold => ⟨_, congrArg Host.Outcome.next (busWriteRow_high_none hm ht hk hn hp hold), by simp, ?_⟩⟩
    · intro f hf hrw
      rw [out_get, State.get_writeReg_presented _ _ _ hr hb hok hf hrw fun i _ hi =>
        getLsbD_mask_wrJoined (hi.trans_lt (hlt f hf)) _ _ _]
      simp [wrJoined, wrFull, Nat.mod_eq_of_lt v.isLt]
    · intro f hf hrw
      constructor
      · intro hlo
        rw [out_get, State.get_writeReg_presented _ _ _ hr hb hok hf hrw ?_]
        · simp [wrHighOnly, Nat.mod_eq_of_lt v.isLt]
        · intro i h1 h2
          have := hlt f hf
          simp [wrHighOnly, getLsbD_hiMask, show 32 ≤ i by omega, show i < 64 by omega]
      · intro hhi
        rw [out_get, State.get_writeReg_keep _ _ _ _ hr hb hok hf (.inr ?_), holdPut_get]
        intro i h1 h2
        simp [wrHighOnly, getLsbD_hiMask, show i < 32 by omega]
  case lowRead =>
    refine ⟨_, congrArg Host.Outcome.next (busReadRow_low hm ht hk), by simp, rfl, fun f hf hrc hhi hlo => ?_⟩
    rw [out_get, holdPut_get, get_clearRc hf hrc hhi hlo (getLsbD_allOnes_of_lt (hlo.trans_lt hhi))]
  case heldRead =>
    exact ⟨_, congrArg Host.Outcome.next (busReadRow_high_held hm ht hk hold), by simp, rfl, rfl⟩
  case highRead =>
    exact ⟨_, congrArg Host.Outcome.next (busReadRow_high_none hm ht hk hold), by simp, rfl⟩

end Sys2Proof.Machine
end

section
namespace Sys2Proof.Machine

variable {s t : State} {mid a size v : Nat} {row : RegRow} {r : Reg}

/-! ### Accesses of a whole register, and of none -/

/-- An access of a whole register has the register's size. -/
theorem size_of_accKind_whole (hk : accKind a size = .whole row r) : size = if row.wide then 8 else 4 := by
  unfold accKind at hk
  split at hk
  · cases hk
  · simp only at hk
    split at hk
    · next hw =>
      split_ifs at hk with h
      cases hk
      rw [if_pos hw, h.1]
    · next hw =>
      split_ifs at hk with h
      cases hk
      rw [if_neg hw, h.1]

theorem wide_of_accKind_whole {wide : Bool} (hk : accKind a (if wide then 8 else 4) = .whole row r) :
    row.wide = wide := by
  have h := size_of_accKind_whole hk
  cases hw : row.wide <;> cases wide <;> simp_all

theorem getLsbD_loMask (i : Nat) : loMask.getLsbD i = decide (i < 32) := by
  have e : loMask = bitsMask 31 0 := by decide
  rw [e, getLsbD_bitsMask _ _ _ (by omega) (by omega)]
  simp [Nat.lt_succ_iff]

theorem busReadRow_bad (h : mid ≠ 0x020) (ht : inTblWin a = false) (hk : accKind a size = .bad) :
    busReadRow s mid a size = (accErr s mid a size false).out (.resp mid true 0) := by
  rw [busReadRow_of_ne h, busRead_bad ht hk]

theorem busWriteRow_bad (h : mid ≠ 0x020) (ht : inTblWin a = false) (hk : accKind a size = .bad) :
    busWriteRow s mid a size v = (accErr s mid a size true).out (.resp mid true 0) := by
  rw [busWriteRow_of_ne h, busWrite_bad ht hk]

theorem busReadRow_whole (h : mid ≠ 0x020) (ht : inTblWin a = false) (hk : accKind a size = .whole row r) :
    busReadRow s mid a size =
      (if row.wide then holdPut (clearRc s row r (BitVec.allOnes 64)) mid none else clearRc s row r loMask).out
        (.resp mid false (regShow s mid r).toNat) := by
  rw [busReadRow_of_ne h, busRead_whole ht hk]

theorem busWriteRow_whole (h : mid ≠ 0x020) (ht : inTblWin a = false) (hk : accKind a size = .whole row r)
    (hn : handlerAt r.addr = none) (hp : portShut s r.addr = false) :
    busWriteRow s mid a size v = ((if row.wide then holdPut s mid none else s).writeReg r
      (wrFull mid row.wide (BitVec.ofNat 64 v))).out (.resp mid false 0) := by
  have hp' : portShut (if row.wide then holdPut s mid none else s) r.addr = false := by
    cases row.wide <;> exact hp
  rw [busWriteRow_of_ne h, busWrite_whole ht hk, regWrite_eq_writeReg hn hp']

/-! ### Refusals of the debug port's MPU (R295) -/

theorem mpuPass_of_ne {m : Nat} {priv : Bool} {op : AccOp} (h : mpuCheck s m mid priv op a size ≠ .allow) :
    mpuPass s m mid priv op a size =
      (mpuRefused s m mid priv op a (mpuCheck s m mid priv op a size), false) := by
  unfold mpuPass
  split
  · contradiction
  · rfl

theorem regsKept_refl (s : State) (l : List Nat) : regsKept s s l := fun _ _ => rfl

theorem regsKept_put {f : Fld} {n : Nat} {l : List Nat} (h : regsKept s t l) (hf : f.reg.addr ∈ l) :
    regsKept s (t.put f n) l := fun q hq =>
  (State.rd_put_ne t f n q fun e => hq (e ▸ hf)).trans (h q hq)

theorem regsKept_raise {n : Nat} {d : Detail} {l : List Nat} (h : regsKept s t l) (hb : R.BRK_LOSS.addr ∈ l) :
    regsKept s (t.raise n d) l := fun q hq =>
  (raise_rd t n d q fun e => hq (e ▸ hb)).trans (h q hq)

/-- The registers that a refusal changes: the fault registers of the MPU and, by the event, BRK_LOSS. -/
def mpuFaultRegs (m : Nat) : List Nat := [(R.MPU_FAULT m).addr, (R.MPU_FAULT_CNT m).addr, R.BRK_LOSS.addr]

/-- A refusal is counted and latched in the MPU's fault registers, and then raised (R295). -/
theorem mpuRefused_eq_raise (s : State) (m mid a : Nat) (priv : Bool) (op : AccOp) (x : MpuAns) :
    ∃ t, mpuRefused s m mid priv op a x = t.raise (160 + m) ∧ t.outs = s.outs ∧ t.brk = s.brk
      ∧ regsKept s t (mpuFaultRegs m) := by
  unfold mpuRefused
  extract_lets s1 s2 s3
  have h1 : regsKept s s1 (mpuFaultRegs m) :=
    regsKept_put (regsKept_refl s _) (by split <;> simp [mpuFaultRegs, F.MPU_FAULT_CNT_NOMATCH, F.MPU_FAULT_CNT_DENIED])
  have hf : ∀ {t f n}, regsKept s t (mpuFaultRegs m) → f.reg = R.MPU_FAULT m →
      regsKept s (State.put t f n) (mpuFaultRegs m) :=
    fun h hf => regsKept_put h (by simp [mpuFaultRegs, hf])
  refine ⟨s3, rfl, ?_⟩
  dsimp only [s3]
  split
  · exact ⟨rfl, rfl, h1⟩
  · exact ⟨rfl, rfl, hf (hf (hf (hf (hf h1 rfl) rfl) rfl) rfl) rfl⟩

/-- Neither an access of the debug port that its MPU refuses nor its answer changes more than the refusal does. -/
theorem mpuRefused_answer (s : State) (mid a : Nat) (priv : Bool) (op : AccOp) (x : MpuAns) (o : Out) :
    ((mpuRefused s 24 mid priv op a x).out o).outs = s.outs ++ [o]
      ∧ srcs ((mpuRefused s 24 mid priv op a x).out o) = srcs s ++ [184]
      ∧ regsKept s ((mpuRefused s 24 mid priv op a x).out o) (mpuFaultRegs 24) := by
  obtain ⟨t, ht, houts, hbrk, hregs⟩ := mpuRefused_eq_raise s 24 mid a priv op x
  rw [ht]
  refine ⟨by simp [State.out, houts], by simp [srcs, hbrk], ?_⟩
  exact regsKept_raise hregs (by simp [mpuFaultRegs])

theorem busWriteRow_debug (h : mpuCheck s 24 0x020 true .write a size ≠ .allow) :
    busWriteRow s 0x020 a size v =
      (mpuRefused s 24 0x020 true .write a (mpuCheck s 24 0x020 true .write a size)).out (.resp 0x020 true 0) := by
  simp [busWriteRow, busPass, mpuPass_of_ne h]

theorem busReadRow_debug (h : mpuCheck s 24 0x020 true .read a size ≠ .allow) :
    busReadRow s 0x020 a size =
      (mpuRefused s 24 0x020 true .read a (mpuCheck s 24 0x020 true .read a size)).out (.resp 0x020 true 0) := by
  simp [busReadRow, busPass, mpuPass_of_ne h]

/-! ### O5 -/

/-- An access that no register takes is answered with an error and raised (R4). -/
theorem accErr_answer (s : State) (mid a size : Nat) (write : Bool) :
    ((accErr s mid a size write).out (.resp mid true 0)).outs = s.outs ++ [.resp mid true 0]
      ∧ srcs ((accErr s mid a size write).out (.resp mid true 0)) = srcs s ++ [0]
      ∧ regsKept s ((accErr s mid a size write).out (.resp mid true 0)) [R.BRK_LOSS.addr] :=
  ⟨by simp [accErr, State.out], by simp [srcs, accErr], regsKept_raise (regsKept_refl s _) List.mem_cons_self⟩

/-- Settles O5: a read of a whole register clears its RC fields, and the two ways to be refused are `accErr` and
`mpuRefused`. -/
theorem errorsAndDebugPort : Obligations.ErrorsAndDebugPort := by
  refine ⟨fun mid addr s hm ht => ⟨fun wide row r hk hw hrc => ?read, fun size write hk => ?bad⟩,
    fun addr wide v s => ⟨fun h => ?debugWrite, fun h => ?debugRead⟩⟩
  case read =>
    subst hw
    refine ⟨_, congrArg Host.Outcome.next (busReadRow_whole hm ht hk), by simp [State.out, apply_ite],
      fun f hf hty => ?_⟩
    obtain ⟨hhi, hlo⟩ := hrc f hf hty
    cases hw : row.wide
    · have h32 : f.hi < 32 := by simpa [hw] using hhi
      exact get_clearRc hf hty (by omega) hlo (by rw [getLsbD_loMask]; exact decide_eq_true (hlo.trans_lt h32))
    · have h64 : f.hi < 64 := by simpa [hw] using hhi
      exact get_clearRc hf hty h64 hlo (getLsbD_allOnes_of_lt (hlo.trans_lt h64))
  case bad =>
    have hk : accKind addr.toNat size = .bad := by
      cases h : accKind addr.toNat size <;> simp_all
    cases write with
    | none => exact ⟨_, congrArg Host.Outcome.next (busReadRow_bad hm ht hk), accErr_answer ..⟩
    | some w => exact ⟨_, congrArg Host.Outcome.next (busWriteRow_bad hm ht hk), accErr_answer ..⟩
  case debugWrite => exact ⟨_, congrArg Host.Outcome.next (busWriteRow_debug h), mpuRefused_answer ..⟩
  case debugRead => exact ⟨_, congrArg Host.Outcome.next (busReadRow_debug h), mpuRefused_answer ..⟩

end Sys2Proof.Machine
end

section
/-! Writes of a whole register, and of the lock bit of a block (R8, R450), for O6. -/

namespace Sys2Proof.Machine

variable {s t : State} {mid a size v : Nat} {row : RegRow} {r : Reg}

/-- A full write presents every bit of a field that lies in the register. -/
theorem getLsbD_mask_wrFull {wide : Bool} {i : Nat} (hi : i < if wide then 64 else 32) (mid : Nat) (v : Word) :
    (wrFull mid wide v).mask.getLsbD i = true := by
  cases wide
  · exact (getLsbD_loMask i).trans (decide_eq_true hi)
  · simpa only [wrFull, if_true, BitVec.getLsbD_allOnes, decide_eq_true_eq] using hi

theorem bitsGet_wrFull {wide : Bool} {hi : Nat} (h : hi < if wide then 64 else 32) (lo mid : Nat) (v : Word) :
    bitsGet (wrFull mid wide v).v hi lo = bitsGet v hi lo := by
  cases wide
  · have h : hi < 32 := h
    apply Nat.eq_of_testBit_eq
    intro i
    simp only [testBit_bitsGet, wrFull, Bool.false_eq_true, if_false, BitVec.getLsbD_and]
    by_cases hi' : i < hi + 1 - lo
    · have := getLsbD_loMask (lo + i)
      rw [show (0xFFFFFFFF#64).getLsbD (lo + i) = true from this.trans (decide_eq_true (by omega)), Bool.and_true]
    · simp [hi']
  · rfl

/-- A one-bit field is a bit of its register. -/
theorem State.bit_eq_getLsbD (s : State) (r : Reg) (i : Nat) : s.bit ⟨r, i, i⟩ = (s.rd r).getLsbD i := by
  have h : i + 1 - i = 1 := by omega
  rw [State.bit, State.get, bitsGet, h, pow_one, BitVec.getLsbD, Nat.testBit_eq_decide_div_mod_eq]
  rcases Nat.mod_two_eq_zero_or_one ((s.rd r).toNat / 2 ^ i) with h | h <;> simp [h]

theorem regsKept_writeReg (s : State) (r : Reg) (w : Wr) : regsKept s (s.writeReg r w) [r.addr, R.BRK_LOSS.addr] := by
  intro q hq
  simp only [List.mem_cons, List.not_mem_nil, or_false, not_or] at hq
  exact State.rd_writeReg_ne s r q w _ hq.1 hq.2

/-! ### The lock bits (R8) -/

/-- Does a 32-bit register that takes writes of its own and holds one W1S field, bit 0, start at address a? -/
def lockRowAt (a : Nat) : Bool :=
  !inTblWin a && (handlerAt a).isNone && decide (a < 0x42000000 ∨ 0x44000000 ≤ a)
  && match regAt a with
     | some (row, start) =>
       start == a && !row.wide && row.flds == [⟨0, 0, .w1s⟩] && row.rst (start - row.base) == 0#64
     | none => false

theorem lockRowAt_fld (b : LockBlk) : lockRowAt b.fld.reg.addr = true := by
  cases b with
  | hop e => revert e; decide
  | mpu m => revert m; decide
  | slc n => revert n; decide
  | _ => rfl

theorem LockBlk.fld_eq (b : LockBlk) : b.fld = ⟨⟨b.fld.reg.addr, 0#64⟩, 0, 0⟩ := by
  cases b <;> rfl

/-- A write of 1 to a lock register sets its lock bit and is refused by nothing. -/
theorem writeReg_lock {a : Nat} (hr : regAt r.addr = some (row, a)) (hf : row.flds = [⟨0, 0, .w1s⟩]) :
    s.writeReg r (wrFull mid false 1#64) = s.wr r (s.rd r ||| 1#64) := by
  have h : (1#64 &&& 0xFFFFFFFF#64) &&& (bitsMask 0 0 &&& 0xFFFFFFFF#64) = 1#64 := by decide
  have hf : row.flds.foldl (fieldWrite (s.locked r.addr) 0#64 (wrFull mid false 1#64) (s.rd r)) (s.rd r, false)
      = (s.rd r ||| 1#64, false) := by
    rw [hf, ← h]
    simp only [List.foldl_cons, List.foldl_nil, fieldWrite, BitVec.and_zero]
    rfl
  simp only [State.writeReg, hr, hf]
  rfl

theorem busWriteRow_lock (h : mid ≠ 0x020) (hl : lockRowAt a = true) :
    busWriteRow s mid a 4 1 = (s.wr ⟨a, 0#64⟩ (s.rd ⟨a, 0#64⟩ ||| 1#64)).out (.resp mid false 0) := by
  unfold lockRowAt at hl
  split at hl
  · next row start hr =>
    simp only [Bool.and_eq_true, Bool.not_eq_true', Option.isNone_iff_eq_none, decide_eq_true_eq, beq_iff_eq] at hl
    obtain ⟨⟨⟨ht, hn⟩, hp⟩, ⟨⟨hs, hw⟩, hf⟩, hrst⟩ := hl
    subst hs
    have hreg : regOf (row, start) = ⟨start, 0#64⟩ := by simp [regOf, hrst]
    have hk : accKind start 4 = .whole row ⟨start, 0#64⟩ := by simp [accKind, hr, hw, hreg]
    have hp : portShut s start = false := by
      simp only [portShut]
      rw [if_neg (by omega), if_neg (by omega)]
    rw [busWriteRow_whole h ht hk hn hp, hw]
    exact congrArg (State.out · _) (writeReg_lock hr hf)
  · simp at hl

/-- Settles O6: a write of a whole register is `State.writeReg`, and so is that of a lock register. -/
theorem registerWriteByFields : Obligations.RegisterWriteByFields := by
  refine ⟨fun mid addr wide v row r s hm ht hk hr hn hp hb hok hd => ?_, fun mid b s hm => ?_⟩
  · obtain rfl := wide_of_accKind_whole hk
    have hin : ∀ f ∈ row.flds, f.hi < if row.wide then 64 else 32 := by simp_all
    have hok := fldsOk_of (by split <;> omega) hok hd
    refine ⟨_, congrArg Host.Outcome.next (busWriteRow_whole hm ht hk hn hp), ?_, ?_, ?_⟩
    · intro f hf hrw
      rw [out_get, State.get_writeReg_presented _ _ _ hr hb hok hf hrw fun i _ hi =>
        getLsbD_mask_wrFull (hi.trans_lt (hin f hf)) _ _, bitsGet_wrFull (hin f hf), BitVec.ofNat_toNat,
        BitVec.setWidth_eq]
    · intro f hf hgv hmid
      rw [out_get, State.get_writeReg_keep _ _ _ _ hr hb hok hf (.inl ?_)]
      · split <;> rfl
      · simp [fieldNo, hgv, wrFull, hmid]
    · intro q hq
      rw [out_rd, regsKept_writeReg _ _ _ q hq]
      split <;> rfl
  · refine ⟨_, congrArg Host.Outcome.next (busWriteRow_lock hm (lockRowAt_fld b)), ?_, ?_, ?_⟩
    · rw [b.fld_eq]
      simp [State.bit_eq_getLsbD]
    · intro q hq
      exact State.rd_wr_ne _ _ _ _ (by simpa using hq)
    · rfl

end Sys2Proof.Machine
end

section
/-! Resets of the device (R11, R365, R421 to R427): what each clears and keeps, for O56. -/

namespace Sys2Proof.Machine

variable {s : State}

/-- A table without the places that p names. -/
theorem tget_tdrop {α : Type} (d : α) (p : Nat → Bool) (t : Tab α) (i : Nat) :
    tget d (tdrop p t) i = if p i then d else tget d t i := by
  induction t with
  | nil => simp [tdrop, tget]
  | cons e t ih =>
    obtain ⟨k, v⟩ := e
    simp only [tdrop] at ih ⊢
    by_cases hk : p k = true
    · rw [List.filter_cons_of_neg (by simp [hk]), ih]
      by_cases hi : k = i
      · subst hi; simp [hk]
      · simp [tget, hi]
    · rw [List.filter_cons_of_pos (by simpa using hk)]
      by_cases hi : k = i
      · subst hi; simp [tget, hk]
      · simp [tget, hi, ih]

theorem State.get_wr_ne (s : State) (r : Reg) (f : Fld) (v : Word) (h : f.reg.addr ≠ r.addr) :
    (s.wr r v).get f = s.get f := by
  simp only [State.get, State.rd_wr_ne _ _ _ _ h]

theorem regsKept_wr {s t : State} {r : Reg} {v : Word} {l : List Nat} (h : regsKept s t l) (hr : r.addr ∈ l) :
    regsKept s (t.wr r v) l := fun q hq =>
  (State.rd_wr_ne t r q v fun e => hq (e ▸ hr)).trans (h q hq)

theorem regsKept_putB {s t : State} {f : Fld} {b : Bool} {l : List Nat} (h : regsKept s t l) (hf : f.reg.addr ∈ l) :
    regsKept s (t.putB f b) l := regsKept_put h hf

theorem regsKept.trans {s t u : State} {l m : List Nat} (h : regsKept s t l) (h' : regsKept t u m) (hm : m ⊆ l) :
    regsKept s u l := fun q hq =>
  (h' q fun e => hq (hm e)).trans (h q hq)

theorem regsKept.get {s t : State} {l : List Nat} (h : regsKept s t l) {f : Fld} (hf : f.reg.addr ∉ l) :
    t.get f = s.get f :=
  congrArg (bitsGet · f.hi f.lo) (h f.reg hf)

/-! ### Release of the units (R427) -/

/-- Registers that the release of the units sets. -/
def releaseRegs : List Nat :=
  [R.CRP_AVS.addr, R.CRP_STATUS.addr, (R.MPU_REG_A 24 0).addr, (R.MPU_REG_B 24 0).addr, R.IMG_ARB.addr]

/-- The device after a release of the units in which no self-test fails. -/
def released (s : State) : State := releaseUnits s ⟨[], [], []⟩

/-- Release but for the latches of reset and power. -/
theorem released_eq (s : State) : released s =
    { (((s.put F.CRP_AVS_REQUEST (s.get F.CRP_AVS_TARGET)).put F.CRP_STATUS_PLL_LOCK 1).wr (R.MPU_REG_B 24 0)
        0x000003FFFFFFFFFF#64 |>.wr (R.MPU_REG_A 24 0) 0xEC00000000000000#64).put F.IMG_ARB_COUNT s.fuse.arb with
      pwr := { s.pwr with loaderUp := true, poolUp := true, held := false, req := false, reqSrc := 0xFFF } } := rfl

theorem regsKept_released (s : State) : regsKept s (released s) releaseRegs := by
  rw [released_eq]
  exact regsKept_put (regsKept_wr (regsKept_wr (regsKept_put (regsKept_put (regsKept_refl s _) (by decide)) (by decide))
    (by decide)) (by decide)) (by decide)

theorem releaseUnits_engine (s : State) (e : Fin 16) :
    releaseUnits s ⟨[], [], [e]⟩ = ((released s).put (F.HOP_ENG_STATUS_FAILED e) 1).raise 192 := rfl

/-! ### Power-up (R427) -/

/-- The device with rails and clocks shown as valid. -/
def railsValid (s : State) : State :=
  let s := (railShow (s.put F.CRP_STATUS_RAIL_OK 0xFF)).put F.CRP_STATUS_SYSCLK_OK 1
  s.putB F.CRP_STATUS_AOCLK_OK (!s.bit F.CRP_CLK_AOCLK_LOST)

/-- The device when power-up comes to the release of the units: fuses, challenge, rails and clocks are shown. -/
def shown (s : State) : State :=
  railsValid (newChallenge (debugRegion (fusesSensed (s.modPwr fun p => { p with booted := true }))))

theorem execPowerUp_eq (t : SelfTest) (hb : s.pwr.booted = false) (hr : s.pwr.brown = false)
    (hs : s.pwr.sysLost = false) :
    execPowerUp t s = .next (if resetStays (shown s) then shown s else releaseUnits (shown s) t) := by
  simp only [execPowerUp, hb, hr, hs, Bool.false_eq_true, or_self, if_false]
  rfl

/-- Registers that power-up sets before the release. -/
def shownRegs : List Nat :=
  [R.GOV_FUSE.addr, R.GOV_SERIAL.addr, R.CRP_AVS.addr, (R.MPU_REG_B 24 0).addr, (R.MPU_REG_A 24 0).addr,
    (R.GOV_CHAL 0).addr, (R.GOV_CHAL 1).addr, (R.GOV_CHAL 2).addr, (R.GOV_CHAL 3).addr, R.CRP_STATUS.addr]

theorem regsKept_fusesSensed (s : State) :
    regsKept s (fusesSensed s) [R.GOV_FUSE.addr, R.GOV_SERIAL.addr, R.CRP_AVS.addr] := by
  unfold fusesSensed fuseShow
  extract_lets bits
  exact regsKept_put (regsKept_put (regsKept_putB (regsKept_put (regsKept_put (regsKept_refl s _) (by decide))
    (by decide)) (by decide)) (by decide)) (by decide)

theorem regsKept_debugRegion (s : State) :
    regsKept s (debugRegion s) [(R.MPU_REG_B 24 0).addr, (R.MPU_REG_A 24 0).addr] := by
  unfold debugRegion
  exact regsKept_wr (regsKept_wr (regsKept_refl s _) (by decide)) (by decide)

theorem regsKept_newChallenge (s : State) : regsKept s (newChallenge s)
    [(R.GOV_CHAL 0).addr, (R.GOV_CHAL 1).addr, (R.GOV_CHAL 2).addr, (R.GOV_CHAL 3).addr] := by
  unfold newChallenge
  exact regsKept_put (regsKept_put (regsKept_put (regsKept_put (t := s.bump) (regsKept_refl s _) (by decide)) (by decide))
    (by decide)) (by decide)

theorem regsKept_railsValid (s : State) : regsKept s (railsValid s) [R.CRP_STATUS.addr] := by
  unfold railsValid railShow
  exact regsKept_putB (regsKept_put (regsKept_putB (regsKept_put (regsKept_refl s _) (by decide)) (by decide))
    (by decide)) (by decide)

theorem regsKept_shown (s : State) : regsKept s (shown s) shownRegs :=
  ((((regsKept_refl s shownRegs).trans (regsKept_fusesSensed (s.modPwr _)) (by decide)).trans
    (regsKept_debugRegion _) (by decide)).trans (regsKept_newChallenge _) (by decide)).trans
    (regsKept_railsValid _) (by decide)

theorem shown_pwr (s : State) : (shown s).pwr = { s.pwr with booted := true } := rfl

theorem resetStays_shown (hr : s.pwr.brown = false) (hs : s.pwr.sysLost = false) (ht : s.get F.GOV_STATUS_THERM ≠ 2)
    (hl : s.get F.GOV_ALARM_LEVEL ≠ 3) : resetStays (shown s) = s.pwr.pinLow := by
  have h1 : (shown s).get F.GOV_STATUS_THERM = s.get F.GOV_STATUS_THERM := (regsKept_shown s).get (by decide)
  have h2 : (shown s).get F.GOV_ALARM_LEVEL = s.get F.GOV_ALARM_LEVEL := (regsKept_shown s).get (by decide)
  simp only [resetStays, h1, h2, beq_eq_false_iff_ne.2 ht, beq_eq_false_iff_ne.2 hl, Bool.or_false, shown_pwr, hr, hs]

theorem railsValid_get (s : State) : (railsValid s).get F.CRP_STATUS_RAIL_OK = 0xFF
    ∧ (railsValid s).get F.CRP_STATUS_MAIN_OK = 1 ∧ (railsValid s).get F.CRP_STATUS_SYSCLK_OK = 1 := by
  unfold railsValid railShow State.putB
  refine ⟨?_, ?_, ?_⟩
  · simp (disch := decide) only [State.get_put_bits, State.get_put_self]
    decide
  · simp (disch := decide) only [State.get_put_bits, State.get_put_self]
    decide
  · simp (disch := decide) only [State.get_put_bits, State.get_put_self]
    decide

theorem fusesSensed_get (s : State) : (fusesSensed s).get F.GOV_SERIAL_SERIAL = s.fuse.serial.toNat
    ∧ (fusesSensed s).get F.CRP_AVS_TARGET = s.fuse.avs % 1024 := by
  unfold fusesSensed
  constructor
  · simp (disch := decide) only [State.get_put_reg, State.get_put_self]
    exact Nat.mod_eq_of_lt s.fuse.serial.isLt
  · simp (disch := decide) only [State.get_put_self]
    rfl

theorem released_avs (s : State) : (released s).get F.CRP_AVS_TARGET = s.get F.CRP_AVS_TARGET
    ∧ (released s).get F.CRP_AVS_REQUEST = s.get F.CRP_AVS_TARGET := by
  rw [released_eq]
  constructor
  · change State.get (State.put _ _ _) _ = _
    simp (disch := decide) only [State.get_put_reg, State.get_wr_ne, State.get_put_bits]
  · change State.get (State.put _ _ _) _ = _
    simp (disch := decide) only [State.get_put_reg, State.get_wr_ne, State.get_put_self]
    exact Nat.mod_eq_of_lt (s.get_lt F.CRP_AVS_TARGET)

/-- The release of the units changes no bit of CRP_STATUS but PLL_LOCK. -/
theorem released_status (s : State) {f : Fld} (hr : f.reg = R.CRP_STATUS) (hb : 28 < f.lo ∨ f.hi < 28) :
    (released s).get f = s.get f := by
  have h1 : f.reg.addr ≠ F.IMG_ARB_COUNT.reg.addr := by rw [hr]; decide
  have h2 : f.reg.addr ≠ (R.MPU_REG_A 24 0).addr := by rw [hr]; decide
  have h3 : f.reg.addr ≠ (R.MPU_REG_B 24 0).addr := by rw [hr]; decide
  have h4 : f.reg.addr ≠ F.CRP_AVS_REQUEST.reg.addr := by rw [hr]; decide
  rw [released_eq]
  change State.get (State.put _ _ _) _ = _
  rw [State.get_put_reg _ _ _ _ h1, State.get_wr_ne _ _ _ _ h2, State.get_wr_ne _ _ _ _ h3,
    State.get_put_bits _ F.CRP_STATUS_PLL_LOCK f _ hr (by decide) (by decide) hb, State.get_put_reg _ _ _ _ h4]

theorem leN_lt (b : Bytes) (i n : Nat) : leN b i n < 256 ^ n := by
  induction n generalizing i with
  | zero => simp [leN]
  | succ n ih =>
    have h1 : u8 b i < 256 := (b.getD i 0#8).isLt
    have h2 := ih (i + 1)
    rw [leN, pow_succ]
    omega

theorem newChallenge_get (s : State) (k : Nat) (hk : k < 4) :
    (newChallenge s).get (F.GOV_CHAL_CHAL k) = leN (Config.drbg s.fresh) (8 * k) 8 := by
  have hmod : ∀ k, leN (Config.drbg s.fresh) (8 * k) 8 % 2 ^ (63 + 1 - 0) = leN (Config.drbg s.fresh) (8 * k) 8 :=
    fun k => Nat.mod_eq_of_lt (leN_lt _ _ 8)
  unfold newChallenge
  simp only [List.foldl_cons, List.foldl_nil]
  interval_cases k <;> simp (disch := decide) only [State.get_put_reg, State.get_put_self] <;> exact hmod _

/-- From what the fuses show, power-up and release change the debug region, the challenge, the units and CRP_STATUS. -/
theorem regsKept_after_fuses (s : State) :
    regsKept (fusesSensed (s.modPwr fun p => { p with booted := true })) (shown s)
      [(R.MPU_REG_B 24 0).addr, (R.MPU_REG_A 24 0).addr, (R.GOV_CHAL 0).addr, (R.GOV_CHAL 1).addr, (R.GOV_CHAL 2).addr,
        (R.GOV_CHAL 3).addr, R.CRP_STATUS.addr] :=
  (((regsKept_refl _ _).trans (regsKept_debugRegion _) (by decide)).trans (regsKept_newChallenge _) (by decide)).trans
    (regsKept_railsValid _) (by decide)

/-- What a power-up without a failed self-test shows (R427). -/
theorem released_shown (s : State) :
    (released (shown s)).get F.CRP_STATUS_RAIL_OK = 0xFF ∧ (released (shown s)).bit F.CRP_STATUS_MAIN_OK = true
      ∧ (released (shown s)).bit F.CRP_STATUS_SYSCLK_OK = true
      ∧ (released (shown s)).get F.GOV_SERIAL_SERIAL = s.fuse.serial.toNat
      ∧ (released (shown s)).get F.CRP_AVS_TARGET = s.fuse.avs % 1024
      ∧ (released (shown s)).get F.CRP_AVS_REQUEST = s.fuse.avs % 1024
      ∧ ∀ k, k < 4 → (released (shown s)).get (F.GOV_CHAL_CHAL k) = leN (Config.drbg s.fresh) (8 * k) 8 := by
  obtain ⟨hrail, hmain, hclk⟩ := railsValid_get
    (newChallenge (debugRegion (fusesSensed (s.modPwr fun p => { p with booted := true }))))
  obtain ⟨hser, havs⟩ := fusesSensed_get (s.modPwr fun p => { p with booted := true })
  have htarget := ((regsKept_after_fuses s).get (f := F.CRP_AVS_TARGET) (by decide)).trans havs
  refine ⟨?_, ?_, ?_, ?_, ?_, ?_, fun k hk => ?_⟩
  · exact (released_status _ rfl (by decide)).trans hrail
  · exact bne_iff_ne.2 (by rw [released_status _ rfl (by decide)]; exact hmain ▸ one_ne_zero)
  · exact bne_iff_ne.2 (by rw [released_status _ rfl (by decide)]; exact hclk ▸ one_ne_zero)
  · exact ((regsKept_released _).get (by decide)).trans (((regsKept_after_fuses s).get (by decide)).trans hser)
  · exact (released_avs _).1.trans htarget
  · exact (released_avs _).2.trans htarget
  · have hr : (F.GOV_CHAL_CHAL k).reg.addr ∉ releaseRegs := by interval_cases k <;> decide
    have hs : (F.GOV_CHAL_CHAL k).reg.addr ∉ [R.CRP_STATUS.addr] := by interval_cases k <;> decide
    exact ((regsKept_released _).get hr).trans (((regsKept_railsValid _).get hs).trans (newChallenge_get _ k hk))

/-! ### Chip reset (R425, R426) -/

theorem execChipReset_eq (t : SelfTest) (hr : s.pwr.req = true) (hh : s.bit F.GOV_STATUS_HALTED = false)
    (hi : s.img.op = none) (hf : s.fan.op = none) :
    execChipReset t s = .next (releaseAgain (chipClear s) t) := by
  simp [execChipReset, hr, hh, hi, hf]

/-- Registers that show the history queue. -/
def histRegs : List Nat :=
  [R.BRK_STATUS.addr, R.BRK_HIST_CTRL.addr, (R.BRK_HIST_REC 0).addr, (R.BRK_HIST_REC 1).addr, (R.BRK_HIST_REC 2).addr,
    (R.BRK_HIST_REC 3).addr]

theorem regsKept_histShow (s : State) : regsKept s (histShow s) histRegs := by
  unfold histShow
  exact regsKept_wr (regsKept_wr (regsKept_wr (regsKept_wr (regsKept_put (regsKept_put (regsKept_refl s _) (by decide))
    (by decide)) (by decide)) (by decide)) (by decide)) (by decide)

/-- What a chip reset sets in the registers, beside clearing them. -/
theorem regsKept_chipClear (s : State) :
    regsKept (unitsReset s) (chipClear s) [R.CRP_RAIL.addr, R.CRP_CLK.addr, R.CRP_AVS.addr] := by
  unfold chipClear
  exact regsKept_put (regsKept_put (regsKept_put (regsKept_wr (regsKept_wr (regsKept_refl _ _) (by decide)) (by decide))
    (by decide)) (by decide)) (by decide)

/-- A reset of the units clears the registers that are not kept, but those that show the history queue. -/
theorem unitsReset_rd (s : State) (q : Reg) (hq : q.addr ∉ R.GOV_STATUS.addr :: histRegs) :
    (unitsReset s).rd q = if keptReg q.addr then s.rd q else q.rst := by
  rw [List.mem_cons, not_or] at hq
  unfold unitsReset
  rw [regsKept_histShow _ q hq.2, State.rd_put_ne _ _ _ _ hq.1]
  simp only [State.rd, tget_tdrop]
  cases keptReg q.addr <;> simp

/-- Of GOV_STATUS a reset of the units changes POLICY alone, which it clears. -/
theorem unitsReset_govStatus (s : State) : (unitsReset s).bit F.GOV_STATUS_POLICY = false
    ∧ (unitsReset s).get F.GOV_STATUS_THERM = s.get F.GOV_STATUS_THERM := by
  unfold unitsReset State.bit
  constructor
  · rw [(regsKept_histShow _).get (by decide), State.get_put_self _ _ _ (by decide) (by decide)]
    rfl
  · rw [(regsKept_histShow _).get (by decide), State.get_put_bits _ F.GOV_STATUS_POLICY F.GOV_STATUS_THERM _ rfl
      (by decide) (by decide) (by decide)]
    simp only [State.get, State.rd, tget_tdrop]
    rfl

/-- Registers that a chip reset sets, beside clearing those that are not kept. -/
def chipRegs : List Nat := R.CRP_RAIL.addr :: R.CRP_CLK.addr :: R.CRP_AVS.addr :: R.GOV_STATUS.addr :: histRegs

theorem chipClear_rd (s : State) (q : Reg) (hq : q.addr ∉ chipRegs) :
    (chipClear s).rd q = if keptReg q.addr then s.rd q else q.rst := by
  simp only [chipRegs, List.mem_cons, not_or] at hq
  obtain ⟨h1, h2, h3, h4, h5⟩ := hq
  rw [regsKept_chipClear s q (by simp [h1, h2, h3]), unitsReset_rd s q (by simp [h4, h5])]

theorem chipClear_policy (s : State) : (chipClear s).bit F.GOV_STATUS_POLICY = false := by
  rw [State.bit, (regsKept_chipClear s).get (by decide)]
  exact (unitsReset_govStatus s).1

theorem chipClear_alarm (s : State) : (chipClear s).get F.GOV_ALARM_LEVEL = s.get F.GOV_ALARM_LEVEL := by
  rw [State.get, chipClear_rd s _ (by decide)]
  rfl

theorem resetStays_chipClear (s : State) : resetStays (chipClear s) = resetStays s := by
  have h : (chipClear s).get F.GOV_STATUS_THERM = s.get F.GOV_STATUS_THERM :=
    ((regsKept_chipClear s).get (by decide)).trans (unitsReset_govStatus s).2
  simp only [resetStays, h, chipClear_alarm]
  rfl

/-- The device after a chip reset that nothing holds: the units are released, and SRC 0016 is raised. -/
def restarted (s : State) : State := (released (chipClear s)).raise 16 (.reset s.pwr.reqSrc)

theorem releaseAgain_chipClear (s : State) : releaseAgain (chipClear s) ⟨[], [], []⟩ =
    if s.pwr.booted = true ∧ resetStays s = false then restarted s else chipClear s := by
  have hb : (chipClear s).pwr.booted = s.pwr.booted := rfl
  have hr : (chipClear s).pwr.reqSrc = s.pwr.reqSrc := rfl
  rw [releaseAgain, tryRelease, resetStays_chipClear, hb, hr]
  cases s.pwr.booted <;> cases resetStays s <;> simp [restarted, released]

theorem restarted_regs (s : State) : (restarted s).regs = (released (chipClear s)).regs := rfl

/-- The registers after a chip reset, whether the units are released or not. -/
theorem chipReset_regs {t : State} (ht : t = restarted s ∨ t = chipClear s) :
    regsKept (chipClear s) t releaseRegs := by
  rcases ht with rfl | rfl
  · exact fun q hq => (State.rd_congr (restarted_regs s) q).trans (regsKept_released _ q hq)
  · exact regsKept_refl _ _

theorem chipReset_rd {t : State} (ht : t = restarted s ∨ t = chipClear s) (q : Reg)
    (hq : q.addr ∉ releaseRegs ++ chipRegs) :
    t.rd q = if keptReg q.addr then s.rd q else q.rst := by
  rw [List.mem_append, not_or] at hq
  rw [chipReset_regs ht q hq.1, chipClear_rd s q hq.2]

/-- A chip reset empties the memories of the units, and keeps fuses, flash and the history queue. -/
theorem chipReset_memories {t : State} (ht : t = restarted s ∨ t = chipClear s) :
    t.spd = [] ∧ t.mill = {} ∧ t.coh = {} ∧ t.rte = {} ∧ t.pool = {} ∧ t.hep = {} ∧ t.mgt = {} ∧ t.fuse = s.fuse
      ∧ t.img.flash = s.img.flash ∧ t.brk.hist = s.brk.hist := by
  rcases ht with rfl | rfl <;> exact ⟨rfl, rfl, rfl, rfl, rfl, rfl, rfl, rfl, rfl, rfl⟩

/-! ### Requests of a chip reset (R425) -/

/-- From s to t a chip reset has been asked for: it is in progress, its cause shown and counted; chip is the bit
CRP_SW_RESET.CHIP after it. -/
def resetAsked (s t : State) (cause : Fld) (chip : Bool) : Prop :=
  t.pwr.req = true ∧ t.pwr.reqSrc = 0xFFF ∧ t.bit cause = true
  ∧ t.get F.CRP_RESET_CAUSE_COUNT = min F.CRP_RESET_CAUSE_COUNT.max (s.get F.CRP_RESET_CAUSE_COUNT + 1)
  ∧ t.bit F.CRP_SW_RESET_CHIP = chip ∧ t.pwr.held = s.pwr.held ∧ t.brk = s.brk

/-- A request that nothing stands against is taken. -/
theorem resetAsked_chipRequest {cause : Fld} (hr : s.pwr.req = false) (hh : s.bit F.GOV_STATUS_HALTED = false)
    (hl : s.get F.GOV_ALARM_LEVEL ≠ 3) (ht : s.get F.GOV_STATUS_THERM ≠ 2) (hc : cause.reg = R.CRP_RESET_CAUSE)
    (hb : cause.hi < 16) (hlo : cause.lo ≤ cause.hi) :
    resetAsked s (chipRequest s cause) cause (s.bit F.CRP_SW_RESET_CHIP) := by
  have hk : regsKept s (s.put cause 1) [R.CRP_RESET_CAUSE.addr] := regsKept_put (regsKept_refl s _) (by simp [hc])
  have hbit : (s.put cause 1).bit F.GOV_STATUS_HALTED = false := by rw [State.bit, hk.get (by decide)]; exact hh
  have heq : chipRequest s cause = { (s.put cause 1).inc F.CRP_RESET_CAUSE_COUNT with
      pwr := { s.pwr with req := true, reqSrc := 0xFFF } } := by
    simp [chipRequest, hr, hbit, hk.get (f := F.GOV_ALARM_LEVEL) (by decide), hl,
      hk.get (f := F.GOV_STATUS_THERM) (by decide), ht]
  rw [heq]
  refine ⟨rfl, rfl, ?_, ?_, ?_, rfl, rfl⟩
  · change ((s.put cause 1).inc F.CRP_RESET_CAUSE_COUNT).bit cause = true
    rw [State.bit, State.inc, State.get_put_bits _ F.CRP_RESET_CAUSE_COUNT cause _ hc (by decide) (by decide) (.inr hb),
      State.get_put_self _ _ _ (by omega) hlo, Nat.mod_eq_of_lt (Nat.one_lt_two_pow (by omega))]
    rfl
  · change ((s.put cause 1).inc F.CRP_RESET_CAUSE_COUNT).get F.CRP_RESET_CAUSE_COUNT = _
    rw [State.get_inc_self _ _ _ (by decide) (by decide),
      State.get_put_bits _ cause F.CRP_RESET_CAUSE_COUNT _ hc.symm (by omega) hlo (.inl hb)]
  · change (((s.put cause 1).inc F.CRP_RESET_CAUSE_COUNT).get F.CRP_SW_RESET_CHIP != 0) = _
    rw [State.inc, State.get_put_reg _ _ _ _ (by decide), hk.get (by decide)]
    rfl

/-- CRP_SW_RESET has one field, which the lock of its block closes. -/
theorem regAt_swReset :
    ∃ row, regAt R.CRP_SW_RESET.addr = some (row, R.CRP_SW_RESET.addr) ∧ row.flds = [⟨31, 31, .rwl⟩] := by
  have h : (regAt R.CRP_SW_RESET.addr).map (fun x => (x.2, x.1.flds)) =
      some (R.CRP_SW_RESET.addr, [⟨31, 31, .rwl⟩]) := by decide
  obtain ⟨⟨row, a⟩, hrow, he⟩ := Option.map_eq_some_iff.1 h
  obtain ⟨rfl, hf⟩ := Prod.mk.inj he
  exact ⟨row, hrow, hf⟩

theorem locked_swReset (s : State) : s.locked R.CRP_SW_RESET.addr = s.bit F.CRP_LOCK_LOCK := rfl

/-- The write that asks for a chip reset. -/
def wrChip (s : State) (mid : Nat) : Wr := wrField s mid false F.CRP_SW_RESET_CHIP 1

theorem wrChip_v (s : State) (mid : Nat) : (wrChip s mid).v.getLsbD 31 = true := by
  rw [wrChip, wrField, getLsbD_bitsPut _ _ _ _ _ (by decide) (by decide)]
  rfl

theorem wrChip_mask (s : State) (mid : Nat) : bitsMask 31 31 &&& (wrChip s mid).mask = bitsMask 31 31 := by
  change bitsMask 31 31 &&& 0xFFFFFFFF#64 = bitsMask 31 31
  decide

theorem fieldWrite_of_no {locked : Bool} {deny : Word} {w : Wr} {f : FRow} (h : fieldNo locked deny w f = true)
    (old : Word) (acc : Word × Bool) : fieldWrite locked deny w old acc f =
      (acc.1, acc.2 || ((old ^^^ w.v) &&& (bitsMask f.hi f.lo &&& w.mask) != 0#64)) := if_pos h

theorem fieldWrite_of_rwl {locked : Bool} {deny : Word} {w : Wr} {hi lo : Nat}
    (h : fieldNo locked deny w ⟨hi, lo, .rwl⟩ = false) (old : Word) (acc : Word × Bool) :
    fieldWrite locked deny w old acc ⟨hi, lo, .rwl⟩ =
      ((acc.1 &&& ~~~(bitsMask hi lo &&& w.mask)) ||| (w.v &&& (bitsMask hi lo &&& w.mask)), acc.2) :=
  if_neg fun e => Bool.false_ne_true (h.symm.trans e)

theorem writeReg_wrChip_locked (mid : Nat) (hl : s.bit F.CRP_LOCK_LOCK = true) (hc : s.bit F.CRP_SW_RESET_CHIP = false) :
    s.writeReg R.CRP_SW_RESET (wrChip s mid) =
      (s.wr R.CRP_SW_RESET (s.rd R.CRP_SW_RESET)).refuse R.CRP_SW_RESET.addr mid 4 := by
  obtain ⟨row, hrow, hf⟩ := regAt_swReset
  have hdiff : ((s.rd R.CRP_SW_RESET ^^^ (wrChip s mid).v) &&& bitsMask 31 31 != 0#64) = true := by
    rw [bne_iff_ne]
    intro h
    have hold : (s.rd R.CRP_SW_RESET).getLsbD 31 = false := (s.bit_eq_getLsbD _ _).symm.trans hc
    have h31 := congrArg (·.getLsbD 31) h
    simp only [BitVec.getLsbD_and, BitVec.getLsbD_xor, hold, wrChip_v, getLsbD_bitsMask 31 31 31 (by omega) le_rfl] at h31
    exact absurd h31 (by decide)
  simp only [State.writeReg, hrow, hf, List.foldl_cons, List.foldl_nil, locked_swReset, hl]
  rw [fieldWrite_of_no rfl]
  simp only [wrChip_mask, hdiff, Bool.false_or, if_true]
  rfl

theorem writeReg_wrChip_unlocked (mid : Nat) (hl : s.bit F.CRP_LOCK_LOCK = false) :
    ∃ v, s.writeReg R.CRP_SW_RESET (wrChip s mid) = s.wr R.CRP_SW_RESET v ∧ v.getLsbD 31 = true := by
  obtain ⟨row, hrow, hf⟩ := regAt_swReset
  simp only [State.writeReg, hrow, hf, List.foldl_cons, List.foldl_nil, locked_swReset, hl]
  rw [fieldWrite_of_rwl rfl]
  refine ⟨_, if_neg Bool.false_ne_true, ?_⟩
  simp [wrChip_mask, wrChip_v, getLsbD_bitsMask, -BitVec.getLsbD_eq_getElem]

/-- SOFTWARE_CHIP_RESET in an open block asks for a chip reset, and its bit reads 0 again. -/
theorem execSoftwareChipReset_unlocked (mid : Mid) (hl : s.bit F.CRP_LOCK_LOCK = false) :
    ∃ v, execSoftwareChipReset mid s = .next (chipRequest ((s.wr R.CRP_SW_RESET v).put F.CRP_SW_RESET_CHIP 0)
      F.CRP_RESET_CAUSE_SOFTWARE) := by
  obtain ⟨v, hv, hbit⟩ := writeReg_wrChip_unlocked (s := s) mid.val hl
  have hset : (s.wr R.CRP_SW_RESET v).bit F.CRP_SW_RESET_CHIP = true := by
    rw [F.CRP_SW_RESET_CHIP, State.bit_eq_getLsbD, State.rd_wr_self, hbit]
  refine ⟨v, congrArg Host.Outcome.next ?_⟩
  change wrSwReset (wrChip s mid) s = _
  rw [wrSwReset, hv, if_pos hset]

theorem runs_resetPin (hr : s.pwr.req = false) (hh : s.bit F.GOV_STATUS_HALTED = false)
    (hl : s.get F.GOV_ALARM_LEVEL ≠ 3) (ht : s.get F.GOV_STATUS_THERM ≠ 2) : runs (.resetPin true) s fun t =>
      resetAsked s t F.CRP_RESET_CAUSE_RESET_PIN (s.bit F.CRP_SW_RESET_CHIP) :=
  ⟨_, rfl, resetAsked_chipRequest (s := s.modPwr fun p => { p with pinLow := true }) hr hh hl ht rfl (by decide)
    (by decide)⟩

theorem runs_softwareChipReset (mid : Mid) (hr : s.pwr.req = false) (hh : s.bit F.GOV_STATUS_HALTED = false)
    (hl : s.get F.GOV_ALARM_LEVEL ≠ 3) (ht : s.get F.GOV_STATUS_THERM ≠ 2) (hlock : s.bit F.CRP_LOCK_LOCK = false) :
    runs (.softwareChipReset mid) s fun t => resetAsked s t F.CRP_RESET_CAUSE_SOFTWARE false := by
  obtain ⟨v, hexec⟩ := execSoftwareChipReset_unlocked (s := s) mid hlock
  have hk : regsKept s ((s.wr R.CRP_SW_RESET v).put F.CRP_SW_RESET_CHIP 0) [R.CRP_SW_RESET.addr] :=
    regsKept_put (regsKept_wr (regsKept_refl s _) (by decide)) (by decide)
  have hchip : ((s.wr R.CRP_SW_RESET v).put F.CRP_SW_RESET_CHIP 0).bit F.CRP_SW_RESET_CHIP = false := by
    rw [State.bit, State.get_put_self _ _ _ (by decide) (by decide)]
    rfl
  obtain ⟨hreq, hsrc, hbit, hcount, hsw, hheld, hbrk⟩ :=
    resetAsked_chipRequest (s := (s.wr R.CRP_SW_RESET v).put F.CRP_SW_RESET_CHIP 0) hr
      ((congrArg (· != 0) (hk.get (by decide))).trans hh) (by rwa [hk.get (by decide)]) (by rwa [hk.get (by decide)])
      (show F.CRP_RESET_CAUSE_SOFTWARE.reg = _ from rfl) (by decide) (by decide)
  rw [hk.get (by decide)] at hcount
  exact ⟨_, hexec, hreq, hsrc, hbit, hcount, hsw.trans hchip, hheld, hbrk⟩

/-- A write of a register's own contents changes nothing that is read. -/
theorem State.rd_wr_rd (s : State) (r q : Reg) : (s.wr r (s.rd r)).rd q = s.rd q := by
  by_cases h : q.addr = r.addr
  · simp only [State.rd, State.wr, h, tget_tput_self, BitVec.xor_assoc, BitVec.xor_self, BitVec.xor_zero]
  · exact State.rd_wr_ne _ _ _ _ h

/-- In a locked block SOFTWARE_CHIP_RESET is a refused write. -/
theorem execSoftwareChipReset_locked (mid : Mid) (hl : s.bit F.CRP_LOCK_LOCK = true)
    (hc : s.bit F.CRP_SW_RESET_CHIP = false) : execSoftwareChipReset mid s =
      .next ((s.wr R.CRP_SW_RESET (s.rd R.CRP_SW_RESET)).refuse R.CRP_SW_RESET.addr mid 4) := by
  refine congrArg Host.Outcome.next ?_
  change wrSwReset (wrChip s mid) s = _
  rw [wrSwReset, writeReg_wrChip_locked mid hl hc, if_neg]
  rw [State.bit, State.get, refuse_rd _ _ _ _ _ (by decide), State.rd_wr_rd]
  exact Bool.eq_false_iff.1 hc

/-! ### O56 -/

theorem powerUp_spec (hb : s.pwr.booted = false) (hr : s.pwr.brown = false) (hs : s.pwr.sysLost = false)
    (ht : s.get F.GOV_STATUS_THERM ≠ 2) (hl : s.get F.GOV_ALARM_LEVEL ≠ 3) (t : SelfTest) :
    exec (.powerUp t) s = .next (if s.pwr.pinLow then shown s else releaseUnits (shown s) t) := by
  rw [← resetStays_shown hr hs ht hl]
  exact execPowerUp_eq t hb hr hs

theorem get_put_engFailed (s : State) (e : Fin 16) :
    (s.put (F.HOP_ENG_STATUS_FAILED e) 1).get (F.HOP_ENG_STATUS_FAILED e) = 1 := by
  rw [State.get_put_self _ _ _ (show 31 < 64 by omega) le_rfl]
  rfl

/-- An engine that fails its self-test is marked, and SRC 0192 is raised (R406). -/
theorem engine_failed (s : State) (e : Fin 16) :
    ((s.put (F.HOP_ENG_STATUS_FAILED e) 1).raise 192).bit (F.HOP_ENG_STATUS_FAILED e) = true
      ∧ 192 ∈ srcs ((s.put (F.HOP_ENG_STATUS_FAILED e) 1).raise 192) := by
  have hne : (F.HOP_ENG_STATUS_FAILED e).reg.addr ≠ R.BRK_LOSS.addr := by
    simp only [F.HOP_ENG_STATUS_FAILED, R.HOP_ENG_STATUS, R.BRK_LOSS]
    omega
  refine ⟨?_, by simp [srcs]⟩
  rw [State.bit, raise_get _ _ _ _ hne, get_put_engFailed]
  rfl

theorem chipReset_spec (hr : s.pwr.req = true) (hh : s.bit F.GOV_STATUS_HALTED = false) (hi : s.img.op = none)
    (hf : s.fan.op = none) : exec (.chipReset ⟨[], [], []⟩) s =
      .next (if s.pwr.booted = true ∧ resetStays s = false then restarted s else chipClear s) :=
  (execChipReset_eq _ hr hh hi hf).trans (congrArg _ (releaseAgain_chipClear s))

/-- Of the registers that a chip reset sets, those that are kept, and those that are not. -/
theorem keptReg_of_mem : ∀ a ∈ releaseRegs ++ chipRegs,
    if keptReg a then a ∈ [R.GOV_STATUS.addr, R.CRP_STATUS.addr, R.CRP_RAIL.addr, R.CRP_AVS.addr, R.CRP_CLK.addr,
      R.BRK_HIST_CTRL.addr]
    else a ∈ [R.IMG_ARB.addr, (R.MPU_REG_A 24 0).addr, (R.MPU_REG_B 24 0).addr, R.BRK_STATUS.addr,
      (R.BRK_HIST_REC 0).addr, (R.BRK_HIST_REC 1).addr, (R.BRK_HIST_REC 2).addr, (R.BRK_HIST_REC 3).addr] := by
  decide

/-- Settles O56: power-up is `released (shown s)`, a chip reset `restarted s` or `chipClear s`. -/
theorem deviceResets : Obligations.DeviceResets := by
  intro s
  refine ⟨?powerOn, fun hb hr hs ht hl => ⟨fun hp => ⟨?powerUp, fun e => ?selfTest⟩, fun hp => ?pinLow⟩,
    fun hreq hh hi hf => ⟨?cleared, fun hb hstay => ?restarted, fun hp => ?stays⟩, fun h t => ?idle,
    fun c cause hr hh hl ht h => ?request, ?pinHigh, fun mid hl hc => ?refused⟩
  case powerOn =>
    exact ⟨_, rfl, State.rd_of_regs_nil rfl, rfl, rfl, rfl, rfl, rfl, rfl, rfl, rfl, rfl, rfl, rfl, rfl⟩
  case powerUp =>
    refine ⟨_, powerUp_spec hb hr hs ht hl _, ?_⟩
    rw [if_neg (by simp [hp])]
    obtain ⟨h1, h2, h3, h4, h5, h6, h7⟩ := released_shown s
    exact ⟨rfl, rfl, rfl, h1, h2, h3, h4, h5, h6, h7, rfl, rfl⟩
  case selfTest =>
    refine ⟨_, powerUp_spec hb hr hs ht hl _, ?_⟩
    rw [if_neg (by simp [hp]), releaseUnits_engine]
    exact engine_failed _ e
  case pinLow =>
    refine ⟨_, powerUp_spec hb hr hs ht hl _, ?_⟩
    rw [if_pos hp]
    exact ⟨rfl, rfl⟩
  case cleared =>
    refine ⟨_, chipReset_spec hreq hh hi hf, ?_⟩
    generalize htd : (if s.pwr.booted = true ∧ resetStays s = false then restarted s else chipClear s) = t
    have ht : t = restarted s ∨ t = chipClear s := by
      rw [← htd]
      split <;> simp
    refine ⟨fun q hk hq => ?_, fun q hk hq => ?_, ?_, ?_, chipReset_memories ht⟩
    · rw [chipReset_rd ht q fun hm => hq (by simpa only [hk, if_true] using keptReg_of_mem _ hm), if_pos hk]
    · have hk' : ¬ keptReg q.addr = true := by simp [hk]
      rw [chipReset_rd ht q fun hm => hq (by simpa only [if_neg hk'] using keptReg_of_mem _ hm), if_neg hk']
    · rw [State.bit, (chipReset_regs ht).get (by decide)]
      exact chipClear_policy s
    · rw [(chipReset_regs ht).get (by decide), chipClear_alarm]
  case restarted =>
    refine ⟨_, chipReset_spec hreq hh hi hf, ?_⟩
    rw [if_pos ⟨hb, hstay⟩]
    exact ⟨rfl, rfl, rfl, rfl⟩
  case stays =>
    refine ⟨_, chipReset_spec hreq hh hi hf, ?_⟩
    rw [if_neg (by simp [resetStays, hp])]
    exact ⟨rfl, hreq, rfl⟩
  case idle =>
    refine congrArg Host.Outcome.next (if_pos ?_)
    rcases h with h | h | h <;> simp [h]
  case request =>
    rcases h with ⟨rfl, rfl⟩ | ⟨hlock, rfl, mid, rfl⟩
    · exact runs_resetPin hr hh hl ht
    · exact runs_softwareChipReset mid hr hh hl ht hlock
  case pinHigh => exact ⟨_, rfl, rfl, rfl, rfl⟩
  case refused =>
    refine ⟨_, execSoftwareChipReset_locked mid hl hc, by simp [srcs], by simp, fun q hq => ?_⟩
    rw [refuse_rd _ _ _ _ _ (by simpa using hq), State.rd_wr_rd]

end Sys2Proof.Machine
end

section
/-! Fantail's scrub, adaptation, telemetry and spare lanes (R14, R394, R397, R401, R405), for O52. -/

namespace Sys2Proof.Machine

variable {s t : State}

@[simp] theorem tget_tmod_self {α : Type} [DecidableEq α] (d : α) (t : Tab α) (i : Nat) (f : α → α) :
    tget d (tmod d t i f) i = f (tget d t i) := tget_tput_self ..

/-! ### SRAM scrub (R394) -/

/-- Place w noted as the last one read, or the end of the pass. -/
def scrubNoted (s : State) (w : ScrubWord) (last : Bool) : State :=
  let s := s.modFan fun f => { f with scrub := if last then none else some w }
  if last then s.inc F.FAN_SCRUB_CNT_PASSES else s

/-- What the scrub does with word w once its place is noted. -/
def scrubWord (s : State) (w : ScrubWord) (e : LineErr) : State :=
  let m := tget 0 s.marks (scrubMark w)
  if scrubSkip s w then s
  else if m = 2 ∨ e = .uncorrectable then scrubFound ((s.inc F.FAN_SCRUB_CNT_UE).raise 194) w
  else if m = 1 ∨ e = .corrected then
    { s.inc F.FAN_SCRUB_CNT_CORRECTED with marks := tput 0 s.marks (scrubMark w) 0 }
  else s

/-- A word after the one read last is noted, and then read. -/
theorem execSramScrubRead_later {w : ScrubWord} (e : LineErr) (last : Bool) (hen : s.bit F.FAN_CTRL_SCRUB_EN = true)
    (hl : s.fan.scrub = none ∨ ∃ x, s.fan.scrub = some x ∧ scrubKey x < scrubKey w) :
    execSramScrubRead w e last s = .next (scrubWord (scrubNoted s w last) w e) := by
  refine congrArg Host.Outcome.next (if_neg ?_)
  rcases hl with hl | ⟨x, hl, hlt⟩
  · simp [hen, hl]
  · simp [hen, hl, hlt]

theorem scrubNoted_fan (s : State) (w : ScrubWord) (last : Bool) :
    (scrubNoted s w last).fan = { s.fan with scrub := if last then none else some w } := by
  cases last <;> rfl

@[simp] theorem scrubNoted_marks (s : State) (w : ScrubWord) (last : Bool) : (scrubNoted s w last).marks = s.marks := by
  cases last <;> rfl

theorem scrubNoted_rest (s : State) (w : ScrubWord) (last : Bool) :
    { scrubNoted s w last with regs := s.regs, fan := s.fan } = s := by
  cases last <;> rfl

theorem regsKept_scrubNoted (s : State) (w : ScrubWord) (last : Bool) :
    regsKept s (scrubNoted s w last) [R.FAN_SCRUB_CNT.addr] := by
  cases last
  · exact regsKept_refl s _
  · exact regsKept_put (t := s.modFan _) (regsKept_refl s _) List.mem_cons_self

/-- The count of passes and that of corrected words are fields of one register, apart from each other. -/
theorem scrubNoted_get_corrected (s : State) (w : ScrubWord) (last : Bool) :
    (scrubNoted s w last).get F.FAN_SCRUB_CNT_CORRECTED = s.get F.FAN_SCRUB_CNT_CORRECTED := by
  cases last
  · rfl
  · exact State.get_put_bits _ _ _ _ rfl (by decide) (by decide) (by decide)

/-- Every register that says whether a word is skipped lies above Fantail's block. -/
theorem scrubSkip_congr (h : ∀ f : Fld, 0x40500000 ≤ f.reg.addr → t.get f = s.get f) (w : ScrubWord) :
    scrubSkip t w = scrubSkip s w := by
  cases w with
  | cell b _ | link b _ =>
    simp only [scrubSkip, bankOut, State.hasBit]
    rw [h]
    simp only [F.SWC_BANK_OUT_OUT, R.SWC_BANK_OUT]
    omega
  | dir p _ =>
    simp only [scrubSkip]
    rw [h]
    simp only [F.COH_SL_STATUS_ROLE, R.COH_SL_STATUS]
    omega
  | spd w =>
    simp only [scrubSkip, State.bit]
    rw [h, h]
    all_goals
      simp only [F.SPD_BANK_STATUS_PWR_NOW, F.SPD_BANK_STATUS_CHANGING, R.SPD_BANK_STATUS]
      omega
  | replay p _ =>
    simp only [scrubSkip, role]
    rw [h, h]
    all_goals
      simp only [F.PORT_CFG_ROLE, F.OFL_STATUS_STATE, R.PORT_CFG, R.OFL_STATUS]
      omega
  | staging e _ =>
    simp only [scrubSkip, State.bit]
    rw [h]
    simp only [F.HOP_ENG_STATUS_FAILED, R.HOP_ENG_STATUS]
    omega
  | tbl _ | l2 _ => rfl

theorem scrubSkip_scrubNoted (s : State) (w : ScrubWord) (last : Bool) :
    scrubSkip (scrubNoted s w last) w = scrubSkip s w :=
  scrubSkip_congr (fun f hf => (regsKept_scrubNoted s w last).get (by
    simp only [R.FAN_SCRUB_CNT, List.mem_singleton]
    omega)) w

/-- A word with good check bits stays as it is. -/
theorem scrubWord_clean {w : ScrubWord} (hm : tget 0 s.marks (scrubMark w) = 0) : scrubWord s w .ok = s := by
  simp [scrubWord, hm]

/-- A word in service with a correctable error is counted and written back. -/
theorem scrubWord_corrected {w : ScrubWord} (hm : tget 0 s.marks (scrubMark w) = 1) (hk : scrubSkip s w = false) :
    scrubWord s w .ok = { s.inc F.FAN_SCRUB_CNT_CORRECTED with marks := tput 0 s.marks (scrubMark w) 0 } := by
  simp [scrubWord, hm, hk]

/-! ### SerDes adaptation (R397) -/

/-- An idle controller visits an active lane. -/
theorem execAdaptationVisit_active {t : Fin 4} {lane : Fin 64} (cdr more : Bool)
    (hen : s.bit F.FAN_CTRL_ADAPT_EN = true) (hidle : tget none s.fan.adapt t = none)
    (hact : (laneStatus s ((64 * t.val + lane.val) / 16)).getLsbD ((64 * t.val + lane.val) % 16) = true) :
    execAdaptationVisit t lane cdr more s = .next (s.modFan fun f => { f with
      adapt := tput none f.adapt t (some (64 * t.val + lane.val, cdr, more))
      codes := tmod 0 f.codes (2 * (64 * t.val + lane.val) + cdr.toNat) (· + (if more then 1 else -1)) }) := by
  refine congrArg Host.Outcome.next (if_neg ?_)
  rw [hen, hidle, hact]
  simp

/-- The measurement of tile t has ended. -/
def measured (s : State) (t : Nat) : State := s.modFan fun f => { f with adapt := tput none f.adapt t none }

theorem execAdaptationDecide_measured {t : Fin 4} {l : Nat} {cdr more : Bool} (keep : Bool)
    (h : tget none s.fan.adapt t = some (l, cdr, more)) :
    execAdaptationDecide t keep s = .next (
      if keep then (measured s t).inc F.FAN_ADAPT_CNT_KEPT
      else ((measured s t).inc F.FAN_ADAPT_CNT_REVERTED).modFan fun f => { f with
        codes := tmod 0 f.codes (2 * l + cdr.toNat) (· - (if more then 1 else -1)) }) := by
  rw [execAdaptationDecide, h]
  rfl

/-! ### Telemetry (R401) -/

theorem execTelemetrySnapshot_enabled (hen : s.bit F.FAN_CTRL_TELEM_EN = true) :
    execTelemetrySnapshot s = .next ((snapshot s).put F.FAN_TELEM_SEQ ((s.get F.FAN_TELEM_SEQ + 1) % 65536)) :=
  congrArg Host.Outcome.next (if_pos hen)

/-! ### Tile crossings (R14) -/

theorem execTileCrossingLaneFail_spare {tile : Fin 4} {l : Nat} (h : spareLane s tile = some l) :
    execTileCrossingLaneFail tile s =
      .next ((s.modFan fun f => { f with lanes := f.lanes ++ [16 * tile.val + l] }).raise (4 + tile.val)) := by
  rw [execTileCrossingLaneFail, h]

theorem execTileCrossingLaneFail_none {tile : Fin 4} (h : spareLane s tile = none) :
    execTileCrossingLaneFail tile s = .next (s.raise (8 + tile.val)) := by
  rw [execTileCrossingLaneFail, h]

/-! ### Results of the in-service test (R402), and the test of a spare lane (R405) -/

@[simp] theorem fanResult_fan (s : State) (kind result unit : Nat) : (fanResult s kind result unit).fan = s.fan := by
  unfold fanResult
  dsimp only
  split_ifs <;> simp

/-- A test that passes is counted so. -/
theorem fanResult_get_passed (s : State) (kind unit : Nat) :
    (fanResult s kind 0 unit).get F.FAN_TEST_CNT_PASSED
      = min F.FAN_TEST_CNT_PASSED.max (s.get F.FAN_TEST_CNT_PASSED + 1) := by
  rw [fanResult, if_pos rfl, State.get_inc_self _ _ _ (by decide) (by decide)]
  simp (disch := decide) only [State.get_put_reg]

/-- A test that fails is counted so. -/
theorem fanResult_get_failed (s : State) (kind unit : Nat) :
    (fanResult s kind 1 unit).get F.FAN_TEST_CNT_FAILED
      = min F.FAN_TEST_CNT_FAILED.max (s.get F.FAN_TEST_CNT_FAILED + 1) := by
  rw [fanResult, if_neg one_ne_zero, if_pos rfl, raise_get _ _ _ _ (by decide),
    State.get_inc_self _ _ _ (by decide) (by decide)]
  simp (disch := decide) only [State.get_put_reg]

/-- What the test of a free spare leads to: the result is counted, and a spare that fails is withdrawn. -/
def spareTested (s : State) (k : Nat) (ok : Bool) : State :=
  if ok then fanResult s 3 0 k else fanResult (s.modFan fun f => { f with lanes := f.lanes ++ [k] }) 3 1 k

/-- A free lane of a crossing is tested where it is a spare. -/
theorem execSpareLaneTest_free {tile : Fin 4} {lane : Fin 16} (ok : Bool) (hen : s.bit F.FAN_CTRL_TEST_EN = true)
    (hfree : s.fan.lanes.contains (16 * tile.val + lane.val) = false) :
    execSpareLaneTest tile lane ok s =
      .next (if lane.val < Config.crossingSpares then spareTested s (16 * tile.val + lane.val) ok else s) := by
  refine congrArg Host.Outcome.next ?_
  by_cases hl : lane.val < Config.crossingSpares
  · rw [if_pos hl]
    refine if_neg ?_
    rw [hen, hfree]
    simp [hl]
  · rw [if_neg hl]
    exact if_pos (.inr (.inl (not_lt.1 hl)))

theorem spareTested_lanes (s : State) (k : Nat) (ok : Bool) :
    (spareTested s k ok).fan.lanes = s.fan.lanes ++ (if ok then [] else [k]) := by
  cases ok <;> simp [spareTested]

theorem spareTested_get (s : State) (k : Nat) (ok : Bool) :
    (spareTested s k ok).get (if ok then F.FAN_TEST_CNT_PASSED else F.FAN_TEST_CNT_FAILED)
      = min (if ok then F.FAN_TEST_CNT_PASSED else F.FAN_TEST_CNT_FAILED).max
        (s.get (if ok then F.FAN_TEST_CNT_PASSED else F.FAN_TEST_CNT_FAILED) + 1) := by
  cases ok
  · simp only [spareTested, Bool.false_eq_true, if_false, fanResult_get_failed, modFan_get]
  · simp only [spareTested, if_true, fanResult_get_passed]

/-! ### O52 -/

/-- Settles O52: under its hypotheses each command answers the state that the lemma `exec…` above names. -/
theorem scrubAdaptTelemetry : Obligations.ScrubAdaptTelemetry := by
  intro s
  refine ⟨fun w last hen hl => ⟨fun hm => ?clean, fun hm hk => ?corrected⟩,
    fun t lane cdr more l hlane hen hidle hact => ?visit, fun t keep cdr more l h => ?decide,
    fun hen => ?telemetry, fun tile => ?crossing, fun tile lane ok k hlane hen hfree => ?spare⟩
  case clean =>
    refine ⟨_, execSramScrubRead_later .ok last hen hl, ?_⟩
    rw [scrubWord_clean (by simpa using hm)]
    exact ⟨scrubNoted_fan .., regsKept_scrubNoted s w last, scrubNoted_rest ..⟩
  case corrected =>
    refine ⟨_, execSramScrubRead_later .ok last hen hl, ?_⟩
    rw [scrubWord_corrected (by simpa using hm) ((scrubSkip_scrubNoted s w last).trans hk)]
    refine ⟨?_, by simp⟩
    rw [← scrubNoted_get_corrected s w last]
    exact State.get_inc_self _ _ _ (by decide) (by decide)
  case visit =>
    subst hlane
    exact ⟨_, execAdaptationVisit_active cdr more hen hidle hact, by simp, by simp, rfl⟩
  case decide =>
    refine ⟨_, execAdaptationDecide_measured keep h, ?_⟩
    cases keep <;>
      exact ⟨by simp [measured], by simp [measured], State.get_inc_self (measured s t) _ _ (by decide) (by decide)⟩
  case telemetry =>
    exact ⟨_, execTelemetrySnapshot_enabled hen,
      (State.get_put_self _ _ _ (by decide) (by decide)).trans (Nat.mod_mod _ _)⟩
  case crossing =>
    cases hs : spareLane s tile with
    | some l => exact ⟨_, execTileCrossingLaneFail_spare hs, raise_fan .., raise_srcs ..⟩
    | none => exact ⟨_, execTileCrossingLaneFail_none hs, raise_fan .., raise_srcs ..⟩
  case spare =>
    subst hlane
    refine ⟨_, execSpareLaneTest_free ok hen hfree, ?_⟩
    by_cases hl : lane.val < Config.crossingSpares
    · simp only [if_pos hl]
      exact ⟨spareTested_lanes .., spareTested_get ..⟩
    · simp only [if_neg hl]

end Sys2Proof.Machine
end

section
/-! Register writes that no field refuses, and fields that share a register, for O7 to O9 and O25. -/

namespace Sys2Proof.Machine

variable {s t : State} {row : RegRow} {r : Reg} {w : Wr}

/-! ### One-bit fields (R6) -/

theorem bitsGet_bit (v : Word) (i : Nat) : (bitsGet v i i != 0) = v.getLsbD i := by
  have h := testBit_bitsGet v i i 0
  have hlt : bitsGet v i i < 2 ^ (i + 1 - i) := bitsGet_lt v i i
  rw [Nat.add_sub_cancel_left] at h hlt
  obtain h0 | h1 : bitsGet v i i = 0 ∨ bitsGet v i i = 1 := by omega
  · simpa [h0] using h
  · simpa [h1] using h

theorem State.bit_of_get {f : Fld} {n : Nat} (h : s.get f = n) : s.bit f = (n != 0) := by rw [State.bit, h]

/-- A full write sets a one-bit field where the word written has a 1. -/
theorem wrFull_sets {wide : Bool} {f : Fld} (hf : f.hi = f.lo) (h : f.lo < if wide then 64 else 32) (mid : Nat)
    (v : Word) : (wrFull mid wide v).sets f = v.getLsbD f.lo := by
  have hv : (wrFull mid wide v).v.getLsbD f.lo = v.getLsbD f.lo := by
    rw [← bitsGet_bit, bitsGet_wrFull h, bitsGet_bit]
  rw [Wr.sets, hf, bitsGet_bit, BitVec.getLsbD_and, getLsbD_mask_wrFull h, Bool.and_true, hv]

theorem wrField_v_bit (s : State) {f : Fld} (hf : f.hi = f.lo) (h : f.lo < 64) (mid : Nat) (wide : Bool) :
    (wrField s mid wide f 1).v.getLsbD f.lo = true := by
  rw [wrField, getLsbD_bitsPut _ _ _ _ _ (hf ▸ h) hf.ge, if_pos ⟨le_rfl, hf.ge⟩, Nat.sub_self]
  rfl

/-- A write that sets a one-bit field sets it. -/
theorem wrField_sets (s : State) {wide : Bool} {f : Fld} (hf : f.hi = f.lo) (h : f.lo < if wide then 64 else 32)
    (mid : Nat) : (wrField s mid wide f 1).sets f = true := by
  rw [Wr.sets, hf, bitsGet_bit, BitVec.getLsbD_and, wrField_v_bit s hf (h.trans_le (by split <;> omega))]
  exact getLsbD_mask_wrFull h mid 0#64

/-! ### A write that no field refuses -/

theorem regAt_of_flds {a : Nat} {l : List FRow} (h : (regAt a).map (fun x => (x.2, x.1.flds)) = some (a, l)) :
    ∃ row, regAt a = some (row, a) ∧ row.flds = l := by
  obtain ⟨⟨row, b⟩, hrow, he⟩ := Option.map_eq_some_iff.1 h
  obtain ⟨rfl, hf⟩ := Prod.mk.inj he
  exact ⟨row, hrow, hf⟩

theorem fieldWrite_snd {locked : Bool} {deny : Word} {f : FRow} (h : fieldNo locked deny w f = false) (old : Word)
    (acc : Word × Bool) : (fieldWrite locked deny w old acc f).2 = acc.2 := by
  have heq : fieldWrite locked deny w old acc f = (if fieldNo locked deny w f then _ else _) := rfl
  rw [heq, h]
  cases f.ty <;> rfl

theorem foldl_fieldWrite_snd {locked : Bool} {deny : Word} {l : List FRow}
    (h : ∀ f ∈ l, fieldNo locked deny w f = false) (old : Word) (acc : Word × Bool) :
    (l.foldl (fieldWrite locked deny w old) acc).2 = acc.2 := by
  induction l generalizing acc with
  | nil => rfl
  | cons f l ih =>
    rw [List.foldl_cons, ih fun g hg => h g (List.mem_cons_of_mem _ hg), fieldWrite_snd (h f List.mem_cons_self)]

/-- A write that no field of a register refuses changes that register alone. -/
theorem writeReg_eq_wr {a : Nat} {deny : Word} (hr : regAt r.addr = some (row, a))
    (hn : ∀ f ∈ row.flds, fieldNo (s.locked r.addr) deny w f = false) : ∃ x, s.writeReg r w deny = s.wr r x := by
  simp only [State.writeReg, hr, foldl_fieldWrite_snd hn]
  exact ⟨_, rfl⟩

/-! ### What registers alone can change -/

theorem regsKept.mono {l m : List Nat} (h : regsKept s t l) (hl : l ⊆ m) : regsKept s t m := fun q hq =>
  h q fun e => hq (hl e)

theorem onlyRegs_refl (s : State) : onlyRegs s s := rfl

theorem onlyRegs.img (h : onlyRegs s t) : t.img = s.img := by
  unfold onlyRegs at h
  simpa only using congrArg State.img h

theorem onlyRegs.spd (h : onlyRegs s t) : t.spd = s.spd := by
  unfold onlyRegs at h
  simpa only using congrArg State.spd h

theorem onlyRegs.rte (h : onlyRegs s t) : t.rte = s.rte := by
  unfold onlyRegs at h
  simpa only using congrArg State.rte h

theorem onlyRegs_wr {v : Word} (h : onlyRegs s t) : onlyRegs s (t.wr r v) := h

theorem onlyRegs_put {f : Fld} {n : Nat} (h : onlyRegs s t) : onlyRegs s (t.put f n) := h

end Sys2Proof.Machine
end

section
/-! The full load of an image (R46 to R48), for O7. -/

namespace Sys2Proof.Machine

variable {s t : State}

/-! ### Codes of a check (R46) -/

theorem hdrFirst_le (kind : Nat) (b : Bytes) : hdrFirst kind b ≤ 13 := by
  unfold hdrFirst
  split_ifs <;> omega

theorem sigCode_le (s : State) (b : Bytes) : sigCode s b ≤ 13 := by
  unfold sigCode
  dsimp only
  split
  · omega
  · split_ifs <;> omega

theorem frontCode_le (s : State) (kind : Nat) (b : Bytes) : frontCode s kind b ≤ 13 := by
  have := hdrFirst_le kind b
  have := sigCode_le s b
  unfold frontCode
  split_ifs <;> omega

theorem secsCode_le (ss : List Sec) : secsCode ss ≤ 13 := by
  induction ss with
  | nil => exact Nat.zero_le _
  | cons x xs ih =>
    unfold secsCode
    split_ifs <;> omega

theorem imageCode_le (s : State) (kind : Nat) (b : Bytes) (rd : Nat → Nat → Bytes) : (imageCode s kind b rd).1 ≤ 13 := by
  have := frontCode_le s kind b
  have := secsCode_le (plainSecs s b rd)
  unfold imageCode
  dsimp only
  split_ifs <;> dsimp only <;> omega

theorem slotCode_le (s : State) (density slot : Nat) : (slotCode s density slot).1 ≤ 13 := by
  unfold slotCode
  split_ifs
  · dsimp only
    omega
  · exact imageCode_le ..

theorem firstSlot_lt (s : State) (density : Nat) : firstSlot s density < 2 := by
  unfold firstSlot
  dsimp only
  split_ifs <;> omega

/-! ### The cores leave reset (R47) -/

theorem regsKept_coresRelease (s : State) : regsKept s (coresRelease s) [R.MGT_STATUS.addr] := fun q hq =>
  foldl_keep (·.rd q) coreStart
    (fun u k => State.rd_put_ne u F.MGT_STATUS_ALIVE (u.get F.MGT_STATUS_ALIVE ||| 2 ^ k) q
      (fun e => hq (List.mem_singleton.2 e))) _ _

theorem srcs_coresRelease (s : State) : srcs (coresRelease s) = srcs s :=
  foldl_keep srcs coreStart (fun _ _ => rfl) _ _

/-! ### An accepted image runs (R47) -/

/-- The device shows a slot's image as running. -/
def shownRunning (s : State) (slot : Nat) (fallback : Bool) : State :=
  ((s.put F.IMG_STATUS_STATE 4).put F.IMG_STATUS_SLOT slot).putB F.IMG_STATUS_FALLBACK fallback

theorem shownRunning_get (s : State) {slot : Nat} (hslot : slot < 2) (fallback : Bool) :
    (shownRunning s slot fallback).get F.IMG_STATUS_STATE = 4
      ∧ (shownRunning s slot fallback).get F.IMG_STATUS_SLOT = slot
      ∧ (shownRunning s slot fallback).get F.IMG_STATUS_FALLBACK = if fallback then 1 else 0 := by
  refine ⟨?_, ?_, State.get_putB_self _ _ _ (by decide) (by decide)⟩
  · simp (disch := decide) only [shownRunning, State.putB, State.get_put_bits, State.get_put_self]
    rfl
  · simp (disch := decide) only [shownRunning, State.putB, State.get_put_bits, State.get_put_self]
    exact Nat.mod_eq_of_lt hslot

/-- The registers that describe the image in a slot. -/
def describeImage (s : State) (b : Bytes) : State :=
  (((s.put F.IMG_RUN_ID_SEQ (leN b 0x18 4)).put F.IMG_RUN_ID_STRUCT (leN b 0x1C 4)).put F.IMG_ARB_RUN_SVN
    (leN b 0x14 4)).put F.IMG_BOOT_OK_LEFT (leN b 0x20 2)

/-- Registers that the start of an image sets after its slot is shown. -/
def runRegs : List Nat :=
  [R.IMG_RUN_ID.addr, R.IMG_ARB.addr, R.IMG_BOOT_OK.addr, R.BRK_LOSS.addr, R.MGT_STATUS.addr]

theorem regsKept_describeImage (s : State) (b : Bytes) : regsKept s (describeImage s b) runRegs := by
  unfold describeImage
  exact regsKept_put (regsKept_put (regsKept_put (regsKept_put (regsKept_refl s _) (by decide)) (by decide)) (by decide))
    (by decide)

theorem runImage_eq (s : State) (slot : Nat) (fallback : Bool) (ss : List Sec) :
    ∃ u, runImage s slot fallback ss = coresRelease (if fallback then u.raise 12 else u)
      ∧ regsKept (shownRunning (zeroBanks (applyImage ss s) 0 32) slot fallback) u runRegs :=
  ⟨describeImage (shownRunning (zeroBanks (applyImage ss s) 0 32) slot fallback) (slotFront s slot), rfl,
    regsKept_describeImage _ _⟩

theorem regsKept_runImage (s : State) (slot : Nat) (fallback : Bool) (ss : List Sec) :
    regsKept (shownRunning (zeroBanks (applyImage ss s) 0 32) slot fallback) (runImage s slot fallback ss) runRegs := by
  obtain ⟨u, hu, hk⟩ := runImage_eq s slot fallback ss
  rw [hu]
  refine regsKept.trans ?_ (regsKept_coresRelease _) (by decide)
  split
  · exact regsKept_raise hk (by decide)
  · exact hk

/-- An image that runs is shown with its slot. -/
theorem runImage_get (s : State) {slot : Nat} (hslot : slot < 2) (fallback : Bool) (ss : List Sec) :
    (runImage s slot fallback ss).get F.IMG_STATUS_STATE = 4
      ∧ (runImage s slot fallback ss).get F.IMG_STATUS_SLOT = slot
      ∧ (runImage s slot fallback ss).get F.IMG_STATUS_FALLBACK = if fallback then 1 else 0 := by
  have h := regsKept_runImage s slot fallback ss
  rw [h.get (by decide), h.get (by decide), h.get (by decide)]
  exact shownRunning_get _ hslot fallback

theorem mem_srcs_runImage (s : State) (slot : Nat) (ss : List Sec) : 12 ∈ srcs (runImage s slot true ss) := by
  obtain ⟨u, hu, -⟩ := runImage_eq s slot true ss
  rw [hu, srcs_coresRelease, if_pos rfl, srcs, raise_srcs]
  exact List.mem_append_right _ List.mem_cons_self

/-! ### The recovery state (R48) -/

/-- A register after the registers of an address range have been cleared. -/
theorem State.rd_clearRegs (s : State) (lo hi : Nat) (keep : Nat → Bool) (q : Reg) :
    (s.clearRegs lo hi keep).rd q = if lo ≤ q.addr ∧ q.addr < hi ∧ keep q.addr = false then q.rst else s.rd q := by
  simp only [State.rd, State.clearRegs, tget_tdrop]
  by_cases h1 : lo ≤ q.addr <;> by_cases h2 : q.addr < hi <;> cases keep q.addr <;> simp [h1, h2]

/-- The recovery state leaves the registers below the pool's block as they are, but for the loader's state. -/
theorem enterRecoveryState_get (s : State) {f : Fld} (hp : f.reg.addr < 0x47000000) (hb : f.reg.addr ≠ R.BRK_LOSS.addr) :
    (enterRecoveryState s).get f = (s.put F.IMG_STATUS_STATE 6).get f := by
  rw [enterRecoveryState, raise_get _ _ _ _ hb]
  have h := State.rd_clearRegs (s.put F.IMG_STATUS_STATE 6) 0x47000000 0x48000000 (fun _ => false) f.reg
  rw [if_neg (by omega)] at h
  exact congrArg (bitsGet · f.hi f.lo) h

theorem enterRecoveryState_state (s : State) : (enterRecoveryState s).get F.IMG_STATUS_STATE = 6 := by
  rw [enterRecoveryState_get s (by decide) (by decide)]
  exact State.get_put_self _ _ _ (by decide) (by decide)

theorem srcs_enterRecoveryState (s : State) : srcs (enterRecoveryState s) = srcs s ++ [13] := raise_srcs ..

@[simp] theorem enterRecoveryState_pool (s : State) : (enterRecoveryState s).pool = {} := raise_pool ..

/-! ### O7 -/

theorem execFullLoad_idle {sfdp : Option (BitVec 32)} (hup : s.pwr.loaderUp = true) (h0 : s.get F.IMG_STATUS_STATE = 0) :
    execFullLoad sfdp s = .next (fullLoad (sfdp.map (·.toNat)) s) :=
  congrArg Host.Outcome.next (if_pos ⟨hup, h0⟩)

/-- The loader has read the density of the flash from SFDP. -/
def densityKnown (s : State) (d : Nat) : State := { s with img := { s.img with density := d } }

/-- What a full load does with the other slot, after the first one has been rejected. -/
def otherSlot (s : State) (d b : Nat) : State :=
  let y := slotCode s d b
  let s := putSlotCode s b y.1
  if y.1 = 0 then runImage s b true y.2
  else enterRecoveryState ((s.put F.IMG_STATUS_FALLBACK 0).put F.IMG_STATUS_CODE y.1)

section FirstSlot

variable {u : State} {d : Nat} (hu : u = densityKnown s d)
include hu

theorem fullLoad_accepted (hc : (slotCode u d (firstSlot u d)).1 = 0) :
    ∃ w, fullLoad (some d) s = runImage w (firstSlot u d) false (slotCode u d (firstSlot u d)).2 := by
  subst hu
  exact ⟨_, if_pos hc⟩

theorem fullLoad_rejected (hc : (slotCode u d (firstSlot u d)).1 ≠ 0) :
    ∃ w, fullLoad (some d) s = otherSlot w d (1 - firstSlot u d) := by
  subst hu
  exact ⟨_, if_neg hc⟩

end FirstSlot

/-- The image of the other slot runs as a fallback. -/
theorem otherSlot_accepted {d b : Nat} (hb : b < 2) (hc : (slotCode s d b).1 = 0) :
    (otherSlot s d b).get F.IMG_STATUS_STATE = 4 ∧ (otherSlot s d b).get F.IMG_STATUS_SLOT = b
      ∧ (otherSlot s d b).get F.IMG_STATUS_FALLBACK = 1 ∧ 12 ∈ srcs (otherSlot s d b) := by
  have heq : otherSlot s d b = runImage (putSlotCode s b (slotCode s d b).1) b true (slotCode s d b).2 := if_pos hc
  rw [heq]
  obtain ⟨hstate, hslot, hfall⟩ := runImage_get (putSlotCode s b (slotCode s d b).1) hb true (slotCode s d b).2
  exact ⟨hstate, hslot, hfall, mem_srcs_runImage ..⟩

/-- With both slots rejected the recovery state shows the last code. -/
theorem otherSlot_rejected {d b : Nat} (hc : (slotCode s d b).1 ≠ 0) :
    (otherSlot s d b).get F.IMG_STATUS_STATE = 6 ∧ (otherSlot s d b).get F.IMG_STATUS_FALLBACK = 0
      ∧ (otherSlot s d b).get F.IMG_STATUS_CODE ≠ 0 ∧ 13 ∈ srcs (otherSlot s d b) := by
  have heq : otherSlot s d b = enterRecoveryState (((putSlotCode s b (slotCode s d b).1).put F.IMG_STATUS_FALLBACK 0).put
    F.IMG_STATUS_CODE (slotCode s d b).1) := if_neg hc
  have hle := slotCode_le s d b
  rw [heq]
  refine ⟨enterRecoveryState_state _, ?_, ?_, by simp [srcs_enterRecoveryState]⟩
  · rw [enterRecoveryState_get _ (by decide) (by decide)]
    simp (disch := decide) only [State.get_put_bits, State.get_put_self, Nat.zero_mod]
  · rw [enterRecoveryState_get _ (by decide) (by decide)]
    simp (disch := decide) only [State.get_put_bits, State.get_put_self]
    rwa [Nat.mod_eq_of_lt (hle.trans_lt (by decide))]

/-- Settles O7: the first slot runs, or the other one decides; without SFDP the recovery state follows. -/
theorem imageLoads : Obligations.ImageLoads := by
  intro s hup h0
  refine ⟨fun d => ⟨_, execFullLoad_idle hup h0, ?_⟩, ⟨_, execFullLoad_idle hup h0, ?_⟩⟩
  · have ha := firstSlot_lt (densityKnown s d.toNat) d.toNat
    split
    · next hc =>
      obtain ⟨w, hw⟩ := fullLoad_accepted rfl hc
      rw [Option.map_some, hw]
      exact runImage_get w ha false _
    · next hc =>
      obtain ⟨w, hw⟩ := fullLoad_rejected rfl hc
      rw [Option.map_some, hw]
      by_cases hother : (slotCode w d.toNat (1 - firstSlot (densityKnown s d.toNat) d.toNat)).1 = 0
      · exact .inl (otherSlot_accepted (by omega) hother)
      · exact .inr (otherSlot_rejected hother)
  · refine ⟨enterRecoveryState_state _, ?_, ?_, ?_, srcs_enterRecoveryState _, enterRecoveryState_pool _⟩
    all_goals
      simp only [Option.map_none, fullLoad]
      rw [enterRecoveryState_get _ (by decide) (by decide)]
      simp (disch := decide) only [putSlotCode, if_true, one_ne_zero, if_false, State.get_put_bits, State.get_put_reg,
        State.get_put_self, Nat.mod_eq_of_lt]

end Sys2Proof.Machine
end

section
/-! Boot confirmation and the anti-rollback counter (R50, R51), for O8. -/

namespace Sys2Proof.Machine

variable {s t : State}

/-! ### BOOT_OK (R50) -/

theorem regAt_bootOk : ∃ row, regAt R.IMG_BOOT_OK.addr = some (row, R.IMG_BOOT_OK.addr) ∧ row.flds = [⟨0, 0, .w1s⟩] :=
  regAt_of_flds (by decide)

/-- The write of BOOT_OK sets OK and changes nothing else. -/
theorem writeReg_bootOk (s : State) (mid : Nat) :
    ∃ v, s.writeReg R.IMG_BOOT_OK (wrField s mid false F.IMG_BOOT_OK_OK 1) = s.wr R.IMG_BOOT_OK v
      ∧ (s.wr R.IMG_BOOT_OK v).bit F.IMG_BOOT_OK_OK = true := by
  obtain ⟨row, hrow, hf⟩ := regAt_bootOk
  obtain ⟨v, hv⟩ := writeReg_eq_wr (s := s) (w := wrField s mid false F.IMG_BOOT_OK_OK 1) (deny := 0#64) hrow
    (by simp [hf, fieldNo])
  refine ⟨v, hv, ?_⟩
  have hset := wrField_v_bit s (f := F.IMG_BOOT_OK_OK) rfl (by decide) mid false
  have hmask : (wrField s mid false F.IMG_BOOT_OK_OK 1).mask.getLsbD F.IMG_BOOT_OK_OK.lo = true :=
    getLsbD_mask_wrFull (wide := false) (by decide) mid 0#64
  rw [← hv]
  refine (State.bit_eq_getLsbD _ R.IMG_BOOT_OK F.IMG_BOOT_OK_OK.lo).trans ?_
  rw [ State.rd_writeReg _ _ _ _ hrow (by decide), hf, List.foldl_cons,
    List.foldl_nil, fieldWrite_bit (f := ⟨0, 0, .w1s⟩) (i := F.IMG_BOOT_OK_OK.lo) (h := by decide) (h1 := le_rfl)
      (h2 := le_rfl)]
  simp only [hset, hmask, Bool.and_self, Bool.or_true]
  rfl

theorem execBootOk_spec (mid : Mid) : runs (.bootOk mid) s fun t =>
    t.bit F.IMG_BOOT_OK_OK = true ∧ t.get F.IMG_BOOT_OK_LEFT = 0 ∧ regsKept s t [R.IMG_BOOT_OK.addr] ∧ onlyRegs s t := by
  obtain ⟨v, hv, hok⟩ := writeReg_bootOk s mid
  refine ⟨_, rfl, ?_⟩
  simp only [wrBootOk, hv, hok, if_true]
  refine ⟨?_, State.get_put_self _ _ _ (by decide) (by decide),
    regsKept_put (regsKept_wr (regsKept_refl s _) (by decide)) (by decide), rfl⟩
  rw [State.bit, State.get_put_bits _ F.IMG_BOOT_OK_LEFT F.IMG_BOOT_OK_OK _ rfl (by decide) (by decide) (by decide)]
  exact hok

/-! ### A chip reset is asked for (R425) -/

/-- A request shows its cause, and is counted when it is taken. -/
theorem chipRequest_cases (s : State) (cause : Fld) (src : Nat) : chipRequest s cause src = s.put cause 1
    ∨ ∃ p, chipRequest s cause src = ((s.put cause 1).inc F.CRP_RESET_CAUSE_COUNT).modPwr fun _ => p := by
  unfold chipRequest
  dsimp only
  split
  · exact .inl rfl
  · exact .inr ⟨_, rfl⟩

theorem regsKept_inc {f : Fld} {n : Nat} {l : List Nat} (h : regsKept s t l) (hf : f.reg.addr ∈ l) :
    regsKept s (t.inc f n) l := by
  rw [State.inc]
  exact regsKept_put h hf

theorem regsKept_chipRequest (s : State) {cause : Fld} (hc : cause.reg = R.CRP_RESET_CAUSE) (src : Nat) :
    regsKept s (chipRequest s cause src) [R.CRP_RESET_CAUSE.addr] := by
  have h : regsKept s (s.put cause 1) [R.CRP_RESET_CAUSE.addr] := regsKept_put (regsKept_refl s _) (by simp [hc])
  rcases chipRequest_cases s cause src with e | ⟨p, e⟩ <;> rw [e]
  · exact h
  · intro q hq
    rw [modPwr_rd, regsKept_inc h (by decide) q hq]

theorem srcs_chipRequest (s : State) (cause : Fld) (src : Nat) : srcs (chipRequest s cause src) = srcs s := by
  rcases chipRequest_cases s cause src with e | ⟨p, e⟩ <;> rw [e] <;> rfl

theorem chipRequest_cause (s : State) {cause : Fld} (hc : cause.reg = R.CRP_RESET_CAUSE) (hb : cause.hi < 16)
    (hlo : cause.lo ≤ cause.hi) (src : Nat) : (chipRequest s cause src).bit cause = true := by
  have h : (s.put cause 1).get cause = 1 := by
    rw [State.get_put_self _ _ _ (by omega) hlo, Nat.mod_eq_of_lt (Nat.one_lt_two_pow (by omega))]
  rcases chipRequest_cases s cause src with e | ⟨p, e⟩ <;> rw [e]
  · exact State.bit_of_get h
  · rw [modPwr_bit, State.inc]
    rw [← State.get_put_bits _ F.CRP_RESET_CAUSE_COUNT cause _ hc (by decide) (by decide) (.inr hb)] at h
    exact State.bit_of_get h

/-! ### BOOT_CONFIRM_TIMEOUT (R50) -/

/-- The mark of a slot whose image was not confirmed. -/
def unconfirmedFld (slot : Nat) : Fld :=
  if slot = 0 then F.IMG_SLOT_STATUS_A_UNCONFIRMED else F.IMG_SLOT_STATUS_B_UNCONFIRMED

theorem unconfirmedFld_spec (slot : Nat) : (unconfirmedFld slot).reg = R.IMG_SLOT_STATUS
    ∧ (unconfirmedFld slot).hi < 64 ∧ (unconfirmedFld slot).hi = (unconfirmedFld slot).lo := by
  unfold unconfirmedFld
  split <;> exact ⟨rfl, by decide, rfl⟩

theorem execBootConfirmTimeout_eq (h4 : s.get F.IMG_STATUS_STATE = 4) (hok : s.bit F.IMG_BOOT_OK_OK = false) :
    execBootConfirmTimeout s = .next (chipRequest
      (((s.put F.IMG_BOOT_OK_LEFT 0).put (unconfirmedFld (s.get F.IMG_STATUS_SLOT)) 1).raise 14)
      F.CRP_RESET_CAUSE_BOOT_TO) :=
  congrArg Host.Outcome.next (if_pos ⟨h4, by simpa [State.bit] using hok⟩)

theorem bootConfirmTimeout_spec (h4 : s.get F.IMG_STATUS_STATE = 4) (hok : s.bit F.IMG_BOOT_OK_OK = false) :
    runs .bootConfirmTimeout s fun t => t.bit (unconfirmedFld (s.get F.IMG_STATUS_SLOT)) = true
      ∧ t.get F.IMG_BOOT_OK_LEFT = 0 ∧ t.bit F.CRP_RESET_CAUSE_BOOT_TO = true ∧ srcs t = srcs s ++ [14] := by
  refine ⟨_, execBootConfirmTimeout_eq h4 hok, ?_⟩
  generalize hf : unconfirmedFld (s.get F.IMG_STATUS_SLOT) = f
  obtain ⟨hreg, hhi, hlo⟩ := hf ▸ unconfirmedFld_spec (s.get F.IMG_STATUS_SLOT)
  have hk := regsKept_chipRequest (((s.put F.IMG_BOOT_OK_LEFT 0).put f 1).raise 14) (cause := F.CRP_RESET_CAUSE_BOOT_TO)
    rfl 0xFFF
  refine ⟨State.bit_of_get (n := 1) ?_, ?_, chipRequest_cause _ rfl (by decide) (by decide) _,
    (srcs_chipRequest ..).trans (raise_srcs ..)⟩
  · rw [hk.get (by rw [hreg]; decide), raise_get _ _ _ _ (by rw [hreg]; decide), State.get_put_self _ _ _ hhi hlo.ge, hlo,
      Nat.add_sub_cancel_left]
    rfl
  · rw [hk.get (by decide), raise_get _ _ _ _ (by decide), State.get_put_reg _ _ _ _ (by rw [hreg]; decide)]
    exact State.get_put_self _ _ _ (by decide) (by decide)

/-! ### The anti-rollback counter (R51) -/

theorem execAntiRollbackCommit_eq (mid : Mid) : execAntiRollbackCommit mid s = .next (
    if !s.bit F.IMG_BOOT_OK_OK || s.bit F.IMG_ARB_BUSY then s.refuse R.IMG_ARB.addr mid 4
    else if s.fuse.arb < s.get F.IMG_ARB_RUN_SVN then s.put F.IMG_ARB_BUSY 1 else s) :=
  congrArg Host.Outcome.next (if_pos (wrField_sets s rfl (by decide) mid))

theorem onlyRegsEvents_raise (s : State) (n : Nat) (d : Detail) : onlyRegsEvents s (s.raise n d) := by
  unfold onlyRegsEvents State.raise
  split <;> rfl

theorem execArbBurnDone_busy (hbusy : s.bit F.IMG_ARB_BUSY = true) : execArbBurnDone s = .next (
    ((({ s with fuse := { s.fuse with arb := s.get F.IMG_ARB_RUN_SVN } } : State).put F.IMG_ARB_COUNT
      (s.get F.IMG_ARB_RUN_SVN)).put F.IMG_ARB_BUSY 0).put F.MGT_DONE_IMG_ARB 1) :=
  congrArg Host.Outcome.next (if_pos hbusy)

/-! ### O8 -/

/-- Settles O8: each command answers the state that the lemma `exec…` above names. -/
theorem bootConfirmation : Obligations.BootConfirmation := by
  intro mid s
  refine ⟨execBootOk_spec mid, bootConfirmTimeout_spec, fun hok hidle hlt => ?commit, fun hno => ?refused,
    fun hbusy => ?done⟩
  case commit =>
    refine ⟨_, execAntiRollbackCommit_eq mid, ?_⟩
    simp only [hok, hidle, hlt, Bool.not_true, Bool.or_self, Bool.false_eq_true, if_false, if_true]
    exact ⟨State.bit_of_get (State.get_put_self _ _ _ (by decide) (by decide)),
      regsKept_put (regsKept_refl s _) (by decide), rfl⟩
  case refused =>
    have hno : (!s.bit F.IMG_BOOT_OK_OK || s.bit F.IMG_ARB_BUSY) = true := by simpa using hno
    refine ⟨_, execAntiRollbackCommit_eq mid, ?_⟩
    rw [if_pos hno]
    exact ⟨refuse_srcs .., regsKept_raise (regsKept_refl s _) List.mem_cons_self, onlyRegsEvents_raise ..⟩
  case done =>
    refine ⟨_, execArbBurnDone_busy hbusy, rfl, ?_, ?_, ?_⟩
    · simp (disch := decide) only [State.get_put_reg, State.get_put_bits, State.get_put_self]
      rfl
    · refine State.bit_of_get (n := 0) ?_
      simp (disch := decide) only [State.get_put_reg, State.get_put_self, Nat.zero_mod]
    · exact State.bit_of_get (State.get_put_self _ _ _ (by decide) (by decide))

end Sys2Proof.Machine
end

section
/-! Group reloads and flash operations (R54, R55, R57), for O9. -/

namespace Sys2Proof.Machine

variable {s t : State}

/-! ### GROUP_RELOAD (R54, R55) -/

/-- The device shows the result of a group reload. -/
def reloadShown (s : State) (c g : Nat) : State :=
  ((s.put F.IMG_LOAD_STATUS_CODE c).put F.IMG_LOAD_STATUS_GROUP g).put F.MGT_DONE_IMG_LOAD 1

theorem execGroupReload_eq (mid : Mid) {c g : Nat} {ss : List Sec}
    (h : reloadCode s (s.get F.IMG_LOAD_SRC_OFFSET) = (c, g, ss)) :
    execGroupReload mid s = .next (reloadShown (if c = 0 then reloadApply g ss s else s) c g) := by
  refine congrArg Host.Outcome.next ((if_pos (wrField_sets s rfl (by decide) mid)).trans ?_)
  rw [h]
  rfl

theorem reloadShown_get (s : State) (c g : Nat) : (reloadShown s c g).get F.IMG_LOAD_STATUS_CODE = c % 256
    ∧ (reloadShown s c g).get F.IMG_LOAD_STATUS_GROUP = g % 16 ∧ (reloadShown s c g).bit F.MGT_DONE_IMG_LOAD = true := by
  refine ⟨?_, ?_, State.bit_of_get (State.get_put_self _ _ _ (by decide) (by decide))⟩
  all_goals
    simp (disch := decide) only [reloadShown, State.get_put_reg, State.get_put_bits, State.get_put_self]
    rfl

theorem regsKept_reloadShown (s : State) (c g : Nat) :
    regsKept s (reloadShown s c g) [R.IMG_LOAD_STATUS.addr, R.MGT_DONE.addr] :=
  regsKept_put (regsKept_put (regsKept_put (regsKept_refl s _) (by decide)) (by decide)) (by decide)

/-- The last event of a reload that is applied is that of its group. -/
theorem getLast_srcs_reloadApply (g : Nat) (ss : List Sec) (s : State) :
    (srcs (reloadApply g ss s)).getLast? = some (256 + 4 * g + 2) := by
  rw [reloadApply, srcs, raise_srcs, List.getLast?_concat]

/-! ### Start of a flash operation (R57) -/

theorem regAt_flashCtrl : ∃ row, regAt R.IMG_FLASH_CTRL.addr = some (row, R.IMG_FLASH_CTRL.addr)
    ∧ row.flds = [⟨31, 31, .rwl⟩, ⟨29, 28, .rwl⟩, ⟨16, 0, .rwl⟩] := regAt_of_flds (by decide)

/-- The word that starts operation op on len bytes. -/
def flashWord (s : State) (op len : Nat) : Word :=
  bitsPut (bitsPut (bitsPut (s.rd R.IMG_FLASH_CTRL) 31 31 1) 29 28 op) 16 0 len

/-- The device when it has taken the write that starts a flash operation. -/
def flashAsked (s : State) (mid op len : Nat) : State :=
  (s.writeReg R.IMG_FLASH_CTRL (wrFull mid false (flashWord s op len))).put F.IMG_FLASH_CTRL_START 0

theorem flashWord_start (s : State) (op len : Nat) : (flashWord s op len).getLsbD 31 = true := by
  simp only [flashWord, getLsbD_bitsPut _ 16 0 _ _ (by decide) (by decide),
    getLsbD_bitsPut _ 29 28 _ _ (by decide) (by decide), getLsbD_bitsPut _ 31 31 _ _ (by decide) (by decide)]
  rfl

/-- With the controller idle and its block not locked, the command starts what the registers then hold. -/
theorem flashCmd_open (mid op len : Nat) (hidle : s.bit F.IMG_FLASH_CTRL_BUSY = false)
    (hopen : s.bit F.IMG_LOCK_LOCK = false) : flashCmd mid op len s = flashStart (flashAsked s mid op len) := by
  have hset : (wrFull mid false (flashWord s op len)).sets F.IMG_FLASH_CTRL_START = true :=
    (wrFull_sets rfl (by decide) mid _).trans (flashWord_start ..)
  change wrFlashCtrl (wrFull mid false (flashWord s op len)) s = _
  simp only [wrFlashCtrl, hset, hidle, hopen, Bool.false_eq_true, and_false, if_false, Bool.not_true]
  rfl

section Asked

variable (hopen : s.bit F.IMG_LOCK_LOCK = false) (mid op len : Nat)
include hopen

theorem fieldNo_flashCtrl {row : RegRow} (hf : row.flds = [⟨31, 31, .rwl⟩, ⟨29, 28, .rwl⟩, ⟨16, 0, .rwl⟩]) (w : Wr) :
    ∀ f ∈ row.flds, fieldNo (s.locked R.IMG_FLASH_CTRL.addr) 0#64 w f = false := by
  have hl : s.locked R.IMG_FLASH_CTRL.addr = false := hopen
  simp [hf, hl, fieldNo]

/-- The write of the command changes its register alone. -/
theorem flashAsked_eq : ∃ v, flashAsked s mid op len = (s.wr R.IMG_FLASH_CTRL v).put F.IMG_FLASH_CTRL_START 0 := by
  obtain ⟨row, hrow, hf⟩ := regAt_flashCtrl
  obtain ⟨v, hv⟩ := writeReg_eq_wr hrow (fieldNo_flashCtrl hopen hf (wrFull mid false (flashWord s op len)))
  exact ⟨v, congrArg (State.put · F.IMG_FLASH_CTRL_START 0) hv⟩

theorem regsKept_flashAsked : regsKept s (flashAsked s mid op len) [R.IMG_FLASH_CTRL.addr] := by
  obtain ⟨v, hv⟩ := flashAsked_eq hopen mid op len
  rw [hv]
  exact regsKept_put (regsKept_wr (regsKept_refl s _) List.mem_cons_self) (by decide)

theorem onlyRegs_flashAsked : onlyRegs s (flashAsked s mid op len) := by
  obtain ⟨v, hv⟩ := flashAsked_eq hopen mid op len
  rw [hv]
  exact onlyRegs_put (onlyRegs_wr (onlyRegs_refl s))

/-- A field of the command below START reads as the word written. -/
theorem flashAsked_get {hi lo : Nat} (hmem : (⟨hi, lo, .rwl⟩ : FRow) ∈ ([⟨29, 28, .rwl⟩, ⟨16, 0, .rwl⟩] : List FRow)) :
    (flashAsked s mid op len).get ⟨R.IMG_FLASH_CTRL, hi, lo⟩ = bitsGet (flashWord s op len) hi lo := by
  obtain ⟨row, hrow, hf⟩ := regAt_flashCtrl
  have hbits : lo ≤ hi ∧ hi < 31 := by
    simp only [List.mem_cons, FRow.mk.injEq, List.not_mem_nil, or_false] at hmem
    omega
  have hmem' : (⟨hi, lo, .rwl⟩ : FRow) ∈ row.flds := hf ▸ List.mem_cons_of_mem _ hmem
  rw [flashAsked, State.get_put_bits _ F.IMG_FLASH_CTRL_START ⟨R.IMG_FLASH_CTRL, hi, lo⟩ _ rfl (by decide) (by decide)
      (.inr hbits.2),
    State.get_writeReg_rw _ _ hi lo .rwl _ _ hrow (by decide) (by rw [hf]; decide) hmem' (.inr (.inr rfl))
      (fieldNo_flashCtrl hopen hf _ _ hmem') fun i _ hi' => getLsbD_mask_wrFull (show i < 32 by omega) _ _]
  exact bitsGet_wrFull (show hi < 32 by omega) ..

theorem flashAsked_op (hop : op < 4) : (flashAsked s mid op len).get F.IMG_FLASH_CTRL_OP = op := by
  refine (flashAsked_get hopen mid op len (by decide)).trans ?_
  rw [flashWord, bitsGet_bitsPut_ne _ _ _ _ _ _ (by decide) (by decide) (by decide),
    bitsGet_bitsPut _ _ _ _ (by decide) (by decide)]
  exact Nat.mod_eq_of_lt hop

theorem flashAsked_length (hlen : len < 131072) : (flashAsked s mid op len).get F.IMG_FLASH_CTRL_LENGTH = len := by
  refine (flashAsked_get hopen mid op len (by decide)).trans ?_
  rw [flashWord, bitsGet_bitsPut _ _ _ _ (by decide) (by decide)]
  exact Nat.mod_eq_of_lt hlen

end Asked

/-- An erase, a program or a read of n bytes of flash from address a may begin (R57). -/
def flashPermitted (s : State) (a n : Nat) : Prop :=
  touchesRun s a n = false ∧ s.bit F.IMG_LOCK_LOCK = false ∧ s.get F.IMG_STATUS_STATE ∉ [1, 2, 3]
    ∧ 0 < n ∧ n ≤ 65536 ∧ a + n ≤ s.img.density

/-- A permitted operation is in progress from then on. -/
theorem flashStart_permitted {op a n : Nat} (hop : s.get F.IMG_FLASH_CTRL_OP = op) (h0 : op ≠ 0)
    (ha : a = if op = 1 then s.get F.IMG_FLASH_ADDR_FLASH / 65536 * 65536 else s.get F.IMG_FLASH_ADDR_FLASH)
    (hn : n = if op = 1 then 65536 else s.get F.IMG_FLASH_CTRL_LENGTH) (hp : flashPermitted s a n) :
    flashStart s = { s.put F.IMG_FLASH_CTRL_BUSY 1 with
      img := { s.img with op := some { op := op, addr := a, spd := s.get F.IMG_FLASH_ADDR_SPD, len := n } } } := by
  obtain ⟨hrun, hopen, hstate, hpos, hmax, hfit⟩ := hp
  unfold flashStart
  simp only [hop, ← ha, ← hn]
  rw [if_neg h0, if_neg (by simp only [hrun, hopen, hstate, Bool.false_eq_true, or_self, and_false, not_false_eq_true]),
    if_neg (by omega)]

theorem flashPermitted_congr {a n : Nat} (hk : regsKept s t [R.IMG_FLASH_CTRL.addr]) (hd : t.img.density = s.img.density)
    (hp : flashPermitted s a n) : flashPermitted t a n := by
  unfold flashPermitted touchesRun State.bit at *
  rwa [hk.get (by decide), hk.get (by decide), hk.get (by decide), hd]

/-- A command that asks for a permitted operation starts it. -/
theorem flashCommands_spec {mid : Mid} {len op l : Nat} {c : Instr} (hl : l < 131072) (h0 : op ≠ 0) (h4 : op < 4)
    (hc : exec c s = .next (flashCmd mid op l s)) (hlen : op ≠ 1 → l = len)
    (hidle : s.bit F.IMG_FLASH_CTRL_BUSY = false) {a n : Nat}
    (ha : a = if op = 1 then s.get F.IMG_FLASH_ADDR_FLASH / 65536 * 65536 else s.get F.IMG_FLASH_ADDR_FLASH)
    (hn : n = if op = 1 then 65536 else len) (hp : flashPermitted s a n) :
    runs c s fun t =>
      t.bit F.IMG_FLASH_CTRL_BUSY = true ∧ t.img.flash = s.img.flash ∧ t.spd = s.spd
        ∧ t.img.op = some { op := op, addr := a, spd := s.get F.IMG_FLASH_ADDR_SPD, len := n } := by
  have hopen := hp.2.1
  have hk := regsKept_flashAsked hopen mid op l
  have ho := onlyRegs_flashAsked hopen mid op l
  have himg : (flashAsked s mid op l).img = s.img := ho.img
  have hspd : (flashAsked s mid op l).spd = s.spd := ho.spd
  refine ⟨_, hc.trans (congrArg Host.Outcome.next ((flashCmd_open mid op l hidle hopen).trans (flashStart_permitted
    (flashAsked_op hopen mid op l h4) h0 (a := a) (n := n) ?_ ?_
    (flashPermitted_congr hk (congrArg (·.density) himg) hp)))), ?_⟩
  · rw [hk.get (by decide)]
    exact ha
  · rw [flashAsked_length hopen mid op l hl, hn]
    split
    · rfl
    · next h1 => exact (hlen h1).symm
  · refine ⟨State.bit_of_get (State.get_put_self _ F.IMG_FLASH_CTRL_BUSY _ (by decide) (by decide)), ?_, ?_, ?_⟩
    · exact congrArg (·.flash) himg
    · exact hspd
    · rw [hk.get (by decide)]

/-! ### End of a flash operation (R57) -/

@[simp] theorem length_tgets {α : Type} (d : α) (t : Tab α) (i n : Nat) : (tgets d t i n).length = n := by
  simp [tgets]

/-- What a finished erase or program writes into the range of the flash. -/
def flashNew (o : FlashOp) (s : State) : Bytes :=
  if o.op = 1 then List.replicate o.len 0xFF#8
  else ((flashRd s o.addr o.len).zip (tgets 0#8 s.spd o.spd o.len)).map fun p => p.1 &&& p.2

theorem length_flashNew (o : FlashOp) (s : State) : (flashNew o s).length = o.len := by
  unfold flashNew
  split <;> simp [flashRd]

theorem flashEffect_read {o : FlashOp} (h : o.op = 3) :
    flashEffect true o s = s.spdWr o.spd (flashRd s o.addr o.len) := by
  simp [flashEffect, h]

theorem flashEffect_write {o : FlashOp} (h : o.op ≠ 3) : flashEffect true o s =
    { s with img := { s.img with flash := tputs 0xFF#8 s.img.flash o.addr (flashNew o s) } } := by
  simp [flashEffect, flashNew, h]

/-- Outside its range a finished operation leaves the flash as it is. -/
theorem flashEffect_flash_outside {o : FlashOp} {a : Nat} (ha : a < o.addr ∨ o.addr + o.len ≤ a) :
    tget 0xFF#8 (flashEffect true o s).img.flash a = tget 0xFF#8 s.img.flash a := by
  by_cases h : o.op = 3
  · rw [flashEffect_read h]
    rfl
  · rw [flashEffect_write h]
    exact (tget_tputs ..).trans (dif_neg (by rw [length_flashNew]; omega))

/-- An erased range reads as erased. -/
theorem flashEffect_flash_erased {o : FlashOp} (h : o.op = 1) {a : Nat} (h1 : o.addr ≤ a) (h2 : a < o.addr + o.len) :
    tget 0xFF#8 (flashEffect true o s).img.flash a = 0xFF#8 := by
  have hnew : flashNew o s = List.replicate o.len 0xFF#8 := if_pos h
  rw [flashEffect_write (by omega), hnew]
  refine (tget_tputs ..).trans ((dif_pos ⟨h1, by simpa using h2⟩).trans ?_)
  simp

theorem flashEffect_spd {o : FlashOp} (h : o.op ≠ 3) : (flashEffect true o s).spd = s.spd := by rw [flashEffect_write h]

/-- The device when the flash operation in progress has ended without error. -/
def flashEnded (s : State) : State :=
  ((({ s with img := { s.img with op := none } } : State).put F.IMG_FLASH_CTRL_RESULT 0).put F.IMG_FLASH_CTRL_BUSY 0).put
    F.MGT_DONE_IMG_FLASH 1

theorem execFlashOpDone_ok {o : FlashOp} (hfan : s.fan.op = none) (ho : s.img.op = some o) :
    execFlashOpDone true s = .next (flashEnded (flashEffect true o s)) := by
  simp only [execFlashOpDone, hfan, ho, Option.isSome_none, Bool.false_eq_true, if_false, if_true]
  rfl

theorem flashEnded_get (s : State) : (flashEnded s).get F.IMG_FLASH_CTRL_RESULT = 0
    ∧ (flashEnded s).bit F.IMG_FLASH_CTRL_BUSY = false ∧ (flashEnded s).bit F.MGT_DONE_IMG_FLASH = true := by
  refine ⟨?_, State.bit_of_get (n := 0) ?_, State.bit_of_get (State.get_put_self _ _ _ (by decide) (by decide))⟩
  all_goals
    simp (disch := decide) only [flashEnded, State.get_put_reg, State.get_put_bits, State.get_put_self, Nat.zero_mod]

/-! ### O9 -/

/-- Settles O9: a reload shows its code, a permitted flash operation begins, and one in progress ends. -/
theorem reloadsAndFlash : Obligations.ReloadsAndFlash := by
  refine ⟨fun mid s c g ss h => ?reload,
    fun mid len op s hop hidle hopen hstate a n ha hn hpos hmax hfit hrun => ?start, fun s o hfan ho => ?done⟩
  case reload =>
    refine ⟨_, execGroupReload_eq mid h, ?_⟩
    obtain ⟨hcode, hgroup, hdone⟩ := reloadShown_get (if c = 0 then reloadApply g ss s else s) c g
    refine ⟨hcode, hgroup, hdone, fun hc => ?_, fun hc => ?_⟩
    · rw [if_neg hc]
      exact ⟨onlyRegs_put (onlyRegs_put (onlyRegs_put (onlyRegs_refl s))), regsKept_reloadShown s c g⟩
    · rw [if_pos hc]
      exact getLast_srcs_reloadApply g ss s
  case start =>
    have hp : flashPermitted s a n := ⟨hrun, hopen, hstate, hpos, hmax, hfit⟩
    have hl : s.get F.IMG_FLASH_CTRL_LENGTH < 131072 := State.get_lt ..
    rcases hop with rfl | rfl | rfl
    · exact flashCommands_spec (mid := mid) hl (by decide) (by decide) rfl (fun h => absurd rfl h) hidle ha hn hp
    · exact flashCommands_spec (mid := mid) len.isLt (by decide) (by decide) rfl (fun _ => rfl) hidle ha hn hp
    · exact flashCommands_spec (mid := mid) len.isLt (by decide) (by decide) rfl (fun _ => rfl) hidle ha hn hp
  case done =>
    obtain ⟨hres, hbusy, hdone⟩ := flashEnded_get (flashEffect true o s)
    exact ⟨_, execFlashOpDone_ok hfan ho, hres, hbusy, hdone, rfl, fun h _ h1 h2 => flashEffect_flash_erased h h1 h2,
      fun _ h => flashEffect_flash_outside h, flashEffect_spd⟩

end Sys2Proof.Machine
end

section
/-! Binding and unbinding (R42, R157 to R161), for O25. -/

namespace Sys2Proof.Machine

variable {s t : State} {n : Nat}

/-! ### What is read beside RTE_BIND_CMD -/

section Beside

variable (hk : regsKept s t [R.RTE_BIND_CMD.addr])
include hk

theorem get_beside_bindCmd (f : Fld) (h : f.reg.addr ≠ 0x450000A0) : t.get f = s.get f :=
  hk.get (by simpa [R.RTE_BIND_CMD] using h)

theorem linkReady_congr (p : Nat) : linkReady t p = linkReady s p := by
  have e := get_beside_bindCmd hk
  unfold linkReady
  rw [e (F.PORT_CFG_ROLE p) (by simp only [F.PORT_CFG_ROLE, R.PORT_CFG]; omega),
    e (F.PORT_LINK_STATUS_LTSSM p) (by simp only [F.PORT_LINK_STATUS_LTSSM, R.PORT_LINK_STATUS]; omega),
    e (F.OFL_STATUS_STATE p) (by simp only [F.OFL_STATUS_STATE, R.OFL_STATUS]; omega)]

theorem role_congr (p : Nat) : t.get (F.PORT_CFG_ROLE p) = s.get (F.PORT_CFG_ROLE p) :=
  get_beside_bindCmd hk _ (by simp only [F.PORT_CFG_ROLE, R.PORT_CFG]; omega)

/-- A field of an entry of the binding table. -/
theorem bindEntry_congr (n hi lo : Nat) : t.get ⟨R.RTE_BIND n, hi, lo⟩ = s.get ⟨R.RTE_BIND n, hi, lo⟩ :=
  get_beside_bindCmd hk _ (by simp only [R.RTE_BIND]; omega)

theorem bindOf_congr (v k : Nat) : bindOf t v k = bindOf s v k := by
  simp only [bindOf, State.bit, F.RTE_BIND_VALID, F.RTE_BIND_VCS, F.RTE_BIND_VPPB, bindEntry_congr hk]

theorem isFnVppb_congr (v k : Nat) : isFnVppb t v k = isFnVppb s v k := by
  have e := get_beside_bindCmd hk
  unfold isFnVppb State.bit
  rw [e (F.HEP_VCS_EN v) (by simp only [F.HEP_VCS_EN, R.HEP_VCS]; omega),
    e (F.HEP_VCS_FVPPB v) (by simp only [F.HEP_VCS_FVPPB, R.HEP_VCS]; omega)]

theorem cohProxy_congr (n hi lo : Nat) : t.get ⟨R.COH_PROXY n, hi, lo⟩ = s.get ⟨R.COH_PROXY n, hi, lo⟩ :=
  get_beside_bindCmd hk _ (by simp only [R.COH_PROXY]; omega)

theorem targetBound_congr (r : BindReq) : targetBound t r = targetBound s r := by
  simp only [targetBound, State.bit, F.RTE_BIND_VALID, F.RTE_BIND_KIND, F.RTE_BIND_LDID, F.RTE_BIND_PORT,
    F.COH_PROXY_VALID, F.COH_PROXY_PORT, F.COH_PROXY_LDID, bindEntry_congr hk, cohProxy_congr hk, role_congr hk]

variable (hr : t.rte = s.rte)
include hr

theorem freeBind_congr : freeBind t = freeBind s := by
  simp only [freeBind, State.bit, F.RTE_BIND_VALID, bindEntry_congr hk, hr]

theorem portBusy_congr (p : Nat) : portBusy t p = portBusy s p := by
  simp only [portBusy, F.RTE_BIND_PORT, F.RTE_BIND_KIND, bindEntry_congr hk, hr]

/-- The refusals of a bind do not depend on RTE_BIND_CMD. -/
theorem bindCode_congr (r : BindReq) : bindCode t r = bindCode s r := by
  have e := get_beside_bindCmd hk
  unfold bindCode State.bit
  rw [e (F.RTE_VCS_CFG_PRESENT r.vcs) (by simp only [F.RTE_VCS_CFG_PRESENT, R.RTE_VCS_CFG]; omega),
    e (F.RTE_VCS_CFG_VPPBS r.vcs) (by simp only [F.RTE_VCS_CFG_VPPBS, R.RTE_VCS_CFG]; omega),
    e (F.PORT_LINK_STATUS_PROTO r.port) (by simp only [F.PORT_LINK_STATUS_PROTO, R.PORT_LINK_STATUS]; omega),
    e (F.POOL_LD_EN r.ldid) (by simp only [F.POOL_LD_EN, R.POOL_LD]; omega),
    e (F.POOL_LD_REMOTE r.ldid) (by simp only [F.POOL_LD_REMOTE, R.POOL_LD]; omega),
    role_congr hk, bindOf_congr hk, isFnVppb_congr hk, linkReady_congr hk, targetBound_congr hk, freeBind_congr hk hr,
    portBusy_congr hk hr, hr]

end Beside

/-! ### A write of RTE_BIND_CMD -/

/-- The fields of RTE_BIND_CMD that are not read-only. -/
def bindFlds : List FRow :=
  [⟨63, 63, .wo⟩, ⟨61, 60, .rw⟩, ⟨59, 59, .rw⟩, ⟨58, 58, .rw⟩, ⟨57, 57, .rw⟩, ⟨52, 41, .rw⟩, ⟨40, 35, .rw⟩, ⟨34, 25, .rw⟩,
    ⟨24, 23, .rw⟩, ⟨22, 16, .rw⟩, ⟨15, 0, .rw⟩]

theorem regAt_bindCmd : ∃ row, regAt R.RTE_BIND_CMD.addr = some (row, R.RTE_BIND_CMD.addr) ∧ row.flds = bindFlds :=
  regAt_of_flds (by decide)

/-- The device when it has taken the write of a command of RTE_BIND_CMD. -/
def bindAsked (s : State) (mid : Nat) (v : Word) (op : Nat) : State := s.writeReg R.RTE_BIND_CMD (bindCmd mid v op)

/-- The write changes its register alone. -/
theorem bindAsked_eq (s : State) (mid : Nat) (v : Word) (op : Nat) :
    ∃ x, bindAsked s mid v op = s.wr R.RTE_BIND_CMD x := by
  obtain ⟨row, hrow, hf⟩ := regAt_bindCmd
  exact writeReg_eq_wr hrow (by simp [hf, bindFlds, fieldNo])

theorem regsKept_bindAsked (s : State) (mid : Nat) (v : Word) (op : Nat) :
    regsKept s (bindAsked s mid v op) [R.RTE_BIND_CMD.addr] := by
  obtain ⟨x, hx⟩ := bindAsked_eq s mid v op
  rw [hx]
  exact regsKept_wr (regsKept_refl s _) List.mem_cons_self

theorem onlyRegs_bindAsked (s : State) (mid : Nat) (v : Word) (op : Nat) : onlyRegs s (bindAsked s mid v op) := by
  obtain ⟨x, hx⟩ := bindAsked_eq s mid v op
  rw [hx]
  exact onlyRegs_wr (onlyRegs_refl s)

/-- A field that takes writes reads as the command presents it. -/
theorem bindAsked_get (s : State) (mid : Nat) (v : Word) (op : Nat) {f : Fld} (hreg : f.reg = R.RTE_BIND_CMD)
    (hmem : (⟨f.hi, f.lo, .rw⟩ : FRow) ∈ bindFlds) :
    (bindAsked s mid v op).get f = bitsGet (bitsPut (bitsPut v 63 63 1) 61 60 op) f.hi f.lo := by
  obtain ⟨row, hrow, hf⟩ := regAt_bindCmd
  obtain ⟨reg, hi, lo⟩ := f
  subst hreg
  have hok : fldsOk row.flds = true := by rw [hf]; decide
  have hhi : hi < 64 := by
    have h : ∀ g ∈ bindFlds, g.hi < 64 := by decide
    exact h _ hmem
  exact State.get_writeReg_presented s R.RTE_BIND_CMD _ hrow (by decide) hok (hf ▸ hmem) rfl fun i _ hi' =>
    getLsbD_mask_wrFull (wide := true) (hi'.trans_lt hhi) _ _

/-- A field below OP reads as the word of the command. -/
theorem bindAsked_get_word (s : State) (mid : Nat) (v : Word) (op : Nat) {f : Fld} (hreg : f.reg = R.RTE_BIND_CMD)
    (hmem : (⟨f.hi, f.lo, .rw⟩ : FRow) ∈ bindFlds) (hhi : f.hi < 60) :
    (bindAsked s mid v op).get f = bitsGet v f.hi f.lo := by
  rw [bindAsked_get s mid v op hreg hmem, bitsGet_bitsPut_ne _ _ _ _ _ _ (by decide) (by decide) (.inr hhi),
    bitsGet_bitsPut_ne _ _ _ _ _ _ (by decide) (by decide) (.inr (by omega))]

theorem bindAsked_op (s : State) (mid : Nat) (v : Word) {op : Nat} (hop : op < 4) :
    (bindAsked s mid v op).get F.RTE_BIND_CMD_OP = op := by
  refine (bindAsked_get s mid v op rfl (by decide)).trans ?_
  exact (bitsGet_bitsPut _ _ _ _ (by decide) (by decide)).trans (Nat.mod_eq_of_lt hop)

theorem bindReq_bindAsked (s : State) (mid : Nat) (v : Word) (op : Nat) :
    bindReq (bindAsked s mid v op) = bindReq (s.wr R.RTE_BIND_CMD v) := by
  have h : ∀ f : Fld, f.reg = R.RTE_BIND_CMD → (s.wr R.RTE_BIND_CMD v).get f = bitsGet v f.hi f.lo := by
    rintro f hf
    rw [State.get, hf, State.rd_wr_self]
  simp (disch := decide) only [bindReq, State.bit, bindAsked_get_word, h]

theorem bindCmd_start (mid : Nat) (v : Word) (op : Nat) : (bindCmd mid v op).sets F.RTE_BIND_CMD_START = true := by
  refine (wrFull_sets rfl (by decide) mid _).trans ?_
  simp only [getLsbD_bitsPut _ 61 60 _ _ (by decide) (by decide), getLsbD_bitsPut _ 63 63 _ _ (by decide) (by decide)]
  rfl

section Dispatch

variable (mid : Nat) (v : Word) (hidle : s.bit F.RTE_BIND_CMD_BUSY = false)
include hidle

theorem wrBindCmd_bind : wrBindCmd (bindCmd mid v 1) s =
    bindStart ((bindAsked s mid v 1).put F.RTE_BIND_CMD_BUSY 1) (bindReq (bindAsked s mid v 1)) true := by
  have hop : (s.writeReg R.RTE_BIND_CMD (bindCmd mid v 1)).get F.RTE_BIND_CMD_OP = 1 := bindAsked_op s mid v (by decide)
  simp only [wrBindCmd, bindCmd_start, hidle, hop, Bool.false_eq_true, and_false, if_false, Bool.not_true]
  rfl

theorem wrBindCmd_unbind : wrBindCmd (bindCmd mid v 2) s = unbindStart (bindAsked s mid v 2) := by
  have hop : (s.writeReg R.RTE_BIND_CMD (bindCmd mid v 2)).get F.RTE_BIND_CMD_OP = 2 := bindAsked_op s mid v (by decide)
  simp only [wrBindCmd, bindCmd_start, hidle, hop, Bool.false_eq_true, and_false, if_false, Bool.not_true]
  rfl

theorem wrBindCmd_setRpid : wrBindCmd (bindCmd mid v 3) s = setRpid (bindAsked s mid v 3) := by
  have hop : (s.writeReg R.RTE_BIND_CMD (bindCmd mid v 3)).get F.RTE_BIND_CMD_OP = 3 := bindAsked_op s mid v (by decide)
  simp only [wrBindCmd, bindCmd_start, hidle, hop, Bool.false_eq_true, and_false, if_false, Bool.not_true]
  rfl

end Dispatch

/-! ### Shared steps of binds and unbinds (R159, R161) -/

theorem bindOf_lt {v k : Nat} (h : bindOf s v k = some n) : n < 1024 := by
  unfold bindOf at h
  exact List.mem_range.1 (List.mem_of_find?_eq_some h)

theorem freeBind_lt (h : freeBind s = some n) : n < 1024 := by
  unfold freeBind at h
  exact List.mem_range.1 (List.mem_of_find?_eq_some h)

theorem bindDone_get (s : State) (r : Nat) : (bindDone s r).get F.RTE_BIND_CMD_RESULT = r % 16
    ∧ (bindDone s r).bit F.RTE_BIND_CMD_BUSY = false ∧ (bindDone s r).bit F.MGT_DONE_RTE_BIND = true := by
  refine ⟨?_, State.bit_of_get (n := 0) ?_, State.bit_of_get (State.get_put_self _ _ _ (by decide) (by decide))⟩
  · simp (disch := decide) only [bindDone, State.get_put_reg, State.get_put_self]
    rfl
  · simp (disch := decide) only [bindDone, State.get_put_reg, State.get_put_bits, State.get_put_self, Nat.zero_mod]

theorem bindDone_vx (s : State) (r v k : Nat) : (bindDone s r).vx v k = s.vx v k := rfl

theorem regsKept_bindDone (s : State) (r : Nat) :
    regsKept s (bindDone s r) [R.RTE_BIND_CMD.addr, R.MGT_DONE.addr] :=
  regsKept_put (regsKept_put (regsKept_put (regsKept_refl s _) (by decide)) (by decide)) (by decide)

/-- The entries of the binding table lie beside the registers that the end of a command sets. -/
theorem bindEntry_not_mem (hn : n < 1024) : (R.RTE_BIND n).addr ∉ [R.RTE_BIND_CMD.addr, R.MGT_DONE.addr] := by
  simp only [R.RTE_BIND, R.RTE_BIND_CMD, R.MGT_DONE, List.mem_cons, List.not_mem_nil, or_false]
  omega

theorem bindOut_not_mem (hn : n < 1024) : (R.RTE_BIND_OUT n).addr ∉ [R.RTE_BIND_CMD.addr, R.MGT_DONE.addr] := by
  simp only [R.RTE_BIND_OUT, R.RTE_BIND_CMD, R.MGT_DONE, List.mem_cons, List.not_mem_nil, or_false]
  omega

/-- A bound vPPB changes to an active link, and hot-plug may be signalled. -/
theorem vppbBound_cases (s : State) (n : Nat) : ∃ f : VppbX → VppbX, (∀ x, (f x).linkUp = true)
    ∧ (vppbBound s n = (s.modVx (s.get (F.RTE_BIND_VCS n)) (s.get (F.RTE_BIND_VPPB n)) f).out
        (.hotplug (s.get (F.RTE_BIND_VCS n)) (s.get (F.RTE_BIND_VPPB n)))
      ∨ vppbBound s n = s.modVx (s.get (F.RTE_BIND_VCS n)) (s.get (F.RTE_BIND_VPPB n)) f) := by
  unfold vppbBound
  dsimp only
  refine ⟨_, ?_, ite_eq_or_eq ..⟩
  exact fun _ => rfl

theorem vppbBound_regs (s : State) (n : Nat) : (vppbBound s n).regs = s.regs := by
  obtain ⟨f, -, h | h⟩ := vppbBound_cases s n <;> rw [h] <;> rfl

theorem vppbBound_binds (s : State) (n : Nat) : (vppbBound s n).rte.binds = s.rte.binds := by
  obtain ⟨f, -, h | h⟩ := vppbBound_cases s n <;> rw [h] <;> rfl

/-- The vPPB of a binding reports its link as active. -/
theorem vppbBound_linkUp (s : State) (n : Nat) :
    ((vppbBound s n).vx (s.get (F.RTE_BIND_VCS n)) (s.get (F.RTE_BIND_VPPB n))).linkUp = true := by
  obtain ⟨f, hf, h | h⟩ := vppbBound_cases s n <;> rw [h] <;>
    exact (congrArg VppbX.linkUp (modVx_vx ..)).trans (hf _)

theorem bindFinish_eq (s : State) (n : Nat) (e : Word) :
    bindFinish s n e true = bindDone (vppbBound (s.wr (R.RTE_BIND n) e) n) 0 := rfl

theorem vppbBound_rd (s : State) (n : Nat) (q : Reg) : (vppbBound s n).rd q = s.rd q :=
  State.rd_congr (vppbBound_regs s n) q

theorem bindFinish_rd (s : State) (hn : n < 1024) (e : Word) : (bindFinish s n e true).rd (R.RTE_BIND n) = e := by
  rw [bindFinish_eq, regsKept_bindDone _ _ _ (bindEntry_not_mem hn), vppbBound_rd, State.rd_wr_self]

theorem regsKept_bindFinish (s : State) (n : Nat) (e : Word) :
    regsKept s (bindFinish s n e true) [R.RTE_BIND_CMD.addr, R.MGT_DONE.addr, (R.RTE_BIND n).addr] := by
  have h : regsKept s (vppbBound (s.wr (R.RTE_BIND n) e) n)
      [R.RTE_BIND_CMD.addr, R.MGT_DONE.addr, (R.RTE_BIND n).addr] := fun q hq =>
    (vppbBound_rd ..).trans (regsKept_wr (regsKept_refl s _) (by simp) q hq)
  exact h.trans (regsKept_bindDone _ 0) (by simp)

/-! ### BIND (R159) -/

theorem bindCode_le (s : State) (r : BindReq) : bindCode s r ≤ 9 := by
  unfold bindCode
  dsimp only
  split_ifs <;> omega

theorem bindWord_vcs {r : BindReq} (h : r.vcs < 64) : bindWordGet (bindWord r 2) (F.RTE_BIND_VCS n) = r.vcs := by
  simp only [bindWordGet, bindWord, bitsGet, F.RTE_BIND_VCS, BitVec.toNat_ofNat]
  split_ifs <;> omega

theorem bindWord_vppb {r : BindReq} (h : r.vppb < 1024) : bindWordGet (bindWord r 2) (F.RTE_BIND_VPPB n) = r.vppb := by
  simp only [bindWordGet, bindWord, bitsGet, F.RTE_BIND_VPPB, BitVec.toNat_ofNat]
  split_ifs <;> omega

/-- A bind that is finished leaves its vPPB with an active link. -/
theorem bindFinish_linkUp (s : State) (n : Nat) {r : BindReq} (hv : r.vcs < 64) (hk : r.vppb < 1024) :
    ((bindFinish s n (bindWord r 2) true).vx r.vcs r.vppb).linkUp = true := by
  have h := vppbBound_linkUp (s.wr (R.RTE_BIND n) (bindWord r 2)) n
  have hvcs : (s.wr (R.RTE_BIND n) (bindWord r 2)).get (F.RTE_BIND_VCS n) = r.vcs :=
    (congrArg (bitsGet · 44 39) (State.rd_wr_self ..)).trans (bindWord_vcs (n := n) hv)
  have hvppb : (s.wr (R.RTE_BIND n) (bindWord r 2)).get (F.RTE_BIND_VPPB n) = r.vppb :=
    (congrArg (bitsGet · 38 29) (State.rd_wr_self ..)).trans (bindWord_vppb (n := n) hk)
  rw [hvcs, hvppb] at h
  rw [bindFinish_eq, bindDone_vx, h]

/-- Does a bind wait for the LD allocation of its device: one LD of a multi-logical device (R159)? -/
def bindWaits (s : State) (r : BindReq) : Prop := r.kind = 0 ∧ s.get (F.PORT_CFG_ROLE r.port) = 2 ∧ r.ldid ≠ 0xFFFF

section Start

variable {r : BindReq} {cmd : Bool}

theorem bindStart_refused (hc : bindCode s r ≠ 0) : bindStart s r true = bindDone s (bindCode s r) := by
  rw [bindStart]
  exact if_pos hc

theorem bindStart_waits (hc : bindCode s r = 0) (hn : freeBind s = some n) (hw : bindWaits s r) :
    bindStart s r cmd = s.modRte fun x => { x with binds := x.binds ++ [⟨n, bindWord r 2, cmd⟩] } := by
  unfold bindWaits at hw
  unfold bindStart
  dsimp only
  rw [if_neg (not_not.2 hc), hn]
  dsimp only
  rw [if_pos hw]

theorem bindStart_finishes (hc : bindCode s r = 0) (hn : freeBind s = some n) (hw : ¬bindWaits s r) :
    bindStart s r cmd = bindFinish s n (bindWord r 2) cmd := by
  unfold bindWaits at hw
  unfold bindStart
  dsimp only
  rw [if_neg (not_not.2 hc), hn]
  dsimp only
  rw [if_neg hw]

end Start

theorem bindReq_lt (s : State) : (bindReq s).vcs < 64 ∧ (bindReq s).vppb < 1024 := ⟨State.get_lt .., State.get_lt ..⟩

/-- With the register idle, BIND is `bindStart` in a state that differs from the present one in RTE_BIND_CMD alone. -/
theorem execBind_command (mid : Mid) (v : Word) (hidle : s.bit F.RTE_BIND_CMD_BUSY = false) :
    ∃ u, execBind mid (some v) s = .next (bindStart u (bindReq (s.wr R.RTE_BIND_CMD v)) true)
      ∧ regsKept s u [R.RTE_BIND_CMD.addr] ∧ onlyRegs s u ∧ u.bit F.RTE_BIND_CMD_BUSY = true := by
  refine ⟨(bindAsked s mid v 1).put F.RTE_BIND_CMD_BUSY 1, congrArg Host.Outcome.next ?_,
    regsKept_put (regsKept_bindAsked s mid v 1) (by decide), onlyRegs_put (onlyRegs_bindAsked s mid v 1),
    State.bit_of_get (State.get_put_self _ _ _ (by decide) (by decide))⟩
  rw [← bindReq_bindAsked s mid v 1]
  exact wrBindCmd_bind mid v hidle

theorem bind_refused_spec (mid : Mid) (v : Word) (hidle : s.bit F.RTE_BIND_CMD_BUSY = false) {r : BindReq}
    (hr : r = bindReq (s.wr R.RTE_BIND_CMD v)) (hc : bindCode s r ≠ 0) :
    runs (.bind mid (some v)) s fun t =>
      t.get F.RTE_BIND_CMD_RESULT = bindCode s r ∧ t.bit F.RTE_BIND_CMD_BUSY = false ∧ t.bit F.MGT_DONE_RTE_BIND = true
        ∧ regsKept s t [R.RTE_BIND_CMD.addr, R.MGT_DONE.addr] ∧ onlyRegs s t := by
  obtain ⟨u, hu, hk, ho, -⟩ := execBind_command mid v hidle
  subst hr
  have hcode := bindCode_congr hk ho.rte (bindReq (s.wr R.RTE_BIND_CMD v))
  rw [bindStart_refused (hcode ▸ hc), hcode] at hu
  have hle := bindCode_le s (bindReq (s.wr R.RTE_BIND_CMD v))
  obtain ⟨hres, hbusy, hdone⟩ := bindDone_get u (bindCode s (bindReq (s.wr R.RTE_BIND_CMD v)))
  refine ⟨_, hu, hres.trans (Nat.mod_eq_of_lt (by omega)), hbusy, hdone, ?_, onlyRegs_put (onlyRegs_put (onlyRegs_put ho))⟩
  exact regsKept_put (regsKept_put (regsKept_put (hk.mono (by simp)) (by decide)) (by decide)) (by decide)

theorem bind_accepted_spec (mid : Mid) (v : Word) (hidle : s.bit F.RTE_BIND_CMD_BUSY = false) {r : BindReq}
    (hr : r = bindReq (s.wr R.RTE_BIND_CMD v)) (hc : bindCode s r = 0) (hn : freeBind s = some n) :
    (bindWaits s r → runs (.bind mid (some v)) s fun t =>
      t.rte = { s.rte with binds := s.rte.binds ++ [⟨n, bindWord r 2, true⟩] } ∧ t.bit F.RTE_BIND_CMD_BUSY = true
        ∧ regsKept s t [R.RTE_BIND_CMD.addr])
    ∧ (¬bindWaits s r → runs (.bind mid (some v)) s fun t =>
      t.rd (R.RTE_BIND n) = bindWord r 2 ∧ t.get F.RTE_BIND_CMD_RESULT = 0 ∧ t.bit F.RTE_BIND_CMD_BUSY = false
        ∧ t.bit F.MGT_DONE_RTE_BIND = true ∧ (t.vx r.vcs r.vppb).linkUp = true
        ∧ regsKept s t [R.RTE_BIND_CMD.addr, R.MGT_DONE.addr, (R.RTE_BIND n).addr]) := by
  obtain ⟨u, hu, hk, ho, hbusy⟩ := execBind_command mid v hidle
  rw [← hr] at hu
  have hcode : bindCode u r = 0 := (bindCode_congr hk ho.rte r).trans hc
  have hfree : freeBind u = some n := (freeBind_congr hk ho.rte).trans hn
  have hwaits : bindWaits u r ↔ bindWaits s r := by rw [bindWaits, bindWaits, role_congr hk]
  obtain ⟨hvcs, hvppb⟩ := hr ▸ bindReq_lt (s.wr R.RTE_BIND_CMD v)
  refine ⟨fun hw => ?_, fun hw => ?_⟩
  · rw [bindStart_waits hcode hfree (hwaits.2 hw)] at hu
    refine ⟨_, hu, ?_, hbusy, hk⟩
    rw [modRte_rte, ho.rte]
  · rw [bindStart_finishes hcode hfree (mt hwaits.1 hw)] at hu
    obtain ⟨hres, hidle', hdone⟩ := bindDone_get (vppbBound (u.wr (R.RTE_BIND n) (bindWord r 2)) n) 0
    refine ⟨_, hu, bindFinish_rd u (freeBind_lt hn) _, hres, hidle', hdone, bindFinish_linkUp u n hvcs hvppb, ?_⟩
    exact regsKept.trans (hk.mono (by simp)) (regsKept_bindFinish u n _) (List.Subset.refl _)

/-! ### SET_RPID (R160) -/

/-- A binding held in state binding gets its RPID and is bound. -/
def rpidSet (s : State) (n : Nat) : State :=
  (s.put (F.RTE_BIND_RPID n) (s.get F.RTE_BIND_CMD_RPID)).put (F.RTE_BIND_STATE n) 2

theorem rpidSet_get (s : State) (n : Nat) : (rpidSet s n).get (F.RTE_BIND_RPID n) = s.get F.RTE_BIND_CMD_RPID
    ∧ (rpidSet s n).get (F.RTE_BIND_STATE n) = 2 := by
  have hlt : s.get F.RTE_BIND_CMD_RPID < 2 ^ 12 := State.get_lt ..
  constructor
  · rw [rpidSet, State.get_put_bits _ (F.RTE_BIND_STATE n) (F.RTE_BIND_RPID n) _ rfl (by simp [F.RTE_BIND_STATE])
        (by simp [F.RTE_BIND_STATE]) (by simp [F.RTE_BIND_STATE, F.RTE_BIND_RPID]),
      State.get_put_self _ _ _ (by simp [F.RTE_BIND_RPID]) (by simp [F.RTE_BIND_RPID])]
    exact Nat.mod_eq_of_lt hlt
  · exact State.get_put_self _ _ _ (by simp [F.RTE_BIND_STATE]) (by simp [F.RTE_BIND_STATE])

theorem setRpid_held (hb : bindOf s (s.get F.RTE_BIND_CMD_VCS) (s.get F.RTE_BIND_CMD_VPPB) = some n)
    (h1 : s.get (F.RTE_BIND_STATE n) = 1) (hl : linkReady s (s.get (F.RTE_BIND_PORT n)) = true)
    (hp : portBusy s (s.get (F.RTE_BIND_PORT n)) = false) : setRpid s = bindDone (vppbBound (rpidSet s n) n) 0 := by
  unfold setRpid
  rw [hb]
  dsimp only
  rw [if_neg (not_not.2 h1), if_neg (by simp [hl]), if_neg (by simp [hp]), rpidSet]

theorem setRpid_spec (mid : Mid) (v : Word) (hidle : s.bit F.RTE_BIND_CMD_BUSY = false)
    (hb : bindOf s (bitsGet v 40 35) (bitsGet v 34 25) = some n) (h1 : s.get (F.RTE_BIND_STATE n) = 1)
    (hl : linkReady s (s.get (F.RTE_BIND_PORT n)) = true) (hp : portBusy s (s.get (F.RTE_BIND_PORT n)) = false) :
    runs (.setRpid mid v) s fun t =>
      t.get (F.RTE_BIND_RPID n) = bitsGet v 52 41 ∧ t.get (F.RTE_BIND_STATE n) = 2 ∧ t.get F.RTE_BIND_CMD_RESULT = 0
        ∧ regsKept s t [R.RTE_BIND_CMD.addr, R.MGT_DONE.addr, (R.RTE_BIND n).addr] := by
  have hk := regsKept_bindAsked s mid v 3
  have hrte := (onlyRegs_bindAsked s mid v 3).rte
  have hport : (bindAsked s mid v 3).get (F.RTE_BIND_PORT n) = s.get (F.RTE_BIND_PORT n) := bindEntry_congr hk ..
  have heq : setRpid (bindAsked s mid v 3) = bindDone (vppbBound (rpidSet (bindAsked s mid v 3) n) n) 0 := by
    refine setRpid_held ?_ ((bindEntry_congr hk ..).trans h1) ?_ ?_
    · simp (disch := decide) only [bindAsked_get_word, bindOf_congr hk]
      exact hb
    · rwa [hport, linkReady_congr hk]
    · rwa [hport, portBusy_congr hk hrte]
  refine ⟨_, congrArg Host.Outcome.next ((wrBindCmd_setRpid mid v hidle).trans heq), ?_⟩
  have hd := regsKept_bindDone (vppbBound (rpidSet (bindAsked s mid v 3) n) n) 0
  have hentry : ∀ hi lo, (bindDone (vppbBound (rpidSet (bindAsked s mid v 3) n) n) 0).get ⟨R.RTE_BIND n, hi, lo⟩
      = (rpidSet (bindAsked s mid v 3) n).get ⟨R.RTE_BIND n, hi, lo⟩ := fun hi lo =>
    (hd.get (bindEntry_not_mem (bindOf_lt hb))).trans (State.get_congr (vppbBound_regs ..) _)
  obtain ⟨hrpid, hstate⟩ := rpidSet_get (bindAsked s mid v 3) n
  refine ⟨(hentry ..).trans (hrpid.trans (bindAsked_get_word s mid v 3 rfl (by decide) (by decide))),
    (hentry ..).trans hstate, (bindDone_get _ 0).1, ?_⟩
  refine regsKept.trans (fun q hq => (vppbBound_rd ..).trans ?_) hd (by simp)
  exact regsKept_put (regsKept_put (hk.mono (by simp)) (by simp [F.RTE_BIND_RPID]))
    (by simp [F.RTE_BIND_STATE]) q hq

/-! ### Initial bindings (R42, R157) -/

/-- The device when initial binding b has been taken. -/
def initTaken (s : State) (b : InitBind) : State := s.modRte fun x => { x with initial := x.initial.erase b }

theorem bindHeld_free {r : BindReq} (hfree : freeBind s = some n) (hnone : bindOf s r.vcs r.vppb = none) :
    bindHeld s r = s.wr (R.RTE_BIND n) (bindWord r 1) := by
  unfold bindHeld
  rw [hfree]
  dsimp only
  rw [hnone]
  exact if_neg Bool.false_ne_true

theorem freeBind_initTaken (s : State) (b : InitBind) : freeBind (initTaken s b) = freeBind s := by
  simp only [freeBind, initTaken, modRte_bit, modRte_rte]

theorem bindOf_initTaken (s : State) (b : InitBind) (v k : Nat) : bindOf (initTaken s b) v k = bindOf s v k := by
  simp only [bindOf, initTaken, modRte_bit, modRte_get]

theorem execBind_initial {mid : Mid} {b : InitBind} (hb : initNext s = some b)
    (hofl : s.get (F.PORT_CFG_ROLE b.port) = 3) :
    execBind mid none s = .next (bindHeld (initTaken s b) (initReq b)) := by
  unfold execBind
  dsimp only
  rw [hb]
  exact congrArg Host.Outcome.next (if_pos hofl)

/-! ### LD_ALLOCATION_CONFIRM and LD_ALLOCATION_TIMEOUT (R158, R159) -/

theorem ldAllocation_refused {n : Fin 1024} {b : BindOp} (hb : bindWaiting s n = some b) (hcmd : b.cmd = true) {c : Instr}
    (hc : c = .ldAllocationConfirm n false ∨ c = .ldAllocationTimeout n) :
    exec c s = .next (bindDone (bindDrop s n) 8) := by
  rcases hc with rfl | rfl
  · change execLdAllocationConfirm n false s = _
    simp only [execLdAllocationConfirm, hb, hcmd, Bool.not_false, if_true, bindEnd]
  · change execLdAllocationTimeout n s = _
    simp only [execLdAllocationTimeout, hb, hcmd, bindEnd, if_true]

theorem execLdAllocationConfirm_ready {n : Fin 1024} {b : BindOp} (hb : bindWaiting s n = some b) (hcmd : b.cmd = true)
    (hl : linkReady s (bindWordGet b.entry (F.RTE_BIND_PORT 0)) = true) :
    execLdAllocationConfirm n true s = .next (bindFinish (bindDrop s n) n b.entry true) := by
  have hl' : linkReady (bindDrop s n) (bindWordGet b.entry (F.RTE_BIND_PORT 0)) = true := hl
  simp only [execLdAllocationConfirm, hb, hcmd, hl', Bool.not_true, Bool.false_eq_true, if_false]

theorem ldAllocation_spec {n : Fin 1024} {b : BindOp} (hb : bindWaiting s n = some b) (hcmd : b.cmd = true) :
    (linkReady s (bindWordGet b.entry (F.RTE_BIND_PORT 0)) = true → runs (.ldAllocationConfirm n true) s fun t =>
      t.rd (R.RTE_BIND n) = b.entry ∧ t.get F.RTE_BIND_CMD_RESULT = 0 ∧ t.bit F.RTE_BIND_CMD_BUSY = false
        ∧ t.rte.binds = s.rte.binds.filter fun x => x.n != n.val)
    ∧ ∀ c : Instr, c = .ldAllocationConfirm n false ∨ c = .ldAllocationTimeout n →
      runs c s fun t =>
        t.get F.RTE_BIND_CMD_RESULT = 8 ∧ t.bit F.RTE_BIND_CMD_BUSY = false
          ∧ t.rte = { s.rte with binds := s.rte.binds.filter fun x => x.n != n.val }
          ∧ { t with regs := s.regs, rte := s.rte } = s := by
  refine ⟨fun hl => ?_, fun c hc => ?_⟩
  · obtain ⟨hres, hbusy, -⟩ := bindDone_get (vppbBound ((bindDrop s n).wr (R.RTE_BIND n) b.entry) n) 0
    exact ⟨_, execLdAllocationConfirm_ready hb hcmd hl, bindFinish_rd _ n.isLt _, hres, hbusy, vppbBound_binds ..⟩
  · obtain ⟨hres, hbusy, -⟩ := bindDone_get (bindDrop s n) 8
    exact ⟨_, ldAllocation_refused hb hcmd hc, hres, hbusy, rfl, rfl⟩

/-! ### UNBIND (R161) -/

/-- The device notes that a binding is cut off. -/
def cutNoted (s : State) (n : Nat) (surprise : Bool) : State :=
  s.modRte fun x => { x with
    cut := x.cut ++ [n], surprise := if surprise then x.surprise ++ [n] else x.surprise }

/-- A cut is noted, its vPPB changes, and hot-plug may be signalled. -/
theorem unbindCut_cases (s : State) (n : Nat) (surprise : Bool) : ∃ (v k : Nat) (f : VppbX → VppbX),
    unbindCut s n surprise = ((cutNoted s n surprise).modVx v k f).out (.hotplug v k)
      ∨ unbindCut s n surprise = (cutNoted s n surprise).modVx v k f := by
  unfold unbindCut
  exact ⟨_, _, _, ite_eq_or_eq ..⟩

theorem unbindCut_regs (s : State) (n : Nat) (surprise : Bool) : (unbindCut s n surprise).regs = s.regs := by
  obtain ⟨v, k, f, h | h⟩ := unbindCut_cases s n surprise <;> rw [h] <;> rfl

theorem unbindCut_rte (s : State) (n : Nat) (surprise : Bool) : (unbindCut s n surprise).rte.cut = s.rte.cut ++ [n]
    ∧ (unbindCut s n surprise).rte.unbinds = s.rte.unbinds
    ∧ (unbindCut s n surprise).rte.surprise = if surprise then s.rte.surprise ++ [n] else s.rte.surprise := by
  obtain ⟨v, k, f, h | h⟩ := unbindCut_cases s n surprise <;> rw [h] <;> exact ⟨rfl, rfl, rfl⟩

/-- The entry of a binding goes into state unbinding, and the unbind is in progress. -/
def unbinding (s : State) (n : Nat) : State :=
  ((s.put (F.RTE_BIND_STATE n) 3).put F.RTE_BIND_CMD_BUSY 1).modRte fun x =>
    { x with unbinds := x.unbinds ++ [⟨n, !s.bit F.RTE_BIND_CMD_SURPRISE, 0⟩] }

/-- An unbind of a bound vPPB begins: cut off at once, or asked of the host. -/
theorem unbindStart_bound (hb : bindOf s (s.get F.RTE_BIND_CMD_VCS) (s.get F.RTE_BIND_CMD_VPPB) = some n)
    (h2 : s.get (F.RTE_BIND_STATE n) = 2) (hp : portBusy s (s.get (F.RTE_BIND_PORT n)) = false)
    (hu : (s.rte.unbinds.any fun u => u.n == n) = false) :
    ∃ v k, unbindStart s = if s.bit F.RTE_BIND_CMD_SURPRISE then unbindCut (unbinding s n) n true
      else (unbinding s n).modVx v k fun x => { x with attention := true } := by
  unfold unbindStart
  rw [hb]
  dsimp only
  rw [if_neg (by simp [hp, hu]), if_neg (by simp [h2])]
  exact ⟨_, _, rfl⟩

/-- What an unbind that begins leaves in the registers and the list of unbinds. -/
theorem unbindStart_spec (hb : bindOf s (s.get F.RTE_BIND_CMD_VCS) (s.get F.RTE_BIND_CMD_VPPB) = some n)
    (h2 : s.get (F.RTE_BIND_STATE n) = 2) (hp : portBusy s (s.get (F.RTE_BIND_PORT n)) = false)
    (hu : (s.rte.unbinds.any fun u => u.n == n) = false) :
    (unbindStart s).regs = (unbinding s n).regs
      ∧ (unbindStart s).rte.unbinds = s.rte.unbinds ++ [⟨n, !s.bit F.RTE_BIND_CMD_SURPRISE, 0⟩]
      ∧ (unbindStart s).rte.cut = s.rte.cut ++ (if s.bit F.RTE_BIND_CMD_SURPRISE then [n] else []) := by
  obtain ⟨v, k, heq⟩ := unbindStart_bound hb h2 hp hu
  rw [heq]
  split
  · obtain ⟨hcut, hunb, -⟩ := unbindCut_rte (unbinding s n) n true
    exact ⟨unbindCut_regs .., hunb, hcut⟩
  · exact ⟨rfl, rfl, (List.append_nil _).symm⟩

theorem unbinding_get (s : State) (n : Nat) : (unbinding s n).get (F.RTE_BIND_STATE n) = 3
    ∧ (unbinding s n).bit F.RTE_BIND_CMD_BUSY = true := by
  have hne : (F.RTE_BIND_STATE n).reg.addr ≠ F.RTE_BIND_CMD_BUSY.reg.addr := by
    simp only [F.RTE_BIND_STATE, F.RTE_BIND_CMD_BUSY, R.RTE_BIND, R.RTE_BIND_CMD]
    omega
  refine ⟨?_, ?_⟩
  · rw [unbinding, modRte_get, State.get_put_reg _ _ _ _ hne,
      State.get_put_self _ _ _ (by simp [F.RTE_BIND_STATE]) (by simp [F.RTE_BIND_STATE])]
    rfl
  · rw [unbinding, modRte_bit]
    exact State.bit_of_get (State.get_put_self _ _ _ (by decide) (by decide))

theorem regsKept_unbinding (s : State) (n : Nat) :
    regsKept s (unbinding s n) [R.RTE_BIND_CMD.addr, (R.RTE_BIND n).addr] := fun q hq =>
  (modRte_rd ..).trans (regsKept_put (regsKept_put (regsKept_refl s _) (by simp [F.RTE_BIND_STATE]))
    (by simp [F.RTE_BIND_CMD_BUSY]) q hq)

theorem unbind_spec (mid : Mid) (v : Word) (hidle : s.bit F.RTE_BIND_CMD_BUSY = false)
    (hb : bindOf s (bitsGet v 40 35) (bitsGet v 34 25) = some n) (h2 : s.get (F.RTE_BIND_STATE n) = 2)
    (hp : portBusy s (s.get (F.RTE_BIND_PORT n)) = false) (hu : (s.rte.unbinds.any fun u => u.n == n) = false) :
    runs (.unbind mid v) s fun t =>
      t.get (F.RTE_BIND_STATE n) = 3 ∧ t.bit F.RTE_BIND_CMD_BUSY = true
        ∧ t.rte.unbinds = s.rte.unbinds ++ [⟨n, !v.getLsbD 59, 0⟩]
        ∧ t.rte.cut = s.rte.cut ++ (if v.getLsbD 59 then [n] else [])
        ∧ regsKept s t [R.RTE_BIND_CMD.addr, (R.RTE_BIND n).addr] := by
  have hk := regsKept_bindAsked s mid v 2
  have hrte := (onlyRegs_bindAsked s mid v 2).rte
  have hsur : (bindAsked s mid v 2).bit F.RTE_BIND_CMD_SURPRISE = v.getLsbD 59 := by
    rw [State.bit, bindAsked_get_word s mid v 2 rfl (by decide) (by decide)]
    exact bitsGet_bit v 59
  obtain ⟨hregs, hunb, hcut⟩ := unbindStart_spec (s := bindAsked s mid v 2) (n := n)
    (by
      simp (disch := decide) only [bindAsked_get_word, bindOf_congr hk]
      exact hb)
    ((bindEntry_congr hk ..).trans h2)
    (by
      rw [portBusy_congr hk hrte, show (bindAsked s mid v 2).get (F.RTE_BIND_PORT n) = _ from bindEntry_congr hk ..]
      exact hp)
    (by rwa [hrte])
  obtain ⟨hstate, hbusy⟩ := unbinding_get (bindAsked s mid v 2) n
  rw [hrte, hsur] at hunb hcut
  refine ⟨_, congrArg Host.Outcome.next (wrBindCmd_unbind mid v hidle), (State.get_congr hregs _).trans hstate, ?_, hunb,
    hcut, fun q hq => ?_⟩
  · rw [State.bit, State.get_congr hregs]
    exact hbusy
  · rw [State.rd_congr hregs, regsKept_unbinding _ _ q hq, hk.mono (by simp) q hq]

theorem managedUnbindTimeout_spec {n : Fin 1024} (hm : (s.rte.unbinds.any fun u => u.n == n && u.managed) = true)
    (hc : s.rte.cut.contains n.val = false) :
    runs (.managedUnbindTimeout n) s fun t =>
      t.rte.cut = s.rte.cut ++ [n.val] ∧ t.rte.surprise = s.rte.surprise ++ [n.val] ∧ t.regs = s.regs
        ∧ t.rte.unbinds = s.rte.unbinds.map fun u => if u.n = n.val then { u with result := 0xB } else u := by
  refine ⟨_, congrArg Host.Outcome.next (if_pos (by rw [hm, hc]; rfl)), ?_⟩
  obtain ⟨hcut, hunb, hsur⟩ := unbindCut_rte (s.modRte fun x => { x with
    unbinds := x.unbinds.map fun u => if u.n = n.val then { u with result := 0xB } else u }) n true
  exact ⟨hcut, hsur, unbindCut_regs .., hunb⟩

/-! ### UNBIND_DRAIN_END and UNBIND_DRAIN_TIMEOUT (R161) -/

/-- The entry of an unbind that ends, and its count, are cleared. -/
def bindCleared (s : State) (n : Nat) : State := (s.wr (R.RTE_BIND n) 0#64).put (F.RTE_BIND_OUT_OUTSTANDING n) 0

theorem unbindFree_eq (s : State) (n r : Nat) : ∃ x, unbindFree s n r = bindDone x r ∧ x.regs = (bindCleared s n).regs
    ∧ x.rte.unbinds = s.rte.unbinds.filter fun u => u.n != n := ⟨_, rfl, rfl, rfl⟩

theorem bindCleared_rd (s : State) (n : Nat) : (bindCleared s n).rd (R.RTE_BIND n) = 0#64 := by
  rw [bindCleared, State.rd_put_ne, State.rd_wr_self]
  simp only [R.RTE_BIND, F.RTE_BIND_OUT_OUTSTANDING, R.RTE_BIND_OUT]
  omega

theorem regsKept_bindCleared (s : State) (n : Nat) :
    regsKept s (bindCleared s n) [(R.RTE_BIND n).addr, (R.RTE_BIND_OUT n).addr] :=
  regsKept_put (regsKept_wr (regsKept_refl s _) (by simp)) (by simp [F.RTE_BIND_OUT_OUTSTANDING])

/-- An unbind that ends frees its entry and shows its result. -/
theorem unbindFree_spec (s : State) (hn : n < 1024) (r : Nat) :
    (unbindFree s n r).rd (R.RTE_BIND n) = 0#64 ∧ (unbindFree s n r).get F.RTE_BIND_CMD_RESULT = r % 16
      ∧ (unbindFree s n r).bit F.RTE_BIND_CMD_BUSY = false
      ∧ (unbindFree s n r).get (F.RTE_BIND_OUT_OUTSTANDING n) = 0 := by
  obtain ⟨x, hx, hregs, -⟩ := unbindFree_eq s n r
  obtain ⟨hres, hbusy, -⟩ := bindDone_get x r
  have hd := regsKept_bindDone x r
  rw [hx]
  refine ⟨?_, hres, hbusy, ?_⟩
  · rw [hd _ (bindEntry_not_mem hn), State.rd_congr hregs, bindCleared_rd]
  · rw [hd.get (bindOut_not_mem hn), State.get_congr hregs, bindCleared,
      State.get_put_self _ _ _ (by simp [F.RTE_BIND_OUT_OUTSTANDING]) (by simp [F.RTE_BIND_OUT_OUTSTANDING]), Nat.zero_mod]

/-- An unbind that ends changes the registers of its entry and those of the command. -/
theorem unbindFree_keeps (s : State) (n r : Nat) :
    (unbindFree s n r).rte.unbinds = s.rte.unbinds.filter (fun x => x.n != n)
      ∧ regsKept s (unbindFree s n r)
        [R.RTE_BIND_CMD.addr, R.MGT_DONE.addr, (R.RTE_BIND n).addr, (R.RTE_BIND_OUT n).addr] := by
  obtain ⟨x, hx, hregs, hunb⟩ := unbindFree_eq s n r
  rw [hx]
  refine ⟨hunb, regsKept.trans (fun q hq => ?_) (regsKept_bindDone x r) (by simp)⟩
  rw [State.rd_congr hregs, (regsKept_bindCleared s n).mono (by simp) q hq]

theorem unbindDrain_drained {n : Fin 1024} {u : UnbindOp} (hu : unbindOf s n = some u)
    (h0 : s.get (F.RTE_BIND_OUT_OUTSTANDING n) = 0) {c : Instr} (hc : c = .unbindDrainEnd n ∨ c = .unbindDrainTimeout n) :
    exec c s = .next (unbindFree s n u.result) := by
  rcases hc with rfl | rfl
  · change execUnbindDrainEnd n s = _
    simp only [execUnbindDrainEnd, hu, h0, if_true]
  · change execUnbindDrainTimeout n s = _
    simp only [execUnbindDrainTimeout, hu, h0, if_true]

theorem execUnbindDrainTimeout_outstanding {n : Fin 1024} {u : UnbindOp} (hu : unbindOf s n = some u)
    (h0 : s.get (F.RTE_BIND_OUT_OUTSTANDING n) ≠ 0) : execUnbindDrainTimeout n s =
      .next (unbindFree ((s.rte.sent.filter fun x => x.bind == some n.val).foldl drainAnswer s) n 0xA) := by
  simp only [execUnbindDrainTimeout, hu, h0, if_false]

/-! ### O25 -/

/-- Settles O25: the binds by the branches of `bindStart`, the unbinds by `unbindStart` and `unbindFree`. -/
theorem bindsAndUnbinds : Obligations.BindsAndUnbinds := by
  refine ⟨fun mid s => ⟨fun hidle v r hr => ⟨bind_refused_spec mid v hidle hr,
      fun n hc hn => bind_accepted_spec mid v hidle hr hc hn, fun n hb h1 hl hp => setRpid_spec mid v hidle hb h1 hl hp⟩,
      fun b n hb hofl hfree hnone => ?initial, fun n b hb hcmd => ldAllocation_spec hb hcmd⟩,
    fun mid s => ⟨fun v n hidle hb h2 hp hu => unbind_spec mid v hidle hb h2 hp hu,
      fun n => ⟨managedUnbindTimeout_spec, fun u hu => ⟨fun c hc h0 => ?drained, fun h0 => ?outstanding⟩⟩⟩⟩
  case initial =>
    have hheld := bindHeld_free (r := initReq b) ((freeBind_initTaken s b).trans hfree)
      ((bindOf_initTaken s b ..).trans hnone)
    refine ⟨_, execBind_initial (mid := mid) hb hofl, ?_⟩
    rw [hheld]
    exact ⟨State.rd_wr_self .., rfl, regsKept_wr (fun q _ => modRte_rd ..) List.mem_cons_self⟩
  case drained =>
    obtain ⟨hrd, hres, hbusy, -⟩ := unbindFree_spec s n.isLt u.result
    obtain ⟨hunb, hk⟩ := unbindFree_keeps s n u.result
    exact ⟨_, unbindDrain_drained hu h0 hc, hrd, hres, hbusy, hunb, hk⟩
  case outstanding => exact ⟨_, execUnbindDrainTimeout_outstanding hu h0, unbindFree_spec _ n.isLt 0xA⟩

end Sys2Proof.Machine
end

section
/-! Links of PCIe and CXL ports (R63, R70 to R75): what each change of a link's state shows, for O10 and O12. -/

namespace Sys2Proof.Machine

variable {s t : State} {p q n : Nat}

/-! ### Fields of one register, by their bits -/

theorem State.get_put_same (s : State) (r : Reg) {hi lo : Nat} (n : Nat) (h : hi < 64) (hl : lo ≤ hi) :
    (s.put ⟨r, hi, lo⟩ n).get ⟨r, hi, lo⟩ = n % 2 ^ (hi + 1 - lo) := State.get_put_self s _ n h hl

theorem State.get_put_beside (s : State) (r : Reg) {hi lo hi' lo' : Nat} (n : Nat) (h : hi < 64) (hl : lo ≤ hi)
    (hd : hi < lo' ∨ hi' < lo) : (s.put ⟨r, hi, lo⟩ n).get ⟨r, hi', lo'⟩ = s.get ⟨r, hi', lo'⟩ :=
  State.get_put_bits s _ _ n rfl h hl hd

/-! ### The registers of ports stand apart -/

theorem portCfg_ne_linkStatus (p q : Nat) : (R.PORT_CFG p).addr ≠ (R.PORT_LINK_STATUS q).addr := by
  simp only [R.PORT_CFG, R.PORT_LINK_STATUS]
  omega

theorem laneFail_ne_linkStatus (p q : Nat) : (R.PORT_LANE_FAIL p).addr ≠ (R.PORT_LINK_STATUS q).addr := by
  simp only [R.PORT_LANE_FAIL, R.PORT_LINK_STATUS]
  omega

theorem linkStatus_ne_of_ne (h : p ≠ q) : (R.PORT_LINK_STATUS p).addr ≠ (R.PORT_LINK_STATUS q).addr := by
  simp only [R.PORT_LINK_STATUS]
  omega

theorem regsKept.get_ne {a : Nat} (h : regsKept s t [a]) {f : Fld} (hf : f.reg.addr ≠ a) : t.get f = s.get f :=
  h.get (List.mem_singleton.not.2 hf)

theorem regsKept.role {a : Nat} (h : regsKept s t [a]) (ha : (R.PORT_CFG p).addr ≠ a) : role t p = role s p :=
  h.get_ne ha

theorem role_of_isPcie (h : isPcie s p = true) : role s p = 1 ∨ role s p = 2 := by
  simpa [isPcie] using h

theorem isPcie_congr (h : role t p = role s p) : isPcie t p = isPcie s p := by
  simp only [isPcie, h]

theorem modPx_px_ne (s : State) (g : PortX → PortX) (h : q ≠ p) : (s.modPx p g).px q = s.px q := tget_tput_ne _ _ _ h

/-- A change of what a port waits for leaves every link reported up or down as it was. -/
theorem setWait_up (s : State) (p : Nat) (w : PortWait) (q : Nat) : ((setWait s p w).px q).up = (s.px q).up := by
  by_cases h : q = p
  · subst h
    rw [setWait, modPx_px]
  · rw [setWait, modPx_px_ne s _ h]

@[simp] theorem setWait_wait (s : State) (p : Nat) (w : PortWait) : ((setWait s p w).px p).wait = w := by
  rw [setWait, modPx_px]

/-! ### Down (R75) -/

/-- PORT_LINK_STATUS of a link that is down, in LTSSM state st. -/
def linkShownDown (s : State) (p st : Nat) : State :=
  (((((((s.put (F.PORT_LINK_STATUS_LTSSM p) st).put (F.PORT_LINK_STATUS_RATE p) 0).put (F.PORT_LINK_STATUS_LANES p) 0).put
    (F.PORT_LINK_STATUS_FULL_LANES p) 0).put (F.PORT_LINK_STATUS_FLIT p) 0).put (F.PORT_LINK_STATUS_PROTO p) 0).put
    (F.PORT_LINK_STATUS_L11 p) 0).put (F.PORT_LINK_STATUS_REVERSED p) 0

theorem linkShownDown_get (s : State) (p st : Nat) :
    ltssm (linkShownDown s p st) p = st % 16 ∧ (linkShownDown s p st).get (F.PORT_LINK_STATUS_RATE p) = 0
      ∧ (linkShownDown s p st).get (F.PORT_LINK_STATUS_LANES p) = 0 := by
  simp (disch := decide) [linkShownDown, ltssm, F.PORT_LINK_STATUS_LTSSM, F.PORT_LINK_STATUS_RATE, F.PORT_LINK_STATUS_LANES,
    F.PORT_LINK_STATUS_FULL_LANES, F.PORT_LINK_STATUS_FLIT, F.PORT_LINK_STATUS_PROTO, F.PORT_LINK_STATUS_L11,
    F.PORT_LINK_STATUS_REVERSED, State.get_put_beside, State.get_put_same]

/-- A write of a field of PORT_LINK_STATUS keeps the other registers. -/
theorem regsKept_put_linkStatus (h : regsKept s t [(R.PORT_LINK_STATUS p).addr]) {f : Fld}
    (hf : f.reg = R.PORT_LINK_STATUS p) (n : Nat) : regsKept s (t.put f n) [(R.PORT_LINK_STATUS p).addr] :=
  regsKept_put h (List.mem_singleton.2 (congrArg Reg.addr hf))

theorem regsKept_linkShownDown (s : State) (p st : Nat) :
    regsKept s (linkShownDown s p st) [(R.PORT_LINK_STATUS p).addr] := by
  unfold linkShownDown
  iterate 8 refine regsKept_put_linkStatus ?_ rfl _
  exact regsKept_refl s _

/-- What a link that goes down shows, and the report where it was up. -/
theorem pcieDown_eq (s : State) (p st : Nat) (w : PortWait) : pcieDown s p st w =
    if ((setWait (linkShownDown s p st) p w).px p).up then
      (reportDown (setWait (linkShownDown s p st) p w) p).raise (320 + 8 * p)
    else setWait (linkShownDown s p st) p w := rfl

/-- A link that was not up goes down without a report and without an event. -/
theorem pcieDown_of_not_up (hup : (s.px p).up = false) (st : Nat) (w : PortWait) :
    pcieDown s p st w = setWait (linkShownDown s p st) p w := by
  have h : ((setWait (linkShownDown s p st) p w).px p).up = false := (setWait_up ..).trans hup
  rw [pcieDown_eq, h, if_neg Bool.false_ne_true]

/-- Port p shows a link that is down, in LTSSM state st, and waits for w. -/
def standsDown (t : State) (p st : Nat) (w : PortWait) : Prop :=
  ltssm t p = st ∧ t.get (F.PORT_LINK_STATUS_RATE p) = 0 ∧ t.get (F.PORT_LINK_STATUS_LANES p) = 0 ∧ (t.px p).wait = w

theorem pcieDown_spec (hup : (s.px p).up = false) {st : Nat} (hst : st < 16) (w : PortWait) :
    standsDown (pcieDown s p st w) p st w ∧ regsKept s (pcieDown s p st w) [(R.PORT_LINK_STATUS p).addr] := by
  obtain ⟨hl, hr, hn⟩ := linkShownDown_get s p st
  rw [pcieDown_of_not_up hup]
  refine ⟨⟨?_, ?_, ?_, setWait_wait ..⟩, fun q hq => ?_⟩
  · rw [ltssm, setWait_get]
    exact hl.trans (Nat.mod_eq_of_lt hst)
  · rwa [setWait_get]
  · rwa [setWait_get]
  · rw [setWait_rd]
    exact regsKept_linkShownDown s p st q hq

theorem linkDown_of_isPcie (hp : isPcie s p = true) (st : Nat) (w : PortWait) :
    linkDown s p st w = pcieDown s p st w := by
  have hr := role_of_isPcie hp
  rw [linkDown, if_neg (by omega), if_pos hp]

theorem linkDown_of_unused (h3 : role s p ≠ 3) (hp : ¬ isPcie s p = true) (st : Nat) (w : PortWait) :
    linkDown s p st w = s := by
  rw [linkDown, if_neg h3, if_neg hp]

/-! ### Recovery (R73) -/

/-- A link at L0 goes to Recovery. -/
theorem pcieRecovery_spec (hp : isPcie s p = true) (h : ltssm s p = 3) :
    ltssm (pcieRecovery s p) p = 4 ∧ regsKept s (pcieRecovery s p) [(R.PORT_LINK_STATUS p).addr]
      ∧ (pcieRecovery s p).brk = s.brk := by
  have heq : pcieRecovery s p = (s.put (F.PORT_LINK_STATUS_LTSSM p) 4).put (F.PORT_LINK_STATUS_L11 p) 0 := by
    simp [pcieRecovery, hp, h]
  rw [heq]
  refine ⟨?_, regsKept_put_linkStatus (regsKept_put_linkStatus (regsKept_refl s _) rfl _) rfl _, rfl⟩
  simp (disch := decide) only [ltssm, F.PORT_LINK_STATUS_LTSSM, F.PORT_LINK_STATUS_L11, State.get_put_beside,
    State.get_put_same]
  rfl

end Sys2Proof.Machine
end

section
/-! Reference clocks, L0p, L1 and failed lanes (R62, R70 to R73), for O10. -/

namespace Sys2Proof.Machine

variable {s t : State} {p q n : Nat}

/-! ### Loss and return of a reference clock (R62) -/

/-- Port p stands in Detect and waits for its reference clock. -/
def awaitsClock (s : State) (p : Nat) : Prop := ltssm s p = 0 ∧ (s.px p).wait = .refclk

/-- A port that carries no OFL link, and whose link is not up. -/
def unlinked (s : State) (p : Nat) : Prop := role s p ≠ 3 ∧ (s.px p).up = false

/-- The loss of the clock at one port without a link: it awaits the clock, and no other port changes. -/
theorem linkDown_refclk (h : unlinked s p) :
    regsKept s (linkDown s p 0 .refclk) [(R.PORT_LINK_STATUS p).addr] ∧ (linkDown s p 0 .refclk).brk = s.brk
      ∧ (∀ q, ((linkDown s p 0 .refclk).px q).up = (s.px q).up)
      ∧ (∀ q, q ≠ p → (linkDown s p 0 .refclk).px q = s.px q)
      ∧ (isPcie s p = true → awaitsClock (linkDown s p 0 .refclk) p) := by
  obtain ⟨h3, hup⟩ := h
  by_cases hp : isPcie s p = true
  · obtain ⟨⟨hl, -, -, hw⟩, hk⟩ := pcieDown_spec hup (st := 0) (by decide) .refclk
    have heq := pcieDown_of_not_up hup 0 .refclk
    rw [linkDown_of_isPcie hp]
    refine ⟨hk, ?_, fun q => ?_, fun q hq => ?_, fun _ => ⟨hl, hw⟩⟩
    · rw [heq]
      rfl
    · rw [heq]
      exact setWait_up ..
    · rw [heq]
      exact modPx_px_ne _ _ hq
  · rw [linkDown_of_unused h3 hp]
    exact ⟨regsKept_refl s _, rfl, fun _ => rfl, fun _ _ => rfl, fun h => absurd h hp⟩

/-- The loss of the clock at the ports of a list. -/
theorem foldl_linkDown_refclk (ps : List Nat) (h : ∀ p ∈ ps, unlinked s p) :
    regsKept s (ps.foldl (fun s p => linkDown s p 0 .refclk) s) (ps.map fun p => (R.PORT_LINK_STATUS p).addr)
      ∧ (ps.foldl (fun s p => linkDown s p 0 .refclk) s).brk = s.brk
      ∧ ∀ q, isPcie s q = true → q ∈ ps ∨ awaitsClock s q →
        awaitsClock (ps.foldl (fun s p => linkDown s p 0 .refclk) s) q := by
  induction ps generalizing s with
  | nil => exact ⟨regsKept_refl s _, rfl, fun q _ hq => hq.resolve_left List.not_mem_nil⟩
  | cons p ps ih =>
    obtain ⟨hk, hb, hup, hpx, hw⟩ := linkDown_refclk (h p List.mem_cons_self)
    have hrole : ∀ q, role (linkDown s p 0 .refclk) q = role s q := fun q => hk.role (portCfg_ne_linkStatus q p)
    obtain ⟨ihk, ihb, ihw⟩ := ih fun q hq =>
      have ⟨h3, hu⟩ := h q (List.mem_cons_of_mem _ hq)
      ⟨(hrole q).trans_ne h3, (hup q).trans hu⟩
    refine ⟨(hk.mono (by simp)).trans ihk (by simp), ihb.trans hb, fun q hq hor => ?_⟩
    refine ihw q ((isPcie_congr (hrole q)).trans hq) ?_
    by_cases hqp : q = p
    · subst hqp
      exact .inr (hw hq)
    · rcases hor with hmem | ⟨hl, hx⟩
      · exact .inl ((List.mem_cons.1 hmem).resolve_left hqp)
      · exact .inr ⟨(hk.get_ne (linkStatus_ne_of_ne hqp)).trans hl, (congrArg PortX.wait (hpx q hqp)).trans hx⟩

/-- The return of the clock at port p ends its wait for it. -/
def clockBack (s : State) (p : Nat) : State := if (s.px p).wait = .refclk then setWait s p .none else s

theorem clockBack_ports (s : State) (p : Nat) : { clockBack s p with ports := s.ports } = s := by
  unfold clockBack
  split <;> rfl

theorem clockBack_wait (h : q = p ∨ (s.px q).wait ≠ .refclk) : ((clockBack s p).px q).wait ≠ .refclk := by
  unfold clockBack
  split
  · by_cases hq : q = p
    · subst hq
      rw [setWait_wait]
      decide
    · rw [setWait, modPx_px_ne _ _ hq]
      exact h.resolve_left hq
  · next hp =>
    rcases h with rfl | h
    · exact hp
    · exact h

/-- The return of the clock at the ports of a list: nothing but ports' waits changes, and none of these ports waits
for the clock any more. -/
theorem foldl_clockBack (ps : List Nat) (s : State) : { ps.foldl clockBack s with ports := s.ports } = s
    ∧ ∀ q, q ∈ ps ∨ (s.px q).wait ≠ .refclk → ((ps.foldl clockBack s).px q).wait ≠ .refclk := by
  induction ps generalizing s with
  | nil => exact ⟨rfl, fun q hq => hq.resolve_left List.not_mem_nil⟩
  | cons p ps ih =>
    obtain ⟨hrest, hwait⟩ := ih (clockBack s p)
    refine ⟨?_, fun q hq => hwait q ?_⟩
    · calc { (p :: ps).foldl clockBack s with ports := s.ports }
          = { { ps.foldl clockBack (clockBack s p) with ports := (clockBack s p).ports } with ports := s.ports } := rfl
        _ = { clockBack s p with ports := s.ports } := by rw [hrest]
        _ = s := clockBack_ports s p
    · rcases hq with hmem | hne
      · rcases List.mem_cons.1 hmem with rfl | hmem
        · exact .inr (clockBack_wait (.inl rfl))
        · exact .inl hmem
      · exact .inr (clockBack_wait (.inr hne))

/-! ### Active width (R70, R71) -/

theorem l0pTo_spec (s : State) (p : Nat) (hn : n < 32) :
    (l0pTo s p n).get (F.PORT_LINK_STATUS_LANES p) = n
      ∧ regsKept s (l0pTo s p n) [(R.PORT_LINK_STATUS p).addr] := by
  unfold l0pTo
  refine ⟨?_, fun q hq => ?_⟩
  · rw [out_get]
    exact (State.get_put_same s _ n (by decide) (by decide)).trans (Nat.mod_eq_of_lt hn)
  · rw [out_rd]
    exact regsKept_put_linkStatus (regsKept_refl s _) rfl n q hq

theorem fullLanes_lt (s : State) (p : Nat) : s.get (F.PORT_LINK_STATUS_FULL_LANES p) < 32 := State.get_lt ..

theorem lanes_lt (s : State) (p : Nat) : s.get (F.PORT_LINK_STATUS_LANES p) < 32 := State.get_lt ..

theorem laneCount_le (n : Nat) : laneCount n ≤ 16 := by
  unfold laneCount
  split_ifs <;> omega

theorem runs_l0pNarrow {p : Fin 96} (hon : l0pOn s p = true) (hidle : s.get (F.PORT_PM_CTRL_L0P_IDLE p) ≠ 0)
    (hmin : 2 ^ (min 4 (s.get (F.PORT_PM_CTRL_L0P_MIN p))) ≤ s.get (F.PORT_LINK_STATUS_LANES p) / 2) :
    runs (.l0pNarrow p) s fun t =>
      t.get (F.PORT_LINK_STATUS_LANES p) = s.get (F.PORT_LINK_STATUS_LANES p) / 2
        ∧ regsKept s t [(R.PORT_LINK_STATUS p).addr] := by
  have hlt := lanes_lt s p
  refine ⟨_, ?_, l0pTo_spec s p (n := s.get (F.PORT_LINK_STATUS_LANES p) / 2) (by omega)⟩
  change execL0pNarrow p s = _
  simp [execL0pNarrow, hon, hidle, hmin]

theorem runs_l0pWiden {p : Fin 96} (hon : l0pOn s p = true)
    (hlt : s.get (F.PORT_LINK_STATUS_LANES p) < s.get (F.PORT_LINK_STATUS_FULL_LANES p)) :
    runs (.l0pWiden p) s fun t =>
      t.get (F.PORT_LINK_STATUS_LANES p) = s.get (F.PORT_LINK_STATUS_FULL_LANES p)
        ∧ regsKept s t [(R.PORT_LINK_STATUS p).addr] := by
  refine ⟨_, ?_, l0pTo_spec s p (fullLanes_lt s p)⟩
  change execL0pWiden p s = _
  simp [execL0pWiden, hon, hlt]

theorem runs_l0pPartnerRequest {p : Fin 96} {lanes : Fin 17} (hon : l0pOn s p = true)
    (hn : n = laneCount (min lanes (s.get (F.PORT_LINK_STATUS_FULL_LANES p))))
    (hlt : s.get (F.PORT_LINK_STATUS_LANES p) < n) :
    runs (.l0pPartnerRequest p lanes) s fun t =>
      t.get (F.PORT_LINK_STATUS_LANES p) = n ∧ regsKept s t [(R.PORT_LINK_STATUS p).addr] := by
  subst hn
  refine ⟨_, ?_, l0pTo_spec s p ((laneCount_le _).trans_lt (by decide))⟩
  change execL0pPartnerRequest p lanes s = _
  simp [execL0pPartnerRequest, hon, hlt]

/-! ### L1 (R72) -/

theorem enterL1_spec (s : State) (p : Nat) :
    ltssm (enterL1 s p) p = 5 ∧ regsKept s (enterL1 s p) [(R.PORT_LINK_STATUS p).addr] := by
  unfold enterL1 State.putB
  refine ⟨?_, fun q hq => ?_⟩
  · rw [ltssm, out_get]
    simp (disch := decide) only [F.PORT_LINK_STATUS_LTSSM, F.PORT_LINK_STATUS_L11, State.get_put_beside, State.get_put_same]
    rfl
  · rw [out_rd]
    exact regsKept_put_linkStatus (regsKept_put_linkStatus (regsKept_refl s _) rfl _) rfl _ q hq

theorem runs_l1Entry {p : Fin 96} (h0 : ltssm s p = 3) (haspm : aspmL1 s p = true) (hr : role s p = 1)
    (hidle : s.get (F.PORT_PM_CTRL_L1_IDLE p) ≠ 0) (hhost : hostIdle s p = true) (hdm : carriesHdmDb s p = false) :
    runs (.l1Entry p false) s fun t => ltssm t p = 5 ∧ regsKept s t [(R.PORT_LINK_STATUS p).addr] := by
  refine ⟨_, ?_, enterL1_spec s p⟩
  change execL1Entry p false s = _
  simp [execL1Entry, h0, haspm, hr, hidle, hhost, hdm]

theorem runs_l1RequestAccept {p : Fin 96} (h0 : ltssm s p = 3) (haspm : aspmL1 s p = true) (hr : role s p = 2) :
    runs (.l1RequestAccept p false) s fun t => ltssm t p = 5 ∧ regsKept s t [(R.PORT_LINK_STATUS p).addr] := by
  refine ⟨_, ?_, enterL1_spec s p⟩
  change execL1RequestAccept p false s = _
  simp [execL1RequestAccept, h0, haspm, hr]

theorem runs_l1Exit {p : Fin 96} (hp : isPcie s p = true) (h1 : ltssm s p = 5) :
    runs (.l1Exit p) s fun t => ltssm t p = 3 ∧ t.get (F.PORT_LINK_STATUS_L11 p) = 0
      ∧ regsKept s t [(R.PORT_LINK_STATUS p).addr] ∧ onlyRegs s t := by
  refine ⟨(s.put (F.PORT_LINK_STATUS_LTSSM p) 3).put (F.PORT_LINK_STATUS_L11 p) 0, ?_, ?_, ?_,
    regsKept_put_linkStatus (regsKept_put_linkStatus (regsKept_refl s _) rfl _) rfl _,
    onlyRegs_put (onlyRegs_put (onlyRegs_refl s))⟩
  · change execL1Exit p s = _
    simp [execL1Exit, hp, h1]
  · simp (disch := decide) only [ltssm, F.PORT_LINK_STATUS_LTSSM, F.PORT_LINK_STATUS_L11, State.get_put_beside,
      State.get_put_same]
    rfl
  · exact State.get_put_same _ _ 0 (by decide) (by decide)

/-! ### Failed lanes (R71, R73) -/

/-- Lane l is marked failed and the event of the port is raised. -/
def laneMarked (s : State) (p l : Nat) : State :=
  (s.put (F.PORT_LANE_FAIL_LANE p) (s.get (F.PORT_LANE_FAIL_LANE p) ||| 2 ^ l)).raise (320 + 8 * p + 2)

theorem regsKept_laneMarked (s : State) (p l : Nat) :
    regsKept s (laneMarked s p l) [(R.PORT_LANE_FAIL p).addr, R.BRK_LOSS.addr] :=
  regsKept_raise (regsKept_put (regsKept_refl s _) (by simp [F.PORT_LANE_FAIL_LANE])) (by simp)

theorem srcs_laneMarked (s : State) (p l : Nat) : srcs (laneMarked s p l) = srcs s ++ [320 + 8 * p + 2] := raise_srcs ..

theorem laneMarked_mark (s : State) (p : Nat) (lane : Fin 16) :
    ((laneMarked s p lane).get (F.PORT_LANE_FAIL_LANE p)).testBit lane = true := by
  have hne : (F.PORT_LANE_FAIL_LANE p).reg.addr ≠ R.BRK_LOSS.addr := by
    simp only [F.PORT_LANE_FAIL_LANE, R.PORT_LANE_FAIL, R.BRK_LOSS]
    omega
  rw [laneMarked, raise_get _ _ _ _ hne]
  refine State.hasBit_setBit_self s (F.PORT_LANE_FAIL_LANE p) lane ?_ ?_
  · simp [F.PORT_LANE_FAIL_LANE]
  · have := lane.isLt
    simp only [F.PORT_LANE_FAIL_LANE]
    omega

/-- What a mark of a failed lane leaves: the link's state and the port's role. -/
theorem laneMarked_get (s : State) (p l : Nat) {f : Fld} (hf : f.reg = R.PORT_LINK_STATUS p ∨ f.reg = R.PORT_CFG p) :
    (laneMarked s p l).get f = s.get f := by
  refine (regsKept_laneMarked s p l).get ?_
  simp only [List.mem_cons, List.not_mem_nil, or_false, not_or, R.PORT_LANE_FAIL, R.BRK_LOSS]
  rcases hf with hf | hf
  · simp only [hf, R.PORT_LINK_STATUS]
    omega
  · simp only [hf, R.PORT_CFG]
    omega

theorem laneMarked_px (s : State) (p l q : Nat) : (laneMarked s p l).px q = s.px q := by
  simp [State.px, laneMarked]

/-- Without flit mode or an L0p partner a failed lane takes the link through Recovery. -/
theorem laneFail_recovers {l : Nat} (h : s.bit (F.PORT_LINK_STATUS_FLIT p) = false ∨ (s.px p).l0p = false) :
    laneFail s p l = pcieRecovery (laneMarked s p l) p := by
  have hf : (laneMarked s p l).bit (F.PORT_LINK_STATUS_FLIT p) = s.bit (F.PORT_LINK_STATUS_FLIT p) :=
    congrArg (· != 0) (laneMarked_get s p l (.inl rfl))
  have hoff : ((laneMarked s p l).bit (F.PORT_LINK_STATUS_FLIT p) && ((laneMarked s p l).px p).l0p) = false := by
    rw [hf, laneMarked_px, Bool.and_eq_false_iff]
    exact h
  exact if_neg (Bool.eq_false_iff.1 hoff)

/-- L0p takes a link in state u to the full width n and the active width m; b is whether its order is reversed. -/
def narrowed (u : State) (p n m : Nat) (b : Bool) : State :=
  l0pTo ((u.put (F.PORT_LINK_STATUS_FULL_LANES p) n).putB (F.PORT_LINK_STATUS_REVERSED p) b) p m

theorem narrowed_spec (u : State) (p n : Nat) {m : Nat} (hm : m < 32) (b : Bool) :
    (narrowed u p n m b).get (F.PORT_LINK_STATUS_LANES p) = m ∧ ltssm (narrowed u p n m b) p = ltssm u p
      ∧ regsKept u (narrowed u p n m b) [(R.PORT_LINK_STATUS p).addr] := by
  obtain ⟨hlanes, hk⟩ :=
    l0pTo_spec ((u.put (F.PORT_LINK_STATUS_FULL_LANES p) n).putB (F.PORT_LINK_STATUS_REVERSED p) b) p hm
  refine ⟨hlanes, ?_, regsKept.trans (regsKept_put_linkStatus (regsKept_put_linkStatus (regsKept_refl u _) rfl _) rfl _)
    hk (List.Subset.refl _)⟩
  unfold narrowed l0pTo State.putB
  rw [ltssm, out_get]
  simp (disch := decide) only [ltssm, F.PORT_LINK_STATUS_LTSSM, F.PORT_LINK_STATUS_LANES, F.PORT_LINK_STATUS_FULL_LANES,
    F.PORT_LINK_STATUS_REVERSED, State.get_put_beside]

/-- With both, and a width left, it is removed by L0p. -/
theorem laneFail_narrows {l : Nat} {rev : Bool} (hflit : s.bit (F.PORT_LINK_STATUS_FLIT p) = true)
    (hl0p : (s.px p).l0p = true)
    (hw : bestWidth (s.get (F.PORT_LINK_STATUS_FULL_LANES p)) (s.get (F.PORT_LANE_FAIL_LANE p) ||| 2 ^ l) = (n, rev))
    (hn : n ≠ 0) : ∃ b, laneFail s p l =
      narrowed (laneMarked s p l) p n (min n (s.get (F.PORT_LINK_STATUS_LANES p))) b := by
  have hf : (laneMarked s p l).bit (F.PORT_LINK_STATUS_FLIT p) = true :=
    (congrArg (· != 0) (laneMarked_get s p l (.inl rfl))).trans hflit
  have hfull : (laneMarked s p l).get (F.PORT_LINK_STATUS_FULL_LANES p) = s.get (F.PORT_LINK_STATUS_FULL_LANES p) :=
    laneMarked_get s p l (.inl rfl)
  have hlanes : (laneMarked s p l).get (F.PORT_LINK_STATUS_LANES p) = s.get (F.PORT_LINK_STATUS_LANES p) :=
    laneMarked_get s p l (.inl rfl)
  refine ⟨rev || (laneMarked s p l).bit (F.PORT_LINK_STATUS_REVERSED p), ?_⟩
  simp only [laneFail, narrowed, ← laneMarked.eq_1, hf, laneMarked_px, hl0p, hfull, hw, hn, hlanes, Bool.and_self,
    if_true, if_false]

/-- LANE_FAILED and WIDEN_LANE_TIMEOUT of a lane in use declare it failed. -/
theorem exec_laneFail {p : Fin 96} {lane : Fin 16} {c : Instr} (hc : c = .laneFailed p lane ∨ c = .widenLaneTimeout p lane)
    (hp : isPcie s p = true) (h0 : ltssm s p = 3) (hu : (lanesUsed s p).testBit lane = true) :
    exec c s = .next (laneFail s p lane) := by
  have hcond : (isPcie s p && ltssm s p == 3 && (lanesUsed s p).testBit lane) = true := by simp [hp, h0, hu]
  rcases hc with rfl | rfl
  · exact congrArg Host.Outcome.next (if_pos hcond)
  · exact congrArg Host.Outcome.next (if_pos hcond)

theorem laneFail_recovers_spec {lane : Fin 16} (hp : isPcie s p = true) (h0 : ltssm s p = 3)
    (h : s.bit (F.PORT_LINK_STATUS_FLIT p) = false ∨ (s.px p).l0p = false) :
    ((laneFail s p lane).get (F.PORT_LANE_FAIL_LANE p)).testBit lane = true ∧ ltssm (laneFail s p lane) p = 4
      ∧ srcs (laneFail s p lane) = srcs s ++ [320 + 8 * p + 2] := by
  obtain ⟨hl, hk, hb⟩ := pcieRecovery_spec (s := laneMarked s p lane) (p := p)
    ((isPcie_congr (laneMarked_get s p lane (.inr rfl))).trans hp) ((laneMarked_get s p lane (.inl rfl)).trans h0)
  rw [laneFail_recovers h]
  refine ⟨?_, hl, ?_⟩
  · rw [hk.get_ne (laneFail_ne_linkStatus p p)]
    exact laneMarked_mark s p lane
  · rw [srcs, hb]
    exact srcs_laneMarked s p lane

theorem laneFail_narrows_spec {lane : Fin 16} {rev : Bool} (h0 : ltssm s p = 3)
    (hflit : s.bit (F.PORT_LINK_STATUS_FLIT p) = true) (hl0p : (s.px p).l0p = true)
    (hw : bestWidth (s.get (F.PORT_LINK_STATUS_FULL_LANES p)) (s.get (F.PORT_LANE_FAIL_LANE p) ||| 2 ^ lane.val) = (n, rev))
    (hn : n ≠ 0) :
    ((laneFail s p lane).get (F.PORT_LANE_FAIL_LANE p)).testBit lane = true ∧ ltssm (laneFail s p lane) p = 3
      ∧ (laneFail s p lane).get (F.PORT_LINK_STATUS_LANES p) = min n (s.get (F.PORT_LINK_STATUS_LANES p))
      ∧ srcs (laneFail s p lane) = srcs s ++ [320 + 8 * p + 2] := by
  obtain ⟨b, heq⟩ := laneFail_narrows hflit hl0p hw hn
  have hlt := lanes_lt s p
  obtain ⟨hlanes, hl, hk⟩ := narrowed_spec (laneMarked s p lane) p n
    (m := min n (s.get (F.PORT_LINK_STATUS_LANES p))) (by omega) b
  rw [heq]
  refine ⟨?_, hl.trans ((laneMarked_get s p lane (.inl rfl)).trans h0), hlanes, ?_⟩
  · rw [hk.get_ne (laneFail_ne_linkStatus p p)]
    exact laneMarked_mark s p lane
  · exact srcs_laneMarked s p lane

/-! ### O10 -/

/-- The ports of lane group g. -/
def groupPorts (g : Nat) : List Nat := ([0, 1, 2, 3, 4, 5] : List Nat).map fun k => 6 * g + k

theorem mem_groupPorts {g k : Nat} (hk : k < 6) : 6 * g + k ∈ groupPorts g :=
  List.mem_map.2 ⟨k, by simp only [List.mem_cons]; omega, rfl⟩

theorem exists_of_mem_groupPorts {g : Nat} (h : p ∈ groupPorts g) : ∃ k, k < 6 ∧ 6 * g + k = p := by
  obtain ⟨k, hk, rfl⟩ := List.mem_map.1 h
  exact ⟨k, by simp only [List.mem_cons, List.not_mem_nil, or_false] at hk; omega, rfl⟩

/-- LG_STATUS of group g shows that its reference clock is lost. -/
def clockLost (s : State) (g : Nat) : State :=
  ((s.put (F.LG_STATUS_REFCLK_OK g) 0).put (F.LG_STATUS_PLL_LOCK g) 0).put (F.LG_STATUS_REFCLK_LOST g) 1

theorem clockLost_bits (s : State) (g : Nat) :
    (clockLost s g).bit (F.LG_STATUS_REFCLK_OK g) = false ∧ (clockLost s g).bit (F.LG_STATUS_PLL_LOCK g) = false
      ∧ (clockLost s g).bit (F.LG_STATUS_REFCLK_LOST g) = true := by
  simp (disch := decide) [clockLost, State.bit, F.LG_STATUS_REFCLK_OK, F.LG_STATUS_PLL_LOCK, F.LG_STATUS_REFCLK_LOST,
    State.get_put_beside, State.get_put_same]

theorem regsKept_clockLost (s : State) (g : Nat) : regsKept s (clockLost s g) [(R.LG_STATUS g).addr] :=
  regsKept_put (regsKept_put (regsKept_put (regsKept_refl s _) (List.mem_singleton.2 rfl)) (List.mem_singleton.2 rfl))
    (List.mem_singleton.2 rfl)

/-- Lane groups and ports have registers of their own. -/
theorem lgStatus_ne (g : Fin 16) (p : Nat) : (R.LG_STATUS g).addr ≠ (R.PORT_LINK_STATUS p).addr
    ∧ (R.PORT_CFG p).addr ≠ (R.LG_STATUS g).addr ∧ (R.LG_STATUS g).addr ≠ R.BRK_LOSS.addr
    ∧ (R.PORT_LINK_STATUS p).addr ≠ R.BRK_LOSS.addr := by
  have := g.isLt
  simp only [R.LG_STATUS, R.PORT_LINK_STATUS, R.PORT_CFG, R.BRK_LOSS]
  omega

theorem execRefclkLost_eq (g : Fin 16) (s : State) : execRefclkLost g s = .next
    (((groupPorts g).foldl (fun s p => linkDown s p 0 .refclk) (clockLost s g)).raise (256 + 4 * g)) := rfl

theorem runs_refclkLost {g : Fin 16} (h : ∀ k, k < 6 → role s (6 * g + k) ≠ 3 ∧ (s.px (6 * g + k)).up = false) :
    runs (.refclkLost g) s fun t =>
      t.bit (F.LG_STATUS_REFCLK_OK g) = false ∧ t.bit (F.LG_STATUS_PLL_LOCK g) = false
      ∧ t.bit (F.LG_STATUS_REFCLK_LOST g) = true ∧ srcs t = srcs s ++ [256 + 4 * g.val]
      ∧ ∀ k, k < 6 → isPcie s (6 * g + k) = true → ltssm t (6 * g + k) = 0 ∧ (t.px (6 * g + k)).wait = .refclk := by
  have hrole : ∀ p, role (clockLost s g) p = role s p := fun p => (regsKept_clockLost s g).role (lgStatus_ne g p).2.1
  have hdown : ∀ p ∈ groupPorts g, unlinked (clockLost s g) p := by
    intro p hp
    obtain ⟨k, hk, rfl⟩ := exists_of_mem_groupPorts hp
    obtain ⟨h3, hup⟩ := h k hk
    exact ⟨(hrole _).trans_ne h3, hup⟩
  obtain ⟨hk, hb, hw⟩ := foldl_linkDown_refclk (groupPorts g) hdown
  obtain ⟨hok, hlock, hlost⟩ := clockLost_bits s g
  have hkept : ∀ f : Fld, f.reg = R.LG_STATUS g →
      (((groupPorts g).foldl (fun s p => linkDown s p 0 .refclk) (clockLost s g)).raise (256 + 4 * g)).bit f
        = (clockLost s g).bit f := by
    intro f hf
    rw [State.bit, raise_get _ _ _ _ (hf ▸ (lgStatus_ne g 0).2.2.1), hk.get]
    · rfl
    · rw [hf, List.mem_map]
      exact fun ⟨p, _, hp⟩ => (lgStatus_ne g p).1 hp.symm
  refine ⟨_, execRefclkLost_eq g s, (hkept _ rfl).trans hok, (hkept _ rfl).trans hlock, (hkept _ rfl).trans hlost, ?_,
    fun k hk6 hp => ?_⟩
  · rw [srcs, raise_srcs, hb]
    rfl
  · obtain ⟨hl, hwait⟩ := hw (6 * g + k) ((isPcie_congr (hrole _)).trans hp) (.inl (mem_groupPorts hk6))
    refine ⟨?_, ?_⟩
    · rw [ltssm, raise_get _ _ _ _ (lgStatus_ne g _).2.2.2]
      exact hl
    · rw [State.px, raise_ports]
      exact hwait

/-- LG_STATUS of group g shows its reference clock back, and the PLL locked where the group is used. -/
def clockShown (s : State) (g : Nat) : State :=
  (s.put (F.LG_STATUS_REFCLK_OK g) 1).put (F.LG_STATUS_PLL_LOCK g) (s.get (F.LG_CFG_USED g))

theorem clockShown_bits (s : State) (g : Nat) : (clockShown s g).bit (F.LG_STATUS_REFCLK_OK g) = true
    ∧ (clockShown s g).bit (F.LG_STATUS_PLL_LOCK g) = s.bit (F.LG_CFG_USED g) := by
  have hlt : s.get (F.LG_CFG_USED g) < 2 := State.get_lt ..
  unfold clockShown State.bit
  constructor
  · simp (disch := decide) only [F.LG_STATUS_REFCLK_OK, F.LG_STATUS_PLL_LOCK, State.get_put_beside, State.get_put_same]
    rfl
  · exact congrArg (· != 0) ((State.get_put_same _ _ _ (by decide) (by decide)).trans (Nat.mod_eq_of_lt hlt))

theorem regsKept_clockShown (s : State) (g : Nat) : regsKept s (clockShown s g) [(R.LG_STATUS g).addr] :=
  regsKept_put (regsKept_put (regsKept_refl s _) (List.mem_singleton.2 rfl)) (List.mem_singleton.2 rfl)

/-- Registers change from s to t, and the data of ports from t to u. -/
theorem onlyRegsPorts {u : State} (hr : onlyRegs s t) (hp : { u with ports := t.ports } = t) :
    { u with regs := s.regs, ports := s.ports } = s :=
  calc { u with regs := s.regs, ports := s.ports }
    _ = { { u with ports := t.ports } with regs := s.regs, ports := s.ports } := rfl
    _ = { { t with regs := s.regs } with ports := s.ports } := by rw [hp]
    _ = { s with ports := s.ports } := by rw [hr]

theorem execRefclkRestored_eq (g : Fin 16) (s : State) :
    execRefclkRestored g s = .next ((groupPorts g).foldl clockBack (clockShown s g)) := rfl

theorem runs_refclkRestored (g : Fin 16) (s : State) :
    runs (.refclkRestored g) s fun t =>
      t.bit (F.LG_STATUS_REFCLK_OK g) = true ∧ t.bit (F.LG_STATUS_PLL_LOCK g) = s.bit (F.LG_CFG_USED g)
      ∧ (∀ k, k < 6 → (t.px (6 * g + k)).wait ≠ .refclk) ∧ regsKept s t [(R.LG_STATUS g).addr]
      ∧ { t with regs := s.regs, ports := s.ports } = s := by
  obtain ⟨hrest, hwait⟩ := foldl_clockBack (groupPorts g) (clockShown s g)
  obtain ⟨hok, hlock⟩ := clockShown_bits s g
  have hregs : ((groupPorts g).foldl clockBack (clockShown s g)).regs = (clockShown s g).regs := by
    simpa only using congrArg State.regs hrest
  refine ⟨_, execRefclkRestored_eq g s, ?_, ?_, fun k hk => hwait _ (.inl (mem_groupPorts hk)), fun q hq => ?_, ?_⟩
  · exact (congrArg (· != 0) (State.get_congr hregs _)).trans hok
  · exact (congrArg (· != 0) (State.get_congr hregs _)).trans hlock
  · exact (State.rd_congr hregs q).trans (regsKept_clockShown s g q hq)
  · exact onlyRegsPorts (onlyRegs_put (onlyRegs_put (onlyRegs_refl s))) hrest

/-- Settles O10: the clocks by folds over the ports of the group, each other command by the one change that it makes. -/
theorem clocksPowerStatesAndLanes : Obligations.ClocksPowerStatesAndLanes := by
  refine ⟨fun g s => ⟨runs_refclkLost, runs_refclkRestored g s⟩,
    fun p s => ⟨fun hon => ⟨runs_l0pNarrow hon, runs_l0pWiden hon, fun lanes n hn => runs_l0pPartnerRequest hon hn⟩,
      fun h0 haspm => ⟨runs_l1Entry h0 haspm, runs_l1RequestAccept h0 haspm⟩, runs_l1Exit⟩,
    fun p lane s c hc hp h0 hu => ⟨fun h => ?recovers, fun n rev hflit hl0p hw hn => ?narrows⟩⟩
  case recovers => exact ⟨_, exec_laneFail hc hp h0 hu, laneFail_recovers_spec hp h0 h⟩
  case narrows => exact ⟨_, exec_laneFail hc hp h0 hu, laneFail_narrows_spec h0 hflit hl0p hw hn⟩

end Sys2Proof.Machine
end

section
/-! Writes of PORT_LINK_CTRL, and the ends of Recovery and of a block reset (R64, R71, R73, R75, R356), for O12. -/

namespace Sys2Proof.Machine

variable {s u : State} {p : Fin 96} {mid k i : Nat}

/-! ### A write that sets one bit of PORT_LINK_CTRL -/

/-- The fields of PORT_LINK_CTRL, none of which refuses a write. -/
def linkCtrlFlds : List FRow :=
  [⟨31, 31, .rw⟩, ⟨30, 30, .wo⟩, ⟨29, 29, .wo⟩, ⟨28, 28, .rw⟩, ⟨27, 27, .rw⟩, ⟨26, 24, .rw⟩, ⟨23, 23, .wo⟩]

theorem regAt_linkCtrl (p : Fin 96) :
    ∃ row, regAt (R.PORT_LINK_CTRL p).addr = some (row, (R.PORT_LINK_CTRL p).addr) ∧ row.flds = linkCtrlFlds :=
  regAt_of_flds (by revert p; decide)

/-- The bits on which a 1 acts are RETRAIN, EQ_REDO and LANE_CLEAR. -/
theorem getLsbD_actMask_linkCtrl (p : Fin 96) (i : Nat) :
    (actMask (R.PORT_LINK_CTRL p).addr).getLsbD i = decide (i ∈ [30, 29, 23]) := by
  obtain ⟨row, hrow, hf⟩ := regAt_linkCtrl p
  have hm : actMask (R.PORT_LINK_CTRL p).addr = bitsMask 30 30 ||| bitsMask 29 29 ||| bitsMask 23 23 := by
    simp only [actMask, hrow, hf]
    decide
  rw [hm, BitVec.getLsbD_or, BitVec.getLsbD_or, getLsbD_bitsMask _ _ _ (by decide) le_rfl,
    getLsbD_bitsMask _ _ _ (by decide) le_rfl, getLsbD_bitsMask _ _ _ (by decide) le_rfl, Bool.eq_iff_iff]
  simp only [Bool.or_eq_true, Bool.and_eq_true, decide_eq_true_eq, List.mem_cons, List.not_mem_nil, or_false]
  omega

/-- The write that sets bit k of PORT_LINK_CTRL. -/
def linkCtrlWr (s : State) (p mid k : Nat) : Wr := wrField s mid false ⟨R.PORT_LINK_CTRL p, k, k⟩ 1

theorem linkCtrlWr_v_self (s : State) (p mid : Nat) (hk : k < 32) : (linkCtrlWr s p mid k).v.getLsbD k = true :=
  wrField_v_bit s (f := ⟨R.PORT_LINK_CTRL p, k, k⟩) rfl (hk.trans (by decide)) mid false

/-- Any other bit is presented as the register holds it, or as 0 where a 1 would act. -/
theorem linkCtrlWr_v_ne (s : State) (p : Fin 96) (mid : Nat) (hk : k < 32) (hi : i < 32) (hne : i ≠ k) :
    (linkCtrlWr s p mid k).v.getLsbD i = ((s.rd (R.PORT_LINK_CTRL p)).getLsbD i && !decide (i ∈ [30, 29, 23])) := by
  rw [linkCtrlWr, wrField, getLsbD_bitsPut _ _ _ _ _ (hk.trans (by decide)) le_rfl, if_neg (by omega), BitVec.getLsbD_and,
    BitVec.getLsbD_not, getLsbD_actMask_linkCtrl, decide_eq_true (hi.trans (by decide)), Bool.true_and]

theorem linkCtrlWr_mask (s : State) (p mid k : Nat) (hi : i < 32) : (linkCtrlWr s p mid k).mask.getLsbD i = true :=
  getLsbD_mask_wrFull (wide := false) hi mid 0#64

/-- Of the command bits, the write sets bit k alone. -/
theorem linkCtrlWr_sets (s : State) (p : Fin 96) (mid : Nat) (hk : k < 32) (hi : i ∈ [30, 29, 23]) :
    (linkCtrlWr s p mid k).sets ⟨R.PORT_LINK_CTRL p, i, i⟩ = decide (i = k) := by
  have h32 : i < 32 := by
    simp only [List.mem_cons, List.not_mem_nil, or_false] at hi
    omega
  rw [Wr.sets, bitsGet_bit, BitVec.getLsbD_and, linkCtrlWr_mask s p mid k h32, Bool.and_true]
  by_cases h : i = k
  · rw [decide_eq_true h, h, linkCtrlWr_v_self s p mid hk]
  · rw [decide_eq_false h, linkCtrlWr_v_ne s p mid hk h32 h, decide_eq_true hi, Bool.not_true, Bool.and_false]

/-! ### The device when it has taken the write -/

def linkCtrlTaken (s : State) (p mid k : Nat) : State := s.writeReg (R.PORT_LINK_CTRL p) (linkCtrlWr s p mid k)

theorem linkCtrlTaken_eq (s : State) (p : Fin 96) (mid k : Nat) :
    ∃ v, linkCtrlTaken s p mid k = s.wr (R.PORT_LINK_CTRL p) v := by
  obtain ⟨row, hrow, hf⟩ := regAt_linkCtrl p
  exact writeReg_eq_wr hrow (by simp [hf, linkCtrlFlds, fieldNo])

theorem regsKept_linkCtrlTaken (s : State) (p : Fin 96) (mid k : Nat) :
    regsKept s (linkCtrlTaken s p mid k) [(R.PORT_LINK_CTRL p).addr] := by
  obtain ⟨v, hv⟩ := linkCtrlTaken_eq s p mid k
  rw [hv]
  exact regsKept_wr (regsKept_refl s _) (List.mem_singleton.2 rfl)

theorem linkCtrlTaken_px (s : State) (p : Fin 96) (mid k q : Nat) : (linkCtrlTaken s p mid k).px q = s.px q := by
  obtain ⟨v, hv⟩ := linkCtrlTaken_eq s p mid k
  rw [hv]
  rfl

/-- DISABLE reads as the write presents it. -/
theorem linkCtrlTaken_disable (s : State) (p : Fin 96) (mid k : Nat) :
    (linkCtrlTaken s p mid k).bit (F.PORT_LINK_CTRL_DISABLE p) = (linkCtrlWr s p mid k).v.getLsbD 31 := by
  obtain ⟨row, hrow, hf⟩ := regAt_linkCtrl p
  have hb : (R.PORT_LINK_CTRL p).addr ≠ R.BRK_LOSS.addr := by
    simp only [R.PORT_LINK_CTRL, R.BRK_LOSS]
    omega
  rw [← bitsGet_bit]
  exact congrArg (· != 0) (State.get_writeReg_presented s (R.PORT_LINK_CTRL p) (f := ⟨31, 31, .rw⟩) _ hrow hb
    (by rw [hf]; decide) (by rw [hf]; decide) rfl fun i _ (hi : i ≤ 31) => linkCtrlWr_mask s p mid k (by omega))

/-- A write that sets another bit keeps DISABLE. -/
theorem linkCtrlTaken_disable_ne (s : State) (p : Fin 96) (mid : Nat) (hk : k < 31) :
    (linkCtrlTaken s p mid k).bit (F.PORT_LINK_CTRL_DISABLE p) = s.bit (F.PORT_LINK_CTRL_DISABLE p) := by
  rw [linkCtrlTaken_disable, linkCtrlWr_v_ne s p mid (by omega) (by decide) (by omega), F.PORT_LINK_CTRL_DISABLE,
    State.bit_eq_getLsbD]
  exact Bool.and_true _

/-- PORT_LINK_CTRL stands apart from what else is read of a port. -/
theorem linkCtrl_apart (p : Nat) : (R.PORT_CFG p).addr ≠ (R.PORT_LINK_CTRL p).addr
    ∧ (R.PORT_LINK_STATUS p).addr ≠ (R.PORT_LINK_CTRL p).addr ∧ (R.PORT_LANE_FAIL p).addr ≠ (R.PORT_LINK_CTRL p).addr := by
  simp only [R.PORT_CFG, R.PORT_LINK_STATUS, R.PORT_LANE_FAIL, R.PORT_LINK_CTRL]
  omega

theorem isPcie_linkCtrlTaken (hp : isPcie s p = true) (mid k : Nat) : isPcie (linkCtrlTaken s p mid k) p = true :=
  (isPcie_congr ((regsKept_linkCtrlTaken s p mid k).role (linkCtrl_apart p).1)).trans hp

theorem ltssm_linkCtrlTaken (s : State) (p : Fin 96) (mid k : Nat) : ltssm (linkCtrlTaken s p mid k) p = ltssm s p :=
  (regsKept_linkCtrlTaken s p mid k).get_ne (linkCtrl_apart p).2.1

/-! ### What follows the write -/

/-- LANE_CLEAR clears the marks of failed lanes, the partner's too. -/
def marksCleared (u : State) (p : Nat) : State :=
  ((u.put (F.PORT_LANE_FAIL_LANE p) 0).put (F.OFL_LANES_FAILED p) 0).modOx p fun x => { x with peerFailed := 0 }

theorem regsKept_marksCleared (u : State) (p : Nat) :
    regsKept u (marksCleared u p) [(R.PORT_LANE_FAIL p).addr, (R.OFL_LANES p).addr] := fun q hq => by
  rw [marksCleared, modOx_rd]
  exact regsKept_put (regsKept_put (regsKept_refl u _) (List.mem_cons.2 (.inl rfl)))
    (List.mem_cons.2 (.inr (List.mem_singleton.2 rfl))) q hq

theorem marksCleared_get (u : State) (p : Nat) : (marksCleared u p).get (F.PORT_LANE_FAIL_LANE p) = 0
    ∧ role (marksCleared u p) p = role u p ∧ ltssm (marksCleared u p) p = ltssm u p := by
  refine ⟨?_, (regsKept_marksCleared u p).get ?_, (regsKept_marksCleared u p).get ?_⟩
  · have hne : (F.PORT_LANE_FAIL_LANE p).reg.addr ≠ (F.OFL_LANES_FAILED p).reg.addr := by
      simp only [F.PORT_LANE_FAIL_LANE, F.OFL_LANES_FAILED, R.PORT_LANE_FAIL, R.OFL_LANES]
      omega
    rw [marksCleared, modOx_get, State.get_put_reg _ _ _ _ hne]
    exact State.get_put_same _ _ 0 (by decide) (by decide)
  · simp only [F.PORT_CFG_ROLE, R.PORT_CFG, R.PORT_LANE_FAIL, R.OFL_LANES, List.mem_cons, List.not_mem_nil, or_false]
    omega
  · simp only [F.PORT_LINK_STATUS_LTSSM, R.PORT_LINK_STATUS, R.PORT_LANE_FAIL, R.OFL_LANES, List.mem_cons,
      List.not_mem_nil, or_false]
    omega

/-- EQ_REDO discards the stored coefficients. -/
def coefficientsDropped (u : State) (p : Nat) : State :=
  (u.modPx p fun x => { x with stored := [] }).modOx p fun x => { x with stored := [] }

theorem coefficientsDropped_stored (u : State) (p : Nat) : ((coefficientsDropped u p).px p).stored = [] := by
  change ((u.modPx p fun x => { x with stored := [] }).px p).stored = []
  rw [modPx_px]

/-- What a write of PORT_LINK_CTRL does about DISABLE, which read was before it. -/
def linkSwitched (p : Nat) (was : Bool) (u : State) : State :=
  let now := u.bit (F.PORT_LINK_CTRL_DISABLE p)
  let v := if now && !was then linkDown u p 6 .none else u
  if was && !now && (v.px p).wait == .none && (v.px p).dpc.isNone then
    (if role v p = 3 then v.put (F.OFL_STATUS_STATE p) 0 else v.put (F.PORT_LINK_STATUS_LTSSM p) 0) else v

theorem linkSwitched_keeps : linkSwitched p (u.bit (F.PORT_LINK_CTRL_DISABLE p)) u = u := by
  simp only [linkSwitched, Bool.and_not_self, Bool.false_and, Bool.false_eq_true, if_false]

theorem linkSwitched_disables (hu : isPcie u p = true) (h : u.bit (F.PORT_LINK_CTRL_DISABLE p) = true) :
    linkSwitched p false u = pcieDown u p 6 .none := by
  simp only [linkSwitched, h, linkDown_of_isPcie hu, Bool.not_false, Bool.and_self, if_true, Bool.false_and,
    Bool.false_eq_true, if_false]

/-- What a write w of PORT_LINK_CTRL does about its command bits. -/
def linkCommands (p : Nat) (w : Wr) (u : State) : State :=
  let clear := w.sets (F.PORT_LINK_CTRL_LANE_CLEAR p)
  let u := if w.sets (F.PORT_LINK_CTRL_EQ_REDO p) then coefficientsDropped u p else u
  let u := if clear then (u.put (F.PORT_LANE_FAIL_LANE p) 0).put (F.OFL_LANES_FAILED p) 0 else u
  let u := if clear then u.modOx p fun x => { x with peerFailed := 0 } else u
  if clear || w.sets (F.PORT_LINK_CTRL_RETRAIN p) then
    (if role u p = 3 then enterRecovery u p false else pcieRecovery u p)
  else u

section Commands

variable {w : Wr} (hu : isPcie u p = true)

theorem role_ne_three (hu : isPcie u p = true) : role u p ≠ 3 := by
  have := role_of_isPcie hu
  omega

theorem linkCommands_none (heq : w.sets (F.PORT_LINK_CTRL_EQ_REDO p) = false)
    (hclear : w.sets (F.PORT_LINK_CTRL_LANE_CLEAR p) = false) (hre : w.sets (F.PORT_LINK_CTRL_RETRAIN p) = false) :
    linkCommands p w u = u := by
  simp only [linkCommands, heq, hclear, hre, Bool.or_self, Bool.false_eq_true, if_false]

theorem linkCommands_eqRedo (heq : w.sets (F.PORT_LINK_CTRL_EQ_REDO p) = true)
    (hclear : w.sets (F.PORT_LINK_CTRL_LANE_CLEAR p) = false) (hre : w.sets (F.PORT_LINK_CTRL_RETRAIN p) = false) :
    linkCommands p w u = coefficientsDropped u p := by
  simp only [linkCommands, heq, hclear, hre, Bool.or_self, Bool.false_eq_true, if_false, if_true]

include hu

theorem linkCommands_retrain (heq : w.sets (F.PORT_LINK_CTRL_EQ_REDO p) = false)
    (hclear : w.sets (F.PORT_LINK_CTRL_LANE_CLEAR p) = false) (hre : w.sets (F.PORT_LINK_CTRL_RETRAIN p) = true) :
    linkCommands p w u = pcieRecovery u p := by
  simp only [linkCommands, heq, hclear, hre, role_ne_three hu, Bool.or_true, Bool.false_eq_true, if_false, if_true]

theorem linkCommands_laneClear (heq : w.sets (F.PORT_LINK_CTRL_EQ_REDO p) = false)
    (hclear : w.sets (F.PORT_LINK_CTRL_LANE_CLEAR p) = true) :
    linkCommands p w u = pcieRecovery (marksCleared u p) p := by
  have h3 : role (marksCleared u p) p ≠ 3 := (marksCleared_get u p).2.1.trans_ne (role_ne_three hu)
  rw [marksCleared] at h3 ⊢
  simp only [linkCommands, heq, hclear, h3, Bool.true_or, Bool.false_eq_true, if_false, if_true]

end Commands

/-! ### The commands of PORT_LINK_CTRL (R64, R71, R73, R75) -/

section Port

variable (hp : isPcie s p = true) (mid : Mid)
include hp

theorem wrLinkCtrl_eq (k : Nat) : wrLinkCtrl p (linkCtrlWr s p mid k) s = linkCommands p (linkCtrlWr s p mid k)
    (linkSwitched p (s.bit (F.PORT_LINK_CTRL_DISABLE p)) (linkCtrlTaken s p mid k)) := by
  have h0 : role s p ≠ 0 := by
    have := role_of_isPcie hp
    omega
  rw [wrLinkCtrl, if_neg h0]
  rfl

/-- A write of another bit than DISABLE acts on the link as it is. -/
theorem wrLinkCtrl_command (hk : k < 31) :
    wrLinkCtrl p (linkCtrlWr s p mid k) s = linkCommands p (linkCtrlWr s p mid k) (linkCtrlTaken s p mid k) := by
  rw [wrLinkCtrl_eq hp, ← linkCtrlTaken_disable_ne s p mid hk, linkSwitched_keeps]

theorem execLinkDisable_eq (hdis : s.bit (F.PORT_LINK_CTRL_DISABLE p) = false) :
    execLinkDisable mid p s = .next (pcieDown (linkCtrlTaken s p mid 31) p 6 .none) := by
  have hset := (linkCtrlTaken_disable s p mid 31).trans (linkCtrlWr_v_self s p mid (by decide))
  have hsets := fun {i : Nat} => linkCtrlWr_sets s p mid (k := 31) (i := i) (by decide)
  change Host.Outcome.next (wrLinkCtrl p (linkCtrlWr s p mid 31) s) = _
  rw [wrLinkCtrl_eq hp, hdis, linkSwitched_disables (isPcie_linkCtrlTaken hp mid _) hset,
    linkCommands_none (hsets (by decide)) (hsets (by decide)) (hsets (by decide))]

theorem execRetrain_eq : execRetrain mid p s = .next (pcieRecovery (linkCtrlTaken s p mid 30) p) := by
  have hsets := fun {i : Nat} => linkCtrlWr_sets s p mid (k := 30) (i := i) (by decide)
  change Host.Outcome.next (wrLinkCtrl p (linkCtrlWr s p mid 30) s) = _
  rw [wrLinkCtrl_command hp mid (by decide),
    linkCommands_retrain (isPcie_linkCtrlTaken hp mid _) (hsets (by decide)) (hsets (by decide)) (hsets (by decide))]

theorem execEqRedo_eq : execEqRedo mid p s = .next (coefficientsDropped (linkCtrlTaken s p mid 29) p) := by
  have hsets := fun {i : Nat} => linkCtrlWr_sets s p mid (k := 29) (i := i) (by decide)
  change Host.Outcome.next (wrLinkCtrl p (linkCtrlWr s p mid 29) s) = _
  rw [wrLinkCtrl_command hp mid (by decide),
    linkCommands_eqRedo (hsets (by decide)) (hsets (by decide)) (hsets (by decide))]

theorem execLaneClear_eq :
    execLaneClear mid p s = .next (pcieRecovery (marksCleared (linkCtrlTaken s p mid 23) p) p) := by
  have hsets := fun {i : Nat} => linkCtrlWr_sets s p mid (k := 23) (i := i) (by decide)
  change Host.Outcome.next (wrLinkCtrl p (linkCtrlWr s p mid 23) s) = _
  rw [wrLinkCtrl_command hp mid (by decide),
    linkCommands_laneClear (isPcie_linkCtrlTaken hp mid _) (hsets (by decide)) (hsets (by decide))]

theorem runs_linkDisable (hdis : s.bit (F.PORT_LINK_CTRL_DISABLE p) = false) (hup : (s.px p).up = false) :
    runs (.linkDisable mid p) s fun t =>
      t.bit (F.PORT_LINK_CTRL_DISABLE p) = true ∧ ltssm t p = 6 ∧ t.get (F.PORT_LINK_STATUS_LANES p) = 0 := by
  obtain ⟨⟨hl, -, hlanes, -⟩, hk⟩ := pcieDown_spec (s := linkCtrlTaken s p mid 31) (p := p) (st := 6)
    ((congrArg PortX.up (linkCtrlTaken_px s p mid 31 p)).trans hup) (by decide) .none
  refine ⟨_, execLinkDisable_eq hp mid hdis, ?_, hl, hlanes⟩
  rw [State.bit, hk.get_ne (linkCtrl_apart p).2.1.symm]
  exact (linkCtrlTaken_disable s p mid 31).trans (linkCtrlWr_v_self s p mid (by decide))

theorem runs_retrain (h0 : ltssm s p = 3) : runs (.retrain mid p) s fun t =>
    ltssm t p = 4 ∧ t.get (F.PORT_LANE_FAIL_LANE p) = s.get (F.PORT_LANE_FAIL_LANE p) := by
  obtain ⟨hl, hk, -⟩ :=
    pcieRecovery_spec (isPcie_linkCtrlTaken hp mid 30) ((ltssm_linkCtrlTaken s p mid 30).trans h0)
  refine ⟨_, execRetrain_eq hp mid, hl, ?_⟩
  rw [hk.get_ne (laneFail_ne_linkStatus p p)]
  exact (regsKept_linkCtrlTaken s p mid 30).get_ne (linkCtrl_apart p).2.2

theorem runs_laneClear (h0 : ltssm s p = 3) : runs (.laneClear mid p) s fun t =>
    ltssm t p = 4 ∧ t.get (F.PORT_LANE_FAIL_LANE p) = 0 := by
  obtain ⟨hmarks, hrole, hltssm⟩ := marksCleared_get (linkCtrlTaken s p mid 23) p
  obtain ⟨hl, hk, -⟩ := pcieRecovery_spec ((isPcie_congr hrole).trans (isPcie_linkCtrlTaken hp mid 23))
    (hltssm.trans ((ltssm_linkCtrlTaken s p mid 23).trans h0))
  refine ⟨_, execLaneClear_eq hp mid, hl, ?_⟩
  rw [hk.get_ne (laneFail_ne_linkStatus p p)]
  exact hmarks

theorem runs_eqRedo (h0 : ltssm s p = 3) : runs (.eqRedo mid p) s fun t => (t.px p).stored = [] ∧ ltssm t p = 3 :=
  ⟨_, execEqRedo_eq hp mid, coefficientsDropped_stored .., (ltssm_linkCtrlTaken s p mid 29).trans h0⟩

/-! ### Ends of Recovery and of a block reset (R73, R356) -/

theorem runs_recoveryTimeout (h4 : ltssm s p = 4) (hup : (s.px p).up = false) :
    runs (.recoveryTimeout p) s fun t => ltssm t p = 0 ∧ t.get (F.PORT_LINK_STATUS_RATE p) = 0 := by
  obtain ⟨⟨hl, hrate, -, -⟩, -⟩ := pcieDown_spec hup (st := 0) (by decide) .none
  exact ⟨_, congrArg Host.Outcome.next (if_pos (by simp [hp, h4])), hl, hrate⟩

theorem runs_portRedetect (hw : (s.px p).wait = .block) : runs (.portRedetect p) s fun t =>
    (t.px p).wait = .none ∧ ltssm t p = (if linkOff s p then 6 else 0)
      ∧ regsKept s t [(R.PORT_LINK_STATUS p).addr] := by
  refine ⟨_, congrArg Host.Outcome.next (if_pos (by simp [hp, hw])), setWait_wait s p .none, ?_,
    regsKept_put_linkStatus (fun q _ => setWait_rd ..) rfl _⟩
  refine (State.get_put_same _ _ _ (by decide) (by decide)).trans (Nat.mod_eq_of_lt ?_)
  split <;> decide

end Port

/-- Settles O12: each write of PORT_LINK_CTRL sets one bit, and does what follows that bit. -/
theorem linkControl : Obligations.LinkControl := fun mid _ _ hp =>
  ⟨runs_linkDisable hp mid, fun h0 => ⟨runs_retrain hp mid h0, runs_laneClear hp mid h0, runs_eqRedo hp mid h0⟩,
    runs_recoveryTimeout hp, runs_portRedetect hp⟩

end Sys2Proof.Machine
end

section
/-! The field of 256 elements that the FEC of a flit uses (R83): bytes under exclusive or and gfMul. -/

namespace Sys2Proof.Machine

variable {a b c : Byte}

/-! ### Multiplication by x, and the product -/

theorem xor_left_comm (a b c : Byte) : a ^^^ (b ^^^ c) = b ^^^ (a ^^^ c) := by
  rw [← BitVec.xor_assoc, BitVec.xor_comm a b, BitVec.xor_assoc]

theorem xor_interchange (a b c d : Byte) : (a ^^^ b) ^^^ (c ^^^ d) = (a ^^^ c) ^^^ (b ^^^ d) := by
  rw [BitVec.xor_assoc, xor_left_comm b c d, ← BitVec.xor_assoc]

theorem gfX_xor (a b : Byte) : gfX (a ^^^ b) = gfX a ^^^ gfX b := by
  have hs : (a ^^^ b) <<< 1 = a <<< 1 ^^^ b <<< 1 := BitVec.shiftLeft_xor_distrib ..
  have hm : (a ^^^ b).msb = (a.msb ^^ b.msb) := BitVec.msb_xor
  unfold gfX
  rw [hs, hm]
  rcases a.msb with _ | _ <;> rcases b.msb with _ | _ <;> simp [BitVec.xor_assoc, BitVec.xor_comm (b <<< 1)]

/-- One step of the product, for a bit of the second factor. -/
def gfStep (a b r : Byte) (i : Nat) : Byte := gfX r ^^^ (if b.getLsbD i then a else 0#8)

theorem gfMul_eq (a b : Byte) :
    gfMul a b = ([7, 6, 5, 4, 3, 2, 1, 0] : List Nat).foldl (gfStep a b) 0#8 := rfl

theorem foldl_gfStep_left (a b c : Byte) (l : List Nat) (r t : Byte) :
    l.foldl (gfStep (a ^^^ b) c) (r ^^^ t) = l.foldl (gfStep a c) r ^^^ l.foldl (gfStep b c) t := by
  induction l generalizing r t with
  | nil => rfl
  | cons i l ih =>
    have hstep : gfStep (a ^^^ b) c (r ^^^ t) i = gfStep a c r i ^^^ gfStep b c t i := by
      unfold gfStep
      rw [gfX_xor, xor_interchange]
      split <;> simp
    rw [List.foldl_cons, hstep, ih, List.foldl_cons, List.foldl_cons]

theorem foldl_gfStep_right (a b c : Byte) (l : List Nat) (r t : Byte) :
    l.foldl (gfStep a (b ^^^ c)) (r ^^^ t) = l.foldl (gfStep a b) r ^^^ l.foldl (gfStep a c) t := by
  induction l generalizing r t with
  | nil => rfl
  | cons i l ih =>
    have hstep : gfStep a (b ^^^ c) (r ^^^ t) i = gfStep a b r i ^^^ gfStep a c t i := by
      unfold gfStep
      rw [gfX_xor, xor_interchange, BitVec.getLsbD_xor]
      cases b.getLsbD i <;> cases c.getLsbD i <;> simp
    rw [List.foldl_cons, hstep, ih, List.foldl_cons, List.foldl_cons]

theorem gfMul_xor_left (a b c : Byte) : gfMul (a ^^^ b) c = gfMul a c ^^^ gfMul b c := by
  rw [gfMul_eq, gfMul_eq, gfMul_eq]
  exact foldl_gfStep_left a b c _ 0#8 0#8

theorem gfMul_xor_right (a b c : Byte) : gfMul a (b ^^^ c) = gfMul a b ^^^ gfMul a c := by
  rw [gfMul_eq, gfMul_eq, gfMul_eq]
  exact foldl_gfStep_right a b c _ 0#8 0#8

/-! ### A law that both sides of which are linear need be shown for the powers of x alone -/

/-- Power i of x where bit i of a byte is set. -/
def gfTerm (a : Byte) (i : Nat) : Byte := if a.getLsbD i then 1#8 <<< i else 0#8

/-- A byte is the sum of the powers of x that it names. -/
theorem gf_eq_sum : ∀ a : Byte, ([0, 1, 2, 3, 4, 5, 6, 7] : List Nat).foldl (fun r i => r ^^^ gfTerm a i) 0#8 = a := by
  decide

/-- What holds of zero and of each power of x, and of each sum where it holds of the terms, holds of every byte. -/
theorem gf_induction {P : Byte → Prop} (h0 : P 0#8) (hadd : ∀ a b, P a → P b → P (a ^^^ b))
    (hbasis : ∀ i < 8, P (1#8 <<< i)) (a : Byte) : P a := by
  have hterm : ∀ i < 8, P (gfTerm a i) := fun i hi => by
    unfold gfTerm
    split
    · exact hbasis i hi
    · exact h0
  have hsum : ∀ (l : List Nat) (r : Byte), (∀ i ∈ l, i < 8) → P r → P (l.foldl (fun r i => r ^^^ gfTerm a i) r) := by
    intro l
    induction l with
    | nil => exact fun r _ hr => hr
    | cons i l ih =>
      exact fun r hl hr => ih _ (fun j hj => hl j (List.mem_cons_of_mem _ hj))
        (hadd _ _ hr (hterm i (hl i List.mem_cons_self)))
  rw [← gf_eq_sum a]
  exact hsum _ _ (by decide) h0

theorem gfMul_zero (a : Byte) : gfMul a 0#8 = 0#8 := by
  have h := gfMul_xor_right a 0#8 0#8
  rwa [BitVec.xor_self, BitVec.xor_self] at h

theorem zero_gfMul (a : Byte) : gfMul 0#8 a = 0#8 := by
  have h := gfMul_xor_left 0#8 0#8 a
  rwa [BitVec.xor_self, BitVec.xor_self] at h

theorem gfMul_comm (a b : Byte) : gfMul a b = gfMul b a := by
  induction a using gf_induction with
  | h0 => rw [zero_gfMul, gfMul_zero]
  | hadd a c ha hc => rw [gfMul_xor_left, gfMul_xor_right, ha, hc]
  | hbasis i hi =>
    induction b using gf_induction with
    | h0 => rw [zero_gfMul, gfMul_zero]
    | hadd b c hb hc => rw [gfMul_xor_left, gfMul_xor_right, hb, hc]
    | hbasis j hj =>
      revert i j
      decide

theorem gfMul_one (a : Byte) : gfMul a 1#8 = a := by
  revert a
  decide

theorem gfMul_gfX (a b : Byte) : gfMul (gfX a) b = gfX (gfMul a b) := by
  have hfold : ∀ (l : List Nat) (r : Byte), l.foldl (gfStep (gfX a) b) (gfX r) = gfX (l.foldl (gfStep a b) r) := by
    intro l
    induction l with
    | nil => exact fun r => rfl
    | cons i l ih =>
      intro r
      have hstep : gfStep (gfX a) b (gfX r) i = gfX (gfStep a b r i) := by
        unfold gfStep
        rw [gfX_xor]
        split <;> rfl
      rw [List.foldl_cons, hstep, ih, List.foldl_cons]
  exact hfold _ 0#8

theorem gfMul_gfX_iterate (n : Nat) (a b : Byte) : gfMul (gfX^[n] a) b = gfX^[n] (gfMul a b) := by
  induction n with
  | zero => rfl
  | succ n ih => rw [Function.iterate_succ_apply', gfMul_gfX, ih, Function.iterate_succ_apply']

theorem gfBasis_eq : ∀ i < 8, 1#8 <<< i = gfX^[i] 1#8 := by decide

theorem gfMul_assoc (a b c : Byte) : gfMul (gfMul a b) c = gfMul a (gfMul b c) := by
  induction a using gf_induction with
  | h0 => simp only [zero_gfMul]
  | hadd a d ha hd => simp only [gfMul_xor_left, ha, hd]
  | hbasis i hi =>
    have hone : ∀ d, gfMul 1#8 d = d := fun d => (gfMul_comm 1#8 d).trans (gfMul_one d)
    simp only [gfBasis_eq i hi, gfMul_gfX_iterate, hone]

/-- The bytes as elements of the field: a type of their own, for which the sum and the product of words are not in the way. -/
def GF : Type := Byte

/-- The ring of the bytes: the sum is exclusive or, the product gfMul. -/
@[reducible] def gfRing : CommRing GF where
  add (a b : Byte) := a ^^^ b
  zero := 0#8
  neg a := a
  mul := gfMul
  one := 1#8
  add_assoc := BitVec.xor_assoc
  zero_add _ := BitVec.zero_xor
  add_zero _ := BitVec.xor_zero
  add_comm := BitVec.xor_comm
  neg_add_cancel _ := BitVec.xor_self
  mul_assoc := gfMul_assoc
  mul_comm := gfMul_comm
  one_mul a := (gfMul_comm 1#8 a).trans (gfMul_one a)
  mul_one := gfMul_one
  zero_mul := zero_gfMul
  mul_zero := gfMul_zero
  left_distrib := gfMul_xor_right
  right_distrib := gfMul_xor_left
  nsmul := @nsmulRec Byte ⟨0#8⟩ ⟨(· ^^^ ·)⟩
  zsmul := @zsmulRec Byte ⟨0#8⟩ ⟨(· ^^^ ·)⟩ ⟨id⟩ (@nsmulRec Byte ⟨0#8⟩ ⟨(· ^^^ ·)⟩)
  npow n a := gfPow a n
  npow_zero _ := rfl
  npow_succ n a := gfMul_comm a (gfPow a n)

theorem gfPow_succ (a : Byte) (n : Nat) : gfPow a (n + 1) = gfMul a (gfPow a n) := rfl

theorem gfPow_one (a : Byte) : gfPow a 1 = a := gfMul_one a

theorem gfPow_two (a : Byte) : gfPow a 2 = gfMul a a := congrArg (gfMul a) (gfMul_one a)

theorem gfPow_three (a : Byte) : gfPow a 3 = gfMul a (gfMul a a) := congrArg (gfMul a) (gfPow_two a)

theorem gfPow_add (a : Byte) (m n : Nat) : gfPow a (m + n) = gfMul (gfPow a m) (gfPow a n) :=
  @pow_add GF gfRing.toMonoid a m n

theorem gfPow_mul (a : Byte) (m n : Nat) : gfPow a (m * n) = gfPow (gfPow a m) n :=
  @pow_mul GF gfRing.toMonoid a m n

theorem gfPow_alpha (n : Nat) : gfPow 2#8 n = gfX^[n] 1#8 := by
  have hx : gfX^[1] 1#8 = 2#8 := rfl
  induction n with
  | zero => rfl
  | succ n ih =>
    rw [gfPow, ih, ← hx, gfMul_gfX_iterate, gfMul_comm, gfMul_one, ← Function.iterate_add_apply, Nat.add_comm]

/-- The square of a byte: the map is additive, as 2 is zero in the field. -/
def gfSq (a : Byte) : Byte := gfMul a a

theorem gfSq_iterate_xor (n : Nat) (a b : Byte) : gfSq^[n] (a ^^^ b) = gfSq^[n] a ^^^ gfSq^[n] b := by
  induction n with
  | zero => rfl
  | succ n ih =>
    simp only [Function.iterate_succ_apply', ih, gfSq, gfMul_xor_left, gfMul_xor_right]
    rw [gfMul_comm (gfSq^[n] b) (gfSq^[n] a), xor_interchange, BitVec.xor_comm (gfMul (gfSq^[n] a) (gfSq^[n] b)),
      xor_interchange, BitVec.xor_self, BitVec.xor_zero]

theorem gfSq_iterate_eq (n : Nat) (a : Byte) : gfSq^[n] a = gfPow a (2 ^ n) := by
  induction n with
  | zero => exact (gfMul_one a).symm
  | succ n ih =>
    rw [Function.iterate_succ_apply', ih, pow_succ, gfPow_mul, gfPow_two, gfSq]

/-- α to the power 256 is α, by eight squarings. -/
theorem gfPow_alpha_256 : gfPow 2#8 (2 ^ 8) = 2#8 := by
  have hsq : gfSq 2#8 = 0x04#8 ∧ gfSq 0x04#8 = 0x10#8 ∧ gfSq 0x10#8 = 0x1D#8 ∧ gfSq 0x1D#8 = 0x4C#8
    ∧ gfSq 0x4C#8 = 0x9D#8 ∧ gfSq 0x9D#8 = 0x5F#8 ∧ gfSq 0x5F#8 = 0x85#8 ∧ gfSq 0x85#8 = 2#8 := by decide
  rw [← gfSq_iterate_eq]
  simp only [Function.iterate_succ_apply, Function.iterate_zero_apply, hsq]

/-- Squaring eight times gives back each byte: the map is additive, and does so for the powers of α. -/
theorem gfPow_256 (a : Byte) : gfPow a (2 ^ 8) = a := by
  rw [← gfSq_iterate_eq]
  induction a using gf_induction with
  | h0 => exact Function.iterate_fixed (show gfSq 0#8 = 0#8 by decide) 8
  | hadd a b ha hb => rw [gfSq_iterate_xor, ha, hb]
  | hbasis i hi => rw [gfBasis_eq i hi, ← gfPow_alpha, gfSq_iterate_eq, ← gfPow_mul, Nat.mul_comm, gfPow_mul, gfPow_alpha_256]

/-- No byte but 0 and 1 is its own square. -/
theorem gf_idempotent : ∀ e : Byte, gfMul e e = e → e = 0#8 ∨ e = 1#8 := by decide

/-- The power 255 of a byte is its own square, and so 1 where the byte is not 0. -/
theorem gfPow_255 {a : Byte} (ha : a ≠ 0#8) : gfPow a 255 = 1#8 := by
  have hsucc : gfMul a (gfPow a 255) = a := (gfPow_succ a 255).symm.trans (gfPow_256 a)
  have hidem : gfMul (gfPow a 255) (gfPow a 255) = gfPow a 255 := by
    rw [← gfPow_add, show 255 + 255 = 2 ^ 8 + 254 from rfl, gfPow_add, gfPow_256, ← gfPow_succ]
  refine (gf_idempotent _ hidem).resolve_left fun h0 => ha ?_
  rw [← hsucc, h0, gfMul_zero]

theorem gfMul_gfInv {a : Byte} (ha : a ≠ 0#8) : gfMul a (gfInv a) = 1#8 :=
  (gfPow_succ a 254).symm.trans (gfPow_255 ha)

/-- The field of the bytes. -/
@[reducible] def gfField : Field GF where
  toCommRing := gfRing
  inv := gfInv
  exists_pair_ne := ⟨0#8, 1#8, show (0#8 : Byte) ≠ 1#8 by decide⟩
  mul_inv_cancel _ ha := gfMul_gfInv ha
  inv_zero := (gfPow_succ 0#8 253).trans (zero_gfMul _)
  nnqsmul := _
  nnqsmul_def := fun _ _ => rfl
  qsmul := _
  qsmul_def := fun _ _ => rfl

/-! ### Powers of α -/

theorem gfPow_alpha_ne_zero (n : Nat) : gfPow 2#8 n ≠ 0#8 :=
  let := gfField
  pow_ne_zero (M₀ := GF) n (show (2#8 : Byte) ≠ 0#8 by decide)

theorem gfX_iterate_ne_one : ∀ d < 85, gfX^[d + 1] 1#8 ≠ 1#8 := by decide

/-- The first 86 powers of α differ. -/
theorem gfPow_alpha_injOn : Set.InjOn (gfPow 2#8) (Set.Iio 86) := by
  have hlt : ∀ m k, m < k → k < 86 → gfPow 2#8 m ≠ gfPow 2#8 k := by
    intro m k hmk hk h
    obtain ⟨d, rfl⟩ := Nat.exists_eq_add_of_lt hmk
    rw [Nat.add_assoc, gfPow_add] at h
    have hone : gfPow 2#8 (d + 1) = 1#8 := 
      let := gfField
      (mul_eq_left₀ (M₀ := GF) (gfPow_alpha_ne_zero m)).1 h.symm
    exact gfX_iterate_ne_one d (by omega) (gfPow_alpha _ ▸ hone)
  intro m hm k hk h
  rcases lt_trichotomy m k with hmk | rfl | hkm
  · exact absurd h (hlt m k hmk hk)
  · rfl
  · exact absurd h.symm (hlt k m hkm hm)

end Sys2Proof.Machine
end

section
/-! The Reed-Solomon codewords of a flit: their syndromes, and the correction of up to two bytes (R83), for O59. -/

namespace Sys2Proof.Machine

/-! ### The equations of two errors x and y at the locators X and Y, in a ring where 2 is zero -/

section Ring

variable {R : Type} [CommRing R]

theorem two_errors_det (h2 : (2 : R) = 0) (x y X Y : R) :
    (x + y) * (x * (X * X) + y * (Y * Y)) + (x * X + y * Y) * (x * X + y * Y)
      = x * y * ((X + Y) * (X + Y)) := by
  linear_combination (x * x * X * X + y * y * Y * Y) * h2

theorem two_errors_sum (h2 : (2 : R) = 0) (x y X Y : R) :
    (x * X + y * Y) * (x * (X * X) + y * (Y * Y)) + (x + y) * (x * (X * (X * X)) + y * (Y * (Y * Y)))
      = (X + Y) * (x * y * ((X + Y) * (X + Y))) := by
  linear_combination (x * x * X * X * X + y * y * Y * Y * Y - x * y * X * X * Y - x * y * X * Y * Y) * h2

theorem two_errors_prod (h2 : (2 : R) = 0) (x y X Y : R) :
    (x * X + y * Y) * (x * (X * (X * X)) + y * (Y * (Y * Y))) + (x * (X * X) + y * (Y * Y)) * (x * (X * X) + y * (Y * Y))
      = X * Y * (x * y * ((X + Y) * (X + Y))) := by
  linear_combination (x * x * X * X * X * X + y * y * Y * Y * Y * Y) * h2

theorem two_errors_value (h2 : (2 : R) = 0) (x y X Y : R) :
    (x + y) * X + (x * X + y * Y) = y * (X + Y) := by
  linear_combination (x * X) * h2

/-- The polynomial whose roots are two locators. -/
theorem two_errors_roots (X Y Z : R) : Z * Z + (X + Y) * Z + X * Y = (Z + X) * (Z + Y) := by
  ring

end Ring

theorem gf_two : letI := gfRing; (2 : GF) = 0 :=
  let := gfRing
  one_add_one_eq_two.symm.trans BitVec.xor_self

/-! ### The value of a codeword (R83) -/

theorem foldl_gfEval (x r : Byte) (w : Bytes) :
    w.foldl (fun r b => gfMul r x ^^^ b) r = gfMul r (gfPow x w.length) ^^^ gfEval x w := by
  induction w generalizing r with
  | nil => simp [gfEval, gfPow, gfMul_one]
  | cons b w ih =>
    rw [gfEval, List.foldl_cons, List.foldl_cons, ih, ih, List.length_cons, gfPow_succ, zero_gfMul, BitVec.zero_xor,
      gfMul_xor_left, gfMul_assoc, BitVec.xor_assoc]

theorem gfEval_append (x : Byte) (v w : Bytes) :
    gfEval x (v ++ w) = gfMul (gfEval x v) (gfPow x w.length) ^^^ gfEval x w := by
  rw [gfEval, List.foldl_append]
  exact foldl_gfEval ..

theorem gfEval_cons (x b : Byte) (w : Bytes) : gfEval x (b :: w) = gfMul b (gfPow x w.length) ^^^ gfEval x w := by
  rw [gfEval, List.foldl_cons, zero_gfMul, BitVec.zero_xor]
  exact foldl_gfEval ..

/-- A wrong byte adds its error, times a power of x that says where it lies. -/
theorem gfEval_addAt (x : Byte) {w : Bytes} {i : Nat} (e : Byte) (hi : i < w.length) :
    gfEval x (addAt w i e) = gfEval x w ^^^ gfMul e (gfPow x (w.length - 1 - i)) := by
  induction w generalizing i with
  | nil => simp at hi
  | cons b w ih =>
    cases i with
    | zero =>
      simp only [addAt, List.getD_cons_zero, List.set_cons_zero, gfEval_cons, gfMul_xor_left, List.length_cons,
        Nat.add_sub_cancel, Nat.sub_zero]
      rw [BitVec.xor_assoc, BitVec.xor_comm (gfMul e _), BitVec.xor_assoc]
    | succ i =>
      have hi' : i < w.length := by simpa using hi
      have hset : addAt (b :: w) (i + 1) e = b :: addAt w i e := by simp [addAt]
      rw [hset, gfEval_cons, ih hi', gfEval_cons, BitVec.xor_assoc, addAt, List.length_set, List.length_cons]
      congr 4
      omega

@[simp] theorem length_addAt (w : Bytes) (i : Nat) (e : Byte) : (addAt w i e).length = w.length := List.length_set

theorem addAt_zero {w : Bytes} {i : Nat} (hi : i < w.length) : addAt w i 0#8 = w := by
  simp [addAt, hi]

theorem addAt_addAt (w : Bytes) (i : Nat) (d e : Byte) : addAt (addAt w i d) i e = addAt w i (d ^^^ e) := by
  by_cases hi : i < w.length
  · simp [addAt, hi, BitVec.xor_assoc]
  · simp [addAt, List.set_eq_of_length_le, not_lt.1 hi]

theorem addAt_comm (w : Bytes) {i j : Nat} (d e : Byte) (hij : i ≠ j) :
    addAt (addAt w i d) j e = addAt (addAt w j e) i d := by
  unfold addAt
  rw [List.set_comm _ _ hij]
  simp [List.getD_eq_getElem?_getD, List.getElem?_set_ne, hij, hij.symm]

/-! ### Locators -/

theorem rsLoc_injOn {n i j : Nat} (hn : n ≤ 86) (hi : i < n) (hj : j < n) (h : rsLoc n i = rsLoc n j) : i = j := by
  have := gfPow_alpha_injOn (show n - 1 - i < 86 by omega) (show n - 1 - j < 86 by omega) h
  omega

/-- A list of four syndromes, to which an error e at locator X is added. -/
def withErr (s : List Byte) (e X : Byte) : List Byte :=
  List.zipWith (· ^^^ ·) s [e, gfMul e X, gfMul e (gfMul X X), gfMul e (gfMul X (gfMul X X))]

theorem syndromes_addAt {w : Bytes} {i : Nat} (e : Byte) (hi : i < w.length) :
    syndromes (addAt w i e) = withErr (syndromes w) e (rsLoc w.length i) := by
  have hroot : ∀ k, gfPow (gfPow 2#8 k) (w.length - 1 - i) = gfPow (rsLoc w.length i) k := fun k => by
    rw [← gfPow_mul, Nat.mul_comm, gfPow_mul, rsLoc]
  have h1 : gfPow 1#8 (w.length - 1 - i) = 1#8 := hroot 0
  have h4 : gfPow 4#8 (w.length - 1 - i) = gfMul (rsLoc w.length i) (rsLoc w.length i) := by
    rw [← gfPow_two, ← hroot, gfPow_two, show gfMul 2#8 2#8 = 4#8 by decide]
  have h8 : gfPow 8#8 (w.length - 1 - i)
      = gfMul (rsLoc w.length i) (gfMul (rsLoc w.length i) (rsLoc w.length i)) := by
    rw [← gfPow_three, ← hroot, gfPow_three, show gfMul 2#8 (gfMul 2#8 2#8) = 8#8 by decide]
  simp only [syndromes, withErr, gfEval_addAt _ e hi, h1, h4, h8, gfMul_one, List.zipWith_cons_cons, List.zipWith_nil_left]
  rfl

/-! ### What the decoder does with four syndromes -/

/-- The byte at locator x of a codeword, seen as the only wrong one, explains the syndromes. -/
def oneErr (s0 s1 s2 s3 x : Byte) : Bool := s0 != 0#8 && gfMul s0 x == s1 && gfMul s1 x == s2 && gfMul s2 x == s3

/-- The locator x is a root of the polynomial that has the locators of two wrong bytes as its roots. -/
def twoErr (a b x : Byte) : Bool := gfMul x x ^^^ gfMul a x ^^^ b == 0#8

section Decoder

variable {w : Bytes} {s0 s1 s2 s3 : Byte} {i j : Nat}

theorem rsFix_clean (hs : syndromes w = [0#8, 0#8, 0#8, 0#8]) : rsFix w = (w, 0) := by
  simp [rsFix, hs]

theorem rsFix_one (hs : syndromes w = [s0, s1, s2, s3]) (h0 : s0 ≠ 0#8)
    (hone : (List.range w.length).find? (fun i => oneErr s0 s1 s2 s3 (rsLoc w.length i)) = some i) :
    rsFix w = (addAt w i s0, 1) := by
  unfold oneErr at hone
  simp only [rsFix, hs, h0, false_and, if_false, hone]

theorem rsFix_two {a b ej : Byte} (hs : syndromes w = [s0, s1, s2, s3]) (hdet : gfMul s0 s2 ^^^ gfMul s1 s1 ≠ 0#8)
    (hone : (List.range w.length).find? (fun i => oneErr s0 s1 s2 s3 (rsLoc w.length i)) = none)
    (ha : gfMul (gfMul s1 s2 ^^^ gfMul s0 s3) (gfInv (gfMul s0 s2 ^^^ gfMul s1 s1)) = a)
    (hb : gfMul (gfMul s1 s3 ^^^ gfMul s2 s2) (gfInv (gfMul s0 s2 ^^^ gfMul s1 s1)) = b)
    (htwo : (List.range w.length).filter (fun i => twoErr a b (rsLoc w.length i)) = [i, j])
    (hej : gfMul (gfMul s0 (rsLoc w.length i) ^^^ s1) (gfInv (rsLoc w.length i ^^^ rsLoc w.length j)) = ej) :
    rsFix w = (addAt (addAt w i (s0 ^^^ ej)) j ej, 2) := by
  have hne : ¬(s0 = 0#8 ∧ s1 = 0#8 ∧ s2 = 0#8 ∧ s3 = 0#8) := by
    rintro ⟨rfl, rfl, -⟩
    exact hdet (by rw [zero_gfMul, zero_gfMul, BitVec.xor_self])
  unfold oneErr at hone
  unfold twoErr at htwo
  simp only [rsFix, hs, hne, if_false, hone, hdet, ha, hb, htwo, hej]

end Decoder

/-! ### One wrong byte, and two -/

theorem gfMul_left_cancel {a b c : Byte} (ha : a ≠ 0#8) (h : gfMul a b = gfMul a c) : b = c :=
  let := gfField
  mul_left_cancel₀ (M₀ := GF) ha h

theorem gfMul_ne_zero {a b : Byte} (ha : a ≠ 0#8) (hb : b ≠ 0#8) : gfMul a b ≠ 0#8 :=
  let := gfField
  mul_ne_zero (M₀ := GF) ha hb

theorem gfMul_mul_gfInv (a : Byte) {b : Byte} (hb : b ≠ 0#8) : gfMul (gfMul a b) (gfInv b) = a := by
  rw [gfMul_assoc, gfMul_gfInv hb, gfMul_one]

section Correction

variable {w : Bytes} {i j : Nat} {x y : Byte}

theorem rsFix_addAt (hw : w.length ≤ 86) (hs : syndromes w = [0#8, 0#8, 0#8, 0#8]) (hi : i < w.length) (hx : x ≠ 0#8) :
    rsFix (addAt w i x) = (w, 1) := by
  have hsyn : syndromes (addAt w i x) = _ := syndromes_addAt x hi
  rw [hs] at hsyn
  simp only [withErr, List.zipWith_cons_cons, List.zipWith_nil_left, BitVec.zero_xor] at hsyn
  have hfix := rsFix_one (i := i) hsyn hx ?_
  · rw [hfix, addAt_addAt, BitVec.xor_self, addAt_zero hi]
  · rw [length_addAt, List.find?_range_eq_some]
    refine ⟨?_, List.mem_range.2 hi, fun k hk => ?_⟩
    · simp [oneErr, hx, gfMul_assoc]
    · have hk' : gfMul x (rsLoc w.length k) ≠ gfMul x (rsLoc w.length i) := fun h =>
        hk.ne (rsLoc_injOn hw (hk.trans hi) hi (gfMul_left_cancel hx h))
      simp [oneErr, hk']

/-- One wrong byte explains no syndromes whose determinant is not zero. -/
theorem oneErr_eq_false {s0 s1 s2 : Byte} (s3 z : Byte) (hdet : gfMul s0 s2 ^^^ gfMul s1 s1 ≠ 0#8) :
    oneErr s0 s1 s2 s3 z = false := by
  rw [Bool.eq_false_iff]
  intro h
  simp only [oneErr, Bool.and_eq_true, beq_iff_eq] at h
  obtain ⟨⟨⟨-, rfl⟩, rfl⟩, -⟩ := h
  refine hdet (BitVec.xor_eq_zero_iff.2 ?_)
  rw [gfMul_comm (gfMul s0 z) z, ← gfMul_assoc]

/-- The numbers below n that are one of two are those two. -/
theorem filter_range_pair {n : Nat} (hij : i < j) (hj : j < n) {p : Nat → Bool} (hp : ∀ k < n, p k = true ↔ k = i ∨ k = j) :
    (List.range n).filter p = [i, j] := by
  refine (List.pairwise_lt_range.filter p).eq_of_mem_iff (r := (· < ·)) (by simpa using hij) fun k => ?_
  rw [List.mem_filter, List.mem_range, List.mem_cons, List.mem_singleton]
  exact ⟨fun ⟨hk, h⟩ => (hp k hk).1 h, fun h => ⟨by omega, (hp k (by omega)).2 h⟩⟩

/-- A locator is a root where it is one of the two. -/
theorem twoErr_iff (X Y Z : Byte) : twoErr (X ^^^ Y) (gfMul X Y) Z = true ↔ Z = X ∨ Z = Y := by
  have hfactor : gfMul Z Z ^^^ gfMul (X ^^^ Y) Z ^^^ gfMul X Y = gfMul (Z ^^^ X) (Z ^^^ Y) :=
    @two_errors_roots GF gfRing X Y Z
  rw [twoErr, hfactor, beq_iff_eq, ← BitVec.xor_eq_zero_iff (x := Z) (y := X), ← BitVec.xor_eq_zero_iff (x := Z) (y := Y)]
  refine ⟨fun h => ?_, ?_⟩
  · by_contra! hne
    exact gfMul_ne_zero hne.1 hne.2 h
  · rintro (h | h)
    · rw [h, zero_gfMul]
    · rw [h, gfMul_zero]

theorem rsFix_addAt_addAt (hw : w.length ≤ 86) (hs : syndromes w = [0#8, 0#8, 0#8, 0#8]) (hij : i < j) (hj : j < w.length)
    (hx : x ≠ 0#8) (hy : y ≠ 0#8) : rsFix (addAt (addAt w i x) j y) = (w, 2) := by
  have hi : i < w.length := hij.trans hj
  have hsyn : syndromes (addAt (addAt w i x) j y) = _ := syndromes_addAt y (by simpa using hj)
  rw [syndromes_addAt x hi, hs, length_addAt] at hsyn
  obtain ⟨X, hX⟩ : ∃ X, rsLoc w.length i = X := ⟨_, rfl⟩
  obtain ⟨Y, hY⟩ : ∃ Y, rsLoc w.length j = Y := ⟨_, rfl⟩
  simp only [withErr, List.zipWith_cons_cons, List.zipWith_nil_left, BitVec.zero_xor, hX, hY] at hsyn
  have hXY : X ^^^ Y ≠ 0#8 := fun h =>
    hij.ne (rsLoc_injOn hw hi hj (hX.trans ((BitVec.xor_eq_zero_iff.1 h).trans hY.symm)))
  have hdet := @two_errors_det GF gfRing gf_two x y X Y
  have hsum := @two_errors_sum GF gfRing gf_two x y X Y
  have hprod := @two_errors_prod GF gfRing gf_two x y X Y
  have hval := @two_errors_value GF gfRing gf_two x y X Y
  have hdet0 := gfMul_ne_zero (gfMul_ne_zero hx hy) (gfMul_ne_zero hXY hXY)
  have hfix := rsFix_two (w := addAt (addAt w i x) j y) (i := i) (j := j) (a := X ^^^ Y) (b := gfMul X Y) (ej := y) hsyn
    (ne_of_eq_of_ne hdet hdet0) ?one ?a ?b ?two ?ej
  case one =>
    exact List.find?_range_eq_none.2 fun k _ => congrArg (!·) (oneErr_eq_false _ _ (ne_of_eq_of_ne hdet hdet0))
  case a => exact (congrArg₂ gfMul hsum (congrArg gfInv hdet)).trans (gfMul_mul_gfInv _ hdet0)
  case b => exact (congrArg₂ gfMul hprod (congrArg gfInv hdet)).trans (gfMul_mul_gfInv _ hdet0)
  case two =>
    rw [length_addAt, length_addAt]
    refine filter_range_pair hij hj fun k hk => ?_
    rw [twoErr_iff, ← hX, ← hY]
    exact or_congr ⟨rsLoc_injOn hw hk hi, fun h => h ▸ rfl⟩ ⟨rsLoc_injOn hw hk hj, fun h => h ▸ rfl⟩
  case ej =>
    rw [length_addAt, length_addAt, hX, hY]
    exact (congrArg (gfMul · _) hval).trans (gfMul_mul_gfInv y hXY)
  rw [hfix, BitVec.xor_assoc, BitVec.xor_self, BitVec.xor_zero, addAt_comm _ _ _ hij.ne, addAt_addAt, BitVec.xor_self,
    addAt_zero (by simpa using hj), addAt_addAt, BitVec.xor_self, addAt_zero hi]

end Correction

/-- Settles O59: the syndromes of a codeword with wrong bytes are sums over those bytes, and the decoder solves for them. -/
theorem codewordCorrectsTwoBytes : Obligations.CodewordCorrectsTwoBytes := by
  intro w i j x y hw hs hi hj hij hx hy
  refine ⟨rsFix_clean hs, rsFix_addAt hw hs hi hx, ?_⟩
  rcases lt_or_gt_of_ne hij with h | h
  · exact rsFix_addAt_addAt hw hs h hj hx hy
  · rw [addAt_comm _ _ _ hij]
    exact rsFix_addAt_addAt hw hs h hi hy hx

end Sys2Proof.Machine
end

section
/-! The flit as it is sent and decoded, and its header (R79, R83, R84), for O58. -/

namespace Sys2Proof.Machine

variable {c i n : Nat} {f g m w : Bytes}

/-! ### Codewords and their interleaving (R83) -/

theorem bytes_ext (hlen : f.length = g.length) (h : ∀ i < f.length, f.getD i 0#8 = g.getD i 0#8) : f = g := by
  refine List.ext_getElem hlen fun i hf hg => ?_
  simpa [hf, hg] using h i hf

theorem filter_range_mod (hc : c < 3) (n : Nat) :
    ((List.range n).filter fun i => i % 3 == c) = (List.range ((n + 2 - c) / 3)).map fun k => 3 * k + c := by
  induction n with
  | zero => simp [show (0 + 2 - c) / 3 = 0 by omega]
  | succ n ih =>
    rw [List.range_succ, List.filter_append, ih]
    by_cases h : n % 3 = c
    · rw [show (n + 1 + 2 - c) / 3 = (n + 2 - c) / 3 + 1 by omega, List.range_succ, List.map_append]
      simp [h, show 3 * ((n + 2 - c) / 3) + c = n by omega]
    · rw [show (n + 1 + 2 - c) / 3 = (n + 2 - c) / 3 by omega]
      simp [h]

theorem codeword_eq (hc : c < 3) (f : Bytes) :
    codeword c f = (List.range ((f.length + 2 - c) / 3)).map fun k => f.getD (3 * k + c) 0#8 := by
  rw [codeword, filter_range_mod hc, List.map_map]
  rfl

theorem length_codeword (hc : c < 3) (f : Bytes) : (codeword c f).length = (f.length + 2 - c) / 3 := by
  rw [codeword_eq hc, List.length_map, List.length_range]

theorem getD_codeword (hc : c < 3) (f : Bytes) (k : Nat) : (codeword c f).getD k 0#8 = f.getD (3 * k + c) 0#8 := by
  rw [codeword_eq hc, List.getD_eq_getElem?_getD, List.getElem?_map]
  by_cases hk : k < (f.length + 2 - c) / 3
  · rw [List.getElem?_range hk]
    rfl
  · rw [List.getElem?_eq_none (by simpa using hk), List.getD_eq_default _ _ (by omega)]
    rfl

theorem getD_addAt {k : Nat} (hk : k < w.length) (e : Byte) :
    (addAt w i e).getD k 0#8 = if i = k then w.getD k 0#8 ^^^ e else w.getD k 0#8 := by
  unfold addAt
  split
  · next h => simp [h, hk]
  · next h => simp [List.getD_eq_getElem?_getD, List.getElem?_set_ne h]

/-- One byte of a flit changed is one byte changed in the codeword that has it. -/
theorem codeword_set (hc : c < 3) (hi : i < f.length) (v : Byte) :
    codeword c (f.set i v)
      = if i % 3 = c then addAt (codeword c f) (i / 3) (f.getD i 0#8 ^^^ v) else codeword c f := by
  have hlen : (codeword c (f.set i v)).length = (codeword c f).length := by
    rw [length_codeword hc, length_codeword hc, List.length_set]
  have hget : ∀ k, (codeword c (f.set i v)).getD k 0#8 = if i = 3 * k + c then v else (codeword c f).getD k 0#8 := by
    intro k
    rw [getD_codeword hc, getD_codeword hc]
    split
    · next h => simp [← h, hi]
    · next h => simp [List.getD_eq_getElem?_getD, List.getElem?_set_ne h]
  split
  · next h =>
    refine bytes_ext (by rw [hlen, length_addAt]) fun k hlt => ?_
    rw [hget, getD_addAt (by omega)]
    by_cases hik : i / 3 = k
    · subst hik
      rw [if_pos (by omega), if_pos rfl, getD_codeword hc, show 3 * (i / 3) + c = i by omega, ← BitVec.xor_assoc,
        BitVec.xor_self, BitVec.zero_xor]
    · rw [if_neg (by omega), if_neg hik]
  · next h =>
    refine bytes_ext hlen fun k _ => ?_
    rw [hget, if_neg (by omega)]

@[simp] theorem length_interleave (ws : List Bytes) : (interleave ws).length = 256 := by
  simp [interleave]

theorem getD_interleave (ws : List Bytes) (hi : i < 256) :
    (interleave ws).getD i 0#8 = (ws.getD (i % 3) []).getD (i / 3) 0#8 := by
  rw [interleave, List.getD_eq_getElem?_getD, List.getElem?_map, List.getElem?_range hi]
  rfl

theorem codeword_interleave {ws : List Bytes} (hc : c < 3) (hw : (ws.getD c []).length = (258 - c) / 3) :
    codeword c (interleave ws) = ws.getD c [] := by
  have hlen := length_codeword hc (interleave ws)
  rw [length_interleave] at hlen
  refine bytes_ext (by omega) fun k hk => ?_
  rw [getD_codeword hc, getD_interleave _ (by omega), show (3 * k + c) % 3 = c by omega,
    show (3 * k + c) / 3 = k by omega]

theorem interleave_codewords (hf : f.length = 256) :
    interleave (([0, 1, 2] : List Nat).map fun c => codeword c f) = f := by
  refine bytes_ext (by simp [hf]) fun i hi => ?_
  rw [length_interleave] at hi
  have hrow : (([0, 1, 2] : List Nat).map fun c => codeword c f).getD (i % 3) [] = codeword (i % 3) f := by
    obtain h | h | h : i % 3 = 0 ∨ i % 3 = 1 ∨ i % 3 = 2 := by omega
    all_goals
      rw [h]
      rfl
  rw [getD_interleave _ hi, hrow, getD_codeword (by omega), show 3 * (i / 3) + i % 3 = i by omega]

/-- A flit decodes to the one whose codewords are those of the flit corrected. -/
theorem fecDecode_eq {k : Nat → Nat} (hg : g.length = 256) (h : ∀ c < 3, rsFix (codeword c f) = (codeword c g, k c)) :
    fecDecode f = (g, k 0 + k 1 + k 2) := by
  have hall : ([0, 1, 2] : List Nat).map (fun c => rsFix (codeword c f)) = [0, 1, 2].map fun c => (codeword c g, k c) := by
    simp only [List.map_cons, h 0 (by omega), h 1 (by omega), h 2 (by omega), List.map_nil]
  have hflit := interleave_codewords hg
  simp only [List.map_cons, List.map_nil] at hflit
  simp only [fecDecode, hall, List.map_cons, List.map_nil, hflit, List.sum_cons, List.sum_nil,
    Nat.add_zero, Nat.add_assoc]

/-! ### Check bytes (R83) -/

/-- One byte more of a message in the division by the generator. -/
def rsStep (r : Bytes) (b : Byte) : Bytes :=
  (List.zip (r.tail ++ [0#8]) rsGen).map fun t => t.1 ^^^ gfMul (b ^^^ r.headD 0#8) t.2

theorem rsCheck_eq (w : Bytes) : rsCheck w = w.foldl rsStep [0#8, 0#8, 0#8, 0#8] := rfl

theorem rsCheck_append (w : Bytes) (b : Byte) : rsCheck (w ++ [b]) = rsStep (rsCheck w) b := by
  rw [rsCheck_eq, List.foldl_append]
  rfl

/-- The product of the polynomial p by x - r. -/
def rsTimes (p : Bytes) (r : Byte) : Bytes := (List.zip (p ++ [0#8]) (0#8 :: p)).map fun t => t.1 ^^^ gfMul r t.2

/-- The generator as a product, and its coefficients. -/
theorem rsGen_eq : 1#8 :: rsGen = rsTimes (rsTimes (rsTimes (rsTimes [1#8] 1#8) 2#8) 4#8) 8#8
    ∧ rsGen = [0x0F#8, 0x36#8, 0x78#8, 0x40#8] := by
  obtain ⟨h1, h2, h3, h4⟩ : rsTimes [1#8] 1#8 = [1#8, 1#8] ∧ rsTimes [1#8, 1#8] 2#8 = [1#8, 3#8, 2#8]
    ∧ rsTimes [1#8, 3#8, 2#8] 4#8 = [1#8, 0x07#8, 0x0E#8, 8#8]
    ∧ rsTimes [1#8, 0x07#8, 0x0E#8, 8#8] 8#8 = [1#8, 0x0F#8, 0x36#8, 0x78#8, 0x40#8] := by decide
  have hgen : rsGen = (rsTimes (rsTimes (rsTimes (rsTimes [1#8] 1#8) 2#8) 4#8) 8#8).tail := rfl
  rw [hgen, h1, h2, h3, h4]
  exact ⟨rfl, rfl⟩

theorem length_rsGen : rsGen.length = 4 := by
  rw [rsGen_eq.2]
  rfl

theorem gfEval_zip (x e : Byte) (v w : Bytes) (h : v.length = w.length) :
    gfEval x ((List.zip v w).map fun t => t.1 ^^^ gfMul e t.2) = gfEval x v ^^^ gfMul e (gfEval x w) := by
  induction v generalizing w with
  | nil =>
    cases w with
    | nil => exact (BitVec.zero_xor.trans (gfMul_zero e)).symm
    | cons b w => simp at h
  | cons a v ih =>
    cases w with
    | nil => simp at h
    | cons b w =>
      have hlen : v.length = w.length := by simpa using h
      simp only [List.zip_cons_cons, List.map_cons, gfEval_cons, ih w hlen, List.length_map, List.length_zip, hlen,
        Nat.min_self, gfMul_xor_left, gfMul_xor_right, gfMul_assoc]
      rw [xor_interchange]

theorem gfEval_singleton (x b : Byte) : gfEval x [b] = b := by
  rw [gfEval_cons, List.length_nil, gfPow, gfMul_one]
  exact BitVec.xor_zero

theorem gfEval_rsTimes (x r : Byte) (p : Bytes) : gfEval x (rsTimes p r) = gfMul (gfEval x p) (x ^^^ r) := by
  rw [rsTimes, gfEval_zip _ _ _ _ (by simp), gfEval_append, gfEval_singleton, gfEval_cons, zero_gfMul, BitVec.zero_xor,
    BitVec.xor_zero, List.length_singleton, gfPow_one, gfMul_xor_right, gfMul_comm r]

/-- The four roots of the generator: each makes one of its factors zero. -/
theorem gfEval_rsGen {x : Byte} (hx : x ∈ ([1#8, 2#8, 4#8, 8#8] : List Byte)) : gfEval x rsGen = gfPow x 4 := by
  have hzero : gfEval x (1#8 :: rsGen) = 0#8 := by
    simp only [rsGen_eq.1, gfEval_rsTimes, gfEval_singleton]
    simp only [List.mem_cons, List.not_mem_nil, or_false] at hx
    rcases hx with rfl | rfl | rfl | rfl <;> simp only [BitVec.xor_self, zero_gfMul, gfMul_zero]
  rw [gfEval_cons, length_rsGen, gfMul_comm, gfMul_one, BitVec.xor_eq_zero_iff] at hzero
  exact hzero.symm

theorem length_rsCheck (w : Bytes) : (rsCheck w).length = 4 := by
  induction w using List.reverseRecOn with
  | nil => rfl
  | append_singleton w b ih => simp [rsCheck_append, rsStep, ih, length_rsGen]

/-- The remainder r0 :: t of a message of value e at a root x, with p3 and p4 for x^3 and x^4, when the byte b follows. -/
theorem remainder_step {R : Type} [CommRing R] {x p3 p4 r0 t e : R} (b : R) (hp : p4 = x * p3) (h : r0 * p3 + t = e * p4) :
    t * x + (b + r0) * p4 = (e * x + b) * p4 := by
  linear_combination x * h + r0 * hp

/-- At a root of the generator the message, four places up, has the value of its check bytes. -/
theorem gfEval_rsCheck {x : Byte} (hx : x ∈ ([1#8, 2#8, 4#8, 8#8] : List Byte)) (w : Bytes) :
    gfEval x (rsCheck w) = gfMul (gfEval x w) (gfPow x 4) := by
  induction w using List.reverseRecOn with
  | nil => simp [rsCheck_eq, gfEval, zero_gfMul]
  | append_singleton w b ih =>
    have hlen := length_rsCheck w
    obtain ⟨r0, t, hr⟩ := List.exists_cons_of_length_pos (by omega : 0 < (rsCheck w).length)
    rw [hr, List.length_cons] at hlen
    have ht : t.length = 3 := by omega
    rw [hr, gfEval_cons, ht] at ih
    rw [rsCheck_append, hr, rsStep, List.tail_cons, List.headD_cons, gfEval_zip _ _ _ _ (by simp [ht, length_rsGen]),
      gfEval_append, gfEval_singleton, BitVec.xor_zero, gfEval_rsGen hx, gfEval_append, gfEval_singleton]
    simp only [List.length_singleton, gfPow_one]
    exact @remainder_step GF gfRing x (gfPow x 3) (gfPow x 4) r0 (gfEval x t) (gfEval x w) b (gfPow_succ x 3) ih

/-- A message with its check bytes is a codeword. -/
theorem syndromes_append_rsCheck (w : Bytes) : syndromes (w ++ rsCheck w) = [0#8, 0#8, 0#8, 0#8] := by
  have h : ∀ x ∈ ([1#8, 2#8, 4#8, 8#8] : List Byte), gfEval x (w ++ rsCheck w) = 0#8 := fun x hx => by
    rw [gfEval_append, length_rsCheck, gfEval_rsCheck hx, BitVec.xor_self]
  rw [syndromes, h _ (by decide), h _ (by decide), h _ (by decide), h _ (by decide)]

/-! ### The flit that is sent (R83) -/

/-- The first 244 bytes of the flit: header, payload and CRC. -/
def flitBody (b : Bytes) : Bytes := b ++ beBytes 8 (crc64 b).toNat

/-- Codeword c of the flit: bytes of its body and their check bytes. -/
def sentWord (b : Bytes) (c : Nat) : Bytes := codeword c (flitBody b) ++ rsCheck (codeword c (flitBody b))

theorem fecEncode_eq (b : Bytes) : fecEncode b = interleave (([0, 1, 2] : List Nat).map (sentWord b)) := rfl

theorem getD_sentWords (hc : c < 3) (b : Bytes) : (([0, 1, 2] : List Nat).map (sentWord b)).getD c [] = sentWord b c := by
  obtain rfl | rfl | rfl : c = 0 ∨ c = 1 ∨ c = 2 := by omega
  all_goals rfl

theorem length_leBytes (n v : Nat) : (leBytes n v).length = n := by
  induction n generalizing v with
  | zero => rfl
  | succ n ih => rw [leBytes, List.length_cons, ih]

theorem length_beBytes (n v : Nat) : (beBytes n v).length = n := by rw [beBytes, List.length_reverse, length_leBytes]

theorem length_fecEncode (b : Bytes) : (fecEncode b).length = 256 := length_interleave _

section Sent

variable {b : Bytes}

section
variable (hb : b.length = 236)
include hb

theorem length_flitBody : (flitBody b).length = 244 := by rw [flitBody, List.length_append, hb, length_beBytes]

theorem codeword_fecEncode (hc : c < 3) : codeword c (fecEncode b) = sentWord b c := by
  have hlen : (sentWord b c).length = (258 - c) / 3 := by
    rw [sentWord, List.length_append, length_codeword hc, length_rsCheck, length_flitBody hb]
    omega
  rw [fecEncode_eq, codeword_interleave hc (by rw [getD_sentWords hc, hlen]), getD_sentWords hc]

theorem syndromes_fecEncode (hc : c < 3) : syndromes (codeword c (fecEncode b)) = [0#8, 0#8, 0#8, 0#8] := by
  rw [codeword_fecEncode hb hc]
  exact syndromes_append_rsCheck _

theorem take_fecEncode : (fecEncode b).take 244 = flitBody b := by
  have hlen := length_flitBody hb
  refine bytes_ext (by simp [length_fecEncode, hlen]) fun i hi => ?_
  have hi' : i < 244 := by simpa [length_fecEncode] using hi
  have hlt : i / 3 < (codeword (i % 3) (flitBody b)).length := by
    rw [length_codeword (by omega), hlen]
    omega
  have htake : ((fecEncode b).take 244).getD i 0#8 = (fecEncode b).getD i 0#8 := by
    simp [List.getD_eq_getElem?_getD, hi']
  rw [htake, fecEncode_eq, getD_interleave _ (by omega), getD_sentWords (by omega), sentWord,
    List.getD_append _ _ _ _ hlt, getD_codeword (by omega), show 3 * (i / 3) + i % 3 = i by omega]

theorem take_236_fecEncode : (fecEncode b).take 236 = b := by
  have h := congrArg (List.take 236) (take_fecEncode hb)
  rwa [List.take_take, flitBody, List.take_left' hb] at h

theorem crcOk_fecEncode : crcOk (fecEncode b) = true := by
  have h : slice (fecEncode b) 236 8 = (((fecEncode b).take 244).drop 236) := by
    rw [slice, List.drop_take]
  rw [crcOk, take_236_fecEncode hb, h, take_fecEncode hb, flitBody, List.drop_left' hb, beq_self_eq_true]

theorem fecDecode_fecEncode : fecDecode (fecEncode b) = (fecEncode b, 0) :=
  fecDecode_eq (k := fun _ => 0) (length_fecEncode b) fun _ hc => rsFix_clean (syndromes_fecEncode hb hc)

/-- One wrong byte lies in one codeword, which corrects it. -/
theorem fecDecode_set (hi : i < 256) {v : Byte} (hv : v ≠ (fecEncode b).getD i 0#8) :
    fecDecode ((fecEncode b).set i v) = (fecEncode b, 1) := by
  have hlen := length_fecEncode b
  have hfix : ∀ c < 3, rsFix (codeword c ((fecEncode b).set i v))
      = (codeword c (fecEncode b), if i % 3 = c then 1 else 0) := by
    intro c hc
    rw [codeword_set hc (by omega)]
    split
    · have hw : (codeword c (fecEncode b)).length = (258 - c) / 3 := by rw [length_codeword hc, hlen]
      exact rsFix_addAt (by omega) (syndromes_fecEncode hb hc) (by omega)
        fun h => hv (BitVec.xor_eq_zero_iff.1 h).symm
    · exact rsFix_clean (syndromes_fecEncode hb hc)
  rw [fecDecode_eq hlen hfix]
  congr 1
  obtain h | h | h : i % 3 = 0 ∨ i % 3 = 1 ∨ i % 3 = 2 := by omega
  all_goals simp [h]

end

end Sent

/-! ### Headers (R79) -/

theorem flitHdr_bytes (h : FlitHdr) (rest : Bytes) (hseq : h.seq < 65536) (hackSeq : h.ackSeq < 65536) (hack : h.ack < 4)
    (hftype : h.ftype < 4) (hcmark : h.cmark < 256) (hstart : h.slotStart < 16384) (hvc0 : h.cret0.1 < 8)
    (hn0 : h.cret0.2 < 8192) (hvc1 : h.cret1.1 < 8) (hn1 : h.cret1.2 < 8192) : flitHdr (h.bytes ++ rest) = h := by
  obtain ⟨seq, ackSeq, ack, ftype, replay, cmark, slotStart, ⟨vc0, n0⟩, ⟨vc1, n1⟩⟩ := h
  have hreplay : ∀ n, n.testBit 3 = decide (n / 2 ^ 3 % 2 = 1) := fun n => Nat.testBit_eq_decide_div_mod_eq
  simp only [FlitHdr.bytes, flitHdr, leBytes, List.cons_append, List.nil_append, leN, u8, List.getD_cons_zero,
    List.getD_cons_succ, BitVec.toNat_ofNat, hreplay, FlitHdr.mk.injEq, Prod.mk.injEq] at *
  cases replay
  all_goals
    simp only [decide_eq_true_eq, decide_eq_false_iff_not, Bool.false_eq_true, if_true, if_false]
    refine ⟨?_, ?_, ?_, ?_, ?_, ?_, ?_, ⟨?_, ?_⟩, ?_, ?_⟩
    all_goals omega

/-- Settles O58: the body of a flit and its check bytes are three codewords, and the header is read field by field. -/
theorem flitCodec : Obligations.FlitCodec :=
  ⟨fun b hb => ⟨length_fecEncode b, take_236_fecEncode hb, crcOk_fecEncode hb, fun _ hc => syndromes_fecEncode hb hc,
    fecDecode_fecEncode hb, fun _ _ hi hv => fecDecode_set hb hi hv⟩, flitHdr_bytes⟩

end Sys2Proof.Machine
end

section
/-! What is read of a port after each operation of its fabric link (R76 to R109), for O13 to O17: the fields of its
registers, each by its place in the blocks of ports, and the data beside them. -/

namespace Sys2Proof.Machine

/-! ### Fields of the blocks of ports -/

/-- The field at the place of f in the block of port p. -/
def Fld.ofPort (f : Fld) (p : Nat) : Fld := { f with reg := { f.reg with addr := f.reg.addr + 0x10000 * p } }

/-- Two fields that share no bit, neither in one block nor in those of two ports with the same number. -/
def Fld.apart (f g : Fld) : Bool :=
  f.reg.addr != g.reg.addr || f.reg == g.reg && (decide (f.hi < g.lo) || decide (g.hi < f.lo))

/-- A field within the registers of PORT[0] or OFL[0]. -/
def Fld.inPort (f : Fld) : Bool := f.ok && decide (0x42000000 ≤ f.reg.addr) && decide (f.reg.addr < 0x43010000)

/-- φ names one field of each port, φ p that of port p, and shares no bit with the fields l of port 0. -/
structure PortFld (φ : Nat → Fld) (l : List Fld) : Prop where
  place : ∀ p, φ p = (φ 0).ofPort p
  clear : ((φ 0).inPort && l.all fun f => f.apart (φ 0)) = true

section

variable {φ ψ : Nat → Fld} {l m : List Fld}

theorem PortFld.inPort (h : PortFld φ l) : (φ 0).inPort = true := (Bool.and_eq_true_iff.1 h.clear).1

theorem PortFld.apart (h : PortFld φ l) {f : Fld} (hf : f ∈ l) : f.apart (φ 0) = true :=
  List.all_eq_true.1 (Bool.and_eq_true_iff.1 h.clear).2 f hf

theorem PortFld.mono (h : PortFld φ l) (hm : m ⊆ l) : PortFld φ m :=
  ⟨h.place, Bool.and_eq_true_iff.2 ⟨h.inPort, List.all_eq_true.2 fun _ hf => h.apart (hm hf)⟩⟩

theorem PortFld.ok (h : PortFld φ l) : (φ 0).hi < 64 ∧ (φ 0).lo ≤ (φ 0).hi := by
  have := h.inPort
  simp only [Fld.inPort, Fld.ok, Bool.and_eq_true, decide_eq_true_eq] at this
  exact this.1.1

/-- The registers of ports lie between the blocks of Brake and those of the units of the switch. -/
theorem PortFld.addr (h : PortFld φ l) (p : Nat) :
    0x42000000 + 0x10000 * p ≤ (φ p).reg.addr ∧ (φ p).reg.addr < 0x43010000 + 0x10000 * p := by
  have := h.inPort
  simp only [Fld.inPort, Bool.and_eq_true, decide_eq_true_eq] at this
  rw [h.place]
  simp only [Fld.ofPort]
  omega

theorem get_put_port (hφ : PortFld φ []) (hψ : PortFld ψ [φ 0]) (s : State) (n p : Nat) :
    (s.put (φ p) n).get (ψ p) = s.get (ψ p) := by
  have h := hψ.apart List.mem_cons_self
  simp only [Fld.apart, Bool.or_eq_true, Bool.and_eq_true, bne_iff_ne, beq_iff_eq, decide_eq_true_eq] at h
  rw [hφ.place, hψ.place]
  rcases h with h | ⟨hr, hd⟩
  · refine State.get_put_reg _ _ _ _ ?_
    simp only [Fld.ofPort]
    omega
  · refine State.get_put_bits _ _ _ _ ?_ hφ.ok.1 hφ.ok.2 hd
    simp only [Fld.ofPort, hr]

theorem get_inc_port (hφ : PortFld φ []) (hψ : PortFld ψ [φ 0]) (s : State) (n p : Nat) :
    (s.inc (φ p) n).get (ψ p) = s.get (ψ p) := get_put_port hφ hψ ..

theorem get_put_port_self (hφ : PortFld φ []) (s : State) (n p : Nat) :
    (s.put (φ p) n).get (φ p) = n % 2 ^ ((φ 0).hi + 1 - (φ 0).lo) := by
  rw [hφ.place]
  exact State.get_put_self _ _ _ hφ.ok.1 hφ.ok.2

theorem get_raise_port (hψ : PortFld ψ []) (s : State) (p n : Nat) (d : Detail) :
    (s.raise n d).get (ψ p) = s.get (ψ p) := by
  have := hψ.addr p
  refine raise_get _ _ _ _ ?_
  simp only [R.BRK_LOSS]
  omega

/-- A field that shares no bit with a whole register lies in another one. -/
theorem PortFld.addr_ne (hψ : PortFld ψ l) {r : Reg} (hr : (⟨r, 63, 0⟩ : Fld) ∈ l) : (ψ 0).reg.addr ≠ r.addr := by
  have hok := hψ.ok
  have h := hψ.apart hr
  simp only [Fld.apart, Bool.or_eq_true, Bool.and_eq_true, bne_iff_ne, decide_eq_true_eq] at h
  rcases h with h | ⟨-, h⟩
  · exact h.symm
  · omega

theorem get_wr_seq (hψ : PortFld ψ [⟨R.OFL_SEQ 0, 63, 0⟩]) (s : State) (p : Nat) (v : Word) :
    (s.wr (R.OFL_SEQ p) v).get (ψ p) = s.get (ψ p) := by
  have h := hψ.addr_ne List.mem_cons_self
  refine State.get_wr_ne _ _ _ _ ?_
  rw [hψ.place]
  simp only [Fld.ofPort, R.OFL_SEQ] at h ⊢
  omega

/-- The registers of the credits of a port's channels. -/
def txCreditFlds : List Fld := [⟨R.OFL_TX_CREDIT0 0, 63, 0⟩, ⟨R.OFL_TX_CREDIT1 0, 63, 0⟩]

theorem get_put_txCredit (hψ : PortFld ψ txCreditFlds) (s : State) (p vc n : Nat) :
    (s.put (txCredit p vc) n).get (ψ p) = s.get (ψ p) := by
  have h0 := hψ.addr_ne List.mem_cons_self
  have h1 := hψ.addr_ne (List.mem_cons_of_mem _ List.mem_cons_self)
  refine State.get_put_reg _ _ _ _ ?_
  rw [hψ.place]
  unfold txCredit
  split
  · simp only [Fld.ofPort, R.OFL_TX_CREDIT0] at h0 ⊢
    omega
  · simp only [Fld.ofPort, R.OFL_TX_CREDIT1] at h1 ⊢
    omega

end

/-! ### Data beside the registers -/

section

variable (s : State) (p q : Nat)

@[simp] theorem put_ox (f : Fld) (n : Nat) : (s.put f n).ox p = s.ox p := by
  simp only [State.ox, put_ofl]
@[simp] theorem inc_ox (f : Fld) (n : Nat) : (s.inc f n).ox p = s.ox p := by
  simp only [State.ox, inc_ofl]
@[simp] theorem wr_ox (r : Reg) (v : Word) : (s.wr r v).ox p = s.ox p := by
  simp only [State.ox, wr_ofl]
@[simp] theorem out_ox (o : Out) : (s.out o).ox p = s.ox p := by
  simp only [State.ox, out_ofl]
@[simp] theorem modPx_ox (g : PortX → PortX) : (s.modPx q g).ox p = s.ox p := by
  simp only [State.ox, modPx_ofl]
@[simp] theorem setWait_ox (w : PortWait) : (setWait s q w).ox p = s.ox p := by
  simp only [State.ox, setWait_ofl]
@[simp] theorem raise_ox (n : Nat) (d : Detail) : (s.raise n d).ox p = s.ox p := by
  simp only [State.ox, raise_ofl]
@[simp] theorem injWrite_outs (target i a : Nat) : (injWrite s target i a).outs = s.outs := by
  unfold injWrite
  dsimp only
  split <;> rfl

@[simp] theorem put_px (f : Fld) (n : Nat) : (s.put f n).px p = s.px p := by
  simp only [State.px, put_ports]
@[simp] theorem wr_px (r : Reg) (v : Word) : (s.wr r v).px p = s.px p := by
  simp only [State.px, wr_ports]
@[simp] theorem setOx_px (x : OflX) : (s.setOx q x).px p = s.px p := by
  simp only [State.px, setOx_ports]
@[simp] theorem raise_px (n : Nat) (d : Detail) : (s.raise n d).px p = s.px p := by
  simp only [State.px, raise_ports]

end

end Sys2Proof.Machine
end

section
/-! Sending and replaying flits (R77, R86 to R89), for O13. -/

namespace Sys2Proof.Machine

variable {s t u : State} {p : Nat}

/-! ### What sending a flit leaves -/

/-- A header takes the credit report that is next and the NAK that is due, and nothing else of a port's data. -/
def hdrOnly (x y : OflX) : Prop := { y with cretIx := x.cretIx, nakDue := x.nakDue } = x

section

variable {x y : OflX} (h : hdrOnly x y)
include h

theorem hdrOnly.held : y.held = x.held := by
  unfold hdrOnly at h
  simpa only using congrArg OflX.held h

theorem hdrOnly.replay : y.replay = x.replay := by
  unfold hdrOnly at h
  simpa only using congrArg OflX.replay h

theorem hdrOnly.trans {z : OflX} (h' : hdrOnly y z) : hdrOnly x z := by
  unfold hdrOnly at h h' ⊢
  calc { z with cretIx := x.cretIx, nakDue := x.nakDue }
    _ = { { z with cretIx := y.cretIx, nakDue := y.nakDue } with cretIx := x.cretIx, nakDue := x.nakDue } := rfl
    _ = x := by rw [h', h]

end

/-- From s to t port p sends flits: its counts of NAKs and replayed flits apart, its fields stay. -/
structure Sends (s t : State) (p : Nat) : Prop where
  get : ∀ {ψ : Nat → Fld}, PortFld ψ [F.OFL_REPLAY_CNT_NAK_SENT 0, F.OFL_REPLAY_CNT_REPLAYED 0] → t.get (ψ p) = s.get (ψ p)
  ox : hdrOnly (s.ox p) (t.ox p)

theorem Sends.refl (s : State) (p : Nat) : Sends s s p := ⟨fun _ => rfl, rfl⟩

theorem Sends.trans (h : Sends s t p) (h' : Sends t u p) : Sends s u p :=
  ⟨fun hψ => (h'.get hψ).trans (h.get hψ), h.ox.trans h'.ox⟩

theorem Sends.foldl {β : Type} {f : State → β → State} (hf : ∀ s b, Sends s (f s b) p) (l : List β) (s : State) :
    Sends s (l.foldl f s) p := by
  induction l generalizing s with
  | nil => exact .refl s p
  | cons b l ih => exact (hf s b).trans (ih (f s b))

theorem sends_out (s : State) (p : Nat) (o : Out) : Sends s (s.out o) p := ⟨fun _ => rfl, rfl⟩

theorem sends_sendFlit (s : State) (p : Nat) (h : FlitHdr) (b : Bytes) : Sends s (sendFlit s p h b) p := sends_out ..

theorem sends_inc {φ : Nat → Fld} (hφ : PortFld φ []) (hm : φ 0 ∈ [F.OFL_REPLAY_CNT_NAK_SENT 0, F.OFL_REPLAY_CNT_REPLAYED 0])
    (s : State) (p n : Nat) : Sends s (s.inc (φ p) n) p :=
  ⟨fun hψ => get_inc_port hφ (hψ.mono fun _ h => List.mem_singleton.1 h ▸ hm) .., rfl⟩

theorem sends_nextHdr (s : State) (p : Nat) (nak : Bool) : Sends s (nextHdr s p nak).2 p := by
  have hset : ∀ i d, Sends s (s.setOx p { s.ox p with cretIx := i, nakDue := d }) p := fun i d =>
    ⟨fun _ => rfl, by rw [setOx_ox]; rfl⟩
  unfold nextHdr
  cases nak
  · exact hset ..
  · exact (hset ..).trans (sends_inc (φ := F.OFL_REPLAY_CNT_NAK_SENT) ⟨fun _ => rfl, rfl⟩ List.mem_cons_self ..)

theorem sends_sendCtl (s : State) (p : Nat) (c : Ctl) : Sends s (sendCtl s p c) p :=
  (sends_nextHdr s p _).trans (sends_sendFlit ..)

theorem sends_sendIdle (s : State) (p : Nat) : Sends s (sendIdle s p) p :=
  (sends_nextHdr s p _).trans (sends_sendFlit ..)

theorem sends_resend (s : State) (p : Nat) : Sends s (resend s p) p :=
  .foldl (fun s _ => (sends_nextHdr s p _).trans ((sends_sendFlit ..).trans
    (sends_inc (φ := F.OFL_REPLAY_CNT_REPLAYED) ⟨fun _ => rfl, rfl⟩ (List.mem_cons_of_mem _ List.mem_cons_self) ..))) _ _

/-- The control flits that wait are taken off their queue, and sent. -/
theorem sends_sendCtls (s : State) (p : Nat) : Sends (s.modOx p fun x => { x with ctlq := [] }) (sendCtls s p) p :=
  .foldl (fun s c => sends_sendCtl s p c) _ _

/-! ### FLIT_SEND (R77) -/

@[simp] theorem nextHdr_outs (s : State) (p : Nat) (nak : Bool) : (nextHdr s p nak).2.outs = s.outs := by
  cases nak <;> rfl

theorem sendFlit_outs (s : State) (p : Nat) (h : FlitHdr) (b : Bytes) :
    ∃ c, (sendFlit s p h b).outs = s.outs ++ [.flit p c] := ⟨_, rfl⟩

theorem sendCtl_outs (s : State) (p : Nat) (c : Ctl) : ∃ b, (sendCtl s p c).outs = s.outs ++ [.flit p b] :=
  nextHdr_outs s p _ ▸ sendFlit_outs ..

theorem sendIdle_outs (s : State) (p : Nat) : ∃ b, (sendIdle s p).outs = s.outs ++ [.flit p b] :=
  nextHdr_outs s p _ ▸ sendFlit_outs ..

theorem foldl_put_outs {β : Type} (φ : β → Fld) (n : β → Nat) (l : List β) (s : State) :
    (l.foldl (fun s v => s.put (φ v) (n v)) s).outs = s.outs :=
  foldl_keep State.outs (fun s v => s.put (φ v) (n v)) (fun _ _ => rfl) l s

/-- The state of port p when flit seq has been filled as f says and is held, before it is on the link. -/
def payloadTaken (s : State) (p seq : Nat) (f : Fill) (start : Nat) (payload : Bytes) : State :=
  let s := s.modOx p fun x => { x with
    held := x.held ++ [⟨seq, f.cmark, start, payload⟩], msgs := f.msgs, cur := f.cur, txq := f.txq }
  let s := (List.range 8).foldl (fun s v => s.put (txCredit p v) (vcGet f.avail v)) s
  let s := showHeld (s.put (F.OFL_SEQ_TX_NEXT p) ((seq + 1) % 65536)) p
  injWrite s 6 (p / 24) (p * 65536 + seq)

theorem payloadTaken_outs (s : State) (p seq : Nat) (f : Fill) (start : Nat) (payload : Bytes) :
    (payloadTaken s p seq f start payload).outs = s.outs := by
  have hshow : ∀ (u : State) n, (showHeld (u.put (F.OFL_SEQ_TX_NEXT p) n) p).outs = u.outs := fun _ _ => rfl
  have hmod : ∀ (u : State) g, (u.modOx p g).outs = u.outs := fun _ _ => rfl
  rw [payloadTaken, injWrite_outs, hshow, foldl_put_outs, hmod]

theorem sendPayload_cases (s : State) (p : Nat) : sendPayload s p = sendIdle s p ∨ ∃ seq f start payload h b,
    sendPayload s p = sendFlit (payloadTaken (nextHdr s p (s.ox p).nakDue).2 p seq f start payload) p h b := by
  unfold sendPayload
  extract_lets x seq avail f
  split
  · exact .inl rfl
  · exact .inr ⟨_, _, _, _, _, _, rfl⟩

theorem sendPayload_outs (s : State) (p : Nat) : ∃ b, (sendPayload s p).outs = s.outs ++ [.flit p b] := by
  obtain he | ⟨seq, f, start, payload, h, b, he⟩ := sendPayload_cases s p
  · exact he ▸ sendIdle_outs s p
  · obtain ⟨c, hc⟩ := sendFlit_outs (payloadTaken (nextHdr s p (s.ox p).nakDue).2 p seq f start payload) p h b
    exact ⟨c, by rw [he, hc, payloadTaken_outs, nextHdr_outs]⟩

section

variable {p : Fin 96} (hact : oflActive s p = true)
include hact

theorem execFlitSend_full (hq : (s.ox p).ctlq = []) (hr : (s.ox p).replay = none)
    (hw : s.get (F.OFL_STATUS_WINDOW p) ≤ (s.ox p).held.length) :
    execFlitSend p s = .next (sendIdle (s.put (F.OFL_STATUS_WINDOW_FULL p) 1) p) := by
  simp [execFlitSend, hact, hq, hr, hw]

/-- What FLIT_SEND sends: a control flit that waits, an idle flit, or the next payload flit. -/
theorem execFlitSend_cases : (∃ u c, execFlitSend p s = .next (sendCtl u p c) ∧ u.outs = s.outs)
    ∨ (∃ u, execFlitSend p s = .next (sendIdle u p) ∧ u.outs = s.outs) ∨ execFlitSend p s = .next (sendPayload s p) := by
  cases hq : (s.ox p).ctlq with
  | cons c cs =>
    refine .inl ⟨s.setOx p { s.ox p with ctlq := cs }, c, ?_, rfl⟩
    simp [execFlitSend, hact, hq]
  | nil =>
    refine .inr ?_
    cases hr : (s.ox p).replay with
    | some n => exact .inl ⟨s, by simp [execFlitSend, hact, hq, hr], rfl⟩
    | none =>
      by_cases hw : s.get (F.OFL_STATUS_WINDOW p) ≤ (s.ox p).held.length
      · exact .inl ⟨_, execFlitSend_full hact hq hr hw, rfl⟩
      · exact .inr (by simp [execFlitSend, hact, hq, hr, hw])

theorem runs_flitSend : runs (.flitSend p) s fun t => ∃ b, t.outs = s.outs ++ [.flit p b] := by
  obtain ⟨u, c, he, hu⟩ | ⟨u, he, hu⟩ | he := execFlitSend_cases hact
  · exact ⟨_, he, hu ▸ sendCtl_outs u p c⟩
  · exact ⟨_, he, hu ▸ sendIdle_outs u p⟩
  · exact ⟨_, he, sendPayload_outs s p⟩

theorem runs_flitSend_full (hq : (s.ox p).ctlq = []) (hr : (s.ox p).replay = none)
    (hw : s.get (F.OFL_STATUS_WINDOW p) ≤ (s.ox p).held.length) :
    runs (.flitSend p) s fun t => t.bit (F.OFL_STATUS_WINDOW_FULL p) = true ∧ (t.ox p).held = (s.ox p).held := by
  have hs := sends_sendIdle (s.put (F.OFL_STATUS_WINDOW_FULL p) 1) p
  refine ⟨_, execFlitSend_full hact hq hr hw, State.bit_of_get (n := 1) ?_, hs.ox.held⟩
  rw [hs.get (ψ := F.OFL_STATUS_WINDOW_FULL) ⟨fun _ => rfl, rfl⟩]
  exact get_put_port_self (φ := F.OFL_STATUS_WINDOW_FULL) ⟨fun _ => rfl, rfl⟩ ..

/-! ### Replay (R87, R88) -/

/-- A replay is due no more. -/
def replayTaken (s : State) (p : Nat) : State := s.modOx p fun x => { x with replay := none }

theorem exec_replay {c : Instr}
    (hc : (c = .replay p ∧ (s.ox p).replay.isSome = true) ∨ (c = .replayTimeout p ∧ (s.ox p).held ≠ [])) :
    exec c s = .next (replayCounted (replayTaken s p) p) := by
  rcases hc with ⟨rfl, h⟩ | ⟨rfl, h⟩
  · exact congrArg Host.Outcome.next (if_pos (by simp [hact, h]))
  · exact congrArg Host.Outcome.next (if_pos (by simp [hact, h]))

omit hact in
theorem replayCounted_below (hlost : heldLost s p = false)
    (hcount : s.get (F.OFL_STATUS_REPLAY_COUNT p) < max 1 (s.get (F.OFL_CTRL_REPLAY_MAX p))) :
    replayCounted s p = resend (sendCtls (s.inc (F.OFL_STATUS_REPLAY_COUNT p)) p) p := by
  simp [replayCounted, hlost, hcount]

theorem runs_replay {c : Instr}
    (hc : (c = .replay p ∧ (s.ox p).replay.isSome = true) ∨ (c = .replayTimeout p ∧ (s.ox p).held ≠ []))
    (hlost : heldLost s p = false)
    (hcount : s.get (F.OFL_STATUS_REPLAY_COUNT p) < max 1 (s.get (F.OFL_CTRL_REPLAY_MAX p))) :
    runs c s fun t =>
      (t.ox p).replay = none ∧ (t.ox p).held = (s.ox p).held
        ∧ t.get (F.OFL_STATUS_REPLAY_COUNT p)
          = min (F.OFL_STATUS_REPLAY_COUNT p).max (s.get (F.OFL_STATUS_REPLAY_COUNT p) + 1) := by
  have hlost' : heldLost (replayTaken s p) p = false := by
    rw [← hlost, heldLost, replayTaken, modOx_ox]
    rfl
  have hs := (sends_sendCtls ((replayTaken s p).inc (F.OFL_STATUS_REPLAY_COUNT p)) p).trans (sends_resend _ p)
  refine ⟨_, exec_replay hact hc, ?_⟩
  rw [replayCounted_below hlost' hcount]
  refine ⟨?_, ?_, ?_⟩
  · rw [hs.ox.replay]
    simp [replayTaken]
  · rw [hs.ox.held]
    simp [replayTaken]
  · rw [hs.get (ψ := F.OFL_STATUS_REPLAY_COUNT) ⟨fun _ => rfl, rfl⟩]
    exact State.get_inc_self _ _ _ (by simp [F.OFL_STATUS_REPLAY_COUNT]) (by simp [F.OFL_STATUS_REPLAY_COUNT])

/-! ### NAK_TIMEOUT (R86) -/

theorem runs_nakTimeout (hnak : s.bit (F.OFL_STATUS_NAK_PENDING p) = true) :
    runs (.nakTimeout p) s fun t => (t.ox p).nakDue = true ∧ { t with ofl := s.ofl } = s :=
  ⟨_, congrArg Host.Outcome.next (if_pos (by simp [hact, hnak])), by rw [modOx_ox], rfl⟩

end

/-- Settles O13: what is sent ends each command's state, and sending keeps what is held and the port's fields. -/
theorem flitsAreSent : Obligations.FlitsAreSent := fun _ _ hact =>
  ⟨runs_flitSend hact, runs_flitSend_full hact, fun _ hc => runs_replay hact hc, runs_nakTimeout hact⟩

end Sys2Proof.Machine
end

section
/-! Receiving flits and resuming after Recovery (R84 to R86, R105), for O14. -/

namespace Sys2Proof.Machine

variable {s : State} {p : Nat}

theorem oflActive_iff : oflActive s p = true ↔ s.get (F.PORT_CFG_ROLE p) = 3 ∧ s.get (F.OFL_STATUS_STATE p) = 3 := by
  simp [oflActive]

/-! ### A flit that fails its CRC (R84, R86) -/

/-- A flit that fails its CRC is counted and raised. -/
def crcCounted (s : State) (p : Nat) : State :=
  ((s.inc (F.OFL_ERR_CNT_CRC_FAIL p)).raise (320 + 8 * p + 4)).modOx p fun x => { x with badRun := x.badRun + 1 }

theorem execFlitReceive_fails {p : Fin 96} {flit : Bytes} (low : Bool) (hlen : flit.length = 256)
    (hact : oflActive s p = true) (hcrc : crcOk (fecDecode flit).1 = false) :
    execFlitReceive p flit low s = .next (nakE (crcCounted s p) p) := by
  obtain ⟨hrole, hstate⟩ := oflActive_iff.1 hact
  simp [execFlitReceive, hlen, hrole, hstate, hcrc, hact, crcCounted]

theorem nakE_ox (s : State) (p : Nat) : ((nakE s p).ox p).held = (s.ox p).held ∧ ((nakE s p).ox p).rx = (s.ox p).rx := by
  unfold nakE
  split
  · exact ⟨rfl, rfl⟩
  · rw [modOx_ox]
    exact ⟨rfl, rfl⟩

theorem nakE_bit (s : State) (p : Nat) : (nakE s p).bit (F.OFL_STATUS_NAK_PENDING p) = true := by
  unfold nakE
  split
  · assumption
  · exact State.bit_of_get (n := 1) (get_put_port_self (φ := F.OFL_STATUS_NAK_PENDING) ⟨fun _ => rfl, rfl⟩ ..)

theorem nakE_brk (s : State) (p : Nat) : (nakE s p).brk = s.brk := by
  unfold nakE
  split <;> rfl

theorem regsKept_nakE (s : State) (p : Nat) : regsKept s (nakE s p) [(R.OFL_STATUS p).addr] := by
  unfold nakE
  split
  · exact regsKept_refl s _
  · exact regsKept_put (regsKept_refl s _) List.mem_cons_self

theorem regsKept_crcCounted (s : State) (p : Nat) :
    regsKept s (crcCounted s p) [(R.OFL_ERR_CNT p).addr, R.BRK_LOSS.addr] :=
  regsKept_raise (regsKept_inc (regsKept_refl s _) List.mem_cons_self) (List.mem_cons_of_mem _ List.mem_cons_self)

theorem crcCounted_count (s : State) (p : Nat) : (crcCounted s p).get (F.OFL_ERR_CNT_CRC_FAIL p)
    = min (F.OFL_ERR_CNT_CRC_FAIL p).max (s.get (F.OFL_ERR_CNT_CRC_FAIL p) + 1) :=
  (get_raise_port (ψ := F.OFL_ERR_CNT_CRC_FAIL) ⟨fun _ => rfl, rfl⟩ ..).trans
    (State.get_inc_self _ _ _ (by simp [F.OFL_ERR_CNT_CRC_FAIL]) (by simp [F.OFL_ERR_CNT_CRC_FAIL]))

theorem runs_flitReceive_fails {p : Fin 96} {flit : Bytes} (low : Bool) (hlen : flit.length = 256)
    (hact : oflActive s p = true) (hcrc : crcOk (fecDecode flit).1 = false) : runs (.flitReceive p flit low) s fun t =>
      t.get (F.OFL_ERR_CNT_CRC_FAIL p) = min (F.OFL_ERR_CNT_CRC_FAIL p).max (s.get (F.OFL_ERR_CNT_CRC_FAIL p) + 1)
      ∧ srcs t = srcs s ++ [320 + 8 * p.val + 4] ∧ (t.ox p).held = (s.ox p).held ∧ (t.ox p).rx = (s.ox p).rx
      ∧ t.rd (R.OFL_SEQ p) = s.rd (R.OFL_SEQ p) ∧ t.bit (F.OFL_STATUS_NAK_PENDING p) = true := by
  have hne : (R.OFL_SEQ p).addr ≠ (R.OFL_STATUS p).addr ∧ (R.OFL_SEQ p).addr ≠ (R.OFL_ERR_CNT p).addr
      ∧ (R.OFL_SEQ p).addr ≠ R.BRK_LOSS.addr ∧ (R.OFL_ERR_CNT p).addr ≠ (R.OFL_STATUS p).addr := by
    simp only [R.OFL_SEQ, R.OFL_STATUS, R.OFL_ERR_CNT, R.BRK_LOSS]
    omega
  obtain ⟨hheld, hrx⟩ := nakE_ox (crcCounted s p) p
  have hox : (crcCounted s p).ox p = { s.ox p with badRun := (s.ox p).badRun + 1 } := by simp [crcCounted]
  refine ⟨_, execFlitReceive_fails low hlen hact hcrc, ?_, ?_, ?_, ?_, ?_, nakE_bit ..⟩
  · have hk := regsKept_nakE (crcCounted s p) p
    rw [hk.get_ne (f := F.OFL_ERR_CNT_CRC_FAIL p) hne.2.2.2]
    exact crcCounted_count s p
  · rw [srcs, nakE_brk]
    exact raise_srcs ..
  · rw [hheld, hox]
  · rw [hrx, hox]
  · rw [regsKept_nakE _ _ _ (by simpa using hne.1)]
    exact regsKept_crcCounted s p _ (by simpa using ⟨hne.2.1, hne.2.2.1⟩)

/-! ### A payload flit in order (R85) -/

section

variable {φ ψ : Nat → Fld}

theorem get_creditIn_port (hψ : PortFld ψ txCreditFlds) (s : State) (p : Nat) (c : Nat × Nat) :
    (creditIn s p c).get (ψ p) = s.get (ψ p) := get_put_txCredit hψ ..

theorem creditIn_ox (s : State) (p : Nat) (c : Nat × Nat) :
    (creditIn s p c).ox p = { s.ox p with last := (s.ox p).last.set c.1 c.2 } := setOx_ox ..

end

/-- A flit passes its CRC: what the FEC has corrected is counted. -/
def fecCounted (s : State) (p n : Nat) : State := (s.inc (F.OFL_ERR_CNT_FEC_CORR p) n).modOx p fun x => { x with badRun := 0 }

theorem fecCounted_get {ψ : Nat → Fld} (hψ : PortFld ψ [F.OFL_ERR_CNT_FEC_CORR 0]) (s : State) (p n : Nat) :
    (fecCounted s p n).get (ψ p) = s.get (ψ p) :=
  get_inc_port (φ := F.OFL_ERR_CNT_FEC_CORR) ⟨fun _ => rfl, rfl⟩ hψ ..

theorem oflActive_fecCounted (s : State) (p n : Nat) : oflActive (fecCounted s p n) p = oflActive s p := by
  rw [oflActive, oflActive, fecCounted_get (ψ := F.PORT_CFG_ROLE) ⟨fun _ => rfl, rfl⟩,
    fecCounted_get (ψ := F.OFL_STATUS_STATE) ⟨fun _ => rfl, rfl⟩]

theorem fecCounted_rx (s : State) (p n : Nat) : ((fecCounted s p n).ox p).rx = (s.ox p).rx := by
  rw [fecCounted, modOx_ox]
  rfl

theorem execFlitReceive_passes {p : Fin 96} {flit : Bytes} (low : Bool) (hlen : flit.length = 256)
    (hact : oflActive s p = true) (hcrc : crcOk (fecDecode flit).1 = true) :
    execFlitReceive p flit low s = .next (flitOk (fecCounted s p (fecDecode flit).2) p (fecDecode flit).1 low) := by
  obtain ⟨hrole, hstate⟩ := oflActive_iff.1 hact
  simp [execFlitReceive, hlen, hrole, hstate, hcrc, fecCounted]

/-- The credits that a header reports are taken. -/
def creditsTaken (s : State) (p : Nat) (h : FlitHdr) : State := creditIn (creditIn s p h.cret0) p h.cret1

theorem creditsTaken_get {ψ : Nat → Fld} (hψ : PortFld ψ txCreditFlds) (s : State) (p : Nat) (h : FlitHdr) :
    (creditsTaken s p h).get (ψ p) = s.get (ψ p) :=
  (get_creditIn_port hψ ..).trans (get_creditIn_port hψ ..)

theorem creditsTaken_rx (s : State) (p : Nat) (h : FlitHdr) : ((creditsTaken s p h).ox p).rx = (s.ox p).rx := by
  rw [creditsTaken, creditIn_ox, creditIn_ox]

theorem flitOk_inOrder {f : Bytes} (low : Bool) (hact : oflActive s p = true) (hftype : (flitHdr f).ftype = 1)
    (hack : (flitHdr f).ack = 0) (hseq : (flitHdr f).seq = s.get (F.OFL_SEQ_RX_EXPECTED p)) :
    flitOk s p f low = acceptPayload (creditsTaken s p (flitHdr f)) p (flitHdr f) (slice f 12 224) := by
  have he : (creditsTaken s p (flitHdr f)).get (F.OFL_SEQ_RX_EXPECTED p) = s.get (F.OFL_SEQ_RX_EXPECTED p) :=
    creditsTaken_get (ψ := F.OFL_SEQ_RX_EXPECTED) ⟨fun _ => rfl, rfl⟩ ..
  have hd : ((flitHdr f).seq + 65536 - (creditsTaken s p (flitHdr f)).get (F.OFL_SEQ_RX_EXPECTED p)) % 65536 = 0 := by
    rw [he, hseq]
    omega
  unfold creditsTaken at hd ⊢
  simp [flitOk, hact, hftype, hack, ackIn, hd]

/-- The flit expected has arrived. -/
def seqAdvanced (s : State) (p : Nat) : State :=
  ((s.put (F.OFL_SEQ_RX_EXPECTED p) ((s.get (F.OFL_SEQ_RX_EXPECTED p) + 1) % 65536)).put
    (F.OFL_STATUS_NAK_PENDING p) 0).modOx p fun x => { x with nakDue := false }

/-- A slot in which no message begins, with none in progress, is skipped. -/
theorem slotIn_skip {h : FlitHdr} (hstart : h.slotStart = 0) (hrx : (s.ox p).rx = none) (pay : Bytes) (n : Nat) :
    slotIn p h pay (some s) n = some s := by
  simp [slotIn, hrx, hstart]

theorem slotsIn_skip {h : FlitHdr} (hstart : h.slotStart = 0) (hrx : (s.ox p).rx = none) (pay : Bytes) (l : List Nat) :
    l.foldl (slotIn p h pay) (some s) = some s :=
  List.foldl_fixed' (f := slotIn p h pay) (a := some s) (fun n => slotIn_skip hstart hrx pay n) l

theorem acceptPayload_noStart {h : FlitHdr} (hstart : h.slotStart = 0) (hrx : (s.ox p).rx = none) (pay : Bytes) :
    acceptPayload s p h pay = seqAdvanced s p := by
  have hrx' : ((seqAdvanced s p).ox p).rx = none := by
    rw [seqAdvanced, modOx_ox]
    simp only [put_ox, hrx]
  have hfold := slotsIn_skip hstart hrx' pay (List.range 14)
  unfold acceptPayload
  extract_lets s1 s2
  change (List.range 14).foldl (slotIn p h pay) (some s2) = some s2 at hfold
  rw [hfold]
  rfl

theorem seqAdvanced_get (s : State) (p : Nat) :
    (seqAdvanced s p).get (F.OFL_SEQ_RX_EXPECTED p) = (s.get (F.OFL_SEQ_RX_EXPECTED p) + 1) % 65536 := by
  rw [seqAdvanced, modOx_get, get_put_port (φ := F.OFL_STATUS_NAK_PENDING) (ψ := F.OFL_SEQ_RX_EXPECTED)
    ⟨fun _ => rfl, rfl⟩ ⟨fun _ => rfl, rfl⟩]
  exact (get_put_port_self (φ := F.OFL_SEQ_RX_EXPECTED) ⟨fun _ => rfl, rfl⟩ ..).trans (Nat.mod_mod _ _)

theorem seqAdvanced_bit (s : State) (p : Nat) : (seqAdvanced s p).bit (F.OFL_STATUS_NAK_PENDING p) = false := by
  refine State.bit_of_get (n := 0) ?_
  rw [seqAdvanced, modOx_get]
  exact get_put_port_self (φ := F.OFL_STATUS_NAK_PENDING) ⟨fun _ => rfl, rfl⟩ ..

theorem runs_flitReceive_inOrder {p : Fin 96} {flit : Bytes} (low : Bool) {h : FlitHdr} (hlen : flit.length = 256)
    (hact : oflActive s p = true) (hcrc : crcOk (fecDecode flit).1 = true) (hh : h = flitHdr (fecDecode flit).1)
    (hftype : h.ftype = 1) (hack : h.ack = 0) (hstart : h.slotStart = 0) (hrx : (s.ox p).rx = none)
    (hseq : h.seq = s.get (F.OFL_SEQ_RX_EXPECTED p)) : runs (.flitReceive p flit low) s fun t =>
      t.get (F.OFL_SEQ_RX_EXPECTED p) = (s.get (F.OFL_SEQ_RX_EXPECTED p) + 1) % 65536
      ∧ t.bit (F.OFL_STATUS_NAK_PENDING p) = false ∧ t.mill = s.mill := by
  subst hh
  obtain ⟨d, hd⟩ : ∃ d, fecDecode flit = d := ⟨_, rfl⟩
  have hexec := execFlitReceive_passes low hlen hact hcrc
  rw [hd] at hexec hftype hack hstart hseq
  have he := fecCounted_get (ψ := F.OFL_SEQ_RX_EXPECTED) ⟨fun _ => rfl, rfl⟩ s p d.2
  have hrx' := (creditsTaken_rx (fecCounted s p d.2) p (flitHdr d.1)).trans ((fecCounted_rx s p d.2).trans hrx)
  refine ⟨_, hexec, ?_⟩
  rw [flitOk_inOrder low ((oflActive_fecCounted ..).trans hact) hftype hack (hseq.trans he.symm),
    acceptPayload_noStart hstart hrx']
  refine ⟨?_, seqAdvanced_bit .., rfl⟩
  rw [seqAdvanced_get, creditsTaken_get (ψ := F.OFL_SEQ_RX_EXPECTED) ⟨fun _ => rfl, rfl⟩, he]

/-! ### RESUME_FLIT (R105) -/

/-- The sender takes the running counts of its partner. -/
def creditsResynced (s : State) (p : Nat) (counts : List Nat) : State :=
  (List.range 8).foldl (fun s v => creditIn s p (v, vcGet counts v)) s

/-- The port is active again. -/
def activeAgain (s : State) (p : Nat) : State :=
  ((((s.put (F.OFL_STATUS_STATE p) 3).put (F.OFL_STATUS_RATE p) (s.get (F.PORT_LINK_STATUS_RATE p))).put
    (F.OFL_STATUS_NAK_PENDING p) 0).modOx p fun x => { x with nakDue := false, badRun := 0 })

theorem creditsResynced_get {ψ : Nat → Fld} (hψ : PortFld ψ txCreditFlds) (s : State) (p : Nat) (counts : List Nat) :
    (creditsResynced s p counts).get (ψ p) = s.get (ψ p) :=
  foldl_keep (fun s => s.get (ψ p)) (fun s v => creditIn s p (v, vcGet counts v)) (fun _ _ => get_creditIn_port hψ ..) _ s

theorem creditsResynced_held (s : State) (p : Nat) (counts : List Nat) :
    ((creditsResynced s p counts).ox p).held = (s.ox p).held :=
  foldl_keep (fun s => (s.ox p).held) (fun s v => creditIn s p (v, vcGet counts v)) (fun s v => by rw [creditIn_ox]) _ s

theorem activeAgain_held (s : State) (p : Nat) : ((activeAgain s p).ox p).held = (s.ox p).held := by
  rw [activeAgain, modOx_ox, put_ox, put_ox, put_ox]

theorem activeAgain_role (s : State) (p : Nat) : (activeAgain s p).get (F.PORT_CFG_ROLE p) = s.get (F.PORT_CFG_ROLE p) := by
  rw [activeAgain, modOx_get]
  simp (disch := with_unfolding_all exact ⟨fun _ => rfl, rfl⟩) only [get_put_port]

theorem activeAgain_state (s : State) (p : Nat) : (activeAgain s p).get (F.OFL_STATUS_STATE p) = 3 := by
  rw [activeAgain, modOx_get]
  simp (disch := with_unfolding_all exact ⟨fun _ => rfl, rfl⟩) only [get_put_port]
  exact get_put_port_self (φ := F.OFL_STATUS_STATE) ⟨fun _ => rfl, rfl⟩ ..

theorem resume_oldest {e : Nat} (counts : List Nat) (hrole : s.get (F.PORT_CFG_ROLE p) = 3)
    (hstate : s.get (F.OFL_STATUS_STATE p) = 4) (he : e = s.get (F.OFL_SEQ_TX_OLDEST p)) :
    resume s p e counts = resend (activeAgain (creditsResynced s p counts) p) p := by
  have hk : (e + 65536 - s.get (F.OFL_SEQ_TX_OLDEST p)) % 65536 = 0 := by omega
  simp [resume, hrole, hstate, hk, release, creditsResynced, activeAgain]

theorem runs_resumeFlit {p : Fin 96} {e : BitVec 16} (counts : List (BitVec 13)) (hrole : s.get (F.PORT_CFG_ROLE p) = 3)
    (hstate : s.get (F.OFL_STATUS_STATE p) = 4) (he : e.toNat = s.get (F.OFL_SEQ_TX_OLDEST p)) :
    runs (.resumeFlit p e counts) s fun t => oflActive t p = true ∧ (t.ox p).held = (s.ox p).held := by
  have hs := sends_resend (activeAgain (creditsResynced s p (counts.map (·.toNat))) p) p
  refine ⟨_, congrArg Host.Outcome.next (resume_oldest _ hrole hstate he), oflActive_iff.2 ⟨?_, ?_⟩, ?_⟩
  · rw [hs.get (ψ := F.PORT_CFG_ROLE) ⟨fun _ => rfl, rfl⟩, activeAgain_role,
      creditsResynced_get (ψ := F.PORT_CFG_ROLE) ⟨fun _ => rfl, rfl⟩, hrole]
  · rw [hs.get (ψ := F.OFL_STATUS_STATE) ⟨fun _ => rfl, rfl⟩, activeAgain_state]
  · rw [hs.ox.held, activeAgain_held, creditsResynced_held]

/-- Settles O14: each flit by what its CRC and its number say, and a resume flit by what it makes of the port. -/
theorem flitsAreReceived : Obligations.FlitsAreReceived := fun _ _ low _ =>
  ⟨runs_flitReceive_fails low, fun _ => runs_flitReceive_inOrder low, fun _ counts => runs_resumeFlit counts,
    fun hlen => if_pos hlen⟩

end Sys2Proof.Machine
end

section
/-! Training, Recovery and the way down (R91, R95, R96, R105, R106), for O15. -/

namespace Sys2Proof.Machine

variable {s t u : State} {p : Nat}

/-! ### Links reported up and down (R130, R133, R162) -/

/-- From s to t the fields of port p stay, and the data of all ports and fabric links. -/
structure PortKept (s t : State) (p : Nat) : Prop where
  get : ∀ {ψ : Nat → Fld}, PortFld ψ [] → t.get (ψ p) = s.get (ψ p)
  ports : t.ports = s.ports
  ofl : t.ofl = s.ofl

theorem PortKept.refl (s : State) (p : Nat) : PortKept s s p := ⟨fun _ => rfl, rfl, rfl⟩

theorem PortKept.trans (h : PortKept s t p) (h' : PortKept t u p) : PortKept s u p :=
  ⟨fun hψ => (h'.get hψ).trans (h.get hψ), h'.ports.trans h.ports, h'.ofl.trans h.ofl⟩

theorem PortKept.px (h : PortKept s t p) (q : Nat) : t.px q = s.px q := by
  simp only [State.px, h.ports]

theorem PortKept.ox (h : PortKept s t p) (q : Nat) : t.ox q = s.ox q := by
  simp only [State.ox, h.ofl]

theorem PortKept.of_regs (hr : t.regs = s.regs) (hp : t.ports = s.ports) (ho : t.ofl = s.ofl) : PortKept s t p :=
  ⟨fun _ => State.get_congr hr _, hp, ho⟩

theorem PortKept.ite {c : Prop} [Decidable c] (ht : PortKept s t p) (hu : PortKept s u p) :
    PortKept s (if c then t else u) p := by
  split
  · exact ht
  · exact hu

theorem portKept_raise (s : State) (p n : Nat) (d : Detail) : PortKept s (s.raise n d) p :=
  ⟨fun hψ => get_raise_port hψ .., raise_ports .., raise_ofl ..⟩

/-- The registers of ports lie below those of the units of the switch and of the management complex. -/
theorem portKept_put (hp : p < 96) {f : Fld} (hf : 0x44000000 ≤ f.reg.addr) (s : State) (n : Nat) :
    PortKept s (s.put f n) p :=
  ⟨fun {ψ} hψ => State.get_put_reg _ _ _ _ (by have := hψ.addr p; omega), rfl, rfl⟩

theorem portKept_vppbLinks (up : Bool) (l : List (Nat × Nat)) (s : State) : PortKept s (l.foldl (vppbLink up) s) p :=
  .of_regs (foldl_keep State.regs (vppbLink up) (fun _ _ => rfl) l s)
    (foldl_keep State.ports (vppbLink up) (fun _ _ => rfl) l s) (foldl_keep State.ofl (vppbLink up) (fun _ _ => rfl) l s)

theorem portKept_restoreLost (hp : p < 96) (s : State) (q : Nat) : PortKept s (restoreLost s q) p := by
  have hput := fun {f : Fld} => portKept_put hp (f := f)
  unfold restoreLost
  split
  · refine .ite ?_ (.refl s p)
    extract_lets t
    have ht : PortKept s t p := .of_regs rfl rfl rfl
    exact .ite (ht.trans ((hput (by decide) t 0).trans ((hput (by decide) _ 1).trans (hput (by decide) _ 1)))) ht
  · exact .refl s p

theorem portKept_reportUp (s : State) (p : Nat) : PortKept (s.modPx p fun x => { x with up := true }) (reportUp s p) p := by
  unfold reportUp
  extract_lets s1 s2
  have h2 : PortKept s1 s2 p := .ite (.of_regs rfl rfl rfl) (.refl s1 p)
  clear_value s2
  exact h2.trans (portKept_vppbLinks ..)

theorem portKept_reportDown (hp : p < 96) (s : State) :
    PortKept (s.modPx p fun x => { x with up := false }) (reportDown s p) p := by
  unfold reportDown
  extract_lets s1 s2 s3
  have h1 : PortKept (s.modPx p fun x => { x with up := false }) s1 p := .of_regs rfl rfl rfl
  have h3 : PortKept (s.modPx p fun x => { x with up := false }) s3 p :=
    (h1.trans (portKept_vppbLinks ..)).trans (portKept_restoreLost hp ..)
  clear_value s3
  exact .ite (h3.trans (.of_regs rfl rfl rfl)) h3

/-! ### Training (R95, R96) -/

theorem Fld.apart_symm {f g : Fld} (h : f.apart g = true) : g.apart f = true := by
  simp only [Fld.apart, Bool.or_eq_true, Bool.and_eq_true, bne_iff_ne, beq_iff_eq, decide_eq_true_eq] at h ⊢
  exact h.imp Ne.symm fun ⟨hr, hd⟩ => ⟨hr.symm, hd.symm⟩

/-- Fields that say that a port is active, at which rate and on which lanes. -/
def activeFlds : List Fld :=
  [F.PORT_CFG_ROLE 0, F.OFL_STATUS_STATE 0, F.OFL_STATUS_RATE 0, F.OFL_LANES_ACTIVE 0]

/-- Port p is shown active at a rate on a lane set, and waits for nothing. -/
structure OflUp (s : State) (p rate set : Nat) : Prop where
  role : s.get (F.PORT_CFG_ROLE p) = 3
  state : s.get (F.OFL_STATUS_STATE p) = 3
  rate : s.get (F.OFL_STATUS_RATE p) = rate % 8
  active : s.get (F.OFL_LANES_ACTIVE p) = set % 65536
  wait : (s.px p).wait = .none

section

variable {rate set : Nat}

theorem OflUp.frame (h : OflUp s p rate set)
    (hget : ∀ {ψ : Nat → Fld}, PortFld ψ [] → ψ 0 ∈ activeFlds → t.get (ψ p) = s.get (ψ p))
    (hwait : (t.px p).wait = (s.px p).wait) : OflUp t p rate set where
  role := (hget (ψ := F.PORT_CFG_ROLE) ⟨fun _ => rfl, rfl⟩ (by decide)).trans h.role
  state := (hget (ψ := F.OFL_STATUS_STATE) ⟨fun _ => rfl, rfl⟩ (by decide)).trans h.state
  rate := (hget (ψ := F.OFL_STATUS_RATE) ⟨fun _ => rfl, rfl⟩ (by decide)).trans h.rate
  active := (hget (ψ := F.OFL_LANES_ACTIVE) ⟨fun _ => rfl, rfl⟩ (by decide)).trans h.active
  wait := hwait.trans h.wait

theorem OflUp.put {φ : Nat → Fld} {n : Nat} (h : OflUp s p rate set) (hφ : PortFld φ activeFlds) :
    OflUp (s.put (φ p) n) p rate set :=
  h.frame (fun hψ hm => get_put_port (hφ.mono (List.nil_subset _)) ⟨hψ.place, by
    simpa [hψ.inPort] using Fld.apart_symm (hφ.apart hm)⟩ ..) (by rw [put_px])

theorem OflUp.putB {φ : Nat → Fld} {b : Bool} (h : OflUp s p rate set) (hφ : PortFld φ activeFlds) :
    OflUp (s.putB (φ p) b) p rate set := h.put hφ

theorem OflUp.putTxCredits {c : Nat → Nat} (h : OflUp s p rate set) (l : List Nat) :
    OflUp (l.foldl (fun s v => s.put (txCredit p v) (c v)) s) p rate set := by
  induction l generalizing s with
  | nil => exact h
  | cons v l ih =>
    have hap : ∀ f ∈ activeFlds, (txCreditFlds.all fun g => g.apart f) = true := by decide
    exact ih (h.frame (fun hψ hm => get_put_txCredit ⟨hψ.place, by rw [hψ.inPort, hap _ hm, Bool.and_self]⟩ ..)
      (by rw [put_px]))

theorem OflUp.wrSeq {v : Word} (h : OflUp s p rate set) : OflUp (s.wr (R.OFL_SEQ p) v) p rate set := by
  have hap : ∀ f ∈ activeFlds, (([⟨R.OFL_SEQ 0, 63, 0⟩] : List Fld).all fun g => g.apart f) = true := by decide
  exact h.frame (fun hψ hm => get_wr_seq ⟨hψ.place, by rw [hψ.inPort, hap _ hm, Bool.and_self]⟩ ..) (by rw [wr_px])

theorem OflUp.raise {n : Nat} {d : Detail} (h : OflUp s p rate set) : OflUp (s.raise n d) p rate set :=
  h.frame (fun hψ _ => get_raise_port hψ ..) (by rw [raise_px])

theorem OflUp.reportUp (h : OflUp s p rate set) : OflUp (reportUp s p) p rate set :=
  have hk := portKept_reportUp s p
  h.frame (fun hψ _ => hk.get hψ) (by rw [hk.px, modPx_px])

end

/-- The lanes that have shown themselves failed are marked, and the port waits no more. -/
def trainingBegun (s : State) (p failed : Nat) : State := setWait (s.put (F.OFL_LANES_FAILED p) failed) p .none

theorem trainingBegun_get {ψ : Nat → Fld} (hψ : PortFld ψ [F.OFL_LANES_FAILED 0]) (s : State) (p failed : Nat) :
    (trainingBegun s p failed).get (ψ p) = s.get (ψ p) := by
  rw [trainingBegun, setWait_get]
  exact get_put_port (φ := F.OFL_LANES_FAILED) ⟨fun _ => rfl, rfl⟩ hψ ..

theorem oflOffer_trainingBegun (s : State) (p failed : Nat) : oflOffer (trainingBegun s p failed) p = oflOffer s p := by
  rw [oflOffer, oflOffer, trainingBegun_get (ψ := F.PORT_CFG_MAX_RATE) ⟨fun _ => rfl, rfl⟩,
    trainingBegun_get (ψ := F.PORT_LINK_CTRL_TARGET_RATE) ⟨fun _ => rfl, rfl⟩]

/-- A port takes lane set set at a rate, and is active. -/
theorem OflUp.begin {x : OflX} {window rate set : Nat} (hrole : s.get (F.PORT_CFG_ROLE p) = 3) (hwait : (s.px p).wait = .none) :
    OflUp ((((putLanes (s.setOx p x) p set).put (F.OFL_STATUS_STATE p) 3).put (F.OFL_STATUS_RATE p) rate).put
      (F.OFL_STATUS_WINDOW p) window) p rate set where
  role := by
    simp (disch := with_unfolding_all exact ⟨fun _ => rfl, rfl⟩) only [putLanes, get_put_port]
    rw [setOx_get, hrole]
  state := by
    simp (disch := with_unfolding_all exact ⟨fun _ => rfl, rfl⟩) only [get_put_port]
    exact get_put_port_self (φ := F.OFL_STATUS_STATE) ⟨fun _ => rfl, rfl⟩ ..
  rate := by
    simp (disch := with_unfolding_all exact ⟨fun _ => rfl, rfl⟩) only [get_put_port]
    exact get_put_port_self (φ := F.OFL_STATUS_RATE) ⟨fun _ => rfl, rfl⟩ ..
  active := by
    simp (disch := with_unfolding_all exact ⟨fun _ => rfl, rfl⟩) only [putLanes, get_put_port]
    exact get_put_port_self (φ := F.OFL_LANES_ACTIVE) ⟨fun _ => rfl, rfl⟩ ..
  wait := by
    simp only [putLanes, put_px, setOx_px, hwait]

theorem oflTrain_up {t : OflPeer} {link failed good rate : Nat}
    (hrole : s.get (F.PORT_CFG_ROLE p) = 3) 
    (hlink : link = laneBits 0 (min (widthLanes (s.get (F.PORT_CFG_WIDTH p))) t.width))
    (hfailed : failed =
      (s.get (F.OFL_LANES_FAILED p) ||| minusBits (laneBits 0 (widthLanes (s.get (F.PORT_CFG_WIDTH p)))) t.detected) &&& link)
    (hgood : good = minusBits link failed &&& t.good) (hrate : rate = min (min (oflOffer s p) t.rate) t.okRate)
    (h0 : good ≠ 0) (h5 : 5 ≤ rate) :
    OflUp (oflTrain s p t) p rate (lowest (min (laneCount (popc good)) (widthLanes (s.get (F.PORT_CFG_WIDTH p)))) good)
      ∧ ((oflTrain s p t).px p).up = true := by
  have hrole' := (trainingBegun_get (ψ := F.PORT_CFG_ROLE) ⟨fun _ => rfl, rfl⟩ s p failed).trans hrole
  have hwait' : ((trainingBegun s p failed).px p).wait = .none := setWait_wait ..
  rw [← oflOffer_trainingBegun s p failed] at hrate
  subst hlink hfailed hgood hrate
  unfold oflTrain
  extract_lets w link failed s1 good target rate set
  have hc : ¬(good = 0 ∨ rate < 5) := by
    rintro (h | h)
    · exact h0 h
    · exact absurd h5 (not_le.2 h)
  rw [if_neg hc]
  split
  next share dflt =>
    extract_lets x s2 s3 me s4 s5 s6 s7 s8 s9
    have h3 : OflUp s3 p rate set := .begin hrole' hwait'
    clear_value s3
    have h5 : OflUp s5 p rate set := ((h3.putB ⟨fun _ => rfl, rfl⟩).putB ⟨fun _ => rfl, rfl⟩).wrSeq
    have h6 : OflUp s6 p rate set := h5.putTxCredits _
    clear_value s6
    have h8 : OflUp s8 p rate set :=
      (((((h6.put ⟨fun _ => rfl, rfl⟩).put ⟨fun _ => rfl, rfl⟩).putB ⟨fun _ => rfl, rfl⟩).put ⟨fun _ => rfl, rfl⟩).put
        ⟨fun _ => rfl, rfl⟩).put ⟨fun _ => rfl, rfl⟩
    clear_value s8
    have h9 : OflUp s9 p rate set := by
      simp only [s9]
      split
      · exact (h8.put ⟨fun _ => rfl, rfl⟩).raise
      · exact h8
    refine ⟨h9.reportUp, ?_⟩
    rw [(portKept_reportUp s9 p).px, modPx_px]

/-- With no good lane, or no common rate that equalises, the attempt has failed. -/
theorem oflTrain_fails {t : OflPeer} {link failed good rate : Nat}
    (hlink : link = laneBits 0 (min (widthLanes (s.get (F.PORT_CFG_WIDTH p))) t.width))
    (hfailed : failed =
      (s.get (F.OFL_LANES_FAILED p) ||| minusBits (laneBits 0 (widthLanes (s.get (F.PORT_CFG_WIDTH p)))) t.detected) &&& link)
    (hgood : good = minusBits link failed &&& t.good) (hrate : rate = min (min (oflOffer s p) t.rate) t.okRate)
    (h : good = 0 ∨ rate < 5) : oflTrain s p t = oflTrainFail (trainingBegun s p failed) p := by
  rw [← oflOffer_trainingBegun s p failed] at hrate
  subst hlink hfailed hgood hrate
  exact if_pos h

theorem oflTrainFail_spec (s : State) (p : Nat) :
    (oflTrainFail s p).get (F.OFL_STATUS_STATE p) = 0 ∧ ((oflTrainFail s p).ox p).fails = (s.ox p).fails + 1
      ∧ ((oflTrainFail s p).px p).wait = .retry := by
  unfold oflTrainFail
  extract_lets n s1
  have hk : PortKept s1 (if n % 10 = 0 then s1.raise (320 + 8 * p + 3) else s1) p := .ite (portKept_raise ..) (.refl s1 p)
  refine ⟨?_, ?_, setWait_wait ..⟩
  · rw [setWait_get, hk.get (ψ := F.OFL_STATUS_STATE) ⟨fun _ => rfl, rfl⟩]
    exact get_put_port_self (φ := F.OFL_STATUS_STATE) ⟨fun _ => rfl, rfl⟩ ..
  · rw [setWait_ox, hk.ox, put_ox, modOx_ox]

/-! ### Recovery (R105) -/

/-- A change of the number of active lanes from m to n is counted. -/
def lanesCounted (s : State) (p m n : Nat) : State :=
  if n < m then s.inc (F.OFL_EVENT_CNT_DROPS p) else if m < n then s.inc (F.OFL_EVENT_CNT_ADDS p) else s

theorem lanesCounted_get {ψ : Nat → Fld} (hψ : PortFld ψ [F.OFL_EVENT_CNT_DROPS 0, F.OFL_EVENT_CNT_ADDS 0]) (s : State)
    (p m n : Nat) : (lanesCounted s p m n).get (ψ p) = s.get (ψ p) := by
  unfold lanesCounted
  split
  · exact get_inc_port (φ := F.OFL_EVENT_CNT_DROPS) ⟨fun _ => rfl, rfl⟩ (hψ.mono (by simp)) ..
  · split
    · exact get_inc_port (φ := F.OFL_EVENT_CNT_ADDS) ⟨fun _ => rfl, rfl⟩ (hψ.mono (by simp)) ..
    · rfl

/-- The fields of a port that show its lanes. -/
def laneFlds : List Fld := [F.OFL_LANES_ACTIVE 0, F.OFL_STATUS_LANES 0, F.PORT_LINK_STATUS_LANES 0]

theorem putLanes_get {ψ : Nat → Fld} (hψ : PortFld ψ laneFlds) (s : State) (p set : Nat) :
    (putLanes s p set).get (ψ p) = s.get (ψ p) := by
  unfold putLanes
  rw [get_put_port (φ := F.PORT_LINK_STATUS_LANES) ⟨fun _ => rfl, rfl⟩ (hψ.mono (by simp [laneFlds])),
    get_put_port (φ := F.OFL_STATUS_LANES) ⟨fun _ => rfl, rfl⟩ (hψ.mono (by simp [laneFlds])),
    get_put_port (φ := F.OFL_LANES_ACTIVE) ⟨fun _ => rfl, rfl⟩ (hψ.mono (by simp [laneFlds]))]

theorem putLanes_active (s : State) (p set : Nat) : (putLanes s p set).get (F.OFL_LANES_ACTIVE p) = set % 65536 := by
  simp (disch := with_unfolding_all exact ⟨fun _ => rfl, rfl⟩) only [putLanes, get_put_port]
  exact get_put_port_self (φ := F.OFL_LANES_ACTIVE) ⟨fun _ => rfl, rfl⟩ ..

theorem putLanes_ox (s : State) (p set : Nat) : (putLanes s p set).ox p = s.ox p := by
  simp only [putLanes, put_ox]

/-- The lanes of a retrain are taken, and the receiver expects them. -/
def retrained (s : State) (p set : Nat) : State :=
  (putLanes (lanesCounted s p (popc (s.get (F.OFL_LANES_ACTIVE p))) (popc set)) p set).modOx p fun x => { x with rxSet := set }

section

variable {p : Fin 96} (hrole : s.get (F.PORT_CFG_ROLE p) = 3) (hstate : s.get (F.OFL_STATUS_STATE p) = 4)
include hrole hstate

/-- The set that a retrain takes when no good lane has failed is sent in a resume flit. -/
theorem execRecoveryRetrainComplete_good {locked : BitVec 16} (hbad : minusBits (goodLanes s p) locked.toNat = 0)
    (hgood : goodLanes s p ≠ 0) : ∃ h b, execRecoveryRetrainComplete p locked s = .next (sendFlit (retrained s p
      (lowest (min (laneCount (popc (goodLanes s p))) (widthLanes (s.get (F.PORT_CFG_WIDTH p)))) (goodLanes s p))) p h b) := by
  simp only [execRecoveryRetrainComplete, hrole, hstate, hbad, hgood, ne_eq, not_true_eq_false, or_self, if_false, if_true]
  exact ⟨_, _, rfl⟩

theorem runs_recoveryRetrainComplete (locked : BitVec 16) (hbad : minusBits (goodLanes s p) locked.toNat = 0)
    (hgood : goodLanes s p ≠ 0) : runs (.recoveryRetrainComplete p locked) s fun u =>
      u.get (F.OFL_LANES_ACTIVE p)
        = lowest (min (laneCount (popc (goodLanes s p))) (widthLanes (s.get (F.PORT_CFG_WIDTH p)))) (goodLanes s p) % 65536
      ∧ u.get (F.OFL_STATUS_STATE p) = 4 ∧ u.get (F.OFL_LANES_FAILED p) = s.get (F.OFL_LANES_FAILED p) := by
  obtain ⟨h, b, he⟩ := execRecoveryRetrainComplete_good hrole hstate hbad hgood
  refine ⟨_, he, ?_, ?_, ?_⟩
  · rw [sendFlit, out_get, retrained, modOx_get, putLanes_active]
  · rw [sendFlit, out_get, retrained, modOx_get, putLanes_get (ψ := F.OFL_STATUS_STATE) ⟨fun _ => rfl, rfl⟩,
      lanesCounted_get (ψ := F.OFL_STATUS_STATE) ⟨fun _ => rfl, rfl⟩, hstate]
  · rw [sendFlit, out_get, retrained, modOx_get, putLanes_get (ψ := F.OFL_LANES_FAILED) ⟨fun _ => rfl, rfl⟩,
      lanesCounted_get (ψ := F.OFL_LANES_FAILED) ⟨fun _ => rfl, rfl⟩]

theorem runs_recoveryRateDrop (hrate : 5 < s.get (F.PORT_LINK_STATUS_RATE p)) : runs (.recoveryRateDrop p) s fun u =>
    u.get (F.PORT_LINK_STATUS_RATE p) = s.get (F.PORT_LINK_STATUS_RATE p) - 1
      ∧ regsKept s u [(R.PORT_LINK_STATUS p).addr] ∧ onlyRegs s { u with outs := s.outs } := by
  have hlt : s.get (F.PORT_LINK_STATUS_RATE p) < 8 := State.get_lt ..
  refine ⟨_, congrArg Host.Outcome.next (if_pos ⟨hrole, hstate, hrate⟩), ?_,
    regsKept_put_linkStatus (regsKept_refl s _) rfl _, rfl⟩
  rw [out_get, get_put_port_self (φ := F.PORT_LINK_STATUS_RATE) ⟨fun _ => rfl, rfl⟩]
  exact Nat.mod_eq_of_lt (lt_of_le_of_lt (Nat.sub_le _ _) hlt)

end

/-! ### Down (R106) -/

/-- The registers of a fabric link that is down, with its data x kept; k is the state shown. -/
def oflShownDown (s : State) (p k : Nat) (x : OflX) : State :=
  let s := (putLanes (s.setOx p x) p 0).put (F.OFL_STATUS_STATE p) k
  let s := ((s.put (F.OFL_STATUS_RATE p) 0).put (F.PORT_LINK_STATUS_RATE p) 0).put (F.PORT_LINK_STATUS_FULL_LANES p) 0
  let s := ((s.put (F.OFL_STATUS_WINDOW_FULL p) 0).put (F.OFL_STATUS_NAK_PENDING p) 0).put (F.OFL_STATUS_LANE_BUSY p) 0
  (s.put (F.OFL_STATUS_REPLAY_COUNT p) 0).wr (R.OFL_SEQ p) 0#64

/-- A link reported up is reported down, with its event. -/
def downReported (s : State) (p : Nat) : State := if (s.px p).up then (reportDown s p).raise (320 + 8 * p) else s

theorem oflDown_cases (s : State) (p : Nat) (w : PortWait) : ∃ u k x v, (k = 5 ∨ k = 6) ∧ x.held = [] ∧ x.txq = []
    ∧ oflDown s p w = setWait (downReported (oflShownDown u p k x) p) p v := by
  unfold oflDown
  extract_lets x s1 s2 s3 s4 s5 dis
  refine ⟨s4, if dis then 6 else 5, _, _, ?_, ?_, ?_, rfl⟩
  · cases dis <;> simp
  · rfl
  · rfl

theorem oflShownDown_get (s : State) (p k : Nat) (x : OflX) : (oflShownDown s p k x).get (F.OFL_LANES_ACTIVE p) = 0
    ∧ (oflShownDown s p k x).get (F.OFL_STATUS_STATE p) = k % 16 := by
  unfold oflShownDown
  dsimp only
  constructor
  · simp (disch := with_unfolding_all exact ⟨fun _ => rfl, rfl⟩) only [get_wr_seq, get_put_port, putLanes_active]
  · simp (disch := with_unfolding_all exact ⟨fun _ => rfl, rfl⟩) only [get_wr_seq, get_put_port]
    exact get_put_port_self (φ := F.OFL_STATUS_STATE) ⟨fun _ => rfl, rfl⟩ ..

theorem oflShownDown_ox (s : State) (p k : Nat) (x : OflX) : (oflShownDown s p k x).ox p = x := by
  simp only [oflShownDown, wr_ox, put_ox, putLanes_ox, setOx_ox]

/-- The report changes neither what the port shows nor the data of its link. -/
theorem downReported_spec (hp : p < 96) (s : State) : ((downReported s p).px p).up = false ∧ (downReported s p).ox p = s.ox p
    ∧ ∀ {ψ : Nat → Fld}, PortFld ψ [] → (downReported s p).get (ψ p) = s.get (ψ p) := by
  unfold downReported
  split
  · have hk := (portKept_reportDown hp s).trans (portKept_raise _ p (320 + 8 * p) .unit)
    exact ⟨by rw [hk.px, modPx_px], by rw [hk.ox, modPx_ox], fun hψ => by rw [hk.get hψ, modPx_get]⟩
  · next h => exact ⟨Bool.eq_false_iff.2 h, rfl, fun _ => rfl⟩

/-- A Recovery that its time ends takes the link down, whatever it held. -/
theorem runs_oflRecoveryTimeout {p : Fin 96} (hrole : s.get (F.PORT_CFG_ROLE p) = 3)
    (hstate : s.get (F.OFL_STATUS_STATE p) = 4) : runs (.oflRecoveryTimeout p) s fun u =>
    u.get (F.OFL_LANES_ACTIVE p) = 0 ∧ (u.ox p).held = [] ∧ (u.ox p).txq = [] ∧ (u.px p).up = false
      ∧ (u.get (F.OFL_STATUS_STATE p) = 5 ∨ u.get (F.OFL_STATUS_STATE p) = 6) := by
  obtain ⟨u, k, x, v, hk, hheld, htxq, he⟩ := oflDown_cases s p .oflDown
  obtain ⟨hup, hox, hget⟩ := downReported_spec p.isLt (oflShownDown u p k x)
  obtain ⟨hactive, hst⟩ := oflShownDown_get u p k x
  refine ⟨_, congrArg Host.Outcome.next (if_pos ⟨hrole, hstate⟩), ?_⟩
  rw [he]
  simp only [setWait_get, setWait_ox, setWait_up, hup, hox, oflShownDown_ox, hheld, htxq,
    hget (ψ := F.OFL_LANES_ACTIVE) ⟨fun _ => rfl, rfl⟩, hget (ψ := F.OFL_STATUS_STATE) ⟨fun _ => rfl, rfl⟩, hactive, hst,
    true_and]
  omega

/-! ### OFL_REDETECT (R106) -/

theorem runs_oflRedetect {p : Fin 96} (hrole : s.get (F.PORT_CFG_ROLE p) = 3)
    (hwait : (s.px p).wait = .oflDown ∨ (s.px p).wait = .block) : runs (.oflRedetect p) s fun u =>
      u.get (F.OFL_STATUS_STATE p) = (if s.bit (F.PORT_LINK_CTRL_DISABLE p) then 6 else 0) ∧ (u.px p).wait = .none
      ∧ regsKept s u [(R.OFL_STATUS p).addr] ∧ { u with regs := s.regs, ports := s.ports } = s := by
  refine ⟨_, congrArg Host.Outcome.next (if_pos ⟨hrole, hwait⟩), ?_, ?_, regsKept_put (fun _ _ => setWait_rd ..)
    List.mem_cons_self, rfl⟩
  · rw [get_put_port_self (φ := F.OFL_STATUS_STATE) ⟨fun _ => rfl, rfl⟩]
    split <;> rfl
  · rw [put_px, setWait_wait]

theorem oflReady_role (h : oflReady s p = true) : s.get (F.PORT_CFG_ROLE p) = 3 := by
  simp only [oflReady, Bool.and_eq_true, beq_iff_eq] at h
  exact h.1.1.1

theorem exec_oflTraining {p : Fin 96} {t : OflPeer} {c : Instr} (hready : oflReady s p = true)
    (hc : (c = .oflTraining p t ∧ (s.px p).wait = .none) ∨ (c = .oflTrainingRetry p t ∧ (s.px p).wait = .retry)) :
    exec c s = .next (oflTrain s p t) := by
  rcases hc with ⟨rfl, h⟩ | ⟨rfl, h⟩
  · exact congrArg Host.Outcome.next (if_pos (by simp [hready, h]))
  · exact congrArg Host.Outcome.next (if_pos (by simp [hready, h]))

/-- Settles O15: a training ends by what the lanes and the partner show, Recovery and the way down by the one state that
each command makes. -/
theorem oflTraining : Obligations.OflTraining := by
  refine fun p s => ⟨fun t c link failed good rate hready hc hlink hfailed hgood hrate => ⟨fun h0 h5 => ?up, fun h => ?fails⟩,
    fun hrole hstate => ⟨runs_recoveryRetrainComplete hrole hstate, runs_recoveryRateDrop hrole hstate,
      runs_oflRecoveryTimeout hrole hstate⟩, runs_oflRedetect⟩
  case up =>
    obtain ⟨h, hup⟩ := oflTrain_up (oflReady_role hready) hlink hfailed hgood hrate h0 h5
    exact ⟨_, exec_oflTraining hready hc, oflActive_iff.2 ⟨h.role, h.state⟩, h.rate, hup, h.wait, h.active⟩
  case fails =>
    obtain ⟨hst, hf, hw⟩ := oflTrainFail_spec (trainingBegun s p failed) p
    refine ⟨_, exec_oflTraining hready hc, ?_⟩
    rw [oflTrain_fails hlink hfailed hgood hrate h]
    exact ⟨hst, by rw [hf, trainingBegun, setWait_ox, put_ox], hw⟩

end Sys2Proof.Machine
end

section
/-! Changes of the lane set of a fabric link (R94, R97 to R102), for O16 and O17. -/

namespace Sys2Proof.Machine

variable {s u : State} {p : Nat}

/-! ### What the steps of a lane change leave -/

/-- The fields of a port's software request. -/
def cmdFlds : List Fld := [F.OFL_LANE_CMD_BUSY 0, F.OFL_LANE_CMD_RESULT 0]

theorem cmdDone_get {ψ : Nat → Fld} (hψ : PortFld ψ cmdFlds) (s : State) (p r : Nat) :
    (cmdDone s p r).get (ψ p) = s.get (ψ p) := by
  unfold cmdDone
  split
  · rw [get_put_port (φ := F.OFL_LANE_CMD_RESULT) ⟨fun _ => rfl, rfl⟩ (hψ.mono (by simp [cmdFlds])),
      get_put_port (φ := F.OFL_LANE_CMD_BUSY) ⟨fun _ => rfl, rfl⟩ (hψ.mono (by simp [cmdFlds]))]
  · rfl

theorem cmdDone_ox (s : State) (p r q : Nat) : (cmdDone s p r).ox q = s.ox q := by
  unfold cmdDone
  split
  · rw [put_ox, put_ox]
  · rfl

theorem queueCtl_get (s : State) (p : Nat) (c : Ctl) (f : Fld) : (queueCtl s p c).get f = s.get f := modOx_get ..

theorem queueCtl_ox (s : State) (p : Nat) (c : Ctl) :
    (queueCtl s p c).ox p = { s.ox p with ctlq := (s.ox p).ctlq ++ [c] } := modOx_ox ..

theorem switchTx_eq (s : State) (p set : Nat) : switchTx s p set =
    (lanesCounted (putLanes s p set) p (popc (s.get (F.OFL_LANES_ACTIVE p))) (popc set)).out (.run p set) := rfl

theorem lanesCounted_ox (s : State) (p m n q : Nat) : (lanesCounted s p m n).ox q = s.ox q := by
  unfold lanesCounted
  split
  · rw [inc_ox]
  · split
    · rw [inc_ox]
    · rfl

theorem switchTx_active (s : State) (p set : Nat) : (switchTx s p set).get (F.OFL_LANES_ACTIVE p) = set % 65536 := by
  rw [switchTx_eq, out_get, lanesCounted_get (ψ := F.OFL_LANES_ACTIVE) ⟨fun _ => rfl, rfl⟩, putLanes_active]

theorem switchTx_get {ψ : Nat → Fld} (hψ : PortFld ψ (laneFlds ++ [F.OFL_EVENT_CNT_DROPS 0, F.OFL_EVENT_CNT_ADDS 0]))
    (s : State) (p set : Nat) : (switchTx s p set).get (ψ p) = s.get (ψ p) := by
  rw [switchTx_eq, out_get, lanesCounted_get (hψ.mono (List.subset_append_right ..)),
    putLanes_get (hψ.mono (List.subset_append_left ..))]

theorem switchTx_ox (s : State) (p set : Nat) : (switchTx s p set).ox p = s.ox p := by
  rw [switchTx_eq, out_ox, lanesCounted_ox, putLanes_ox]

theorem request_get {ψ : Nat → Fld} (hψ : PortFld ψ [F.OFL_STATUS_LANE_BUSY 0]) (s : State) (p set cause : Nat) :
    (request s p set cause).get (ψ p) = s.get (ψ p) := by
  unfold request
  dsimp only
  rw [queueCtl_get, get_put_port (φ := F.OFL_STATUS_LANE_BUSY) ⟨fun _ => rfl, rfl⟩ hψ, modOx_get]

theorem request_chg (s : State) (p set cause : Nat) : ((request s p set cause).ox p).chg
    = some { mine := true, id := (s.ox p).reqId, set := set, cause := cause } := by
  unfold request
  dsimp only
  rw [queueCtl_ox, put_ox, modOx_ox]

theorem laneIdle_noWait (h : (s.ox p).cmdWait = false) : laneIdle s p = s := if_neg (by simp [h])

/-- No change is in progress any more. -/
def chgCleared (s : State) (p : Nat) : State :=
  (s.modOx p fun x => { x with chg := none }).put (F.OFL_STATUS_LANE_BUSY p) 0

theorem chgCleared_ox (s : State) (p : Nat) : (chgCleared s p).ox p = { s.ox p with chg := none } := by
  rw [chgCleared, put_ox, modOx_ox]

theorem chgCleared_get {ψ : Nat → Fld} (hψ : PortFld ψ [F.OFL_STATUS_LANE_BUSY 0]) (s : State) (p : Nat) :
    (chgCleared s p).get (ψ p) = s.get (ψ p) := by
  rw [chgCleared, get_put_port (φ := F.OFL_STATUS_LANE_BUSY) ⟨fun _ => rfl, rfl⟩ hψ, modOx_get]

theorem chgCleared_busy (s : State) (p : Nat) : (chgCleared s p).bit (F.OFL_STATUS_LANE_BUSY p) = false :=
  State.bit_of_get (n := 0) (get_put_port_self (φ := F.OFL_STATUS_LANE_BUSY) ⟨fun _ => rfl, rfl⟩ ..)

/-- The end of a change may complete this end's software request. -/
theorem endChg_cases (s : State) (p r : Nat) :
    ∃ t, (t = s ∨ t = cmdDone s p r) ∧ endChg s p r = laneIdle (chgCleared t p) p := by
  unfold endChg
  extract_lets t
  refine ⟨t, ?_, rfl⟩
  simp only [t]
  split
  · split
    · exact .inr rfl
    · exact .inl rfl
  · exact .inl rfl

/-- Where no software request waits, the end of a change leaves no change in progress, and the lanes as they are. -/
theorem endChg_spec (hw : (s.ox p).cmdWait = false) (r : Nat) :
    (endChg s p r).ox p = { s.ox p with chg := none } ∧ (endChg s p r).bit (F.OFL_STATUS_LANE_BUSY p) = false
      ∧ ∀ {ψ : Nat → Fld}, PortFld ψ (F.OFL_STATUS_LANE_BUSY 0 :: cmdFlds) → (endChg s p r).get (ψ p) = s.get (ψ p) := by
  obtain ⟨t, ht, he⟩ := endChg_cases s p r
  have hox : t.ox p = s.ox p := by
    rcases ht with rfl | rfl
    · rfl
    · exact cmdDone_ox ..
  have hidle : laneIdle (chgCleared t p) p = chgCleared t p := laneIdle_noWait (by rw [chgCleared_ox, hox, hw])
  rw [he, hidle]
  refine ⟨by rw [chgCleared_ox, hox], chgCleared_busy t p, fun hψ => ?_⟩
  rw [chgCleared_get (hψ.mono (by simp))]
  rcases ht with rfl | rfl
  · rfl
  · exact cmdDone_get (hψ.mono (List.subset_cons_self ..)) ..

/-! ### Answers (R98, R100, R101) -/

/-- A change that ends with the transmit on its set. -/
theorem switched_spec (hw : (s.ox p).cmdWait = false) (set : Nat) :
    (endChg (switchTx s p set) p 0).get (F.OFL_LANES_ACTIVE p) = set % 65536
      ∧ ((endChg (switchTx s p set) p 0).ox p).chg = none := by
  obtain ⟨hox, -, hget⟩ := endChg_spec (s := switchTx s p set) (p := p) (by rw [switchTx_ox, hw]) 0
  refine ⟨?_, by rw [hox]⟩
  rw [hget (ψ := F.OFL_LANES_ACTIVE) ⟨fun _ => rfl, rfl⟩, switchTx_active]

/-- The partner's failed lanes are noted where its rejection names them. -/
def rejNoted (s : State) (p set cause : Nat) : State :=
  if cause = 2 then s.modOx p fun x => { x with peerFailed := x.peerFailed ||| set } else s

theorem rejNoted_get (s : State) (p set cause : Nat) (f : Fld) : (rejNoted s p set cause).get f = s.get f := by
  unfold rejNoted
  split
  · rw [modOx_get]
  · rfl

theorem rejNoted_cmdWait (s : State) (p set cause : Nat) :
    ((rejNoted s p set cause).ox p).cmdWait = (s.ox p).cmdWait := by
  unfold rejNoted
  split
  · rw [modOx_ox]
  · rfl

theorem minusBits_lt (a b : Nat) : minusBits a b < 65536 :=
  lt_of_le_of_lt Nat.and_le_right (Nat.xor_lt_two_pow (n := 16) (by decide) (Nat.and_lt_two_pow _ (by decide)))

/-- Lanes are marked failed, and the failure is reported. -/
def lanesMarked (s : State) (p bad : Nat) : State :=
  (s.put (F.OFL_LANES_FAILED p) (s.get (F.OFL_LANES_FAILED p) ||| bad)).raise (320 + 8 * p + 2)

theorem lanesMarked_failed {bad : Nat} (hbad : bad < 65536) (s : State) (p : Nat) :
    (lanesMarked s p bad).get (F.OFL_LANES_FAILED p) = s.get (F.OFL_LANES_FAILED p) ||| bad := by
  rw [lanesMarked, get_raise_port (ψ := F.OFL_LANES_FAILED) ⟨fun _ => rfl, rfl⟩,
    get_put_port_self (φ := F.OFL_LANES_FAILED) ⟨fun _ => rfl, rfl⟩]
  exact Nat.mod_eq_of_lt (Nat.or_lt_two_pow (n := 16) (State.get_lt s (F.OFL_LANES_FAILED p)) hbad)

theorem lanesMarked_active (s : State) (p bad : Nat) :
    (lanesMarked s p bad).get (F.OFL_LANES_ACTIVE p) = s.get (F.OFL_LANES_ACTIVE p) := by
  rw [lanesMarked, get_raise_port (ψ := F.OFL_LANES_ACTIVE) ⟨fun _ => rfl, rfl⟩,
    get_put_port (φ := F.OFL_LANES_FAILED) (ψ := F.OFL_LANES_ACTIVE) ⟨fun _ => rfl, rfl⟩ ⟨fun _ => rfl, rfl⟩]

theorem lanesMarked_ox (s : State) (p bad q : Nat) : (lanesMarked s p bad).ox q = s.ox q := by
  rw [lanesMarked, raise_ox, put_ox]

section

variable {p : Fin 96} {id : Fin 256} {c : LaneChg} (hact : oflActive s p = true)
include hact

/-- A request for failed lanes is taken at once. -/
theorem laneReq_failure (hchg : (s.ox p).chg = none) (id set : Nat) (low : Bool) :
    laneReq s p id set 1 low = laneIdle (queueCtl (switchTx s p set) p (.acc id)) p := by
  simp [laneReq, hact, hchg]

theorem runs_laneReq (hw : (s.ox p).cmdWait = false) (hchg : (s.ox p).chg = none) (id : Fin 256) (set : BitVec 16)
    (low : Bool) : runs (.laneReq p id set 1 low) s fun t =>
      t.get (F.OFL_LANES_ACTIVE p) = set.toNat ∧ (t.ox p).ctlq = (s.ox p).ctlq ++ [.acc id] := by
  have hox : (queueCtl (switchTx s p set.toNat) p (.acc id)).ox p
      = { s.ox p with ctlq := (s.ox p).ctlq ++ [.acc id] } := by rw [queueCtl_ox, switchTx_ox]
  have he := laneReq_failure hact hchg id set.toNat low
  rw [laneIdle_noWait (by rw [hox, hw])] at he
  refine ⟨_, congrArg Host.Outcome.next he, ?_, by rw [hox]⟩
  rw [queueCtl_get, switchTx_active]
  exact Nat.mod_eq_of_lt set.isLt

variable (hw : (s.ox p).cmdWait = false) (hchg : (s.ox p).chg = some c)
include hchg

theorem runs_laneReqResend (hmine : c.mine = true) (hacc : c.accepted = false) (hsends : c.sends < 8) :
    runs (.laneReqResend p) s fun t =>
      (t.ox p).chg = some { c with sends := c.sends + 1 }
        ∧ (t.ox p).ctlq = (s.ox p).ctlq ++ [.req c.id c.set c.cause] := by
  have he : exec (.laneReqResend p) s = .next (queueCtl
      (s.modOx p fun x => { x with chg := some { c with sends := c.sends + 1 } }) p (.req c.id c.set c.cause)) :=
    congrArg Host.Outcome.next (by simp [hact, hchg, hmine, hacc, hsends])
  exact ⟨_, he, by rw [queueCtl_ox, modOx_ox], by rw [queueCtl_ox, modOx_ox]⟩

theorem runs_addLaneLock (hadd : isAdd s p c.set = true) (hacc : c.accepted = true) (hsent : c.readySent = false)
    (hgot : c.readyGot = false) : runs (.addLaneLock p) s fun t =>
      (t.ox p).chg = some { c with readySent := true } ∧ (t.ox p).ctlq = (s.ox p).ctlq ++ [.ready c.id] := by
  have he : exec (.addLaneLock p) s = .next ((queueCtl s p (.ready c.id)).modOx p fun x =>
      { x with chg := some { c with readySent := true } }) :=
    congrArg Host.Outcome.next (by simp [hact, hchg, hacc, hadd, hsent, hgot])
  exact ⟨_, he, by rw [modOx_ox], by rw [modOx_ox, queueCtl_ox]⟩

include hw

theorem runs_laneAcc (hid : c.id = id.val) (hmine : c.mine = true) (hcause : c.cause ≠ 1)
    (hadd : isAdd s p c.set = false) :
    runs (.laneAcc p id) s fun t => t.get (F.OFL_LANES_ACTIVE p) = c.set % 65536 ∧ (t.ox p).chg = none :=
  ⟨_, congrArg Host.Outcome.next (by simp [laneAcc, hact, hchg, hid, hmine, hcause, hadd]), switched_spec hw c.set⟩

theorem runs_laneReady (hid : c.id = id.val) (hadd : isAdd s p c.set = true) (hready : c.readySent = true) :
    runs (.laneReady p id) s fun t => t.get (F.OFL_LANES_ACTIVE p) = c.set % 65536 ∧ (t.ox p).chg = none :=
  ⟨_, congrArg Host.Outcome.next (by simp [laneReady, hact, hchg, hid, hadd, hready]), switched_spec hw c.set⟩

theorem runs_laneRej (hid : c.id = id.val) (set : BitVec 16) (cause : Fin 5) :
    runs (.laneRej p id set cause) s fun t =>
      t.get (F.OFL_LANES_ACTIVE p) = s.get (F.OFL_LANES_ACTIVE p) ∧ (t.ox p).chg = none
        ∧ t.bit (F.OFL_STATUS_LANE_BUSY p) = false := by
  have he : exec (.laneRej p id set cause) s = .next (endChg (rejNoted s p set.toNat cause) p 1) :=
    congrArg Host.Outcome.next (by simp [laneRej, hact, hchg, hid, rejNoted])
  obtain ⟨hox, hbusy, hget⟩ := endChg_spec (s := rejNoted s p set.toNat cause) (p := p)
    ((rejNoted_cmdWait ..).trans hw) 1
  refine ⟨_, he, ?_, by rw [hox], hbusy⟩
  rw [hget (ψ := F.OFL_LANES_ACTIVE) ⟨fun _ => rfl, rfl⟩, rejNoted_get]

/-- Added lanes that have not locked are marked, and the change ends with the lanes as they are. -/
theorem runs_addLaneTimeout (hacc : c.accepted = true) (hsent : c.readySent = false) (lanes : BitVec 16) {bad : Nat}
    (hbad : bad = minusBits (lanes.toNat &&& c.set) (s.get (F.OFL_LANES_ACTIVE p))) (h0 : bad ≠ 0) :
    runs (.addLaneTimeout p lanes) s fun t =>
      t.get (F.OFL_LANES_FAILED p) = s.get (F.OFL_LANES_FAILED p) ||| bad ∧ (t.ox p).chg = none
        ∧ t.get (F.OFL_LANES_ACTIVE p) = s.get (F.OFL_LANES_ACTIVE p) := by
  have he : exec (.addLaneTimeout p lanes) s = .next (endChg (queueCtl (lanesMarked s p bad) p
      (.rej c.id ((lanesMarked s p bad).get (F.OFL_LANES_FAILED p)) 2)) p 1) :=
    congrArg Host.Outcome.next (by simp [hact, hchg, hacc, hsent, ← hbad, h0, lanesMarked])
  obtain ⟨hox, -, hget⟩ := endChg_spec (p := p) (s := queueCtl (lanesMarked s p bad) p
    (.rej c.id ((lanesMarked s p bad).get (F.OFL_LANES_FAILED p)) 2)) (by rw [queueCtl_ox, lanesMarked_ox, hw]) 1
  refine ⟨_, he, ?_, by rw [hox], ?_⟩
  · rw [hget (ψ := F.OFL_LANES_FAILED) ⟨fun _ => rfl, rfl⟩, queueCtl_get, lanesMarked_failed (hbad ▸ minusBits_lt ..)]
  · rw [hget (ψ := F.OFL_LANES_ACTIVE) ⟨fun _ => rfl, rfl⟩, queueCtl_get, lanesMarked_active]

end

/-! ### Requests of power management (R102) -/

section

variable {p : Fin 96} {n set : Nat} (hact : oflActive s p = true) (hbusy : s.bit (F.OFL_STATUS_LANE_BUSY p) = false)
  (hen : s.bit (F.OFL_CTRL_PM_EN p) = true) (hset : set = lowest n (goodLanes s p)) (hvalid : setValid s p set = true)
include hact hbusy hen hset hvalid

theorem runs_oflPmNarrow (hn : n = popc (s.get (F.OFL_LANES_ACTIVE p)) / 2) (hidle : s.get (F.OFL_TIMERS_PM_IDLE p) ≠ 0)
    (hmin : 2 ^ (min 4 (s.get (F.OFL_CTRL_PM_MIN p))) ≤ n) : runs (.oflPmNarrow p) s fun t =>
      (t.ox p).chg = some { mine := true, id := (s.ox p).reqId, set := set, cause := 0 } := by
  have he : exec (.oflPmNarrow p) s = .next (request s p set 0) := congrArg Host.Outcome.next (by
    simp [laneFree, hact, hbusy, hen, ← hn, ← hset, hvalid, hidle, hmin])
  exact ⟨_, he, request_chg ..⟩

theorem runs_oflPmWiden (hn : n = laneCount (min (2 * popc (s.get (F.OFL_LANES_ACTIVE p))) (popc (goodLanes s p))))
    (hlt : popc (s.get (F.OFL_LANES_ACTIVE p)) < n) : runs (.oflPmWiden p) s fun t =>
      (t.ox p).chg = some { mine := true, id := (s.ox p).reqId, set := set, cause := 0 } := by
  have he : exec (.oflPmWiden p) s = .next (request s p set 0) := congrArg Host.Outcome.next (by
    simp [laneFree, hact, hbusy, hen, ← hn, ← hset, hvalid, hlt])
  exact ⟨_, he, request_chg ..⟩

end

/-! ### The request of software (R102) -/

theorem regAt_laneCmd (p : Fin 96) : ∃ row, regAt (R.OFL_LANE_CMD p).addr = some (row, (R.OFL_LANE_CMD p).addr)
    ∧ row.flds = [⟨31, 31, .wo⟩, ⟨15, 0, .rw⟩] := regAt_of_flds (by revert p; decide)

/-- The word of a request of software: START and the mask. -/
def laneCmdWord (mask : BitVec 16) : Word := BitVec.ofNat 64 (2 ^ 31 + mask.toNat)

theorem laneCmdWord_start (mask : BitVec 16) : (laneCmdWord mask).getLsbD 31 = true := by
  have := mask.isLt
  simp only [laneCmdWord, BitVec.getLsbD_ofNat, Nat.testBit_eq_decide_div_mod_eq]
  simp only [Nat.reduceLT, decide_true, Bool.true_and, decide_eq_true_eq]
  omega

theorem laneCmdWord_mask (mask : BitVec 16) : bitsGet (laneCmdWord mask) 15 0 = mask.toNat := by
  have := mask.isLt
  simp only [bitsGet, laneCmdWord, BitVec.toNat_ofNat]
  omega

/-- The write of a request changes OFL_LANE_CMD alone, whose MASK is then the one written. -/
theorem writeReg_laneCmd (s : State) (mid : Nat) (p : Fin 96) (mask : BitVec 16) :
    ∃ v, s.writeReg (R.OFL_LANE_CMD p) (wrFull mid false (laneCmdWord mask)) = s.wr (R.OFL_LANE_CMD p) v
      ∧ (s.wr (R.OFL_LANE_CMD p) v).get (F.OFL_LANE_CMD_MASK p) = mask.toNat := by
  obtain ⟨row, hrow, hf⟩ := regAt_laneCmd p
  obtain ⟨v, hv⟩ := writeReg_eq_wr (s := s) (w := wrFull mid false (laneCmdWord mask)) (deny := 0#64) hrow
    (by simp [hf, fieldNo])
  refine ⟨v, hv, ?_⟩
  rw [← hv]
  refine (State.get_writeReg_rw _ _ 15 0 .rw _ _ hrow (by simp [R.OFL_LANE_CMD, R.BRK_LOSS]; omega) (by rw [hf]; decide)
    (by simp [hf]) (.inl rfl) (by simp [fieldNo]) fun i _ hi =>
      getLsbD_mask_wrFull (wide := false) (show i < 32 by omega) ..).trans ?_
  rw [bitsGet_wrFull (wide := false) (show 15 < 32 by decide), laneCmdWord_mask]

theorem get_wr_laneCmd {ψ : Nat → Fld} (hψ : PortFld ψ [⟨R.OFL_LANE_CMD 0, 63, 0⟩]) (s : State) (p : Nat) (v : Word) :
    (s.wr (R.OFL_LANE_CMD p) v).get (ψ p) = s.get (ψ p) := by
  have h := hψ.addr_ne List.mem_cons_self
  refine State.get_wr_ne _ _ _ _ ?_
  rw [hψ.place]
  simp only [Fld.ofPort, R.OFL_LANE_CMD] at h ⊢
  omega

/-- What a port may ask for does not depend on OFL_LANE_CMD. -/
theorem setValid_wr_laneCmd (s : State) (p : Nat) (v : Word) (set : Nat) :
    setValid (s.wr (R.OFL_LANE_CMD p) v) p set = setValid s p set := by
  simp only [setValid, goodLanes, wr_ox, get_wr_laneCmd (ψ := F.OFL_LANES_FAILED) ⟨fun _ => rfl, rfl⟩,
    get_wr_laneCmd (ψ := F.OFL_LANES_ACTIVE) ⟨fun _ => rfl, rfl⟩]

theorem oflActive_wr_laneCmd (s : State) (p : Nat) (v : Word) :
    oflActive (s.wr (R.OFL_LANE_CMD p) v) p = oflActive s p := by
  simp only [oflActive, get_wr_laneCmd (ψ := F.PORT_CFG_ROLE) ⟨fun _ => rfl, rfl⟩,
    get_wr_laneCmd (ψ := F.OFL_STATUS_STATE) ⟨fun _ => rfl, rfl⟩]

/-- A valid request of software is sent, and the port shows that it is busy with it. -/
theorem runs_oflLaneCmd {p : Fin 96} (hact : oflActive s p = true) (hlane : s.bit (F.OFL_STATUS_LANE_BUSY p) = false)
    (mid : Mid) (mask : BitVec 16) (hbusy : s.bit (F.OFL_LANE_CMD_BUSY p) = false)
    (hvalid : setValid s p mask.toNat = true) : runs (.oflLaneCmd mid p mask) s fun t =>
      t.bit (F.OFL_LANE_CMD_BUSY p) = true
        ∧ (t.ox p).chg = some { mine := true, id := (s.ox p).reqId, set := mask.toNat, cause := 2 } := by
  obtain ⟨v, hv, hmask⟩ := writeReg_laneCmd s mid p mask
  have hstart : (wrFull mid false (laneCmdWord mask)).sets (F.OFL_LANE_CMD_START p) = true :=
    (wrFull_sets rfl (show 31 < 32 by decide) ..).trans (laneCmdWord_start mask)
  have hlane' : (s.wr (R.OFL_LANE_CMD p) v).bit (F.OFL_STATUS_LANE_BUSY p) = false := by
    rw [State.bit, get_wr_laneCmd (ψ := F.OFL_STATUS_LANE_BUSY) ⟨fun _ => rfl, rfl⟩]
    exact hlane
  have he : wrLaneCmd p (wrFull mid false (laneCmdWord mask)) s
      = request ((s.wr (R.OFL_LANE_CMD p) v).put (F.OFL_LANE_CMD_BUSY p) 1) p mask.toNat 2 := by
    simp only [wrLaneCmd, hstart, hbusy, hv, hmask, oflActive_wr_laneCmd, hact, hlane', setValid_wr_laneCmd, hvalid,
      if_true, Bool.not_true, Bool.false_eq_true, if_false]
  refine ⟨_, (congrArg Host.Outcome.next (if_pos (oflActive_iff.1 hact).1)).trans (congrArg Host.Outcome.next he), ?_, ?_⟩
  · refine State.bit_of_get (n := 1) ?_
    rw [request_get (ψ := F.OFL_LANE_CMD_BUSY) ⟨fun _ => rfl, rfl⟩,
      get_put_port_self (φ := F.OFL_LANE_CMD_BUSY) ⟨fun _ => rfl, rfl⟩]
    rfl
  · rw [request_chg, put_ox, wr_ox]

/-- Settles O16: each answer and each request by the one state it makes, with no software request behind the change. -/
theorem laneRequests : Obligations.LaneRequests := by
  refine fun p s hact hw => ⟨fun id set low hchg => runs_laneReq hact hw hchg id set low, fun id c hchg hid => ?answers,
    fun hlane => ⟨fun n set hen hset hvalid => ?power, runs_oflLaneCmd hact hlane⟩⟩
  case answers =>
    exact ⟨runs_laneAcc hact hw hchg hid, runs_laneRej hact hw hchg hid,
      fun hadd => ⟨runs_laneReady hact hw hchg hid hadd,
        fun hacc hsent => ⟨runs_addLaneLock hact hchg hadd hacc hsent,
          fun lanes _ => runs_addLaneTimeout hact hw hchg hacc hsent lanes⟩⟩,
      runs_laneReqResend hact hchg⟩
  case power =>
    exact ⟨runs_oflPmNarrow hact hlane hen hset hvalid, runs_oflPmWiden hact hlane hen hset hvalid⟩

end Sys2Proof.Machine
end

section
/-! Lanes that fail, alignment runs and lane checks (R94, R99, R109), for O17. -/

namespace Sys2Proof.Machine

variable {s : State}

/-- A request withdrawn leaves the fields of the port but those of the request of software. -/
theorem withdraw_get {ψ : Nat → Fld} (hψ : PortFld ψ cmdFlds) (s : State) (p : Nat) :
    (withdraw s p).get (ψ p) = s.get (ψ p) := by
  unfold withdraw
  split
  next c _ =>
    split
    · split
      · exact (modOx_get ..).trans (cmdDone_get hψ ..)
      · exact modOx_get ..
    · exact modOx_get ..
  next => rfl

/-- Where an active lane is left, lanes declared failed are marked; a set of those left is requested where one is lost. -/
theorem declareLanes_cases {p lanes : Nat} (hrest : minusBits (s.get (F.OFL_LANES_ACTIVE p)) lanes ≠ 0) :
    declareLanes s p lanes = lanesMarked s p lanes
      ∨ ∃ set, declareLanes s p lanes = request (switchTx (withdraw (lanesMarked s p lanes) p) p set) p set 1 := by
  by_cases h : minusBits (s.get (F.OFL_LANES_ACTIVE p)) lanes = s.get (F.OFL_LANES_ACTIVE p)
  · exact .inl ((if_neg hrest).trans (if_pos h))
  · exact .inr ⟨_, (if_neg hrest).trans (if_neg h)⟩

theorem declareLanes_failed {p lanes : Nat} (hrest : minusBits (s.get (F.OFL_LANES_ACTIVE p)) lanes ≠ 0)
    (hlt : lanes < 65536) :
    (declareLanes s p lanes).get (F.OFL_LANES_FAILED p) = s.get (F.OFL_LANES_FAILED p) ||| lanes := by
  rcases declareLanes_cases hrest with he | ⟨set, he⟩
  · rw [he, lanesMarked_failed hlt]
  · rw [he, request_get (ψ := F.OFL_LANES_FAILED) ⟨fun _ => rfl, rfl⟩,
      switchTx_get (ψ := F.OFL_LANES_FAILED) ⟨fun _ => rfl, rfl⟩,
      withdraw_get (ψ := F.OFL_LANES_FAILED) ⟨fun _ => rfl, rfl⟩, lanesMarked_failed hlt]

section

variable {p : Fin 96} (hact : oflActive s p = true)
include hact

theorem runs_oflLaneFailed (lanes : BitVec 16) (cause : LaneCause) {l : Nat} (hl : l = lanes.toNat &&& (s.ox p).link)
    (h0 : l ≠ 0) (hrest : minusBits (s.get (F.OFL_LANES_ACTIVE p)) l ≠ 0) : runs (.oflLaneFailed p lanes cause) s fun t =>
      t.get (F.OFL_LANES_FAILED p) = s.get (F.OFL_LANES_FAILED p) ||| l := by
  have he : exec (.oflLaneFailed p lanes cause) s = .next (declareLanes s p l) :=
    congrArg Host.Outcome.next (by simp [hact, ← hl, h0])
  exact ⟨_, he, declareLanes_failed hrest (hl ▸ lt_of_le_of_lt Nat.and_le_left lanes.isLt)⟩

theorem runs_alignmentRun (set intact : BitVec 16) (h0 : popc set.toNat ≠ 0)
    (hintact : minusBits set.toNat intact.toNat = 0) : runs (.alignmentRun p set intact) s fun t =>
      (t.ox p).rxSet = set.toNat ∧ { t with ofl := s.ofl } = s := by
  have he : exec (.alignmentRun p set intact) s = .next (s.modOx p fun x => { x with rxSet := set.toNat }) :=
    congrArg Host.Outcome.next (by simp [hact, h0, hintact])
  exact ⟨_, he, by rw [modOx_ox], rfl⟩

theorem runs_laneCheck_send (hbad : 8 ≤ (s.ox p).badRun) : runs (.laneCheck p .send) s fun t =>
    (t.ox p).check = true ∧ (t.ox p).badRun = 0 ∧ t.outs = s.outs ++ [.run p (s.get (F.OFL_LANES_ACTIVE p))] := by
  have he : exec (.laneCheck p .send) s = .next (((s.modOx p fun x => { x with badRun := 0, check := true }).put
      (F.OFL_STATUS_LANE_BUSY p) 1).out (.run p (s.get (F.OFL_LANES_ACTIVE p)))) :=
    congrArg Host.Outcome.next (by simp [hact, hbad])
  exact ⟨_, he, by rw [out_ox, put_ox, modOx_ox], by rw [out_ox, put_ox, modOx_ox], rfl⟩

theorem runs_laneCheck_recv (bad : BitVec 16) (hgood : bad.toNat &&& (s.ox p).rxSet = 0)
    (hcheck : (s.ox p).check = false) : runs (.laneCheck p (.recv bad)) s fun t =>
      t.outs = s.outs ++ [.run p (s.get (F.OFL_LANES_ACTIVE p))] ∧ { t with outs := s.outs } = s := by
  have he : exec (.laneCheck p (.recv bad)) s = .next (s.out (.run p (s.get (F.OFL_LANES_ACTIVE p)))) :=
    congrArg Host.Outcome.next (by simp [hact, hcheck, hgood])
  exact ⟨_, he, rfl, rfl⟩

end

theorem runs_trackerExpire (n : Fin 4096) : runs (.trackerExpire n) s fun t =>
    t.ofl.tracker = s.ofl.tracker.eraseIdx n ∧ t.ofl.ports = s.ofl.ports ∧ { t with ofl := s.ofl } = s :=
  ⟨_, rfl, rfl, rfl, rfl⟩

/-- Settles O17: lanes of the link are marked whether or not an active one fails, and the runs and checks make one state. -/
theorem laneFailures : Obligations.LaneFailures := fun _ _ =>
  ⟨fun hact => ⟨fun lanes cause _ => runs_oflLaneFailed hact lanes cause, runs_alignmentRun hact,
    runs_laneCheck_send hact, runs_laneCheck_recv hact⟩, runs_trackerExpire⟩

end Sys2Proof.Machine
end

section
/-! What the accounts of the shared buffer leave where it is (R110 to R143, R414): packets in queues, chains and staging,
the links of ports and their roles. For O18, O19 and O21. -/

namespace Sys2Proof.Machine

variable {s t u : State} {p : Nat}

/-- The Millrace without its accounts: cells in use, Spilling and congested queues, references of multicast packets. -/
def MillSt.places (m : MillSt) : MillSt :=
  { m with rot := 0, used := [], spilling := [], mcasts := [], congested := [], holds := [] }

/-- The device without its registers, and without the records that are kept of packets on their way. -/
def State.places (s : State) : State :=
  { s with regs := [], marks := [], brk := {}, pmc := {}, rte := {}, fresh := 0, mill := s.mill.places }

/-- From s to t no packet moves: accounts of the Millrace, records of requests and of events, and samples may change; ports
keep their roles. -/
structure Still (s t : State) : Prop where
  places : t.places = s.places
  role : ∀ p, p < 96 → t.get (F.PORT_CFG_ROLE p) = s.get (F.PORT_CFG_ROLE p)

theorem Still.refl (s : State) : Still s s := ⟨rfl, fun _ _ => rfl⟩

theorem Still.of_regs (hp : t.places = s.places) (hr : t.regs = s.regs) : Still s t :=
  ⟨hp, fun _ _ => State.get_congr hr _⟩

theorem Still.trans (h : Still s t) (h' : Still t u) : Still s u :=
  ⟨h'.places.trans h.places, fun p hp => (h'.role p hp).trans (h.role p hp)⟩

theorem Still.after (h : Still u t) (hp : u.places = s.places) (hr : u.regs = s.regs) : Still s t :=
  .trans (.of_regs hp hr) h

theorem Still.ite {c : Prop} [Decidable c] (ht : Still s t) (hu : Still s u) : Still s (if c then t else u) := by
  split
  · exact ht
  · exact hu

theorem Still.foldl {β : Type} {f : State → β → State} (hf : ∀ s b, Still s (f s b)) (l : List β) (s : State) :
    Still s (l.foldl f s) := by
  induction l generalizing s with
  | nil => exact .refl s
  | cons b l ih => exact (hf s b).trans (ih (f s b))

section

variable (h : Still s t)
include h

theorem Still.millPlaces : t.mill.places = s.mill.places := (congrArg State.mill h.places :)
theorem Still.queue (k : Nat) : queue t k = queue s k := (congrArg (fun m => tget [] (MillSt.queues m) k) h.millPlaces :)
theorem Still.queues : t.mill.queues = s.mill.queues := (congrArg MillSt.queues h.millPlaces :)
theorem Still.presented : t.mill.presented = s.mill.presented := (congrArg MillSt.presented h.millPlaces :)
theorem Still.waiting : t.mill.waiting = s.mill.waiting := (congrArg MillSt.waiting h.millPlaces :)
theorem Still.staged : t.mill.staged = s.mill.staged := (congrArg MillSt.staged h.millPlaces :)
theorem Still.chains : t.mill.chains = s.mill.chains := (congrArg MillSt.chains h.millPlaces :)
theorem Still.stop : t.mill.stop = s.mill.stop := (congrArg MillSt.stop h.millPlaces :)
theorem Still.reports : t.mill.reports = s.mill.reports := (congrArg MillSt.reports h.millPlaces :)
theorem Still.ports : t.ports = s.ports := (congrArg State.ports h.places :)
theorem Still.spd : t.spd = s.spd := (congrArg State.spd h.places :)
theorem Still.img : t.img = s.img := (congrArg State.img h.places :)
theorem Still.fuse : t.fuse = s.fuse := (congrArg State.fuse h.places :)
theorem Still.outs : t.outs = s.outs := (congrArg State.outs h.places :)

end

/-- Whether an egress point is open depends on the links of ports and on their flushes. -/
theorem egressOpen_congr (hp : t.ports = s.ports) (hs : t.mill.stop = s.mill.stop) (e : Nat) :
    egressOpen t e = egressOpen s e := by
  simp only [egressOpen, State.px, hp, hs]

/-! ### Registers, events and records -/

/-- The registers that give ports their roles lie below those of the switch and above those of Brake and the counters. -/
theorem still_wr {r : Reg} (hr : r.addr < 0x42000000 ∨ 0x44000000 ≤ r.addr) (s : State) (v : Word) : Still s (s.wr r v) :=
  ⟨rfl, fun p hp => State.get_wr_ne _ _ _ _ (by simp only [F.PORT_CFG_ROLE, R.PORT_CFG]; omega)⟩

theorem still_put {f : Fld} (hf : f.reg.addr < 0x42000000 ∨ 0x44000000 ≤ f.reg.addr) (s : State) (n : Nat) :
    Still s (s.put f n) := still_wr hf ..

theorem still_inc {f : Fld} (hf : f.reg.addr < 0x42000000 ∨ 0x44000000 ≤ f.reg.addr) (s : State) (n : Nat) :
    Still s (s.inc f n) := still_put hf ..

theorem still_raise (s : State) (n : Nat) (d : Detail) : Still s (s.raise n d) := by
  unfold State.raise
  exact .ite (.of_regs rfl rfl) (.after (still_inc (by decide) ..) rfl rfl)

theorem still_injWrite (s : State) (target i a : Nat) : Still s (injWrite s target i a) := by
  unfold injWrite
  extract_lets hit m s1
  have h1 : Still s s1 :=
    .ite ((still_put (by decide) ..).trans ((still_put (by decide) ..).trans (still_put (by decide) ..))) (.refl s)
  exact h1.trans (.of_regs rfl rfl)

/-! ### Samples (R414 to R416) -/

theorem still_smpShow (s : State) : Still s (smpShow s) := by
  unfold smpShow
  extract_lets n h s1
  have h1 : Still s s1 := (still_put (by decide) ..).trans (still_put (by decide) ..)
  exact h1.trans ((still_wr (by decide) ..).trans ((still_wr (by decide) ..).trans
    ((still_wr (by decide) ..).trans (still_wr (by decide) ..))))

theorem still_smpPut (s : State) (r : Bytes) : Still s (smpPut s r) := by
  unfold smpPut
  have hshow : Still s (smpShow (s.modPmc fun p => { p with samples := p.samples ++ [r] })) :=
    .after (still_smpShow _) rfl rfl
  exact .ite (.refl s) (.ite (still_inc (by decide) ..) (.ite (hshow.trans (still_raise ..)) hshow))

theorem still_tsEnd (s : State) (k : Nat) (timeout err : Bool) : Still s (tsEnd s k timeout err) := by
  unfold tsEnd
  split
  · exact .refl s
  · exact .after (still_smpPut ..) rfl rfl

theorem still_sampleErr (s : State) (q : Pkt) : Still s (sampleErr s q) :=
  .foldl (fun s _ => .ite (still_tsEnd ..) (.refl s)) ..

theorem still_sampleOut (s : State) (e : Nat) (q : Pkt) : Still s (sampleOut s e q) :=
  .foldl (fun s _ => .ite (still_tsEnd ..) (.ite (still_tsEnd ..) (.refl s))) ..

/-! ### Cells, shares and congestion (R112, R118, R121) -/

theorem still_putOcc (s : State) (c n : Nat) : Still s (putOcc s c n) := by
  have hc : ∀ f : Fld, f.reg = R.SWC_CLASS_OCC c → f.reg.addr < 0x42000000 ∨ 0x44000000 ≤ f.reg.addr := by
    rintro f hf
    simp only [hf, R.SWC_CLASS_OCC]
    omega
  exact (still_put (hc _ rfl) ..).trans (still_put (hc _ rfl) ..)

theorem still_freeCell (s : State) (b : Nat) : Still s (freeCell s b) := by
  have hused : Still s (s.modMill fun m => { m with used := tmod 0 m.used b (· - 1) }) := .of_regs rfl rfl
  unfold freeCell
  exact .ite hused (hused.trans (still_put (by decide) ..))

theorem still_freeCells (s : State) (q : Pkt) : Still s (freeCells s q) :=
  (Still.foldl still_freeCell ..).trans (still_putOcc ..)

theorem still_cellWrite (s : State) (b : Nat) : Still s (cellWrite s b) := by
  unfold cellWrite
  exact .ite (.refl s) (.after ((still_injWrite ..).trans (still_injWrite ..)) rfl rfl)

theorem still_takeCells (s : State) (c : Nat) (q : Pkt) : Still s (takeCells s c q).1 := by
  unfold takeCells
  extract_lets r s1 s2
  have h1 : Still s s1 := .of_regs rfl rfl
  exact (h1.trans (still_put (by decide) ..)).trans ((still_putOcc ..).trans (.foldl still_cellWrite ..))

/-- The congested state of a queue, and the hold of its egress point, are all that bringing it up to date changes. -/
theorem updCong_eq (s : State) (k : Nat) :
    ∃ l h, updCong s k = s.modMill fun m => { m with congested := l, holds := h } := by
  unfold updCong
  extract_lets c w o s1
  split
  · split
    · split
      · exact ⟨_, _, rfl⟩
      · exact ⟨_, _, rfl⟩
    · exact ⟨_, _, rfl⟩
  · split
    · exact ⟨_, _, rfl⟩
    · exact ⟨_, _, rfl⟩

theorem still_updCong (s : State) (k : Nat) : Still s (updCong s k) := by
  obtain ⟨l, h, he⟩ := updCong_eq s k
  rw [he]
  exact .of_regs rfl rfl

theorem queue_putQueue_self (s : State) (k : Nat) (l : List QEnt) : queue (putQueue s k l) k = l := tget_tput_self ..

theorem queue_putQueue_ne (s : State) {k j : Nat} (l : List QEnt) (h : j ≠ k) : queue (putQueue s k l) j = queue s j :=
  tget_tput_ne _ _ _ h

/-! ### Requests in progress and multicast references (R126 to R128, R161) -/

theorem still_putOutstanding (s : State) (b n : Nat) : Still s (s.put (F.RTE_BIND_OUT_OUTSTANDING b) n) :=
  still_put (by simp only [F.RTE_BIND_OUT_OUTSTANDING, R.RTE_BIND_OUT]; omega) ..

theorem still_sentAdd (s : State) (e : Nat) (q : Pkt) : Still s (sentAdd s e q) := by
  unfold sentAdd
  refine .ite (.refl s) (.ite (.refl s) ?_)
  cases q.bind with
  | none => exact .of_regs rfl rfl
  | some n => exact .after (still_putOutstanding ..) rfl rfl

theorem still_sentDone (s : State) (x : Sent) : Still s (sentDone s x) := by
  unfold sentDone
  cases x.bind with
  | none => exact .of_regs rfl rfl
  | some n => exact .after (still_putOutstanding ..) rfl rfl

theorem still_sentClose (s : State) (q : Pkt) : Still s (sentClose s q) := by
  unfold sentClose
  split
  · exact still_sentDone ..
  · exact .refl s

theorem still_mcEnd (s : State) (m : McPkt) : Still s (mcEnd s m) := by
  unfold mcEnd
  extract_lets s1 s2
  have h1 : Still s s1 := .after (still_freeCells ..) rfl rfl
  exact .ite h1 (((h1.trans (still_put (by decide) ..)).trans (still_put (by decide) ..)).trans
    ((still_put (by decide) ..).trans ((still_put (by decide) ..).trans (still_raise ..))))

theorem still_mcRelease (s : State) (id : Nat) (port : Option Nat) : Still s (mcRelease s id port) := by
  unfold mcRelease
  split
  · exact .refl s
  · extract_lets s1 m'
    have h1 : Still s s1 := .ite (still_inc (by decide) ..) (.refl s)
    exact .ite (h1.trans (still_mcEnd ..)) (h1.trans (.of_regs rfl rfl))

end Sys2Proof.Machine
end

section
/-! The Headrace takes a packet that is admitted (R114, R118, R119), for O18. -/

namespace Sys2Proof.Machine

variable {s t u : State} {e : Nat} {q : Pkt} {x : Present}

/-- The samplers that see a packet at the Headrace change their own state, and no register. -/
theorem sampleTake_eq (s : State) (src : Src) (d : Option Nat) (q : Pkt) :
    ∃ a b, sampleTake s src d q = { s with pmc := a, fresh := b } := by
  have hstep : ∀ s k, ∃ a b, tsCount src d q s k = { s with pmc := a, fresh := b } := by
    intro s k
    unfold tsCount
    split
    · exact ⟨_, _, rfl⟩
    · extract_lets y jit n s1 ends tag y1 y2
      obtain ⟨b, hb⟩ : ∃ b, s1 = { s with fresh := b } := by
        rcases ite_eq_or_eq (y.period.isNone = true) s.bump s with h | h <;> exact ⟨_, h⟩
      exact ⟨_, b, by rw [hb]; rfl⟩
  unfold sampleTake
  induction samplers generalizing s with
  | nil => exact ⟨_, _, rfl⟩
  | cons k l ih =>
    obtain ⟨a, b, h⟩ := hstep s k
    obtain ⟨a', b', h'⟩ := ih (tsCount src d q s k)
    exact ⟨a', b', by rw [List.foldl_cons, h', h]⟩

/-- A packet on the queue of egress point e and its class: marked, with its cells, and its request recorded (R118, R122). -/
def admitted (s : State) (e : Nat) (q : Pkt) : State :=
  let c := classOf s q
  let r := markPkt s (isCongested s (queueNo e c)) q
  let t := takeCells r.1 c r.2
  sentAdd (pushQueue t.1 (queueNo e c) { pkt := t.2 }) e q

theorem admissible_iff : admissible s e q = true ↔ q.isRsp = false ∧ egressOpen s e = true
    ∧ isSpilling s (queueNo e (classOf s q)) = false ∧ classAdmits s (classOf s q) (cellsOf q) = true
    ∧ queueAdmits s (queueNo e (classOf s q)) (cellsOf q) = true ∧ cellsFree s (cellsOf q) = true := by
  simp only [admissible, Bool.and_eq_true, Bool.not_eq_true', and_assoc]

theorem admitOne_of_admissible (h : admissible s e q = true) : admitOne s e q = some (admitted s e q) := by
  obtain ⟨hrsp, -, hspill, hclass, hqueue, hcells⟩ := admissible_iff.1 h
  simp only [admitOne, hspill, hclass, hqueue, hcells, rspClose, hrsp, admitted, Bool.and_true, Bool.not_false, if_true,
    Bool.false_eq_true, if_false]

theorem trackRsp_of_request (hr : q.isRsp = false) : trackRsp s e q = (s, false) := by
  simp only [trackRsp, trackHit, hr, Bool.not_false, if_true]

/-- The Headrace decodes a request and puts it on the queue of its egress point; the samplers have seen it. -/
theorem carry_of_admissible (hd : decode s x = .to e q) (h : admissible s e q = true) :
    ∃ a b, carry s x = some (admitted { s with pmc := a, fresh := b } e q) := by
  obtain ⟨a, b, hs⟩ := sampleTake_eq s x.src (some e) x.pkt
  refine ⟨a, b, ?_⟩
  have h' : admissible { s with pmc := a, fresh := b } e q = true := h
  obtain ⟨hrsp, hopen, -⟩ := admissible_iff.1 h'
  simp only [carry, hd, Dec.point, hs, carryDec, trackRsp_of_request hrsp, hopen, Bool.not_true, Bool.false_eq_true, if_false,
    admitOne_of_admissible h']

theorem still_markPkt (s : State) (cong : Bool) (q : Pkt) : Still s (markPkt s cong q).1 := by
  unfold markPkt
  split
  · exact still_inc (by decide) ..
  · exact .refl s

theorem markPkt_tag_data (s : State) (cong : Bool) (q : Pkt) :
    (markPkt s cong q).2.tag = q.tag ∧ (markPkt s cong q).2.data = q.data := by
  unfold markPkt
  split <;> exact ⟨rfl, rfl⟩

theorem Still.putQueue (h : Still s t) (k : Nat) (l : List QEnt) : Still (putQueue s k l) (putQueue t k l) :=
  ⟨(congrArg (Machine.putQueue · k l) h.places :), h.role⟩

/-- The packet stands at the end of its queue; no other packet moves. -/
theorem still_admitted (s : State) (e : Nat) (q : Pkt) :
    ∃ r : Pkt, Still (putQueue s (queueNo e (classOf s q)) (queue s (queueNo e (classOf s q)) ++ [{ pkt := r }])) (admitted s e q)
      ∧ r.tag = q.tag ∧ r.data = q.data ∧ r.qc = classOf s q := by
  let r := markPkt s (isCongested s (queueNo e (classOf s q))) q
  obtain ⟨htag, hdata⟩ : r.2.tag = q.tag ∧ r.2.data = q.data := markPkt_tag_data ..
  have ht : Still s (takeCells r.1 (classOf s q) r.2).1 := (still_markPkt ..).trans (still_takeCells ..)
  refine ⟨(takeCells r.1 (classOf s q) r.2).2, ?_, htag, hdata, rfl⟩
  rw [← ht.queue]
  exact ((ht.putQueue ..).trans (still_updCong ..)).trans (still_sentAdd ..)

/-- What is seen of a packet that the Headrace has taken. -/
theorem admitted_spec (s : State) (e : Nat) (q : Pkt) : let t := admitted s e q
    enqueued s t e q (classOf s q) ∧ t.mill.presented = s.mill.presented ∧ t.mill.waiting = s.mill.waiting
      ∧ t.spd = s.spd ∧ t.img = s.img ∧ t.fuse = s.fuse ∧ t.outs = s.outs := by
  obtain ⟨r, h, hr⟩ := still_admitted s e q
  exact ⟨⟨r, (h.queue _).trans (queue_putQueue_self ..), hr⟩, h.presented, h.waiting, h.spd, h.img, h.fuse, h.outs⟩

theorem freeCred_of_none (hc : x.cred = none) (s : State) : freeCred s x = s := by simp only [freeCred, hc]

theorem accept_of_carry (hw : s.mill.waiting.any (sameBuf x) = false) (hc : x.cred = none) (h : carry s x = some t) :
    accept s x = t := by
  simp only [accept, hw, h, freeCred_of_none hc, Bool.false_eq_true, if_false]

/-- The oldest packet presented inside the device leaves the list, and is accepted. -/
theorem exec_headraceAccept_presented {l : List Present} (hp : s.mill.presented = x :: l) :
    exec (.headraceAccept none) s = .next (accept { s with mill := { s.mill with presented := l } } x) :=
  congrArg Host.Outcome.next (by simp only [hp]; rfl)

/-- A packet that waits leaves the list as it is carried on. -/
theorem exec_admitWaiting_carried {n : Nat} (hx : s.mill.waiting[n]? = some x) (hc : x.cred = none)
    (hw : (s.mill.waiting.take n).any (sameBuf x) = false) (h : carry s x = some t) :
    exec (.admitWaiting n) s = .next (t.modMill fun m => { m with waiting := m.waiting.eraseIdx n }) :=
  congrArg Host.Outcome.next (by simp only [hx, hw, h, freeCred_of_none hc, Bool.false_eq_true, if_false])

/-- Settles O18: the Headrace carries an admissible packet to the end of its queue, wherever it stood. -/
theorem headraceTakes : Obligations.HeadraceTakes := by
  intro s
  constructor
  · intro x l hp hc hw u e q hd hadm
    obtain ⟨a, b, h⟩ := carry_of_admissible hd hadm
    obtain ⟨henq, hrest⟩ := admitted_spec { u with pmc := a, fresh := b } e q
    exact ⟨_, (exec_headraceAccept_presented hp).trans (congrArg _ (accept_of_carry hw hc h)), henq, hrest⟩
  · intro n x hx hc hw e q hd hadm
    obtain ⟨a, b, h⟩ := carry_of_admissible hd hadm
    obtain ⟨henq, hpres, hwait, hrest⟩ := admitted_spec { s with pmc := a, fresh := b } e q
    exact ⟨_, exec_admitWaiting_carried hx hc hw h, henq, congrArg (List.eraseIdx · n) hwait, hpres, hrest⟩

end Sys2Proof.Machine
end

section
/-! The Tailrace sends the packet that the order chooses (R117, R120), for O19. -/

namespace Sys2Proof.Machine

variable {s t u : State} {e : Nat} {q : Pkt} {x : QEnt}

/-! ### Packets that the device itself receives -/

theorem bridgeAnswer_queues (s : State) (n : Nat) (q : Pkt) : (bridgeAnswer s n q).mill.queues = s.mill.queues := by
  unfold bridgeAnswer
  split <;> rfl

theorem fnStray_queues (s : State) (p : Nat) (q : Pkt) : (fnStray s p q).mill.queues = s.mill.queues := by
  unfold fnStray
  split
  · rfl
  · split
    · rfl
    · exact (still_raise ..).queues

theorem toMillwright_queues (s : State) (q : Pkt) : (toMillwright s q).mill.queues = s.mill.queues := by
  unfold toMillwright
  split
  · rfl
  · split <;> rfl

/-! ### Egress -/

/-- What the Tailrace notes as it starts a packet: its samples, its DevLoad, the hold of its egress point (R124). -/
def egressNoted (s : State) (e : Nat) (q : Pkt) : State :=
  let s := injWrite (sampleOut s e q) 7 (min e 95 / 24) 0
  let s := if devLoadOut s q = q.devload then s else s.inc F.SWC_CONG_CNT_DEVLOAD
  if q.mark && (q.cls == .mReq || q.cls == .mRwD) && !s.mill.holds.contains e then
    s.modMill fun m => { m with holds := m.holds ++ [e] } else s

/-- The packet as it is sent. -/
def egressPkt (s : State) (e : Nat) (q : Pkt) : Pkt :=
  { q with devload := devLoadOut (injWrite (sampleOut s e q) 7 (min e 95 / 24) 0) q, banks := [] }

theorem still_egressNoted (s : State) (e : Nat) (q : Pkt) : Still s (egressNoted s e q) := by
  unfold egressNoted
  extract_lets s1 s2
  have h1 : Still s s1 := (still_sampleOut ..).trans (still_injWrite ..)
  have h2 : Still s s2 := h1.trans (.ite (.refl s1) (still_inc (by decide) ..))
  exact .ite (h2.trans (.of_regs rfl rfl)) h2

/-- On a PCIe/CXL port the packet leaves the device. -/
theorem egress_port (he : e < 96) (hr : s.get (F.PORT_CFG_ROLE e) ≠ 3) (q : Pkt) :
    egress s e q = (egressNoted s e q).out (.pkt e { egressPkt s e q with mark := false }) := by
  rw [← (still_egressNoted s e q).role e he] at hr
  exact (if_pos he).trans (if_neg hr)

theorem queues_ite {c : Prop} [Decidable c] {l : Tab (List QEnt)} (ht : t.mill.queues = l) (hu : u.mill.queues = l) :
    (if c then t else u).mill.queues = l := by
  split
  · exact ht
  · exact hu

/-- A packet that is sent takes no other one along, wherever it goes. -/
theorem egress_queues (s : State) (e : Nat) (q : Pkt) : (egress s e q).mill.queues = s.mill.queues := by
  rw [← (still_egressNoted s e q).queues]
  unfold egress
  extract_lets s1 d s2 s3 r
  change _ = s3.mill.queues
  refine queues_ite (queues_ite rfl rfl) (queues_ite rfl (queues_ite rfl (queues_ite (queues_ite ?bridge ?fn)
    (queues_ite (toMillwright_queues ..) (queues_ite rfl rfl)))))
  case bridge =>
    split
    · exact bridgeAnswer_queues ..
    · rfl
  case fn =>
    split
    · exact queues_ite (fnStray_queues ..) rfl
    · rfl

/-! ### A packet off its queue -/

/-- A packet that is neither a multicast copy nor dead nor contained gives its cells back and is sent. -/
theorem takeEnt_sent {k i : Nat} (hmc : x.mc = none) (hdead : x.pkt.dead = false) (hcont : containedPkt s x.pkt = false) :
    ∃ u, Still (putQueue s k ((dropLost (queue s k)).eraseIdx i)) u ∧ takeEnt s e k i x = egress u e x.pkt := by
  unfold takeEnt
  generalize (dropLost (queue s k)).eraseIdx i = l
  have hcont' : containedPkt (updCong (putQueue s k l) k) x.pkt = false := by
    obtain ⟨a, b, he⟩ := updCong_eq (putQueue s k l) k
    rw [he]
    exact hcont
  simp only [hmc, hdead, hcont', Bool.false_eq_true, if_false]
  exact ⟨_, (still_updCong ..).trans (still_freeCells ..), rfl⟩

/-- A packet is taken off its queue and sent; what the order of classes keeps of its turns moves no packet. -/
theorem exec_tailraceDequeue_sent {e : Fin 127} {cr : BitVec 8 × BitVec 8 × BitVec 8} {c n : Nat} {d : Tab Nat}
    (hopen : egressOpen s e = true) (hpick : pickClass s cr e = some (c, d)) (hsend : sendable s cr e c = some (n, x))
    (hmc : x.mc = none) (hdead : x.pkt.dead = false) (hcont : containedPkt s x.pkt = false) :
    ∃ u, u.mill.queues = (putQueue s (queueNo e c) ((dropLost (queue s (queueNo e c))).eraseIdx n)).mill.queues
      ∧ u.outs = s.outs ∧ (e.val < 96 → u.get (F.PORT_CFG_ROLE e) = s.get (F.PORT_CFG_ROLE e))
      ∧ exec (.tailraceDequeue e cr) s = .next (egress u e x.pkt) := by
  obtain ⟨u, hu, htake⟩ := takeEnt_sent (s := s.modMill fun m => { m with
      turn := if isLatency s c then m.turn else tput 0 m.turn e c
      deficit := if isLatency s c then d else tmod 0 d (queueNo e c) (· - max 1 x.pkt.len) })
    (e := e) (k := queueNo e c) (i := n) hmc hdead hcont
  refine ⟨u, hu.queues, hu.outs, hu.role e, congrArg Host.Outcome.next ?_⟩
  simp only [hopen, hpick, hsend, Bool.not_true, Bool.false_eq_true, if_false]
  exact htake

/-- Settles O19: the entry leaves its queue, and egress moves no other packet; on a PCIe/CXL port it ends with the output. -/
theorem tailraceSends : Obligations.TailraceSends := by
  intro e cr s c n d x hopen hpick hsend hmc hdead hcont
  obtain ⟨u, hqueues, houts, hrole, he⟩ := exec_tailraceDequeue_sent hopen hpick hsend hmc hdead hcont
  have hq : ∀ k, queue (egress u e x.pkt) k
      = queue (putQueue s (queueNo e c) ((dropLost (queue s (queueNo e c))).eraseIdx n)) k := fun k =>
    congrArg (tget [] · k) ((egress_queues ..).trans hqueues)
  refine ⟨_, he, (hq _).trans (queue_putQueue_self ..), fun k hk => (hq k).trans (queue_putQueue_ne _ _ hk), fun h96 hport => ?_⟩
  rw [egress_port h96 (by rwa [hrole h96]), out_outs, (still_egressNoted ..).outs, houts]
  exact ⟨_, rfl, rfl, rfl⟩

end Sys2Proof.Machine
end

section
/-! Writes of SWC_TC_MAP (R115), for O20. -/

namespace Sys2Proof.Machine

variable {s : State}

/-- The class that a map gives a kind. -/
def mapClass (v : Word) (n : Nat) : Nat := v.toNat / 2 ^ (4 * n) % 8

theorem bitsGet_kind (v : Word) (n : Nat) : bitsGet v (4 * n + 2) (4 * n) = mapClass v n := by
  rw [bitsGet, show 4 * n + 2 + 1 - 4 * n = 3 by omega]
  rfl

/-- A map that spills CXL.mem, or joins kinds that must stay apart (R115). -/
def tcMapBad (s : State) (k : Nat → Nat) : Bool :=
  ((List.range 15).any fun n => decide (8 ≤ n) && (s.get F.SWC_LEAT_CFG_MASK).testBit (k n)) || k 9 == k 10
    || (List.range 15).any fun n => n != 11 && n != 12 && (k n == k 11 || k n == k 12)

/-- The map is taken where it is not bad. -/
theorem tcMapOk_eq (s : State) (v : Word) : tcMapOk s v = !tcMapBad s (mapClass v) := by
  have hspill : ([8, 9, 10, 11, 12, 13, 14].all fun i => !leatClass s (mapClass v i))
      = !(List.range 15).any fun n => decide (8 ≤ n) && (s.get F.SWC_LEAT_CFG_MASK).testBit (mapClass v n) := by
    rw [List.not_any_eq_all_not]
    simp [List.range_succ, leatClass, State.hasBit]
  have hapart : ((List.range 15).all fun n =>
        n == 11 || n == 12 || (mapClass v n != mapClass v 11 && mapClass v n != mapClass v 12))
      = !(List.range 15).any fun n => n != 11 && n != 12 && (mapClass v n == mapClass v 11 || mapClass v n == mapClass v 12) := by
    rw [List.not_any_eq_all_not]
    simp only [bne, Bool.not_and, Bool.not_or, Bool.not_not, Bool.or_assoc]
  simp only [tcMapOk, bitsGet_kind, tcMapBad, hspill, hapart, Bool.not_or]
  rfl

/-- The fields of SWC_TC_MAP. -/
def tcMapFlds : List FRow := (List.range 16).map fun n => ⟨4 * n + 2, 4 * n, .rwl⟩

theorem regAt_tcMap : ∃ row, regAt R.SWC_TC_MAP.addr = some (row, R.SWC_TC_MAP.addr) ∧ row.flds = tcMapFlds :=
  regAt_of_flds (by decide)

theorem locked_tcMap (s : State) : s.locked R.SWC_TC_MAP.addr = s.bit F.SWC_LOCK_LOCK := rfl

/-- A full write of a wide register leaves none of its bits. -/
theorem wrFull_word (mid : Nat) (v old : Word) :
    (old &&& ~~~(wrFull mid true v).mask) ||| ((wrFull mid true v).v &&& (wrFull mid true v).mask) = v := by
  show (old &&& ~~~BitVec.allOnes 64) ||| (v &&& BitVec.allOnes 64) = v
  rw [BitVec.not_allOnes, BitVec.and_zero, BitVec.zero_or, BitVec.and_allOnes]

theorem exec_tcMapWrite (mid : Mid) (v : Word) (s : State) : exec (.tcMapWrite mid v) s = .next
    (if tcMapBad s (mapClass v) then s.refuse R.SWC_TC_MAP.addr mid 8 else s.writeReg R.SWC_TC_MAP (wrFull mid true v)) := by
  refine congrArg Host.Outcome.next ?_
  rw [wrTcMap, wrFull_word, tcMapOk_eq]
  cases tcMapBad s (mapClass v) <;> rfl

/-- With the block not locked every kind takes its class. -/
theorem writeReg_tcMap (hl : s.bit F.SWC_LOCK_LOCK = false) (mid : Nat) (v : Word) :
    (∃ x, s.writeReg R.SWC_TC_MAP (wrFull mid true v) = s.wr R.SWC_TC_MAP x)
      ∧ ∀ n, n < 16 → (s.writeReg R.SWC_TC_MAP (wrFull mid true v)).get (F.SWC_TC_MAP_KIND n) = mapClass v n := by
  obtain ⟨row, hrow, hf⟩ := regAt_tcMap
  have hno : ∀ f ∈ row.flds, fieldNo (s.locked R.SWC_TC_MAP.addr) 0#64 (wrFull mid true v) f = false := by
    intro f hmem
    obtain ⟨n, -, rfl⟩ := List.mem_map.1 (hf ▸ hmem)
    simp [fieldNo, locked_tcMap, hl]
  refine ⟨writeReg_eq_wr hrow hno, fun n hn => ?_⟩
  have hmem : (⟨4 * n + 2, 4 * n, .rwl⟩ : FRow) ∈ row.flds := hf ▸ List.mem_map.2 ⟨n, List.mem_range.2 hn, rfl⟩
  exact (State.get_writeReg_rw _ _ (4 * n + 2) (4 * n) .rwl _ _ hrow (by decide) (by rw [hf]; decide) hmem (.inr (.inr rfl))
    (hno _ hmem) fun i _ hi => getLsbD_mask_wrFull (wide := true) (show i < 64 by omega) ..).trans (bitsGet_kind ..)

/-- Settles O20: the model's test of a map is the negation of the statement's. -/
theorem tcMap : Obligations.TcMap := by
  refine fun mid v s => ⟨fun hbad => ?refused, fun hgood hlock => ?taken⟩
  case refused =>
    refine ⟨_, (exec_tcMapWrite ..).trans (congrArg _ (if_pos hbad)), refuse_srcs .., ?_, onlyRegsEvents_raise ..⟩
    exact regsKept_raise (regsKept_refl s _) List.mem_cons_self
  case taken =>
    obtain ⟨⟨x, hx⟩, hget⟩ := writeReg_tcMap hlock mid v
    refine ⟨_, (exec_tcMapWrite ..).trans (congrArg _ (if_neg (ne_true_of_eq_false hgood))), hget, ?_⟩
    rw [hx]
    exact ⟨regsKept_wr (regsKept_refl s _) List.mem_cons_self, rfl⟩

end Sys2Proof.Machine
end

section
/-! Holds, multicast timeouts, and the flush of a port that went down (R124, R127, R130, R131, R133), for O21. -/

namespace Sys2Proof.Machine

variable {s t u : State} {p : Nat}

/-! ### Multicast timeouts (R127) -/

theorem regs_updCong (s : State) (k : Nat) : (updCong s k).regs = s.regs := by
  obtain ⟨l, h, he⟩ := updCong_eq s k
  rw [he]
  rfl

theorem mcasts_updCong (s : State) (k : Nat) : (updCong s k).mill.mcasts = s.mill.mcasts := by
  obtain ⟨l, h, he⟩ := updCong_eq s k
  rw [he]
  rfl

/-- A copy that a port has lost, of a packet with other copies to go, is counted and recorded. -/
theorem mcRelease_missed {id : Nat} {m : McPkt} (hm : s.mill.mcasts.find? (fun y => y.id == id) = some m) (hr : 2 ≤ m.refs)
    (p : Nat) : mcRelease s id (some p) = (s.inc F.SWC_MC_CNT_MISSED).modMill fun x => { x with
      mcasts := x.mcasts.map fun y => if y.id = id then { m with refs := m.refs - 1, missed := m.missed ||| 2 ^ p } else y } := by
  simp only [mcRelease, hm, Option.isSome_some, if_true]
  exact if_neg (by show m.refs - 1 ≠ 0; omega)

theorem runs_multicastTimeout {p : Fin 96} {id c : Nat} {m : McPkt}
    (hm : s.mill.mcasts.find? (fun y => y.id == id) = some m) (hr : 2 ≤ m.refs)
    (hc : (List.range 8).find? (fun c => (queue s (queueNo p c)).any fun x => x.mc == some id && !x.lost) = some c) :
    runs (.multicastTimeout p id) s fun t =>
      queue t (queueNo p c) = (queue s (queueNo p c)).map (fun x => if x.mc == some id then { x with lost := true } else x)
        ∧ t.mill.mcasts
          = s.mill.mcasts.map (fun y => if y.id = id then { m with refs := m.refs - 1, missed := m.missed ||| 2 ^ p.val } else y)
        ∧ t.get F.SWC_MC_CNT_MISSED = min F.SWC_MC_CNT_MISSED.max (s.get F.SWC_MC_CNT_MISSED + 1)
        ∧ regsKept s t [R.SWC_MC_CNT.addr] := by
  let k := queueNo p c
  let l := (queue s k).map fun x => if x.mc == some id then { x with lost := true } else x
  have hregs : (updCong (putQueue s k l) k).regs = s.regs := regs_updCong ..
  have hmc : (updCong (putQueue s k l) k).mill.mcasts = s.mill.mcasts := mcasts_updCong ..
  have he : exec (.multicastTimeout p id) s = .next (mcRelease (updCong (putQueue s k l) k) id (some p)) :=
    congrArg Host.Outcome.next (by simp only [hc, k, l])
  rw [mcRelease_missed (hmc.symm ▸ hm) hr] at he
  refine ⟨_, he, ((still_updCong ..).queue k).trans (queue_putQueue_self ..), congrArg (List.map _) hmc, ?_, ?_⟩
  · exact (State.get_inc_self _ _ _ (by decide) (by decide)).trans (by rw [State.get_congr hregs])
  · exact regsKept_put (fun q _ => State.rd_congr hregs q) List.mem_cons_self

/-! ### What the flush of a port leaves (R131) -/

/-- From s to t packets of port p are lost: none is put on its queues or chains, and what shows its link stays. -/
structure Drains (s t : State) (p : Nat) : Prop where
  queues : ∀ c, c < 8 → queue s (queueNo p c) = [] → queue t (queueNo p c) = []
  chains : ∀ c, tget [] s.mill.chains (queueNo p c) = [] → tget [] t.mill.chains (queueNo p c) = []
  staged : t.mill.staged = s.mill.staged
  stop : t.mill.stop = s.mill.stop
  reports : t.mill.reports = s.mill.reports
  ports : t.ports = s.ports
  role : ∀ p, p < 96 → t.get (F.PORT_CFG_ROLE p) = s.get (F.PORT_CFG_ROLE p)

theorem Drains.refl (s : State) (p : Nat) : Drains s s p := ⟨fun _ _ => id, fun _ => id, rfl, rfl, rfl, rfl, fun _ _ => rfl⟩

theorem Drains.trans (h : Drains s t p) (h' : Drains t u p) : Drains s u p :=
  ⟨fun c hc e => h'.queues c hc (h.queues c hc e), fun c e => h'.chains c (h.chains c e), h'.staged.trans h.staged,
    h'.stop.trans h.stop, h'.reports.trans h.reports, h'.ports.trans h.ports, fun p hp => (h'.role p hp).trans (h.role p hp)⟩

theorem Still.drains (h : Still s t) (p : Nat) : Drains s t p :=
  ⟨fun _ _ => (h.queue _).trans, fun _ => (congrArg (tget [] · _) h.chains).trans, h.staged, h.stop, h.reports, h.ports, h.role⟩

theorem Drains.egressOpen (h : Drains s t p) : egressOpen t p = egressOpen s p := egressOpen_congr h.ports h.stop p

theorem drains_ite {c : Prop} [Decidable c] (ht : Drains s t p) (hu : Drains s u p) : Drains s (if c then t else u) p := by
  split
  · exact ht
  · exact hu

theorem drains_present (s : State) (x : Present) : Drains s (present s x) p :=
  ⟨fun _ _ => id, fun _ => id, rfl, rfl, rfl, rfl, fun _ _ => rfl⟩

theorem classOf_lt (s : State) (q : Pkt) : classOf s q < 8 :=
  (s.get_lt _).trans_le (by simp only [F.SWC_TC_MAP_KIND]; rw [show 4 * kindOf q + 2 + 1 - 4 * kindOf q = 3 by omega]; decide)

/-- An entry is put on a queue of another egress point. -/
theorem drains_pushQueue {e c : Nat} (he : e ≠ p) (hc : c < 8) (s : State) (x : QEnt) :
    Drains s (pushQueue s (queueNo e c) x) p := by
  have hput : Drains s (putQueue s (queueNo e c) (queue s (queueNo e c) ++ [x])) p :=
    ⟨fun d hd => (queue_putQueue_ne _ _ (show queueNo p d ≠ queueNo e c by unfold queueNo; omega)).trans,
      fun _ => id, rfl, rfl, rfl, rfl, fun _ _ => rfl⟩
  exact hput.trans ((still_updCong ..).drains p)

section Closed

/-! A closed port takes no answer. -/

variable (hp : egressOpen s p = false)
include hp

theorem drains_foldl {β : Type} {f : State → β → State} (hf : ∀ s b, egressOpen s p = false → Drains s (f s b) p)
    (l : List β) : Drains s (l.foldl f s) p := by
  induction l generalizing s with
  | nil => exact .refl s p
  | cons b l ih =>
    have hb := hf s b hp
    exact hb.trans (ih (hb.egressOpen.trans hp))

/-- The answer to a request that keeps a cell goes to an open port, waits to be decoded, or is discarded. -/
theorem drains_answerHeld (q a : Pkt) : Drains s (answerHeld s q a) p := by
  unfold answerHeld
  extract_lets s1 keep
  have h1 : Drains s s1 p := (still_freeCells ..).drains p
  have hp1 : egressOpen s1 p = false := h1.egressOpen.trans hp
  clear_value s1
  refine h1.trans ?_
  split
  next e r _ =>
    refine drains_ite (drains_present ..) ?_
    split
    · exact ((still_freeCells ..).trans (still_inc (by decide) ..)).drains p
    · next hopen =>
      have he : e ≠ p := by
        rintro rfl
        simp [hp1] at hopen
      extract_lets c s2
      exact (((still_putOcc ..).trans (still_putOcc ..)).drains p).trans (drains_pushQueue he (classOf_lt ..) ..)
  next => exact ((still_freeCells ..).drains p).trans (drains_present ..)
  next => exact (still_freeCells ..).drains p

theorem drains_losePkt (e : Nat) (q : Pkt) : Drains s (losePkt e s q) p := by
  have hstill : ∀ {t}, Still s t → ∀ a, Drains s (answerHeld (sentClose t q) q a) p := fun ht a =>
    have h := (ht.trans (still_sentClose ..)).drains p
    h.trans (drains_answerHeld (h.egressOpen.trans hp) q a)
  have herr := still_sampleErr s q
  have hfree := herr.trans (still_freeCells _ q)
  have hdrop := (hfree.trans (still_raise _ 1345 (droppedDetail q e))).drains p
  unfold losePkt
  exact drains_ite (hfree.drains p) (drains_ite (hstill herr _) (drains_ite hdrop
    (drains_ite (drains_ite hdrop (hstill herr _)) (hfree.drains p))))

theorem drains_flushPkt (e : Nat) (q : Pkt) : Drains s (flushPkt e s q) p :=
  have h := (still_inc (f := F.SWC_FLUSH_CNT_PACKETS) (by decide) s 1).drains p
  h.trans (drains_losePkt (h.egressOpen.trans hp) e q)

theorem drains_flushEnt (e : Nat) (x : QEnt) : Drains s (flushEnt e s x) p := by
  unfold flushEnt
  split
  · exact drains_ite (.refl s p) (((still_inc (by decide) ..).trans (still_mcRelease ..)).drains p)
  · exact drains_flushPkt hp ..

/-- What each step of a fold brings about, later ones keep. -/
theorem drains_foldl_each {f : State → Nat → State} {P : Nat → State → Prop}
    (hf : ∀ s c, egressOpen s p = false → Drains s (f s c) p)
    (hstep : ∀ s c, c < 8 → egressOpen s p = false → P c (f s c))
    (hkeep : ∀ s t c, c < 8 → Drains s t p → P c s → P c t) {l : List Nat} (hl : ∀ c ∈ l, c < 8) :
    ∀ c ∈ l, P c (l.foldl f s) := by
  induction l generalizing s with
  | nil => exact fun _ hc => absurd hc List.not_mem_nil
  | cons b l ih =>
    have hb := hf s b hp
    have hp' := hb.egressOpen.trans hp
    intro c hc
    rcases List.mem_cons.1 hc with rfl | hc
    · have h8 := hl c List.mem_cons_self
      exact hkeep _ _ c h8 (drains_foldl hp' hf l) (hstep s c h8 hp)
    · exact ih hp' (fun c hc => hl c (List.mem_cons_of_mem _ hc)) c hc

end Closed

/-! ### PORT_DOWN (R130) -/

/-- One queue of port p is flushed. -/
def flushQueue (p : Nat) (s : State) (c : Nat) : State :=
  (queue s (queueNo p c)).foldl (flushEnt p) (updCong (putQueue s (queueNo p c) []) (queueNo p c))

theorem drains_putQueue_nil (s : State) (k p : Nat) : Drains s (putQueue s k []) p := by
  refine ⟨fun c _ hq => ?_, fun _ => id, rfl, rfl, rfl, rfl, fun _ _ => rfl⟩
  by_cases hk : queueNo p c = k
  · rw [hk]
    exact queue_putQueue_self ..
  · exact (queue_putQueue_ne _ _ hk).trans hq

theorem drains_flushQueue (hp : egressOpen s p = false) (c : Nat) : Drains s (flushQueue p s c) p := by
  have h := (drains_putQueue_nil s (queueNo p c) p).trans ((still_updCong _ (queueNo p c)).drains p)
  exact h.trans (drains_foldl (h.egressOpen.trans hp) (fun _ x hs => drains_flushEnt hs p x) _)

theorem queue_flushQueue (hp : egressOpen s p = false) {c : Nat} (hc : c < 8) :
    queue (flushQueue p s c) (queueNo p c) = [] := by
  have h := (drains_putQueue_nil s (queueNo p c) p).trans ((still_updCong _ (queueNo p c)).drains p)
  refine (drains_foldl (h.egressOpen.trans hp) (fun _ x hs => drains_flushEnt hs p x) _).queues c hc ?_
  exact ((still_updCong ..).queue _).trans (queue_putQueue_self ..)

/-- The queues of port p are flushed. -/
def flushQueues (p : Nat) (s : State) : State := (List.range 8).foldl (flushQueue p) s

/-- The packets of port p leave staging. -/
def unstage (p : Nat) (s : State) : State := s.modMill fun m => { m with staged := m.staged.filter fun x => x.queue / 8 != p }

/-- The list of classes is generalised so that the folds are compared, not evaluated. -/
theorem flushPort_eq (p : Nat) (s : State) : flushPort p s =
    ((flushQueues p s).mill.staged.filter fun x => x.queue / 8 == p).foldl
      (fun s x => flushEnt p s { pkt := x.pkt, mc := x.mc }) (unstage p (flushQueues p s)) := by
  unfold flushPort flushQueues
  generalize List.range 8 = l
  rfl

theorem drains_flushQueues (hp : egressOpen s p = false) : Drains s (flushQueues p s) p :=
  drains_foldl hp (fun _ c hs => drains_flushQueue hs c) _

theorem queue_flushQueues (hp : egressOpen s p = false) {c : Nat} (hc : c < 8) :
    queue (flushQueues p s) (queueNo p c) = [] :=
  drains_foldl_each (P := fun c s => queue s (queueNo p c) = []) hp (fun _ c hs => drains_flushQueue hs c)
    (fun _ _ hc hs => queue_flushQueue hs hc) (fun _ _ c hc h => h.queues c hc) (fun _ => List.mem_range.1) c
    (List.mem_range.2 hc)

/-- After the flush the queues of the port are empty and none of its packets is in staging. -/
theorem flushPort_spec (hp : egressOpen s p = false) : let t := flushPort p s
    (∀ c, c < 8 → queue t (queueNo p c) = []) ∧ (∀ x ∈ t.mill.staged, x.queue / 8 ≠ p)
      ∧ t.mill.reports = s.mill.reports ∧ ∀ p, p < 96 → t.get (F.PORT_CFG_ROLE p) = s.get (F.PORT_CFG_ROLE p) := by
  have h1 := drains_flushQueues hp
  have hempty := fun c => queue_flushQueues hp (c := c)
  rw [flushPort_eq]
  generalize flushQueues p s = u at h1 hempty ⊢
  have hp2 : egressOpen (unstage p u) p = false := h1.egressOpen.trans hp
  have h2 := drains_foldl hp2 (f := fun s x => flushEnt p s { pkt := x.pkt, mc := x.mc }) (fun _ x hs => drains_flushEnt hs p _)
    (u.mill.staged.filter fun x => x.queue / 8 == p)
  refine ⟨fun c hc => h2.queues c hc (hempty c hc), fun x hx => ?_, h2.reports.trans h1.reports,
    fun p hp => (h2.role p hp).trans (h1.role p hp)⟩
  rw [h2.staged] at hx
  simpa using (List.mem_filter.1 hx).2

theorem still_dsaCut (s : State) (p : Nat) : Still s (dsaCut s p) :=
  .ite ((still_put (by decide) ..).trans ((still_put (by decide) ..).trans (still_put (by decide) ..))) (.refl s)

theorem still_bindDone (s : State) (r : Nat) : Still s (bindDone s r) :=
  (still_put (by decide) ..).trans ((still_put (by decide) ..).trans (still_put (by decide) ..))

theorem still_bindEnd (s : State) (cmd : Bool) (r : Nat) : Still s (bindEnd s cmd r) :=
  .ite (still_bindDone ..) (.ite (.refl s) (still_raise ..))

theorem still_dropBinds (s : State) (p : Nat) : Still s (dropBinds s p) :=
  Still.foldl (f := fun s (b : BindOp) => bindEnd (bindDrop s b.n) b.cmd 3) (fun _ _ => .after (still_bindEnd ..) rfl rfl) _ s

theorem still_surpriseDown (s : State) (p : Nat) : Still s (surpriseDown s p) := by
  unfold surpriseDown
  split
  · exact .refl s
  · exact .ite (.refl s) (.after (still_raise ..) rfl rfl)

theorem upstreamDown_of_ne (h : s.get (F.PORT_CFG_ROLE p) ≠ 1) : upstreamDown s p = s := by
  simp only [upstreamDown, if_neg h]

/-- The report of port p is taken up. -/
def reportTaken (s : State) (p : Nat) : State := s.modMill fun m => { m with reports := m.reports.erase p }

/-- What PORT_DOWN does before it turns to the VCS of an upstream port. -/
def portDrained (s : State) (p : Nat) : State :=
  (surpriseDown (dropBinds (flushPort p (dsaCut (reportTaken s p) p)) p) p).modPx p fun x => { x with hotReset := false }

theorem exec_portDown {p : Fin 96} (hr : s.mill.reports.contains p.val = true) :
    exec (.portDown p) s = .next (upstreamDown (portDrained s p) p) :=
  congrArg Host.Outcome.next (if_neg (by rw [hr]; decide))

theorem portDrained_spec (hp : egressOpen s p = false) : let t := portDrained s p
    (∀ c, c < 8 → queue t (queueNo p c) = []) ∧ (∀ x ∈ t.mill.staged, x.queue / 8 ≠ p)
      ∧ t.mill.reports = s.mill.reports.erase p ∧ ∀ p, p < 96 → t.get (F.PORT_CFG_ROLE p) = s.get (F.PORT_CFG_ROLE p) := by
  have h1 : Still (reportTaken s p) (dsaCut (reportTaken s p) p) := still_dsaCut ..
  have h3 := (still_dropBinds (flushPort p (dsaCut (reportTaken s p) p)) p).trans (still_surpriseDown _ p)
  obtain ⟨hqueues, hstaged, hreports, hroles⟩ := flushPort_spec ((h1.drains p).egressOpen.trans hp)
  exact ⟨fun c hc => (h3.queue _).trans (hqueues c hc), fun x hx => hstaged x (h3.staged ▸ hx),
    h3.reports.trans (hreports.trans h1.reports),
    fun p hp => (h3.role p hp).trans ((hroles p hp).trans (h1.role p hp))⟩

theorem runs_portDown {p : Fin 96} (hr : s.mill.reports.contains p.val = true) (hp : egressOpen s p = false)
    (hrole : s.get (F.PORT_CFG_ROLE p) ≠ 1) : runs (.portDown p) s fun t =>
      t.mill.reports = s.mill.reports.erase p.val ∧ (∀ c, c < 8 → queue t (queueNo p c) = [])
        ∧ ∀ x, x ∈ t.mill.staged → x.queue / 8 ≠ p.val := by
  obtain ⟨hqueues, hstaged, hreports, hroles⟩ := portDrained_spec hp
  have hup := upstreamDown_of_ne (s := portDrained s p) (p := p) (by rwa [hroles p p.isLt])
  exact ⟨_, (exec_portDown hr).trans (congrArg _ hup), hreports, hqueues, hstaged⟩

/-! ### FLUSH_COMPLETE (R133) -/

/-- One chain of port p is read back and flushed. -/
def flushChain (p : Nat) (s : State) (c : Nat) : State :=
  (chainPkts s (queueNo p c)).foldl (flushPkt p) (freeChain s (queueNo p c))

theorem still_leaveSpill (s : State) (k : Nat) : Still s (leaveSpill s k) := by
  unfold leaveSpill
  exact .ite (.after (still_put (by decide) ..) rfl rfl) (.refl s)

/-- The packets of chain k are dropped. -/
def dropChain (s : State) (k : Nat) : State := s.modMill fun m => { m with chains := tput [] m.chains k [] }

theorem still_freeChain (s : State) (k : Nat) : Still (dropChain s k) (freeChain s k) :=
  (still_put (by decide) ..).trans (still_leaveSpill ..)

theorem chain_freeChain_self (s : State) (k : Nat) : tget [] (freeChain s k).mill.chains k = [] :=
  (congrArg (tget [] · k) (still_freeChain s k).chains).trans (tget_tput_self [] s.mill.chains k [])

theorem chain_freeChain_ne (s : State) {k j : Nat} (h : j ≠ k) :
    tget [] (freeChain s k).mill.chains j = tget [] s.mill.chains j :=
  (congrArg (tget [] · j) (still_freeChain s k).chains).trans (tget_tput_ne [] s.mill.chains [] h)

theorem drains_freeChain (s : State) (k p : Nat) : Drains s (freeChain s k) p := by
  have h := still_freeChain s k
  refine ⟨fun _ _ => (h.queue _).trans, fun c hc => ?_, h.staged, h.stop, h.reports, h.ports, h.role⟩
  by_cases hk : queueNo p c = k
  · rw [hk, chain_freeChain_self]
  · rw [chain_freeChain_ne s hk, hc]

theorem drains_flushChain (hp : egressOpen s p = false) (c : Nat) : Drains s (flushChain p s c) p := by
  have h := drains_freeChain s (queueNo p c) p
  exact h.trans (drains_foldl (h.egressOpen.trans hp) (fun _ q hs => drains_flushPkt hs p q) _)

theorem chain_flushChain (hp : egressOpen s p = false) (c : Nat) :
    tget [] (flushChain p s c).mill.chains (queueNo p c) = [] := by
  have hopen := (drains_freeChain s (queueNo p c) p).egressOpen.trans hp
  exact (drains_foldl hopen (fun _ q hs => drains_flushPkt hs p q) _).chains c (chain_freeChain_self ..)

/-- The chains of port p are flushed. -/
def flushChains (p : Nat) (s : State) : State := (List.range 8).foldl (flushChain p) s

theorem drains_flushChains (hp : egressOpen s p = false) : Drains s (flushChains p s) p :=
  drains_foldl hp (fun _ c hs => drains_flushChain hs c) _

theorem chain_flushChains (hp : egressOpen s p = false) {c : Nat} (hc : c < 8) :
    tget [] (flushChains p s).mill.chains (queueNo p c) = [] := by
  unfold flushChains
  generalize hl : List.range 8 = l
  exact drains_foldl_each (P := fun c s => tget [] s.mill.chains (queueNo p c) = []) hp
    (fun _ c hs => drains_flushChain hs c) (fun _ c _ hs => chain_flushChain hs c) (fun _ _ c _ h => h.chains c)
    (fun _ => hl ▸ List.mem_range.1) c (hl ▸ List.mem_range.2 hc)

/-- No record is kept of what a PCIe/CXL port had sent. -/
def sentForgotten (p : Nat) (s : State) : State :=
  if s.get (F.PORT_CFG_ROLE p) = 3 then s else (s.rte.sent.filter fun x => x.port == p).foldl sentDone s

theorem still_sentForgotten (p : Nat) (s : State) : Still s (sentForgotten p s) := .ite (.refl s) (.foldl still_sentDone ..)

theorem exec_flushComplete {p : Fin 96} (hstop : tget 0 s.mill.stop p = 1) (hr : s.mill.reports.contains p.val = false) :
    exec (.flushComplete p) s = .next ((sentForgotten p (flushChains p s)).modMill fun m => { m with
      stop := tput 0 m.stop p (if ((sentForgotten p (flushChains p s)).px p).up then 0 else 2) }) := by
  have hc : tget 0 s.mill.stop p = 1 ∧ (!s.mill.reports.contains p.val) = true := ⟨hstop, by rw [hr]; rfl⟩
  refine congrArg Host.Outcome.next ((if_pos hc).trans ?_)
  unfold sentForgotten flushChains
  generalize List.range 8 = l
  rfl

theorem runs_flushComplete {p : Fin 96} (hstop : tget 0 s.mill.stop p = 1) (hr : s.mill.reports.contains p.val = false) :
    runs (.flushComplete p) s fun t =>
      tget 0 t.mill.stop p = (if (s.px p).up then 0 else 2) ∧ ∀ c, c < 8 → tget [] t.mill.chains (queueNo p c) = [] := by
  have hp : egressOpen s p = false := by simp [egressOpen, hstop]
  have h := (drains_flushChains hp).trans ((still_sentForgotten p (flushChains p s)).drains p)
  have hchains := fun c hc => ((still_sentForgotten p (flushChains p s)).drains p).chains c (chain_flushChains hp (c := c) hc)
  refine ⟨_, exec_flushComplete hstop hr, ?_⟩
  generalize sentForgotten p (flushChains p s) = u at h hchains ⊢
  exact ⟨(tget_tput_self ..).trans (by rw [State.px, State.px, h.ports]), hchains⟩

/-- Settles O21: a multicast copy is marked as lost; while a port is closed nothing comes to its queues and chains. -/
theorem millraceTimersAndFlush : Obligations.MillraceTimersAndFlush :=
  ⟨fun _ _ => ⟨_, rfl, rfl⟩, fun _ _ => ⟨fun _ _ _ => runs_multicastTimeout, runs_portDown, runs_flushComplete⟩⟩

end Sys2Proof.Machine
end

section
/-! Cells given back to a class that is none of the eight (R112, R136, R141), for O22 and O23. The statements take packets of
any class c, and SWC_CLASS_OCC c lies 8 c bytes after SWC_CLASS_OCC 0: for class 8 that is SWC_TC_MAP, for class 34
SWC_LEAT_STATUS, where the field OCC stands over SPILLING and the field PEAK over PAGES_FREE. -/

namespace Sys2Proof.Machine

variable {s : State}

/-! ### The Leat writer (R136) -/

/-- A staged packet that no multicast packet owns goes to its chain and gives its cells back. -/
theorem exec_leatWrite_appended {x : Staged} {xs : List Staged} {ch : List (List Pkt)} {n : Nat}
    (hst : s.mill.staged = x :: xs) (hmc : x.mc = none) (hfit : leatFits s (cellsOf x.pkt) = true)
    (hch : chainAdd (tget [] s.mill.chains x.queue) { x.pkt with banks := [] } (s.get F.SWC_LEAT_STATUS_PAGES_FREE)
      = some (ch, n)) :
    exec .leatWrite s = .next (freeCells (((s.modMill fun m => { m with
      staged := xs, chains := tput [] m.chains x.queue ch, leatBytes := m.leatBytes + 256 * cellsOf x.pkt }).put
        F.SWC_LEAT_STATUS_PAGES_FREE (s.get F.SWC_LEAT_STATUS_PAGES_FREE - n)).inc F.SWC_LEAT_CNT_SPILLED) x.pkt) :=
  congrArg Host.Outcome.next (by
    simp only [hst, hmc, hfit, hch, Bool.not_true, Bool.false_eq_true, if_false]
    rfl)

/-- A posted write whose class is 34. -/
def class34Pkt : Pkt := { cls := .ioReq, op := .memWr, qc := 34 }

/-- The packet waits in staging for queue 0. One page is free and five queues spill; one channel of DDR5-4400 gives the Leat
room for a cell. -/
def class34Staged : State where
  regs := [(R.SWC_LEAT_CFG.addr, 0x100#64), (R.SWC_LEAT_STATUS.addr, 0x100000005#64), (R.POOL_CFG.addr, 0x1000001#64)]
  mill := { staged := [⟨0, class34Pkt, none⟩] }

/-- Refutes O22: LEAT_WRITE takes the one free page, but the packet names class 34. As its cells are given back, the PEAK of
that class is brought up to its OCC, the number of spilling queues: PAGES_FREE goes to 5 in place of 0. -/
theorem not_leatMoves : ¬ Obligations.LeatMoves := by
  intro h
  have hfit : leatFits class34Staged (cellsOf class34Pkt) = true := by decide
  have hch : chainAdd (tget [] class34Staged.mill.chains 0) { class34Pkt with banks := [] }
      (class34Staged.get F.SWC_LEAT_STATUS_PAGES_FREE) = some ([[class34Pkt]], 1) := by decide
  obtain ⟨t, ht, -, -, hfree, -⟩ := (h class34Staged).1 _ _ _ _ rfl rfl hfit hch
  obtain rfl := Host.Outcome.next.inj ((exec_leatWrite_appended (x := ⟨0, class34Pkt, none⟩) rfl rfl hfit hch).symm.trans ht)
  exact absurd hfree (by decide)

/-! ### Failed banks (R141) -/

/-- A completion of class 8, with one cell in bank 0, stands on queue 0. Kind 0 is mapped to class 1: SWC_TC_MAP differs from
its reset value by 1, which is what the model reads as the OCC of class 8. -/
def class8Queued : State where
  regs := [(R.SWC_TC_MAP.addr, 0x1#64)]
  mill := { queues := [(0, [{ pkt := { cls := .ioCpl, op := .cpl, banks := [0], qc := 8 } }])] }

/-- Refutes O23: the packet that is lost with bank 0 names class 8. As its cell is given back, the OCC of that class
goes from 1 to 0, and SWC_TC_MAP to its reset value. -/
theorem not_banksFail : ¬ Obligations.BanksFail := by
  intro h
  obtain ⟨t, ht, -, -, hmap⟩ := (h 0 0 (.bankFailed 0) class8Queued).1 (.inl rfl) (by decide)
  obtain rfl : bankFail 0 class8Queued = t := Host.Outcome.next.inj ht
  exact absurd (congrArg BitVec.toNat hmap) (by decide)

end Sys2Proof.Machine
end

section
/-! Commands given by one write of a 32-bit register whose fields all take it, for O24 and O31. -/

namespace Sys2Proof.Machine

variable {s t : State} {r : Reg} {w : Wr} {l : List FRow}

/-- A register at an address of its own, with these fields that software can act on. -/
def hasFlds (r : Reg) (l : List FRow) : Prop := ∃ row, regAt r.addr = some (row, r.addr) ∧ row.flds = l

/-- Every field takes a write, whoever writes it. -/
def openFlds (l : List FRow) : Bool := l.all fun f => f.ty == .rw || f.ty == .wo

theorem fieldNo_of_openFlds (ho : openFlds l = true) (locked : Bool) (w : Wr) : ∀ f ∈ l, fieldNo locked 0#64 w f = false := by
  intro f hf
  rcases Bool.or_eq_true_iff.1 (List.all_eq_true.1 ho f hf) with h | h <;> simp [fieldNo, eq_of_beq h]

/-- The write changes its register alone. -/
theorem writeReg_open (hr : hasFlds r l) (ho : openFlds l = true) : ∃ x, s.writeReg r w = s.wr r x := by
  obtain ⟨row, hrow, rfl⟩ := hr
  exact writeReg_eq_wr hrow (fieldNo_of_openFlds ho _ w)

theorem regsKept_writeReg_open (hr : hasFlds r l) (ho : openFlds l = true) : regsKept s (s.writeReg r w) [r.addr] := by
  obtain ⟨x, hx⟩ := writeReg_open (s := s) (w := w) hr ho
  rw [hx]
  exact regsKept_wr (regsKept_refl s _) List.mem_cons_self

theorem onlyRegs_writeReg_open (hr : hasFlds r l) (ho : openFlds l = true) : onlyRegs s (s.writeReg r w) := by
  obtain ⟨x, hx⟩ := writeReg_open (s := s) (w := w) hr ho
  rw [hx]
  exact onlyRegs_wr (onlyRegs_refl s)

/-- A field that takes writes reads as the word written. -/
theorem get_writeReg_full (hr : hasFlds r l) (hb : r.addr ≠ R.BRK_LOSS.addr) (hok : fldsOk l = true) {wide : Bool}
    {hi lo : Nat} (hm : (⟨hi, lo, .rw⟩ : FRow) ∈ l) (hhi : hi < if wide then 64 else 32) (mid : Nat) (v : Word) :
    (s.writeReg r (wrFull mid wide v)).get ⟨r, hi, lo⟩ = bitsGet v hi lo := by
  obtain ⟨row, hrow, rfl⟩ := hr
  rw [← bitsGet_wrFull (wide := wide) hhi lo mid v]
  exact State.get_writeReg_presented s r _ hrow hb hok hm rfl fun i _ hi' =>
    getLsbD_mask_wrFull (lt_of_le_of_lt hi' hhi) mid v

/-- A field that software cannot write stays. -/
theorem get_writeReg_beside (hr : hasFlds r l) (hb : r.addr ≠ R.BRK_LOSS.addr) (hok : fldsOk l = true) {hi lo : Nat}
    (hd : (l.all fun f => decide (hi < f.lo) || decide (f.hi < lo)) = true) :
    (s.writeReg r w).get ⟨r, hi, lo⟩ = s.get ⟨r, hi, lo⟩ := by
  obtain ⟨row, hrow, rfl⟩ := hr
  refine State.get_writeReg_ro s r hi lo w 0#64 hrow hb hok fun f hf => ?_
  simpa using List.all_eq_true.1 hd f hf

/-- What a command register's START bit says of a word. -/
theorem bitsGet_ofNat (n hi lo : Nat) : bitsGet (BitVec.ofNat 64 n) hi lo = n % 2 ^ 64 / 2 ^ lo % 2 ^ (hi + 1 - lo) := by
  rw [bitsGet, BitVec.toNat_ofNat]

theorem wrFull_sets_ofNat {wide : Bool} {f : Fld} (hf : f.hi = f.lo) (h : f.lo < if wide then 64 else 32) (mid n : Nat) :
    (wrFull mid wide (BitVec.ofNat 64 n)).sets f = (n % 2 ^ 64 / 2 ^ f.lo % 2 != 0) := by
  rw [wrFull_sets hf h, ← bitsGet_bit, bitsGet_ofNat, Nat.add_sub_cancel_left, pow_one]

end Sys2Proof.Machine
end

section
/-! Table accesses, decoders, windows and paths (R150, R156, R167 to R172), for O24. -/

namespace Sys2Proof.Machine

variable {s t u : State} {mid p : Nat}

/-! ### Memories of injected errors (R367) -/

/-- The registers of an armed injection. -/
def injRegs : List Nat := [R.BRK_INJ_CTRL.addr, R.BRK_INJ_HIT.addr]

theorem regsKept_injWrite (s : State) (target i a : Nat) : regsKept s (injWrite s target i a) injRegs := by
  unfold injWrite
  extract_lets hit m s1
  have h1 : regsKept s s1 injRegs := by
    unfold s1
    split
    · exact regsKept_put (regsKept_put (regsKept_put (regsKept_refl s _) (by decide)) (by decide)) (by decide)
    · exact regsKept_refl s _
  exact h1

theorem injWrite_rte (s : State) (target i a : Nat) : (injWrite s target i a).rte = s.rte := by
  unfold injWrite
  dsimp only
  split <;> rfl

/-! ### The table store -/

/-- The replacement of an entry, before the check bits of its words. -/
def entryStored (s : State) (b i : Nat) (x : Bytes) : State :=
  s.modRte fun r => { r with store := tputs 0#8 r.store (tblAddr s b i) (x.take (entrySize b)) }

theorem tblPut_rte (s : State) (b i : Nat) (x : Bytes) : (tblPut s b i x).rte = (entryStored s b i x).rte :=
  foldl_keep State.rte _ (fun u w => injWrite_rte u 4 0 w) ..

theorem regsKept_tblPut (s : State) (b i : Nat) (x : Bytes) : regsKept s (tblPut s b i x) injRegs := fun q hq =>
  foldl_keep (·.rd q) _ (fun u w => regsKept_injWrite u 4 0 w q hq) ..

/-- The bytes of an entry that has been replaced. -/
theorem tgets_tputs {α : Type} [DecidableEq α] (d : α) (m : Tab α) (a : Nat) (l : List α) :
    tgets d (tputs d m a l) a l.length = l := by
  refine List.ext_getElem (length_tgets ..) fun k hk _ => ?_
  rw [length_tgets] at hk
  simp [tgets, tget_tputs, hk]

theorem tget_tputs_beside {α : Type} [DecidableEq α] (d : α) (m : Tab α) {a n : Nat} {l : List α}
    (h : n < a ∨ a + l.length ≤ n) : tget d (tputs d m a l) n = tget d m n := by
  rw [tget_tputs, dif_neg (by omega)]

theorem tblPut_entry (s : State) (b i : Nat) {x : Bytes} (hx : entrySize b ≤ x.length) :
    tgets 0#8 (tblPut s b i x).rte.store (tblAddr s b i) (entrySize b) = x.take (entrySize b) := by
  have hl : (x.take (entrySize b)).length = entrySize b := List.length_take_of_le hx
  rw [tblPut_rte]
  calc
    _ = tgets 0#8 (tputs 0#8 s.rte.store (tblAddr s b i) (x.take (entrySize b))) (tblAddr s b i)
          (x.take (entrySize b)).length := by rw [hl]; rfl
    _ = _ := tgets_tputs ..

theorem tblPut_beside (s : State) {b i a : Nat} {x : Bytes} (ha : a < tblAddr s b i ∨ tblAddr s b i + entrySize b ≤ a) :
    tget 0#8 (tblPut s b i x).rte.store a = tget 0#8 s.rte.store a := by
  have hl : (x.take (entrySize b)).length ≤ entrySize b := List.length_take_le ..
  rw [tblPut_rte]
  exact tget_tputs_beside 0#8 s.rte.store (by omega)

theorem entrySize_le (b : Nat) : entrySize b ≤ 32 := by
  unfold entrySize
  split <;> omega

theorem length_tblData (s : State) : (tblData s).length = 32 := by
  simp [tblData, length_leBytes]

theorem length_decBytes (d : DecSet) : (decBytes d).length = 32 := by
  simp [decBytes, length_leBytes]

/-! ### What a table access reads (R150) -/

/-- The routing state and every register but RTE_TBL_CMD are as before. -/
structure TblSame (s t : State) : Prop where
  regs : regsKept s t [R.RTE_TBL_CMD.addr]
  rte : t.rte = s.rte
  marks : t.marks = s.marks

namespace TblSame

variable (h : TblSame s t)
include h

theorem get {f : Fld} (hf : f.reg.addr ≠ R.RTE_TBL_CMD.addr) : t.get f = s.get f :=
  h.regs.get (by simpa using hf)

theorem put {f : Fld} {n : Nat} (hf : f.reg = R.RTE_TBL_CMD) : TblSame s (t.put f n) :=
  ⟨regsKept_put h.regs (by simp [hf]), h.rte, h.marks⟩

theorem units {b : Nat} (hb : b < 8) : t.get (F.RTE_TBL_UNITS b) = s.get (F.RTE_TBL_UNITS b) :=
  h.get (by simp only [F.RTE_TBL_UNITS, R.RTE_TBL, R.RTE_TBL_CMD]; omega)

theorem tblAddr_eq {b : Nat} (hb : b < 8) (i : Nat) : tblAddr t b i = tblAddr s b i := by
  rw [tblAddr, h.get (by simp only [F.RTE_TBL_BASE, R.RTE_TBL, R.RTE_TBL_CMD]; omega), tblAddr]

theorem tblCap_eq {b : Nat} (hb : b < 8) : tblCap t b = tblCap s b := by
  rw [tblCap, h.units hb, tblCap]

theorem tblEntry_eq {b : Nat} (hb : b < 8) (i : Nat) : tblEntry t b i = tblEntry s b i := by
  simp only [tblEntry, tblWords, injMark, h.tblCap_eq hb, h.tblAddr_eq hb, h.rte, h.marks]
  rfl

theorem tblData_eq : tblData t = tblData s := by
  have hd : ∀ k, t.get (F.RTE_TBL_DATA_DATA k) = s.get (F.RTE_TBL_DATA_DATA k) := fun k =>
    h.get (by simp only [F.RTE_TBL_DATA_DATA, R.RTE_TBL_DATA, R.RTE_TBL_CMD]; omega)
  simp only [tblData, hd]

theorem inActiveHalf_eq (i : Nat) : inActiveHalf t i = inActiveHalf s i := by
  have hw : ∀ v, t.get (F.RTE_VCS_TBL_WIN_ACTIVE v) = s.get (F.RTE_VCS_TBL_WIN_ACTIVE v) := fun v =>
    h.get (by simp only [F.RTE_VCS_TBL_WIN_ACTIVE, R.RTE_VCS_TBL, R.RTE_TBL_CMD]; omega)
  simp only [inActiveHalf, winActive, winLatch, hw, h.rte]
  rfl

theorem inDecRange_eq (i : Nat) : inDecRange t i = inDecRange s i := by
  have hf : ∀ v, t.get (F.RTE_VCS_TBL_DEC_FIRST v) = s.get (F.RTE_VCS_TBL_DEC_FIRST v) := fun v =>
    h.get (by simp only [F.RTE_VCS_TBL_DEC_FIRST, R.RTE_VCS_TBL, R.RTE_TBL_CMD]; omega)
  have hc : ∀ v, t.get (F.RTE_VCS_CFG_DEC_COUNT v) = s.get (F.RTE_VCS_CFG_DEC_COUNT v) := fun v =>
    h.get (by simp only [F.RTE_VCS_CFG_DEC_COUNT, R.RTE_VCS_CFG, R.RTE_TBL_CMD]; omega)
  simp only [inDecRange, hf, hc]

theorem tblResult_eq (w : Bool) {b : Nat} (hb : b < 8) (i : Nat) : tblResult t w b i = tblResult s w b i := by
  simp only [tblResult, h.units hb, h.tblCap_eq hb, h.inActiveHalf_eq, h.inDecRange_eq]

end TblSame

/-! ### The write of RTE_TBL_CMD -/

/-- The fields of RTE_TBL_CMD that are not read-only. -/
def tblCmdFlds : List FRow := [⟨31, 31, .wo⟩, ⟨29, 29, .rw⟩, ⟨20, 18, .rw⟩, ⟨17, 0, .rw⟩]

theorem hasFlds_tblCmd : hasFlds R.RTE_TBL_CMD tblCmdFlds := regAt_of_flds (by decide)

/-- The device when it has taken the write of a table access. -/
def tblAsked (s : State) (mid : Nat) (w : Bool) (b i : Nat) : State := s.writeReg R.RTE_TBL_CMD (tblCmd mid w b i)

/-- The word that names an access. -/
def tblWord (w : Bool) (b i : Nat) : Nat := 2 ^ 31 + (if w then 2 ^ 29 else 0) + b * 2 ^ 18 + i

/-- The state after an access has been asked for, and RESULT shown. -/
def tblShown (s : State) (mid : Nat) (w : Bool) (b i : Nat) : State :=
  (tblAsked s mid w b i).put F.RTE_TBL_CMD_RESULT (tblResult s w b i)

theorem tblSame_tblAsked (s : State) (mid : Nat) (w : Bool) (b i : Nat) : TblSame s (tblAsked s mid w b i) := by
  obtain ⟨x, hx⟩ := writeReg_open (s := s) (w := tblCmd mid w b i) hasFlds_tblCmd (by decide)
  rw [tblAsked, hx]
  exact ⟨regsKept_wr (regsKept_refl s _) List.mem_cons_self, rfl, rfl⟩

theorem tblSame_tblShown (s : State) (mid : Nat) (w : Bool) (b i : Nat) : TblSame s (tblShown s mid w b i) :=
  (tblSame_tblAsked s mid w b i).put rfl

theorem onlyRegs_tblShown (s : State) (mid : Nat) (w : Bool) (b i : Nat) : onlyRegs s (tblShown s mid w b i) :=
  onlyRegs_put (onlyRegs_writeReg_open hasFlds_tblCmd (by decide))

theorem tblResult_lt (s : State) (w : Bool) (b i : Nat) : tblResult s w b i < 8 := by
  unfold tblResult
  split_ifs <;> omega

theorem tblShown_result (s : State) (mid : Nat) (w : Bool) (b i : Nat) :
    (tblShown s mid w b i).get F.RTE_TBL_CMD_RESULT = tblResult s w b i :=
  (State.get_put_self _ _ _ (by decide) (by decide)).trans (Nat.mod_eq_of_lt (tblResult_lt ..))

section Asked

variable {w : Bool} {b i : Nat} (hb : b < 8) (hi : i < 262144)
include hb hi

theorem tblAsked_get :
    (tblAsked s mid w b i).get F.RTE_TBL_CMD_TABLE = b ∧ (tblAsked s mid w b i).get F.RTE_TBL_CMD_INDEX = i
    ∧ (tblAsked s mid w b i).bit F.RTE_TBL_CMD_WRITE = w := by
  have hget : ∀ hi lo : Nat, (⟨hi, lo, .rw⟩ : FRow) ∈ tblCmdFlds → hi < 32 →
      (tblAsked s mid w b i).get ⟨R.RTE_TBL_CMD, hi, lo⟩ = tblWord w b i % 2 ^ 64 / 2 ^ lo % 2 ^ (hi + 1 - lo) :=
    fun hi lo hm h => (get_writeReg_full (wide := false) hasFlds_tblCmd (by decide) (by decide) hm h _ _).trans (bitsGet_ofNat ..)
  refine ⟨(hget 20 18 (by decide) (by decide)).trans ?_, (hget 17 0 (by decide) (by decide)).trans ?_,
    (State.bit_of_get (hget 29 29 (by decide) (by decide))).trans ?_⟩
  all_goals unfold tblWord
  · cases w <;> simp <;> omega
  · cases w <;> simp <;> omega
  · cases w <;> simp <;> omega

theorem tblCmd_start : (tblCmd mid w b i).sets F.RTE_TBL_CMD_START = true := by
  refine (wrFull_sets_ofNat rfl (by decide) mid (tblWord w b i)).trans ?_
  unfold tblWord
  cases w <;> simp [F.RTE_TBL_CMD_START] <;> omega

/-- A table access: its result is shown; the entry is replaced, or read. -/
theorem wrTblCmd_eq : wrTblCmd (tblCmd mid w b i) s =
    if tblResult s w b i ≠ 0 then tblShown s mid w b i
    else if w then tblPut (tblShown s mid w b i) b i (tblData s)
    else (List.range (entrySize b / 8)).foldl (fun u k => u.put (F.RTE_TBL_DATA_DATA k) (leN (tblEntry s b i) (8 * k) 8))
      (tblShown s mid w b i) := by
  obtain ⟨htab, hind, hwr⟩ := tblAsked_get (s := s) (mid := mid) (w := w) hb hi
  have hres := (tblSame_tblAsked s mid w b i).tblResult_eq w hb i
  have hsame := tblSame_tblShown s mid w b i
  have hacc : wrTblCmd (tblCmd mid w b i) s = tblAccess (tblAsked s mid w b i) := by
    rw [wrTblCmd, tblCmd_start hb hi, if_pos rfl]
    rfl
  rw [hacc, tblAccess]
  simp only [htab, hind, hwr, hres]
  rw [← hsame.tblData_eq, ← hsame.tblEntry_eq hb]
  rfl

end Asked

/-! ### The words read (R150) -/

/-- RTE_TBL_DATA with the first n words of an entry. -/
def wordsShown (x : Bytes) (n : Nat) (s : State) : State :=
  (List.range n).foldl (fun u k => u.put (F.RTE_TBL_DATA_DATA k) (leN x (8 * k) 8)) s

theorem wordsShown_succ (x : Bytes) (n : Nat) (s : State) :
    wordsShown x (n + 1) s = (wordsShown x n s).put (F.RTE_TBL_DATA_DATA n) (leN x (8 * n) 8) := by
  rw [wordsShown, List.range_succ, List.foldl_append]
  rfl

theorem wordsShown_get (x : Bytes) (s : State) {k n : Nat} (hk : k < n) :
    (wordsShown x n s).get (F.RTE_TBL_DATA_DATA k) = leN x (8 * k) 8 := by
  induction n with
  | zero => omega
  | succ n ih =>
    rw [wordsShown_succ]
    by_cases h : k = n
    · subst h
      exact (State.get_put_same _ _ _ (by decide) (by decide)).trans (Nat.mod_eq_of_lt (leN_lt x _ 8))
    · rw [State.get_put_reg _ _ _ _ (by simp only [F.RTE_TBL_DATA_DATA, R.RTE_TBL_DATA]; omega)]
      exact ih (by omega)

theorem wordsShown_rd (x : Bytes) (s : State) (n : Nat) {q : Reg} (hq : ∀ k < n, q.addr ≠ (R.RTE_TBL_DATA k).addr) :
    (wordsShown x n s).rd q = s.rd q := by
  induction n with
  | zero => rfl
  | succ n ih =>
    rw [wordsShown_succ, State.rd_put_ne _ _ _ _ (hq n n.lt_succ_self)]
    exact ih fun k hk => hq k (by omega)

theorem onlyRegs_wordsShown (x : Bytes) (n : Nat) (h : onlyRegs s t) : onlyRegs s (wordsShown x n t) := by
  induction n with
  | zero => exact h
  | succ n ih =>
    rw [wordsShown_succ]
    exact onlyRegs_put ih

/-! ### Settling the table clauses -/

theorem runs_tableRead (mid : Mid) (b : Fin 8) (n : Fin 262144) (hr : tblResult s false b n = 0) :
    runs (.tableRead mid b n) s fun t =>
      t.get F.RTE_TBL_CMD_RESULT = 0 ∧ (∀ k, k < entrySize b / 8 → t.get (F.RTE_TBL_DATA_DATA k) = leN (tblEntry s b n) (8 * k) 8)
      ∧ regsKept s t [R.RTE_TBL_CMD.addr, (R.RTE_TBL_DATA 0).addr, (R.RTE_TBL_DATA 1).addr, (R.RTE_TBL_DATA 2).addr, (R.RTE_TBL_DATA 3).addr]
      ∧ onlyRegs s t := by
  have he : exec (.tableRead mid b n) s =
      .next (wordsShown (tblEntry s b n) (entrySize b / 8) (tblShown s mid false b n)) := by
    refine congrArg Host.Outcome.next ((wrTblCmd_eq b.isLt n.isLt).trans ?_)
    rw [if_neg (not_not_intro hr), if_neg (by decide)]
    rfl
  have hn : entrySize b / 8 ≤ 4 := by have := entrySize_le b; omega
  refine ⟨_, he, ?_, fun k hk => wordsShown_get _ _ hk, fun q hq => ?_,
    onlyRegs_wordsShown _ _ (onlyRegs_tblShown ..)⟩
  · rw [State.get, wordsShown_rd _ _ _ fun k _ => by
      simp only [F.RTE_TBL_CMD_RESULT, R.RTE_TBL_CMD, R.RTE_TBL_DATA]; omega]
    exact (tblShown_result ..).trans hr
  · simp only [List.mem_cons, List.not_mem_nil, or_false, not_or] at hq
    obtain ⟨hc, h0, h1, h2, h3⟩ := hq
    rw [wordsShown_rd _ _ _ fun k hk => by
      simp only [R.RTE_TBL_DATA] at h0 h1 h2 h3 ⊢; omega]
    exact (tblSame_tblShown ..).regs q (by simpa using hc)

theorem runs_tableWrite (mid : Mid) (b : Fin 8) (n : Fin 262144) (hr : tblResult s true b n = 0) :
    runs (.tableWrite mid b n) s fun t =>
      t.get F.RTE_TBL_CMD_RESULT = 0
      ∧ tgets 0#8 t.rte.store (tblAddr s b n) (entrySize b) = (tblData s).take (entrySize b)
      ∧ ∀ a, a < tblAddr s b n ∨ tblAddr s b n + entrySize b ≤ a → tget 0#8 t.rte.store a = tget 0#8 s.rte.store a := by
  have he : exec (.tableWrite mid b n) s = .next (tblPut (tblShown s mid true b n) b n (tblData s)) := by
    refine congrArg Host.Outcome.next ((wrTblCmd_eq b.isLt n.isLt).trans ?_)
    rw [if_neg (not_not_intro hr), if_pos rfl]
  have hsame := tblSame_tblShown s mid true b n
  rw [← hsame.tblAddr_eq b.isLt]
  refine ⟨_, he, ?_, tblPut_entry _ _ _ ((entrySize_le b).trans (length_tblData s).ge), fun a ha => ?_⟩
  · exact ((regsKept_tblPut _ _ _ _).get (by decide)).trans ((tblShown_result ..).trans hr)
  · rw [tblPut_beside _ ha, hsame.rte]

theorem runs_tableRefused (mid : Mid) (b : Fin 8) (n : Fin 262144) (w : Bool) (hr : tblResult s w b n ≠ 0) :
    runs (if w then .tableWrite mid b n else .tableRead mid b n) s fun t =>
      t.get F.RTE_TBL_CMD_RESULT = tblResult s w b n ∧ regsKept s t [R.RTE_TBL_CMD.addr] ∧ onlyRegs s t := by
  have he : exec (if w then .tableWrite mid b n else .tableRead mid b n) s = .next (tblShown s mid w b n) := by
    have h := (wrTblCmd_eq (s := s) (mid := mid) (w := w) b.isLt n.isLt).trans (if_pos hr)
    cases w <;> exact congrArg Host.Outcome.next h
  exact ⟨_, he, tblShown_result .., (tblSame_tblShown ..).regs, onlyRegs_tblShown ..⟩

/-! ### Decoder commits (R156, R208) -/

theorem modUx_ux_self (s : State) (v : Nat) (f : UspX → UspX) : (s.modUx v f).ux v = f (s.ux v) := tget_tput_self ..

theorem testBit_clear (n i : Nat) : (n - (if n.testBit i then 2 ^ i else 0)).testBit i = false := by
  split
  · next h => rw [testBit_sub_two_pow _ _ _ h]; simp
  · next h => simpa using h

section Decoders

variable {v : Fin 64} {n : Fin 32} {d : DecSet} {e : Nat} (he : e = s.get (F.RTE_VCS_TBL_DEC_FIRST v) + n)
  (hn : n.val < s.get (F.RTE_VCS_CFG_DEC_COUNT v)) (hl : (hdmEnt s e).locked = false)
include he hn hl

theorem exec_decoderCommit_ok (hok : decOk s v n d = true) : exec (.decoderCommit (.vcs v) n d) s =
    .next ((tblPut s 2 e (decBytes d)).modUx v fun x => { x with decErr := x.decErr - (if x.decErr.testBit n then 2 ^ n.val else 0) }) :=
  congrArg Host.Outcome.next (by
    subst he
    simp only [commitVcs]
    rw [if_neg (by simp [hl, hn]), if_pos hok])

theorem exec_decoderCommit_refused (hok : decOk s v n d = false) : exec (.decoderCommit (.vcs v) n d) s =
    .next (s.modUx v fun x => { x with decErr := x.decErr ||| 2 ^ n.val }) :=
  congrArg Host.Outcome.next (by
    subst he
    simp only [commitVcs]
    rw [if_neg (by simp [hl, hn]), if_neg (by simp [hok])])

theorem runs_decoderCommit_ok (hok : decOk s v n d = true) :
    runs (.decoderCommit (.vcs v) n d) s fun t =>
      tgets 0#8 t.rte.store (tblAddr s 2 e) (entrySize 2) = (decBytes d).take (entrySize 2) ∧ (t.ux v).decErr.testBit n = false := by
  refine ⟨_, exec_decoderCommit_ok he hn hl hok, tblPut_entry s 2 _ (length_decBytes d).ge, ?_⟩
  rw [modUx_ux_self]
  exact testBit_clear ..

theorem runs_decoderCommit_refused (hok : decOk s v n d = false) :
    runs (.decoderCommit (.vcs v) n d) s fun t =>
      t.rte.store = s.rte.store ∧ (t.ux v).decErr.testBit n = true ∧ t.regs = s.regs := by
  refine ⟨_, exec_decoderCommit_refused he hn hl hok, rfl, ?_, rfl⟩
  rw [modUx_ux_self]
  simp

end Decoders

/-- The first decoder of a pool LD is recorded. -/
theorem exec_decoderCommit_pool {k : Fin 64} {d : DecSet} (hn : tget [] s.pool.ldDecs k = []) (hf : decFieldsOk d = true)
    (hi : d.iw = 0) : exec (.decoderCommit (.pool k) 0 d) s =
      .next { s with pool := { s.pool with
        ldDecs := tput [] s.pool.ldDecs k [⟨d.base, d.size, d.dpa, d.lock⟩]
        ldDecErr := tmod 0 s.pool.ldDecErr k fun b => b - (if b.testBit 0 then 2 ^ 0 else 0) } } :=
  congrArg Host.Outcome.next (by simp [commitPool, hn, hf, hi])

theorem runs_decoderCommit_pool {k : Fin 64} {d : DecSet} (hn : tget [] s.pool.ldDecs k = []) (hf : decFieldsOk d = true)
    (hi : d.iw = 0) : runs (.decoderCommit (.pool k) 0 d) s fun t =>
      tget [] t.pool.ldDecs k = [⟨d.base, d.size, d.dpa, d.lock⟩] ∧ { t with pool := s.pool } = s := by
  refine ⟨_, exec_decoderCommit_pool hn hf hi, ?_, rfl⟩
  exact tget_tput_self [] s.pool.ldDecs k.val [⟨d.base, d.size, d.dpa, d.lock⟩]

/-! ### Windows (R166 to R168) -/

/-- The fields of RTE_WIN_COMMIT that are not read-only. -/
def winCmdFlds : List FRow := [⟨31, 31, .wo⟩, ⟨29, 29, .rw⟩, ⟨5, 0, .rw⟩]

theorem hasFlds_winCommit : hasFlds R.RTE_WIN_COMMIT winCmdFlds := regAt_of_flds (by decide)

/-- The word that commits the window of a VCS. -/
def winWord (v : Nat) (drain : Bool) : Nat := 2 ^ 31 + (if drain then 2 ^ 29 else 0) + v

/-- The device when it has taken the write of a window commit. -/
def winAsked (s : State) (mid v : Nat) (drain : Bool) : State :=
  s.writeReg R.RTE_WIN_COMMIT (wrFull mid false (BitVec.ofNat 64 (winWord v drain)))

/-- The range is latched, the other half is the active one, and the version is counted. -/
def winSwitched (s : State) (v : Nat) : State :=
  ((s.modRte fun x => { x with
      win := tput {} x.win v ⟨s.get (F.RTE_VCS_TBL_WIN_FIRST v), min 16384 (s.get (F.RTE_VCS_TBL_WIN_COUNT v))⟩ }).put
    (F.RTE_VCS_TBL_WIN_ACTIVE v) (1 - s.get (F.RTE_VCS_TBL_WIN_ACTIVE v))).put
    (F.RTE_VCS_TBL_WIN_VERSION v) ((s.get (F.RTE_VCS_TBL_WIN_VERSION v) + 1) % 256)

section Commit

variable {v : Nat} {drain : Bool}

theorem winAsked_get (hv : v < 64) : (winAsked s mid v drain).get F.RTE_WIN_COMMIT_VCS = v
    ∧ (winAsked s mid v drain).bit F.RTE_WIN_COMMIT_DRAIN = drain := by
  have hget : ∀ hi lo : Nat, (⟨hi, lo, .rw⟩ : FRow) ∈ winCmdFlds → hi < 32 →
      (winAsked s mid v drain).get ⟨R.RTE_WIN_COMMIT, hi, lo⟩ = winWord v drain % 2 ^ 64 / 2 ^ lo % 2 ^ (hi + 1 - lo) :=
    fun hi lo hm h => (get_writeReg_full (wide := false) hasFlds_winCommit (by decide) (by decide) hm h _ _).trans (bitsGet_ofNat ..)
  refine ⟨(hget 5 0 (by decide) (by decide)).trans ?_, (State.bit_of_get (hget 29 29 (by decide) (by decide))).trans ?_⟩
  all_goals unfold winWord
  · cases drain <;> simp <;> omega
  · cases drain <;> simp <;> omega

theorem winAsked_start (hv : v < 64) :
    (wrFull mid false (BitVec.ofNat 64 (winWord v drain))).sets F.RTE_WIN_COMMIT_START = true := by
  refine (wrFull_sets_ofNat rfl (by decide) mid (winWord v drain)).trans ?_
  unfold winWord
  cases drain <;> simp [F.RTE_WIN_COMMIT_START] <;> omega

theorem winAsked_busy (s : State) (mid v : Nat) (drain : Bool) :
    (winAsked s mid v drain).bit F.RTE_WIN_COMMIT_BUSY = s.bit F.RTE_WIN_COMMIT_BUSY := by
  unfold State.bit
  rw [show (winAsked s mid v drain).get F.RTE_WIN_COMMIT_BUSY = _ from
    get_writeReg_beside hasFlds_winCommit (by decide) (by decide) (by decide)]
  rfl

end Commit

theorem vcsTbl_ne_winCommit (v : Nat) : (R.RTE_VCS_TBL v).addr ≠ R.RTE_WIN_COMMIT.addr := by
  simp only [R.RTE_VCS_TBL, R.RTE_WIN_COMMIT]
  omega

theorem vcsTbl_ne_done {v : Nat} (hv : v < 64) : (R.RTE_VCS_TBL v).addr ≠ R.MGT_DONE.addr := by
  simp only [R.RTE_VCS_TBL, R.MGT_DONE]
  omega

theorem winAsked_tbl (s : State) (mid v : Nat) (drain : Bool) (hi lo : Nat) :
    (winAsked s mid v drain).get ⟨R.RTE_VCS_TBL v, hi, lo⟩ = s.get ⟨R.RTE_VCS_TBL v, hi, lo⟩ :=
  (regsKept_writeReg_open hasFlds_winCommit (by decide)).get (by simpa using vcsTbl_ne_winCommit v)

theorem winAsked_rest (s : State) (mid v : Nat) (drain : Bool) :
    (winAsked s mid v drain).rte = s.rte ∧ (winAsked s mid v drain).mill = s.mill := by
  obtain ⟨x, hx⟩ := writeReg_open (s := s) (w := wrFull mid false (BitVec.ofNat 64 (winWord v drain))) hasFlds_winCommit
    (by decide)
  rw [winAsked, hx]
  exact ⟨rfl, rfl⟩

/-- Is the commit held up: it drains, and packets of the old version are held? -/
def winWaits (s : State) (v : Nat) (drain : Bool) : Bool := drain && winHeld s v (s.get (F.RTE_VCS_TBL_WIN_VERSION v))

/-- The state after a commit that is taken. -/
def winTaken (u : State) (v old : Nat) (waits : Bool) : State :=
  if waits then { u.put F.RTE_WIN_COMMIT_BUSY 1 with rte := { u.rte with drain := some (v, old) } }
  else u.put F.MGT_DONE_RTE_WIN 1

theorem winSwitched_cmd (u : State) (v hi lo : Nat) :
    (winSwitched u v).get ⟨R.RTE_WIN_COMMIT, hi, lo⟩ = u.get ⟨R.RTE_WIN_COMMIT, hi, lo⟩ :=
  (State.get_put_reg _ _ _ _ (vcsTbl_ne_winCommit v).symm).trans (State.get_put_reg _ _ _ _ (vcsTbl_ne_winCommit v).symm)

theorem winSwitched_held (u : State) (v w old : Nat) : winHeld (winSwitched u v) w old = winHeld u w old := rfl

/-- What a commit of the VCS that RTE_WIN_COMMIT names leads to (R167). -/
theorem winCommit_eq {u : State} {v : Nat} (hv : u.get F.RTE_WIN_COMMIT_VCS = v) :
    winCommit u = winTaken (winSwitched u v) v (u.get (F.RTE_VCS_TBL_WIN_VERSION v))
      (u.bit F.RTE_WIN_COMMIT_DRAIN && winHeld u v (u.get (F.RTE_VCS_TBL_WIN_VERSION v))) := by
  have hd : (winSwitched u v).bit F.RTE_WIN_COMMIT_DRAIN = u.bit F.RTE_WIN_COMMIT_DRAIN :=
    congrArg (· != 0) (winSwitched_cmd u v 29 29)
  rw [← hd, ← winSwitched_held u v, ← hv]
  rfl

theorem exec_windowCommit {mid : Mid} {v : Fin 64} {drain : Bool} (hb : s.bit F.RTE_WIN_COMMIT_BUSY = false) :
    exec (.windowCommit mid v drain) s = .next (winTaken (winSwitched (winAsked s mid v drain) v) v
      (s.get (F.RTE_VCS_TBL_WIN_VERSION v)) (winWaits s v drain)) := by
  have hcmd : exec (.windowCommit mid v drain) s = .next (winCommit (winAsked s mid v drain)) := by
    refine congrArg Host.Outcome.next (?_ : wrWinCommit (wrFull mid false (BitVec.ofNat 64 (winWord v drain))) s = _)
    simp only [wrWinCommit, winAsked_start v.isLt, hb, Bool.false_eq_true, and_false, if_false, if_true]
    rfl
  obtain ⟨hv, hd⟩ := winAsked_get (s := s) (mid := mid) (drain := drain) v.isLt
  have hver : (winAsked s mid v drain).get (F.RTE_VCS_TBL_WIN_VERSION v) = s.get (F.RTE_VCS_TBL_WIN_VERSION v) :=
    winAsked_tbl ..
  have hheld : ∀ old, winHeld (winAsked s mid v drain) v old = winHeld s v old := fun old => by
    simp only [winHeld, (winAsked_rest ..).2]
  rw [hcmd, winCommit_eq hv, hver, hd, hheld, winWaits]

theorem winSwitched_win (u : State) (v : Nat) : tget {} (winSwitched u v).rte.win v
    = ⟨u.get (F.RTE_VCS_TBL_WIN_FIRST v), min 16384 (u.get (F.RTE_VCS_TBL_WIN_COUNT v))⟩ := tget_tput_self ..

theorem winSwitched_get (u : State) (v : Nat) :
    (winSwitched u v).get (F.RTE_VCS_TBL_WIN_ACTIVE v) = 1 - u.get (F.RTE_VCS_TBL_WIN_ACTIVE v)
    ∧ (winSwitched u v).get (F.RTE_VCS_TBL_WIN_VERSION v) = (u.get (F.RTE_VCS_TBL_WIN_VERSION v) + 1) % 256 := by
  constructor
  · refine (State.get_put_beside _ (R.RTE_VCS_TBL v) _ (by decide) (by decide) (by decide)).trans
      ((State.get_put_same _ _ _ (by decide) (by decide)).trans (Nat.mod_eq_of_lt ?_))
    omega
  · exact (State.get_put_same _ _ _ (by decide) (by decide)).trans (Nat.mod_mod _ _)

theorem winTaken_tbl {v : Nat} (hv : v < 64) (u : State) (old : Nat) (waits : Bool) (hi lo : Nat) :
    (winTaken u v old waits).get ⟨R.RTE_VCS_TBL v, hi, lo⟩ = u.get ⟨R.RTE_VCS_TBL v, hi, lo⟩ := by
  cases waits
  · exact State.get_put_reg _ _ _ _ (vcsTbl_ne_done hv)
  · exact State.get_put_reg _ _ _ _ (vcsTbl_ne_winCommit v)

theorem winTaken_win (u : State) (v old : Nat) (waits : Bool) : (winTaken u v old waits).rte.win = u.rte.win := by
  cases waits <;> rfl

theorem winTaken_busy {u : State} (hu : u.bit F.RTE_WIN_COMMIT_BUSY = false) (v old : Nat) (waits : Bool) :
    (winTaken u v old waits).bit F.RTE_WIN_COMMIT_BUSY = waits
    ∧ (waits = false → (winTaken u v old waits).bit F.MGT_DONE_RTE_WIN = true) := by
  cases waits
  · refine ⟨Eq.trans ?_ hu, fun _ => State.bit_of_get (State.get_put_self _ _ _ (by decide) (by decide))⟩
    exact congrArg (· != 0) (State.get_put_reg _ _ _ _ (by decide))
  · exact ⟨State.bit_of_get (State.get_put_self u F.RTE_WIN_COMMIT_BUSY 1 (by decide) (by decide)), nofun⟩

theorem runs_windowCommit (mid : Mid) (v : Fin 64) (drain : Bool) (hb : s.bit F.RTE_WIN_COMMIT_BUSY = false) :
    runs (.windowCommit mid v drain) s fun t =>
      t.get (F.RTE_VCS_TBL_WIN_ACTIVE v) = 1 - s.get (F.RTE_VCS_TBL_WIN_ACTIVE v)
      ∧ t.get (F.RTE_VCS_TBL_WIN_VERSION v) = (s.get (F.RTE_VCS_TBL_WIN_VERSION v) + 1) % 256
      ∧ tget {} t.rte.win v = ⟨s.get (F.RTE_VCS_TBL_WIN_FIRST v), min 16384 (s.get (F.RTE_VCS_TBL_WIN_COUNT v))⟩
      ∧ (t.bit F.RTE_WIN_COMMIT_BUSY = true ↔ drain = true ∧ winHeld s v (s.get (F.RTE_VCS_TBL_WIN_VERSION v)) = true)
      ∧ (t.bit F.RTE_WIN_COMMIT_BUSY = false → t.bit F.MGT_DONE_RTE_WIN = true) := by
  have hu : (winSwitched (winAsked s mid v drain) v).bit F.RTE_WIN_COMMIT_BUSY = false :=
    (congrArg (· != 0) (winSwitched_cmd _ _ 30 30)).trans ((winAsked_busy ..).trans hb)
  have htbl := winAsked_tbl s mid v drain
  obtain ⟨hact, hver⟩ := winSwitched_get (winAsked s mid v drain) v
  obtain ⟨hbusy, hdone⟩ := winTaken_busy hu v (s.get (F.RTE_VCS_TBL_WIN_VERSION v)) (winWaits s v drain)
  refine ⟨_, exec_windowCommit hb, ?_, ?_, ?_, ?_, fun h => hdone (hbusy.symm.trans h)⟩
  · refine (winTaken_tbl v.isLt _ _ _ 12 12).trans (hact.trans ?_)
    exact congrArg (1 - ·) (htbl 12 12)
  · refine (winTaken_tbl v.isLt _ _ _ 7 0).trans (hver.trans ?_)
    exact congrArg (fun n => (n + 1) % 256) (htbl 7 0)
  · rw [winTaken_win, winSwitched_win]
    exact congrArg₂ (fun a b => WinLatch.mk a (min 16384 b)) (htbl 45 28) (htbl 27 13)
  · rw [hbusy, winWaits, Bool.and_eq_true]

theorem runs_windowDrainEnd {v ver : Nat} (hd : s.rte.drain = some (v, ver)) (hh : winHeld s v ver = false) :
    runs .windowDrainEnd s fun t =>
      t.rte = { s.rte with drain := none } ∧ t.bit F.RTE_WIN_COMMIT_BUSY = false ∧ t.bit F.MGT_DONE_RTE_WIN = true
      ∧ regsKept s t [R.RTE_WIN_COMMIT.addr, R.MGT_DONE.addr] ∧ { t with regs := s.regs, rte := s.rte } = s := by
  have he : exec .windowDrainEnd s =
      .next (({ s with rte := { s.rte with drain := none } }.put F.RTE_WIN_COMMIT_BUSY 0).put F.MGT_DONE_RTE_WIN 1) :=
    congrArg Host.Outcome.next (by simp only [hd, hh, Bool.false_eq_true, if_false])
  refine ⟨_, he, rfl, State.bit_of_get (n := 0) ?_,
    State.bit_of_get (State.get_put_self _ _ _ (by decide) (by decide)), ?_, rfl⟩
  · exact (State.get_put_reg _ _ _ _ (by decide)).trans (State.get_put_self _ _ _ (by decide) (by decide))
  · exact regsKept_put (regsKept_put (fun _ _ => rfl) (by decide)) (by decide)

/-! ### Paths across OFL (R170, R172) -/

theorem runs_failoverReenable {p : Fin 96} (hr : s.get (F.PORT_CFG_ROLE p) = 3) (hw : (s.px p).wait = .failover) :
    runs (.failoverReenable p) s fun t =>
      (t.px p).wait = .none ∧ t.get (F.OFL_STATUS_STATE p) = (if s.bit (F.PORT_LINK_CTRL_DISABLE p) then 6 else 0)
      ∧ regsKept s t [(R.OFL_STATUS p).addr] := by
  have he : exec (.failoverReenable p) s = .next ((setWait s p .none).put (F.OFL_STATUS_STATE p)
      (if s.bit (F.PORT_LINK_CTRL_DISABLE p) then 6 else 0)) :=
    congrArg Host.Outcome.next (if_pos ⟨hr, hw⟩)
  refine ⟨_, he, setWait_wait .., ?_, regsKept_put (fun _ _ => rfl) (by simp [F.OFL_STATUS_STATE])⟩
  refine (State.get_put_same _ _ _ (by decide) (by decide)).trans ?_
  split <;> rfl

/-- The fields of RTE_PATH_CMD that are not read-only. -/
def pathCmdFlds : List FRow := [⟨31, 31, .wo⟩, ⟨6, 0, .rw⟩]

theorem hasFlds_pathCmd : hasFlds R.RTE_PATH_CMD pathCmdFlds := regAt_of_flds (by decide)

/-- The device when it has taken the write of PATH_RESTORE. -/
def pathAsked (s : State) (mid p : Nat) : State :=
  s.writeReg R.RTE_PATH_CMD (wrFull mid false (BitVec.ofNat 64 (2 ^ 31 + p)))

theorem regsKept_pathAsked (s : State) (mid p : Nat) : regsKept s (pathAsked s mid p) [R.RTE_PATH_CMD.addr] :=
  regsKept_writeReg_open hasFlds_pathCmd (by decide)

theorem onlyRegs_pathAsked (s : State) (mid p : Nat) : onlyRegs s (pathAsked s mid p) :=
  onlyRegs_writeReg_open hasFlds_pathCmd (by decide)

theorem pathAsked_port {p : Nat} (hp : p < 128) : (pathAsked s mid p).get F.RTE_PATH_CMD_PORT = p := by
  refine (get_writeReg_full (wide := false) hasFlds_pathCmd (by decide) (by decide) (by decide) (by decide) _ _).trans
    ((bitsGet_ofNat ..).trans ?_)
  simp
  omega

theorem pathAsked_start {p : Nat} (hp : p < 128) :
    (wrFull mid false (BitVec.ofNat 64 (2 ^ 31 + p))).sets F.RTE_PATH_CMD_START = true := by
  refine (wrFull_sets_ofNat rfl (by decide) mid _).trans ?_
  simp [F.RTE_PATH_CMD_START]
  omega

theorem pathAsked_oflActive (s : State) (mid p q : Nat) : oflActive (pathAsked s mid p) q = oflActive s q := by
  have hk := regsKept_pathAsked s mid p
  have hrole : (pathAsked s mid p).get (F.PORT_CFG_ROLE q) = s.get (F.PORT_CFG_ROLE q) :=
    hk.get (by simp only [F.PORT_CFG_ROLE, R.PORT_CFG, R.RTE_PATH_CMD, List.mem_singleton]; omega)
  have hst : (pathAsked s mid p).get (F.OFL_STATUS_STATE q) = s.get (F.OFL_STATUS_STATE q) :=
    hk.get (by simp only [F.OFL_STATUS_STATE, R.OFL_STATUS, R.RTE_PATH_CMD, List.mem_singleton]; omega)
  rw [oflActive, hrole, hst, oflActive]

theorem pathAsked_rte (s : State) (mid p : Nat) : (pathAsked s mid p).rte = s.rte := (onlyRegs_pathAsked s mid p).rte

theorem restorable_iff : restorable s p = true ↔
    oflActive s p = true ∧ s.rte.away.contains p = true ∧ s.rte.restore = none := by
  simp only [restorable, Bool.and_eq_true, Option.isNone_iff_eq_none, and_assoc]

/-- What a START of RTE_PATH_CMD does while no restore runs (R172). -/
def pathStarted (u : State) (p : Nat) : State :=
  if 96 ≤ p ∨ !oflActive u p then pathDone u 1
  else if !u.rte.away.contains p then pathDone u 0
  else restoreStart p true (u.put F.RTE_PATH_CMD_BUSY 1)

theorem wrPathCmd_idle {w : Wr} (hs : w.sets F.RTE_PATH_CMD_START = true) (hb : s.bit F.RTE_PATH_CMD_BUSY = false)
    (hr : s.rte.restore = none) : wrPathCmd w s =
      pathStarted (s.writeReg R.RTE_PATH_CMD w) ((s.writeReg R.RTE_PATH_CMD w).get F.RTE_PATH_CMD_PORT) := by
  simp only [wrPathCmd, hs, hb, hr, Option.isSome_none, Bool.false_eq_true, or_self, and_false, if_false, Bool.not_true]
  rfl

theorem exec_pathRestore {mid : Mid} {p : Fin 128} (hb : s.bit F.RTE_PATH_CMD_BUSY = false) (hr : s.rte.restore = none) :
    exec (.pathRestore mid p) s = .next (pathStarted (pathAsked s mid p) p) := by
  have hw := wrPathCmd_idle (pathAsked_start (mid := mid) p.isLt) hb hr
  rw [show (s.writeReg R.RTE_PATH_CMD _).get F.RTE_PATH_CMD_PORT = p from pathAsked_port (s := s) (mid := mid) p.isLt] at hw
  exact congrArg Host.Outcome.next hw

theorem pathStarted_away (hp : p < 96) (h : restorable s p = true) (mid : Nat) : pathStarted (pathAsked s mid p) p
    = restoreStart p true ((pathAsked s mid p).put F.RTE_PATH_CMD_BUSY 1) := by
  obtain ⟨hact, haway, -⟩ := restorable_iff.1 h
  simp only [pathStarted, pathAsked_oflActive, pathAsked_rte, hact, haway, Nat.not_le.2 hp, Bool.not_true, Bool.false_eq_true,
    or_self, if_false]

theorem pathStarted_ends (hp : p < 96) (h : oflActive s p = false ∨ s.rte.away.contains p = false) (mid : Nat) :
    pathStarted (pathAsked s mid p) p = pathDone (pathAsked s mid p) (if oflActive s p then 0 else 1) := by
  simp only [pathStarted, pathAsked_oflActive, pathAsked_rte, Nat.not_le.2 hp, false_or]
  cases hact : oflActive s p
  · rfl
  · have haway : s.rte.away.contains p = false := h.resolve_left (by simp [hact])
    simp only [haway, Bool.not_true, Bool.not_false, Bool.false_eq_true, if_true, if_false]

theorem pathDone_get (s : State) (r : Nat) : (pathDone s r).get F.RTE_PATH_CMD_RESULT = r % 4
    ∧ (pathDone s r).bit F.RTE_PATH_CMD_BUSY = false ∧ (pathDone s r).bit F.MGT_DONE_RTE_PATH = true := by
  refine ⟨?_, State.bit_of_get (n := 0) ?_, State.bit_of_get (State.get_put_self _ _ _ (by decide) (by decide))⟩
  · simp (disch := decide) only [pathDone, State.get_put_reg, State.get_put_self]
    rfl
  · simp (disch := decide) only [pathDone, State.get_put_reg, State.get_put_bits, State.get_put_self, Nat.zero_mod]

theorem onlyRegs_pathDone (h : onlyRegs s t) (r : Nat) : onlyRegs s (pathDone t r) :=
  onlyRegs_put (onlyRegs_put (onlyRegs_put h))

theorem pathDone_status (s : State) (r hi lo : Nat) :
    (pathDone s r).get ⟨R.RTE_PATH_STATUS, hi, lo⟩ = s.get ⟨R.RTE_PATH_STATUS, hi, lo⟩ := by
  have hcmd : R.RTE_PATH_STATUS.addr ≠ R.RTE_PATH_CMD.addr := by decide
  have hdone : R.RTE_PATH_STATUS.addr ≠ R.MGT_DONE.addr := by decide
  rw [pathDone, State.get_put_reg _ _ _ _ hdone, State.get_put_reg _ _ _ _ hcmd, State.get_put_reg _ _ _ _ hcmd]

/-- What a restore that starts leaves: its record, and the registers as they were. -/
theorem restoreStart_spec (p : Nat) (cmd : Bool) (s : State) :
    (∃ r, (restoreStart p cmd s).rte = { s.rte with restore := some r } ∧ r.port = p ∧ r.cmd = cmd)
    ∧ (restoreStart p cmd s).regs = s.regs := ⟨⟨_, rfl, rfl, rfl⟩, rfl⟩

theorem runs_autoRestore {p : Fin 96} (h : restorable s p = true) (ha : s.bit F.RTE_PATH_CTRL_AUTO_RESTORE = true) :
    runs (.autoRestore p) s fun t =>
      (∃ r, t.rte = { s.rte with restore := some r } ∧ r.port = p.val ∧ r.cmd = false)
      ∧ regsKept s t [R.RTE_PATH_CMD.addr] := by
  have he : exec (.autoRestore p) s = .next (restoreStart p false s) :=
    congrArg Host.Outcome.next (if_pos (by rw [ha, h]; rfl))
  obtain ⟨hrec, hregs⟩ := restoreStart_spec p false s
  exact ⟨_, he, hrec, fun q _ => State.rd_congr hregs q⟩

theorem runs_pathRestore_away {mid : Mid} {p : Fin 96} (h : restorable s p = true) (hb : s.bit F.RTE_PATH_CMD_BUSY = false) :
    runs (.pathRestore mid ⟨p.val, by omega⟩) s fun t =>
      (∃ r, t.rte = { s.rte with restore := some r } ∧ r.port = p.val ∧ r.cmd = true)
      ∧ t.bit F.RTE_PATH_CMD_BUSY = true ∧ regsKept s t [R.RTE_PATH_CMD.addr] := by
  obtain ⟨-, -, hr⟩ := restorable_iff.1 h
  have he := exec_pathRestore (mid := mid) (p := ⟨p.val, by omega⟩) hb hr
  rw [pathStarted_away p.isLt h] at he
  obtain ⟨hrec, hregs⟩ := restoreStart_spec p true ((pathAsked s mid p).put F.RTE_PATH_CMD_BUSY 1)
  rw [put_rte, pathAsked_rte] at hrec
  refine ⟨_, he, hrec, State.bit_of_get (n := 1) ?_, fun q hq => (State.rd_congr hregs q).trans ?_⟩
  · exact (State.get_congr hregs _).trans (State.get_put_self _ _ 1 (by decide) (by decide))
  · exact regsKept_put (regsKept_pathAsked s mid p) (by decide) q hq

theorem runs_pathRestore_ends {mid : Mid} {p : Fin 96} (hb : s.bit F.RTE_PATH_CMD_BUSY = false) (hr : s.rte.restore = none)
    (h : oflActive s p = false ∨ s.rte.away.contains p.val = false) :
    runs (.pathRestore mid ⟨p.val, by omega⟩) s fun t =>
      t.get F.RTE_PATH_CMD_RESULT = (if oflActive s p then 0 else 1) ∧ t.bit F.MGT_DONE_RTE_PATH = true ∧ onlyRegs s t := by
  have he := exec_pathRestore (mid := mid) (p := ⟨p.val, by omega⟩) hb hr
  rw [pathStarted_ends p.isLt h] at he
  obtain ⟨hres, -, hdone⟩ := pathDone_get (pathAsked s mid p) (if oflActive s p then 0 else 1)
  refine ⟨_, he, hres.trans ?_, hdone, onlyRegs_pathDone (onlyRegs_pathAsked ..) _⟩
  split <;> rfl

/-- A restore that ends answers its command, if one asked for it. -/
def restoreEnded (s : State) (r : RestoreOp) (code : Nat) : State := if r.cmd then pathDone s code else s

theorem restoreEnded_status (s : State) (r : RestoreOp) (code hi lo : Nat) :
    (restoreEnded s r code).get ⟨R.RTE_PATH_STATUS, hi, lo⟩ = s.get ⟨R.RTE_PATH_STATUS, hi, lo⟩ := by
  unfold restoreEnded
  split
  · exact pathDone_status ..
  · rfl

theorem restoreEnded_rte (s : State) (r : RestoreOp) (code : Nat) : (restoreEnded s r code).rte = s.rte := by
  unfold restoreEnded
  split <;> rfl

theorem restoreEnded_srcs (s : State) (r : RestoreOp) (code : Nat) : srcs (restoreEnded s r code) = srcs s := by
  unfold restoreEnded
  split <;> rfl

theorem restoreEnded_cmd (s : State) {r : RestoreOp} (code : Nat) (hc : r.cmd = true) :
    (restoreEnded s r code).get F.RTE_PATH_CMD_RESULT = code % 4
    ∧ (restoreEnded s r code).bit F.RTE_PATH_CMD_BUSY = false := by
  obtain ⟨hres, hbusy, -⟩ := pathDone_get s code
  rw [restoreEnded, if_pos hc]
  exact ⟨hres, hbusy⟩

theorem runs_restoreComplete {r : RestoreOp} (hr : s.rte.restore = some r) (hready : restoreReady s r = true) :
    runs .restoreComplete s fun t =>
      t.rte = { s.rte with restore := none, away := s.rte.away.erase r.port }
      ∧ t.get F.RTE_PATH_STATUS_RESTORES = min F.RTE_PATH_STATUS_RESTORES.max (s.get F.RTE_PATH_STATUS_RESTORES + 1)
      ∧ (r.cmd = true → t.get F.RTE_PATH_CMD_RESULT = 0 ∧ t.bit F.RTE_PATH_CMD_BUSY = false) := by
  have he : exec .restoreComplete s = .next (restoreEnded
      ((s.modRte fun x => { x with restore := none, away := x.away.erase r.port }).inc F.RTE_PATH_STATUS_RESTORES) r 0) :=
    congrArg Host.Outcome.next (by
      simp only [hr, hready, if_true]
      rfl)
  exact ⟨_, he, restoreEnded_rte .., (restoreEnded_status _ r 0 31 16).trans (State.get_inc_self _ _ _ (by decide) (by decide)),
    restoreEnded_cmd _ 0⟩

theorem runs_restoreAbort {r : RestoreOp} (hr : s.rte.restore = some r) :
    runs .restoreAbort s fun t =>
      t.rte = { s.rte with restore := none } ∧ srcs t = srcs s ++ [1363]
      ∧ t.get F.RTE_PATH_STATUS_RESTORE_ABORTS = min F.RTE_PATH_STATUS_RESTORE_ABORTS.max (s.get F.RTE_PATH_STATUS_RESTORE_ABORTS + 1)
      ∧ (r.cmd = true → t.get F.RTE_PATH_CMD_RESULT = 2 ∧ t.bit F.RTE_PATH_CMD_BUSY = false) := by
  have he : exec .restoreAbort s = .next (restoreEnded
      (((s.modRte fun x => { x with restore := none }).inc F.RTE_PATH_STATUS_RESTORE_ABORTS).raise 1363) r 2) :=
    congrArg Host.Outcome.next (by
      simp only [hr]
      rfl)
  refine ⟨_, he, (restoreEnded_rte ..).trans (raise_rte ..), (restoreEnded_srcs ..).trans (raise_srcs ..), ?_,
    restoreEnded_cmd _ 2⟩
  refine (restoreEnded_status _ r 2 15 0).trans ((raise_get _ _ _ _ (by decide)).trans ?_)
  exact State.get_inc_self (s.modRte fun x => { x with restore := none }) F.RTE_PATH_STATUS_RESTORE_ABORTS 1 (by decide) (by decide)

/-- Settles O24: each command writes a register that no field of which refuses, or acts on the routing state; what follows
is said of each by its lemma `runs_…` above. -/
theorem tablesWindowsAndPaths : Obligations.TablesWindowsAndPaths := by
  refine ⟨fun mid s => ⟨fun b n => ⟨runs_tableRead mid b n, runs_tableWrite mid b n, runs_tableRefused mid b n⟩,
      fun v n d e he hn hl => ⟨runs_decoderCommit_ok he hn hl, runs_decoderCommit_refused he hn hl⟩,
      fun k d => runs_decoderCommit_pool,
      fun v drain => runs_windowCommit mid v drain, fun v ver => runs_windowDrainEnd⟩,
    fun mid p s => ⟨runs_failoverReenable, fun c cmd h hc => ?restore, runs_pathRestore_ends,
      fun r hr => ⟨runs_restoreComplete hr, runs_restoreAbort hr⟩⟩⟩
  case restore =>
    obtain ⟨rfl, rfl, ha⟩ | ⟨rfl, hb, rfl⟩ := hc
    · obtain ⟨t, he, hrec, hk⟩ := runs_autoRestore h ha
      exact ⟨t, he, hrec, nofun, hk⟩
    · obtain ⟨t, he, hrec, hbusy, hk⟩ := runs_pathRestore_away h hb
      exact ⟨t, he, hrec, fun _ => hbusy, hk⟩

end Sys2Proof.Machine
end

section
/-! Writes that set one field of a register and present the others as they are (R6, R450), for O40. -/

namespace Sys2Proof.Machine

variable {s t : State} {r : Reg} {w : Wr} {l : List FRow} {i : Nat}

/-- A field takes the write, or is presented with the value it has. -/
def takesOrKeeps (s : State) (r : Reg) (w : Wr) (f : FRow) : Prop :=
  fieldNo (s.locked r.addr) 0#64 w f = false ∨ (s.rd r ^^^ w.v) &&& (bitsMask f.hi f.lo &&& w.mask) = 0#64

theorem fieldWrite_snd_of_takesOrKeeps {f : FRow} (h : takesOrKeeps s r w f) (acc : Word × Bool) :
    (fieldWrite (s.locked r.addr) 0#64 w (s.rd r) acc f).2 = acc.2 := by
  cases hno : fieldNo (s.locked r.addr) 0#64 w f
  · exact fieldWrite_snd hno _ _
  · have hk := h.resolve_left (by simp [hno])
    rw [fieldWrite_of_no hno, hk]
    simp

theorem foldl_fieldWrite_snd_of_takesOrKeeps (h : ∀ f ∈ l, takesOrKeeps s r w f) (acc : Word × Bool) :
    (l.foldl (fieldWrite (s.locked r.addr) 0#64 w (s.rd r)) acc).2 = acc.2 := by
  induction l generalizing acc with
  | nil => rfl
  | cons f l ih =>
    rw [List.foldl_cons, ih fun g hg => h g (List.mem_cons_of_mem _ hg),
      fieldWrite_snd_of_takesOrKeeps (h f List.mem_cons_self)]

/-- No refused-write event: the write changes its register alone. -/
theorem writeReg_of_takesOrKeeps (hr : hasFlds r l) (h : ∀ f ∈ l, takesOrKeeps s r w f) :
    ∃ x, s.writeReg r w = s.wr r x := by
  obtain ⟨row, hrow, rfl⟩ := hr
  simp only [State.writeReg, hrow, foldl_fieldWrite_snd_of_takesOrKeeps h]
  exact ⟨_, rfl⟩

/-- The fields are read-write, some of them only while the block is not locked. -/
def plainFlds (l : List FRow) : Bool := l.all fun f => (f.ty == .rw || f.ty == .rwl) && decide (f.hi < 32)

theorem actMask_of_plainFlds (hr : hasFlds r l) (hl : plainFlds l = true) : actMask r.addr = 0#64 := by
  obtain ⟨row, hrow, rfl⟩ := hr
  have hnone : (row.flds.filter fun f => f.ty == .wo || f.ty == .w1c || f.ty == .w1s) = [] := by
    refine List.filter_eq_nil_iff.2 fun f hf => ?_
    rcases f with ⟨hi, lo, ty⟩
    have := List.all_eq_true.1 hl _ hf
    cases ty <;> simp_all
  simp only [actMask, hrow, hnone, List.foldl_nil]

theorem eq_of_xor_eq_false {a b : Bool} (h : (a ^^ b) = (0#64).getLsbD i) : a = b := by
  cases a <;> cases b <;> simp_all

section OneField

variable {hi lo n mid : Nat} {ty : FTy} (hr : hasFlds r l) (hl : plainFlds l = true) (hok : fldsOk l = true)
  (hf : (⟨hi, lo, ty⟩ : FRow) ∈ l) (hopen : ty = .rw ∨ s.locked r.addr = false)
include hr hl

theorem wrField_v_plain : (wrField s mid false ⟨r, hi, lo⟩ n).v = bitsPut (s.rd r) hi lo n := by
  have hall : ~~~0#64 = BitVec.allOnes 64 := rfl
  rw [wrField, actMask_of_plainFlds hr hl, hall, BitVec.and_allOnes]

omit hr hl in
theorem wrField_mask {i : Nat} (hi' : i < 32) : (wrField s mid false ⟨r, hi, lo⟩ n).mask.getLsbD i = true :=
  getLsbD_mask_wrFull (wide := false) hi' mid 0#64

include hok hf hopen

/-- The field written takes the write; any other field is presented with the value it has. -/
theorem wrField_takesOrKeeps : ∀ g ∈ l, takesOrKeeps s r (wrField s mid false ⟨r, hi, lo⟩ n) g := by
  intro g hg
  simp only [fldsOk, Bool.and_eq_true, List.all_eq_true, decide_eq_true_eq] at hok
  obtain ⟨hbounds, hapart⟩ := hok
  obtain ⟨h64, hlo⟩ := hbounds _ hf
  by_cases hne : g = ⟨hi, lo, ty⟩
  · left
    have hty := List.all_eq_true.1 hl _ hf
    subst hne
    rcases hopen with rfl | hopen
    · simp [fieldNo]
    · cases ty <;> simp_all [fieldNo]
  · right
    have hd : hi < g.lo ∨ g.hi < lo := by
      have hsym : Std.Symm fun f g : FRow => f.hi < g.lo ∨ g.hi < f.lo := ⟨fun _ _ h => h.symm⟩
      exact hapart.forall hf hg (Ne.symm hne)
    rw [wrField_v_plain hr hl]
    refine BitVec.eq_of_getLsbD_eq fun i hi' => ?_
    obtain ⟨hg64, hglo⟩ := hbounds g hg
    rw [BitVec.getLsbD_and, BitVec.getLsbD_xor, getLsbD_bitsPut _ _ _ _ _ h64 hlo, BitVec.getLsbD_and,
      getLsbD_bitsMask _ _ _ hg64 hglo]
    by_cases hin : g.lo ≤ i ∧ i ≤ g.hi
    · have hout : ¬(lo ≤ i ∧ i ≤ hi) := by omega
      rw [if_neg hout, Bool.xor_self, Bool.false_and]
      exact BitVec.getLsbD_zero.symm
    · rw [not_and_or] at hin
      rcases hin with h | h <;> simp [h]

theorem writeReg_wrField : ∃ x, s.writeReg r (wrField s mid false ⟨r, hi, lo⟩ n) = s.wr r x :=
  writeReg_of_takesOrKeeps hr (wrField_takesOrKeeps hr hl hok hf hopen)

/-- Every field reads as it is presented. -/
theorem get_writeReg_wrField (hb : r.addr ≠ R.BRK_LOSS.addr) {g : FRow} (hg : g ∈ l) :
    (s.writeReg r (wrField s mid false ⟨r, hi, lo⟩ n)).get ⟨r, g.hi, g.lo⟩ = bitsGet (bitsPut (s.rd r) hi lo n) g.hi g.lo := by
  have hty := List.all_eq_true.1 hl _ hg
  simp only [Bool.and_eq_true, Bool.or_eq_true, beq_iff_eq, decide_eq_true_eq] at hty
  obtain ⟨hty, h32⟩ := hty
  have hkeep := wrField_takesOrKeeps (mid := mid) (n := n) hr hl hok hf hopen g hg
  rw [← wrField_v_plain (s := s) (mid := mid) hr hl]
  obtain ⟨row, hrow, rfl⟩ := hr
  cases hno : fieldNo (s.locked r.addr) 0#64 (wrField s mid false ⟨r, hi, lo⟩ n) g with
  | false =>
    exact State.get_writeReg_rw s r g.hi g.lo g.ty _ 0#64 hrow hb hok hg (by tauto) hno fun i _ hi' =>
      wrField_mask (by omega)
  | true =>
    rw [State.get_writeReg_keep s r _ _ hrow hb hok hg (.inl hno)]
    have hsame := hkeep.resolve_left (by simp [hno])
    refine Nat.eq_of_testBit_eq fun i => ?_
    rw [State.get, testBit_bitsGet, testBit_bitsGet]
    by_cases hin : i < g.hi + 1 - g.lo
    · have hbit := congrArg (·.getLsbD (g.lo + i)) hsame
      have hle : g.lo ≤ g.lo + i := by omega
      have hge : g.lo + i ≤ g.hi := by omega
      simp only [BitVec.getLsbD_and, BitVec.getLsbD_xor, wrField_mask (show g.lo + i < 32 by omega),
        getLsbD_bitsMask g.hi g.lo (g.lo + i) (by omega) (by omega), hle, hge, decide_true, Bool.and_true] at hbit
      rw [eq_of_xor_eq_false hbit]
    · simp [hin]

end OneField

end Sys2Proof.Machine
end

section
/-! The Sluice controllers (R328 to R343), for O40 and O57. -/

namespace Sys2Proof.Machine

variable {s t : State} {n : Nat}

/-! ### Fields of SLC_STATUS -/

theorem slcCtrl_ne_status (n m : Nat) : (R.SLC_CTRL n).addr ≠ (R.SLC_STATUS m).addr := by
  simp only [R.SLC_CTRL, R.SLC_STATUS]
  omega

theorem regsKept_modSx {l : List Nat} {g : SlcX → SlcX} (h : regsKept s t l) : regsKept s (t.modSx n g) l := h

theorem State.get_put_put (s : State) (r : Reg) {hi lo hi' lo' : Nat} (m k : Nat) (h : hi < 64) (hl : lo ≤ hi)
    (h' : hi' < 64) (hl' : lo' ≤ hi') (hd : hi' < lo ∨ hi < lo') :
    ((s.put ⟨r, hi, lo⟩ m).put ⟨r, hi', lo'⟩ k).get ⟨r, hi, lo⟩ = m % 2 ^ (hi + 1 - lo) :=
  (State.get_put_beside _ r k h' hl' hd).trans (State.get_put_same _ r m h hl)

theorem feedsOff_state (s : State) (n : Nat) {st : Nat} (h : st < 8) : slcState (feedsOff s n st) n = st := by
  rw [slcState, feedsOff, modSx_get]
  exact (State.get_put_put s (R.SLC_STATUS n) st 0 (by decide) (by decide) (by decide) (by decide) (by decide)).trans
    (Nat.mod_eq_of_lt h)

theorem feedsOff_cause (s : State) (n st : Nat) :
    (feedsOff s n st).get (F.SLC_STATUS_CAUSE n) = s.get (F.SLC_STATUS_CAUSE n) := by
  rw [feedsOff, modSx_get]
  exact (State.get_put_beside _ (R.SLC_STATUS n) _ (by decide) (by decide) (by decide)).trans
    (State.get_put_beside s (R.SLC_STATUS n) st (by decide) (by decide) (by decide))

theorem feedsOff_gate (s : State) (n st : Nat) : ((feedsOff s n st).sx n).gate = none := by
  rw [feedsOff, modSx_sx]

theorem regsKept_feedsOff (s : State) (n st : Nat) : regsKept s (feedsOff s n st) [(R.SLC_STATUS n).addr] := by
  rw [feedsOff]
  exact regsKept_modSx (regsKept_put (regsKept_put (regsKept_refl s _) List.mem_cons_self) List.mem_cons_self)

/-! ### Power by command (R331 to R333) -/

section PowerUp

variable {n : Fin 32} (hw : slotWanted s n = true)
include hw

theorem exec_slotPowerUp_feed (h : slcState s n = 1 ∨ slcState s n = 6) {x : Nat} (hx : chooseFeed s n = some x) :
    exec (.slotPowerUp n) s = .next (feedRamp s n x) :=
  congrArg Host.Outcome.next (by simp only [hw, h, hx, Bool.not_true, Bool.false_eq_true, if_false, if_true])

theorem exec_slotPowerUp_wait (h : slcState s n = 1 ∨ slcState s n = 6) (hx : chooseFeed s n = none) :
    exec (.slotPowerUp n) s = .next (s.put (F.SLC_STATUS_STATE n) 6) :=
  congrArg Host.Outcome.next (by simp only [hw, h, hx, Bool.not_true, Bool.false_eq_true, if_false, if_true])

theorem exec_slotPowerUp_ramped (h : slcState s n = 2) (hg : (s.sx n).gate.isSome = true) : exec (.slotPowerUp n) s =
    .next ((s.put (F.SLC_STATUS_STATE n) 3).put (F.SLC_STATUS_PGOOD n) 1) :=
  congrArg Host.Outcome.next (by simp [hw, h, hg])

theorem runs_slotPowerUp_feed (h : slcState s n = 1 ∨ slcState s n = 6) {x : Nat} (hx : chooseFeed s n = some x) :
    runs (.slotPowerUp n) s fun t =>
      slcState t n = 2 ∧ (t.sx n).gate = some x ∧ (t.sx n).ft = 0 ∧ regsKept s t [(R.SLC_STATUS n).addr] := by
  refine ⟨_, exec_slotPowerUp_feed hw h hx, ?_, by rw [feedRamp, modSx_sx], by rw [feedRamp, modSx_sx], ?_⟩
  · rw [slcState, feedRamp, modSx_get]
    exact State.get_put_put s (R.SLC_STATUS n) 2 x (by decide) (by decide) (by decide) (by decide) (by decide)
  · rw [feedRamp]
    exact regsKept_modSx (regsKept_put (regsKept_put (regsKept_refl s _) List.mem_cons_self) List.mem_cons_self)

theorem runs_slotPowerUp_wait (h : slcState s n = 1 ∨ slcState s n = 6) (hx : chooseFeed s n = none) :
    runs (.slotPowerUp n) s fun t =>
      slcState t n = 6 ∧ regsKept s t [(R.SLC_STATUS n).addr] ∧ onlyRegs s t := by
  exact ⟨_, exec_slotPowerUp_wait hw h hx, State.get_put_same _ _ _ (by decide) (by decide), regsKept_put (regsKept_refl s _) List.mem_cons_self, rfl⟩

theorem runs_slotPowerUp_on (h : slcState s n = 2) (hg : (s.sx n).gate.isSome = true) :
    runs (.slotPowerUp n) s fun t =>
      slcState t n = 3 ∧ t.bit (F.SLC_STATUS_PGOOD n) = true ∧ regsKept s t [(R.SLC_STATUS n).addr] ∧ onlyRegs s t := by
  refine ⟨_, exec_slotPowerUp_ramped hw h hg, ?_, State.bit_of_get (State.get_put_same _ _ 1 (by decide) (by decide)),
    regsKept_put (regsKept_put (regsKept_refl s _) List.mem_cons_self) List.mem_cons_self, rfl⟩
  exact State.get_put_put s (R.SLC_STATUS n) 3 1 (by decide) (by decide) (by decide) (by decide) (by decide)

end PowerUp

/-! ### Steps of a write of SLC_CTRL (R332, R337, R342, R343) -/

/-- Registers but SLC_STATUS of controller n, the routing state and the events waiting are as before. -/
structure SlcStep (n : Nat) (s t : State) : Prop where
  regs : regsKept s t [(R.SLC_STATUS n).addr]
  rte : t.rte = s.rte
  srcs : srcs t = srcs s

theorem SlcStep.refl (n : Nat) (s : State) : SlcStep n s s := ⟨regsKept_refl s _, rfl, rfl⟩

theorem SlcStep.trans {u : State} (h : SlcStep n s t) (h' : SlcStep n t u) : SlcStep n s u :=
  ⟨h.regs.trans h'.regs (List.Subset.refl _), h'.rte.trans h.rte, h'.srcs.trans h.srcs⟩

theorem SlcStep.ite {c : Prop} [Decidable c] {u : State} (ht : SlcStep n s t) (hu : SlcStep n s u) :
    SlcStep n s (if c then t else u) := by
  split
  exacts [ht, hu]

theorem SlcStep.put {f : Fld} {k : Nat} (h : SlcStep n s t) (hf : f.reg = R.SLC_STATUS n) : SlcStep n s (t.put f k) :=
  ⟨regsKept_put h.regs (by simp [hf]), h.rte, h.srcs⟩

theorem slcStep_feedsOff (s : State) (n st : Nat) : SlcStep n s (feedsOff s n st) := ⟨regsKept_feedsOff s n st, rfl, rfl⟩

theorem slcStep_latchWrite (s : State) (n : Nat) (en : Bool) : SlcStep n s (latchWrite s n en) :=
  .ite (.refl n s) (.ite ((SlcStep.refl n s).put rfl) (.ite ((SlcStep.refl n s).put rfl)
    (.ite ((((SlcStep.refl n s).put rfl).put rfl).put rfl) (.refl n s))))

theorem slcStep_slotCheck (s : State) (n : Nat) : SlcStep n s (slotCheck s n) := .ite (.refl n s) (slcStep_feedsOff s n 1)

theorem slcStep_moveCheck (s : State) (n : Nat) : SlcStep n s (moveCheck s n) := by
  unfold moveCheck
  split
  · have h := (SlcStep.refl n s).put (f := F.SLC_STATUS_STATE n) (k := 5) rfl
    exact ⟨h.regs, h.rte, h.srcs⟩
  · exact .refl n s

theorem moveCheck_of_state (h : slcState s n ≠ 3) : moveCheck s n = s := by
  have hm : moveTo s n = none := by
    unfold moveTo
    split
    · rfl
    · rw [if_pos (.inl h)]
  rw [moveCheck, hm]

theorem moveCheck_of_gate (h : (s.sx n).gate = none) : moveCheck s n = s := by
  have hm : moveTo s n = none := by simp only [moveTo, h]
  rw [moveCheck, hm]

theorem slotWanted_of_disabled (h : s.get (F.SLC_CTRL_EN n) = 0) : slotWanted s n = false := by
  simp [slotWanted, State.bit_of_get h]

/-- A slot that is disabled, and neither latched nor without limits, is off. -/
theorem slotCheck_disabled (h : s.get (F.SLC_CTRL_EN n) = 0) (h0 : slcState s n ≠ 0) (h4 : slcState s n ≠ 4) :
    slotCheck s n = feedsOff s n 1 := by
  rw [slotCheck, if_neg (by simp [slotWanted_of_disabled h, h0, h4])]

theorem slotCheck_latched (h : slcState s n = 4) : slotCheck s n = s := by
  rw [slotCheck, if_pos (.inr (.inl h))]

theorem slotCheck_off (h : slcState s n = 1) : slcState (slotCheck s n) n = 1
    ∧ (slotCheck s n).get (F.SLC_STATUS_CAUSE n) = s.get (F.SLC_STATUS_CAUSE n) := by
  unfold slotCheck
  split
  · exact ⟨h, rfl⟩
  · exact ⟨feedsOff_state s n (by decide), feedsOff_cause s n 1⟩

theorem latchWrite_of_ne (h : slcState s n ≠ 4) (en : Bool) : latchWrite s n en = s := if_pos h

theorem latchWrite_disabled (h : slcState s n = 4) : latchWrite s n false = s.put (F.SLC_STATUS_ARMED n) 1 := by
  rw [latchWrite, if_neg (not_not_intro h), if_pos Bool.not_false]

/-- The latch of an armed slot is cleared. -/
def unlatched (s : State) (n : Nat) : State :=
  ((s.put (F.SLC_STATUS_STATE n) 1).put (F.SLC_STATUS_ARMED n) 0).put (F.SLC_STATUS_CAUSE n) 0

theorem latchWrite_enabled (h : slcState s n = 4) (hc : s.get (F.SLC_STATUS_COOL_LEFT n) = 0)
    (ha : s.bit (F.SLC_STATUS_ARMED n) = true) (hx : s.get (F.SLC_STATUS_CAUSE n) ≤ 3) : latchWrite s n true = unlatched s n := by
  rw [latchWrite, if_neg (not_not_intro h), if_neg (by decide), if_neg (not_not_intro hc), if_pos ⟨ha, hx⟩, unlatched]

theorem unlatched_get (s : State) (n : Nat) :
    slcState (unlatched s n) n = 1 ∧ (unlatched s n).get (F.SLC_STATUS_CAUSE n) = 0 := by
  refine ⟨?_, State.get_put_same _ _ _ (by decide) (by decide)⟩
  exact (State.get_put_beside _ (R.SLC_STATUS n) 0 (by decide) (by decide) (by decide)).trans
    (State.get_put_put s (R.SLC_STATUS n) 1 0 (by decide) (by decide) (by decide) (by decide) (by decide))

/-- What follows the write of SLC_CTRL itself. -/
def ctrlActs (u : State) (n : Nat) : State := moveCheck (slotCheck (latchWrite u n (u.bit (F.SLC_CTRL_EN n))) n) n

theorem slcStep_ctrlActs (u : State) (n : Nat) : SlcStep n u (ctrlActs u n) :=
  ((slcStep_latchWrite ..).trans (slcStep_slotCheck ..)).trans (slcStep_moveCheck ..)

theorem ctrlActs_disabled (h : s.get (F.SLC_CTRL_EN n) = 0) (h0 : slcState s n ≠ 0) (h4 : slcState s n ≠ 4) :
    slcState (ctrlActs s n) n = 1 ∧ ((ctrlActs s n).sx n).gate = none := by
  have he : ctrlActs s n = feedsOff s n 1 := by
    rw [ctrlActs, latchWrite_of_ne h4, slotCheck_disabled h h0 h4, moveCheck_of_gate (feedsOff_gate ..)]
  rw [he]
  exact ⟨feedsOff_state s n (by decide), feedsOff_gate ..⟩

theorem ctrlActs_arms (h : s.get (F.SLC_CTRL_EN n) = 0) (h4 : slcState s n = 4) :
    slcState (ctrlActs s n) n = 4 ∧ (ctrlActs s n).bit (F.SLC_STATUS_ARMED n) = true := by
  have hst : slcState (s.put (F.SLC_STATUS_ARMED n) 1) n = 4 :=
    (State.get_put_beside s (R.SLC_STATUS n) 1 (by decide) (by decide) (by decide)).trans h4
  have he : ctrlActs s n = s.put (F.SLC_STATUS_ARMED n) 1 := by
    rw [ctrlActs, State.bit_of_get h, show (0 != 0) = false from rfl, latchWrite_disabled h4, slotCheck_latched hst,
      moveCheck_of_state (by rw [hst]; decide)]
  rw [he]
  exact ⟨hst, State.bit_of_get (State.get_put_same s _ 1 (by decide) (by decide))⟩

theorem ctrlActs_clears (h : s.get (F.SLC_CTRL_EN n) = 1) (h4 : slcState s n = 4)
    (hc : s.get (F.SLC_STATUS_COOL_LEFT n) = 0) (ha : s.bit (F.SLC_STATUS_ARMED n) = true)
    (hx : s.get (F.SLC_STATUS_CAUSE n) ≤ 3) :
    slcState (ctrlActs s n) n = 1 ∧ (ctrlActs s n).get (F.SLC_STATUS_CAUSE n) = 0 := by
  obtain ⟨hst, hcause⟩ := unlatched_get s n
  obtain ⟨hst', hcause'⟩ := slotCheck_off hst
  have he : ctrlActs s n = slotCheck (unlatched s n) n := by
    rw [ctrlActs, State.bit_of_get h, show (1 != 0) = true from rfl, latchWrite_enabled h4 hc ha hx,
      moveCheck_of_state (by rw [hst']; decide)]
  rw [he]
  exact ⟨hst', hcause'.trans hcause⟩

/-! ### The write of SLC_CTRL -/

/-- The fields of SLC_CTRL. -/
def slcCtrlFlds : List FRow := [⟨31, 31, .rw⟩, ⟨30, 30, .rwl⟩, ⟨29, 29, .rw⟩, ⟨28, 27, .rwl⟩]

theorem hasFlds_slcCtrl (n : Fin 32) : hasFlds (R.SLC_CTRL n) slcCtrlFlds := regAt_of_flds (by revert n; decide)

theorem locked_slcCtrl (s : State) (n : Fin 32) : s.locked (R.SLC_CTRL n).addr = s.bit (F.SLC_LOCK_LOCK n) := by
  have hl : lockAt (R.SLC_CTRL n).addr = some (F.SLC_LOCK_LOCK n) := by
    revert n
    decide
  rw [State.locked, hl]

theorem slcCtrl_ne_loss (n : Nat) : (R.SLC_CTRL n).addr ≠ R.BRK_LOSS.addr := by
  simp only [R.SLC_CTRL, R.BRK_LOSS]
  omega

/-- SLC_CTRL takes the value k of the field at bits hi to lo. -/
def ctrlTaken (s : State) (n mid hi lo k : Nat) : State :=
  s.writeReg (R.SLC_CTRL n) (wrField s mid false ⟨R.SLC_CTRL n, hi, lo⟩ k)

section Ctrl

variable {n : Fin 32} {hi lo k mid : Nat} {ty : FTy} (hf : (⟨hi, lo, ty⟩ : FRow) ∈ slcCtrlFlds)
  (hopen : ty = .rw ∨ s.bit (F.SLC_LOCK_LOCK n) = false)
include hf hopen

theorem ctrlTaken_eq : ∃ x, ctrlTaken s n mid hi lo k = s.wr (R.SLC_CTRL n) x :=
  writeReg_wrField (hasFlds_slcCtrl n) (by decide) (by decide) hf (by rwa [locked_slcCtrl])

theorem ctrlTaken_get_self (hk : k < 2 ^ (hi + 1 - lo)) : (ctrlTaken s n mid hi lo k).get ⟨R.SLC_CTRL n, hi, lo⟩ = k := by
  have hb : ∀ f ∈ slcCtrlFlds, f.hi < 64 ∧ f.lo ≤ f.hi := by decide
  obtain ⟨h64, hlo⟩ := hb _ hf
  refine (get_writeReg_wrField (hasFlds_slcCtrl n) (by decide) (by decide) hf (by rwa [locked_slcCtrl])
    (slcCtrl_ne_loss n) hf).trans ?_
  exact (bitsGet_bitsPut _ _ _ _ h64 hlo).trans (Nat.mod_eq_of_lt hk)

theorem ctrlTaken_get_other {g : FRow} (hg : g ∈ slcCtrlFlds) (hd : hi < g.lo ∨ g.hi < lo) :
    (ctrlTaken s n mid hi lo k).get ⟨R.SLC_CTRL n, g.hi, g.lo⟩ = s.get ⟨R.SLC_CTRL n, g.hi, g.lo⟩ := by
  have hb : ∀ f ∈ slcCtrlFlds, f.hi < 64 ∧ f.lo ≤ f.hi := by decide
  obtain ⟨h64, hlo⟩ := hb _ hf
  refine (get_writeReg_wrField (hasFlds_slcCtrl n) (by decide) (by decide) hf (by rwa [locked_slcCtrl])
    (slcCtrl_ne_loss n) hg).trans ?_
  exact bitsGet_bitsPut_ne _ _ _ _ _ _ h64 hlo hd

end Ctrl


/-! ### SLOT_ENABLE, SLOT_DISABLE, FORCE_WRITE -/

theorem ctrlTaken_regs {n : Fin 32} {hi lo k mid : Nat} {ty : FTy} (hf : (⟨hi, lo, ty⟩ : FRow) ∈ slcCtrlFlds)
    (hopen : ty = .rw ∨ s.bit (F.SLC_LOCK_LOCK n) = false) :
    regsKept s (ctrlTaken s n mid hi lo k) [(R.SLC_CTRL n).addr] ∧ srcs (ctrlTaken s n mid hi lo k) = srcs s
    ∧ (ctrlTaken s n mid hi lo k).rte = s.rte := by
  obtain ⟨x, hx⟩ := ctrlTaken_eq (s := s) (k := k) (mid := mid) hf hopen
  rw [hx]
  exact ⟨regsKept_wr (regsKept_refl s _) List.mem_cons_self, rfl, rfl⟩

/-- The controller acts on a write of SLC_CTRL after which EN is en. -/
theorem ctrlActs_spec {u : State} {n en : Nat} (hk : regsKept s u [(R.SLC_CTRL n).addr]) (hs : srcs u = srcs s)
    (hen : u.get (F.SLC_CTRL_EN n) = en) :
    let t := ctrlActs u n
    (∀ hi lo, t.get ⟨R.SLC_CTRL n, hi, lo⟩ = u.get ⟨R.SLC_CTRL n, hi, lo⟩)
    ∧ regsKept s t [(R.SLC_CTRL n).addr, (R.SLC_STATUS n).addr] ∧ srcs t = srcs s
    ∧ (en = 0 → slcState s n ≠ 0 → slcState s n ≠ 4 → slcState t n = 1 ∧ (t.sx n).gate = none)
    ∧ (en = 0 → slcState s n = 4 → slcState t n = 4 ∧ t.bit (F.SLC_STATUS_ARMED n) = true)
    ∧ (en = 1 → slcState s n = 4 → s.get (F.SLC_STATUS_COOL_LEFT n) = 0 → s.bit (F.SLC_STATUS_ARMED n) = true →
      s.get (F.SLC_STATUS_CAUSE n) ≤ 3 → slcState t n = 1 ∧ t.get (F.SLC_STATUS_CAUSE n) = 0) := by
  obtain ⟨hregs, -, hsrcs⟩ := slcStep_ctrlActs u n
  have hst : ∀ hi lo, u.get ⟨R.SLC_STATUS n, hi, lo⟩ = s.get ⟨R.SLC_STATUS n, hi, lo⟩ := fun hi lo =>
    hk.get_ne (slcCtrl_ne_status n n).symm
  have hstate : slcState u n = slcState s n := hst 31 29
  refine ⟨fun hi lo => hregs.get_ne (slcCtrl_ne_status n n), ?_, hsrcs.trans hs, fun h0 hne0 hne4 => ?_, fun h0 h4 => ?_,
    fun h1 h4 hc ha hx => ?_⟩
  · exact (hk.mono (by simp)).trans (hregs.mono (List.subset_cons_self _ _)) (List.Subset.refl _)
  · exact ctrlActs_disabled (hen.trans h0) (hstate ▸ hne0) (hstate ▸ hne4)
  · exact ctrlActs_arms (hen.trans h0) (hstate.trans h4)
  · exact ctrlActs_clears (hen.trans h1) (hstate.trans h4) ((hst 15 0).trans hc)
      ((congrArg (· != 0) (hst 25 25)).trans ha) ((hst 24 22).trans_le hx)

/-- From s to u nothing changes but SLC_CTRL, whose fields EN and FORCE are en and force. -/
structure CtrlWritten (s u : State) (n en force : Nat) : Prop where
  regs : regsKept s u [(R.SLC_CTRL n).addr]
  srcs : srcs u = srcs s
  en : u.get (F.SLC_CTRL_EN n) = en
  force : u.get (F.SLC_CTRL_FORCE n) = force
  gate : u.get (F.SLC_CTRL_PRSNT_GATE n) = s.get (F.SLC_CTRL_PRSNT_GATE n)
  noReturn : u.get (F.SLC_CTRL_NO_RETURN n) = s.get (F.SLC_CTRL_NO_RETURN n)

theorem ctrlTaken_en (s : State) (n : Fin 32) (mid : Nat) {k : Nat} (hk : k < 2) :
    CtrlWritten s (ctrlTaken s n mid 31 31 k) n k (s.get (F.SLC_CTRL_FORCE n)) := by
  have hf : (⟨31, 31, .rw⟩ : FRow) ∈ slcCtrlFlds := by decide
  have hother := fun g hg hd => ctrlTaken_get_other (s := s) (n := n) (k := k) (mid := mid) hf (.inl rfl) (g := g) hg hd
  obtain ⟨hregs, hsrcs, -⟩ := ctrlTaken_regs (s := s) (n := n) (k := k) (mid := mid) hf (.inl rfl)
  exact ⟨hregs, hsrcs, ctrlTaken_get_self hf (.inl rfl) hk, hother ⟨28, 27, .rwl⟩ (by decide) (by decide),
    hother ⟨30, 30, .rwl⟩ (by decide) (by decide), hother ⟨29, 29, .rw⟩ (by decide) (by decide)⟩

theorem ctrlTaken_force (mid : Nat) {n : Fin 32} (f : Fin 4) (hlock : s.bit (F.SLC_LOCK_LOCK n) = false) :
    CtrlWritten s (ctrlTaken s n mid 28 27 f) n (s.get (F.SLC_CTRL_EN n)) f := by
  have hf : (⟨28, 27, .rwl⟩ : FRow) ∈ slcCtrlFlds := by decide
  have hother := fun g hg hd => ctrlTaken_get_other (s := s) (n := n) (k := f) (mid := mid) hf (.inr hlock) (g := g) hg hd
  obtain ⟨hregs, hsrcs, -⟩ := ctrlTaken_regs (s := s) (n := n) (k := f) (mid := mid) hf (.inr hlock)
  exact ⟨hregs, hsrcs, hother ⟨31, 31, .rw⟩ (by decide) (by decide), ctrlTaken_get_self hf (.inr hlock) f.isLt,
    hother ⟨30, 30, .rwl⟩ (by decide) (by decide), hother ⟨29, 29, .rw⟩ (by decide) (by decide)⟩

theorem exec_ctrl {mid : Mid} {n : Fin 32} {c : Instr} {en force : Nat}
    (h : (c = .slotEnable mid n ∧ en = 1 ∧ force = s.get (F.SLC_CTRL_FORCE n))
      ∨ (c = .slotDisable mid n ∧ en = 0 ∧ force = s.get (F.SLC_CTRL_FORCE n))
      ∨ (∃ f : Fin 4, c = .forceWrite mid n f ∧ en = s.get (F.SLC_CTRL_EN n) ∧ force = f.val ∧ s.bit (F.SLC_LOCK_LOCK n) = false)) :
    ∃ u, exec c s = .next (ctrlActs u n) ∧ CtrlWritten s u n en force := by
  obtain ⟨rfl, rfl, rfl⟩ | ⟨rfl, rfl, rfl⟩ | ⟨f, rfl, rfl, rfl, hlock⟩ := h
  · exact ⟨_, rfl, ctrlTaken_en s n mid (by decide)⟩
  · exact ⟨_, rfl, ctrlTaken_en s n mid (by decide)⟩
  · exact ⟨_, rfl, ctrlTaken_force mid f hlock⟩

/-! ### SLOT_POWER_CONTROL (R163) -/

/-- Power Controller Control of a vPPB is recorded. -/
def powerNoted (s : State) (v k : Nat) (on : Bool) : State := s.modVx v k fun x => { x with powerOff := !on }

theorem bindOf_regs (h : t.regs = s.regs) (v k : Nat) : bindOf t v k = bindOf s v k := by
  simp only [bindOf, State.bit, State.get_congr h]

theorem wholePort_regs (h : t.regs = s.regs) (v k : Nat) : wholePort t v k = wholePort s v k := by
  unfold wholePort
  rw [bindOf_regs h]
  cases bindOf s v k with
  | none => rfl
  | some n =>
    simp only [State.get_congr h (F.RTE_BIND_PORT n), State.get_congr h (F.RTE_BIND_KIND n),
      State.get_congr h (F.RTE_BIND_LDID n), State.get_congr h (F.PORT_CFG_ROLE (s.get (F.RTE_BIND_PORT n)))]

theorem wholePort_modVx (s : State) (v k : Nat) (g : VppbX → VppbX) :
    wholePort (s.modVx v k g) v k = wholePort s v k := wholePort_regs (modVx_regs ..) v k

theorem slotPower_none {v k : Nat} (hp : wholePort s v k = none) (on : Bool) : slotPower s v k on = powerNoted s v k on := by
  unfold slotPower
  extract_lets u
  rw [(wholePort_modVx s v k _ : wholePort u v k = _).trans hp]
  rfl

/-- EN of the slot of a vPPB that stands for a whole port is written. -/
theorem slotPower_slot {v k p : Nat} (hp : wholePort s v k = some p) (hn : s.get (F.PORT_CFG_SLC p) = n) (h : n < 32)
    (on : Bool) : slotPower s v k on =
      ctrlActs (ctrlTaken (powerNoted s v k on) n 0 31 31 (if on then 1 else 0)) n := by
  unfold slotPower
  extract_lets u
  have hn' : u.get (F.PORT_CFG_SLC p) = n := hn
  rw [(wholePort_modVx s v k _ : wholePort u v k = _).trans hp]
  dsimp only
  rw [hn', if_pos h]
  rfl

theorem slotPower_noSlot {v k p : Nat} (hp : wholePort s v k = some p) (h : ¬s.get (F.PORT_CFG_SLC p) < 32) (on : Bool) :
    slotPower s v k on = powerNoted s v k on := by
  unfold slotPower
  extract_lets u
  have hn : ¬u.get (F.PORT_CFG_SLC p) < 32 := h
  rw [(wholePort_modVx s v k _ : wholePort u v k = _).trans hp]
  dsimp only
  rw [if_neg hn]
  rfl

theorem ctrlActs_ctrlTaken_en (s : State) (n : Fin 32) (mid : Nat) (on : Bool) :
    let t := ctrlActs (ctrlTaken s n mid 31 31 (if on then 1 else 0)) n
    t.rte = s.rte ∧ t.bit (F.SLC_CTRL_EN n) = on := by
  have hf : (⟨31, 31, .rw⟩ : FRow) ∈ slcCtrlFlds := by decide
  obtain ⟨-, -, hrte⟩ := ctrlTaken_regs (s := s) (n := n) (k := if on then 1 else 0) (mid := mid) hf (.inl rfl)
  obtain ⟨hregs, hrte', -⟩ := slcStep_ctrlActs (ctrlTaken s n mid 31 31 (if on then 1 else 0)) n
  refine ⟨hrte'.trans hrte, State.bit_of_get (n := if on then 1 else 0) ?_ |>.trans (by cases on <;> rfl)⟩
  refine (hregs.get_ne (slcCtrl_ne_status n n)).trans (ctrlTaken_get_self hf (.inl rfl) ?_)
  cases on <;> decide

theorem slotPower_spec (s : State) (v k : Nat) (on : Bool) :
    ((slotPower s v k on).vx v k).powerOff = !on
    ∧ ∀ (n : Fin 32) (p : Nat), wholePort s v k = some p → s.get (F.PORT_CFG_SLC p) = n.val →
      (slotPower s v k on).bit (F.SLC_CTRL_EN n) = on := by
  have hnoted : ((powerNoted s v k on).vx v k).powerOff = !on := by rw [powerNoted, modVx_vx]
  refine ⟨?_, fun n p hp hn => ?_⟩
  · cases hp : wholePort s v k with
    | none => rw [slotPower_none hp, hnoted]
    | some p =>
      by_cases h : s.get (F.PORT_CFG_SLC p) < 32
      · obtain ⟨hrte, -⟩ := ctrlActs_ctrlTaken_en (powerNoted s v k on) ⟨_, h⟩ 0 on
        rw [slotPower_slot hp rfl h, State.vx, hrte]
        exact hnoted
      · rw [slotPower_noSlot hp h, hnoted]
  · rw [slotPower_slot hp hn n.isLt]
    exact (ctrlActs_ctrlTaken_en (powerNoted s v k on) n 0 on).2

/-! ### LIMIT_WRITE (R328) -/

/-- The fields of limit register k. -/
def slcLimFlds (k : Nat) : List FRow :=
  if k = 3 then [⟨31, 31, .gv⟩, ⟨30, 30, .gv⟩, ⟨25, 16, .gv⟩, ⟨15, 0, .gv⟩] else [⟨31, 16, .gv⟩, ⟨15, 0, .gv⟩]

theorem hasFlds_slcLim (n : Fin 32) (k : Fin 4) : hasFlds (slcLim n k) (slcLimFlds k) :=
  regAt_of_flds (by revert n k; decide)

theorem slcLim_ne_status (n k m : Nat) : (slcLim n k).addr ≠ (R.SLC_STATUS m).addr := by
  unfold slcLim
  split_ifs <;> simp only [R.SLC_LIM0, R.SLC_LIM1, R.SLC_LIM2, R.SLC_LIM3, R.SLC_STATUS] <;> omega

theorem slcLim_ne_loss (n k : Nat) : (slcLim n k).addr ≠ R.BRK_LOSS.addr := by
  unfold slcLim
  split_ifs <;> simp only [R.SLC_LIM0, R.SLC_LIM1, R.SLC_LIM2, R.SLC_LIM3, R.BRK_LOSS] <;> omega

theorem slcStep_slcValid (s : State) (n : Nat) : SlcStep n s (slcValid s n) := by
  have hbus : ∀ a b, SlcStep n s ((s.putB (busField n 0) a).putB (busField n 1) b) := fun a b =>
    ((SlcStep.refl n s).put (f := busField n 0) rfl).put (f := busField n 1) rfl
  unfold slcValid
  exact .ite ((hbus _ _).put rfl) (hbus _ _)

/-- The limit register when the Governor has written it. -/
def limTaken (s : State) (n k : Nat) (v : Word) : State := s.writeReg (slcLim n k) (wrFull midGov false v)

theorem slcLimFlds_ok (k : Fin 4) : fldsOk (slcLimFlds k) = true ∧ ∀ g ∈ slcLimFlds k, g.ty = .gv ∧ g.hi < 32 := by
  revert k
  decide

/-- What a limit register reads after the write: its fields take the word. -/
theorem limTaken_bit (s : State) (n : Fin 32) (k : Fin 4) (v : Word) {f : FRow} (hf : f ∈ slcLimFlds k) {i : Nat}
    (hlo : f.lo ≤ i) (hhi : i ≤ f.hi) :
    ((limTaken s n k v).rd (slcLim n k)).getLsbD i = (wrFull midGov false v).v.getLsbD i := by
  obtain ⟨row, hrow, hflds⟩ := hasFlds_slcLim n k
  obtain ⟨hok, hgv⟩ := slcLimFlds_ok k
  obtain ⟨hty, h32⟩ := hgv f hf
  have hno : fieldNo (s.locked (slcLim n k).addr) 0#64 (wrFull midGov false v) f = false := by
    simp [fieldNo, hty, wrFull]
  rw [limTaken, State.rd_writeReg s _ _ _ hrow (slcLim_ne_loss n k), hflds, fold_bit _ _ _ _ _ _ f i hok hf hlo hhi,
    if_neg (by simp [hno]), hty, getLsbD_mask_wrFull (wide := false) (lt_of_le_of_lt hhi h32)]
  rfl

theorem limTaken_low (s : State) (n : Fin 32) (k : Fin 4) (v : Word) :
    bitsGet ((limTaken s n k v).rd (slcLim n k)) 15 0 = bitsGet v 15 0 := by
  have hf : (⟨15, 0, .gv⟩ : FRow) ∈ slcLimFlds k := by
    revert k
    decide
  rw [← bitsGet_wrFull (wide := false) (by decide) 0 midGov v]
  refine Nat.eq_of_testBit_eq fun i => ?_
  rw [testBit_bitsGet, testBit_bitsGet]
  by_cases hi : i < 15 + 1 - 0
  · rw [limTaken_bit s n k v hf (Nat.zero_le _) (show 0 + i ≤ 15 by omega)]
  · simp [hi]

theorem limTaken_word (s : State) (n : Fin 32) {k : Fin 4} (hk : k.val < 3) (v : BitVec 32) :
    (limTaken s n k (v.setWidth 64)).rd (slcLim n k) = s.rd (slcLim n k) &&& ~~~0xFFFFFFFF#64 ||| v.setWidth 64 := by
  have hflds : slcLimFlds k = [⟨31, 16, .gv⟩, ⟨15, 0, .gv⟩] := if_neg (by omega)
  have hlo : (⟨15, 0, .gv⟩ : FRow) ∈ slcLimFlds k := by rw [hflds]; decide
  have hhi : (⟨31, 16, .gv⟩ : FRow) ∈ slcLimFlds k := by rw [hflds]; decide
  refine BitVec.eq_of_getLsbD_eq fun i hi => ?_
  have hmask : (0xFFFFFFFF#64).getLsbD i = decide (i < 32) := getLsbD_loMask i
  rw [BitVec.getLsbD_or, BitVec.getLsbD_and, BitVec.getLsbD_not, hmask, BitVec.getLsbD_setWidth]
  by_cases h32 : i < 32
  · have hbit : ((limTaken s n k (v.setWidth 64)).rd (slcLim n k)).getLsbD i
        = (wrFull midGov false (v.setWidth 64)).v.getLsbD i := by
      by_cases h16 : i < 16
      · exact limTaken_bit s n k _ hlo (Nat.zero_le _) (show i ≤ 15 by omega)
      · exact limTaken_bit s n k _ hhi (show 16 ≤ i by omega) (show i ≤ 31 by omega)
    rw [hbit]
    simp [wrFull, hmask, h32, hi]
  · obtain ⟨row, hrow, hfl⟩ := hasFlds_slcLim n k
    rw [limTaken, State.rd_writeReg s _ _ _ hrow (slcLim_ne_loss n k), fold_other]
    · simp [h32, hi, BitVec.getLsbD_of_ge v i (by omega)]
    · rw [hfl, hflds]
      intro f hf
      simp only [List.mem_cons, List.not_mem_nil, or_false] at hf
      rcases hf with rfl | rfl <;> simp <;> omega

/-- What follows the write of a limit register: VALID may have been set, or cleared. -/
def limActs (was : Bool) (u : State) (n : Nat) : State :=
  if u.bit (F.SLC_LIM3_VALID n) && !was then slcValid u n
  else if was && !u.bit (F.SLC_LIM3_VALID n) then (if slcState u n = 4 then u else feedsOff u n 0)
  else u

theorem slcStep_limActs (was : Bool) (u : State) (n : Nat) : SlcStep n u (limActs was u n) :=
  .ite (slcStep_slcValid u n) (.ite (.ite (.refl n u) (slcStep_feedsOff u n 0)) (.refl n u))

theorem exec_limitWrite_off {n : Fin 32} (k : Fin 4) (v : BitVec 32) (hg : (s.sx n).gate = none) : exec (.limitWrite n k v) s
    = .next (limActs (s.bit (F.SLC_LIM3_VALID n)) (limTaken s n k (v.setWidth 64)) n) :=
  congrArg Host.Outcome.next (by
    simp only [wrSlcLim, hg, Option.isSome_none, Bool.false_eq_true, and_false, if_false]
    rfl)

theorem runs_limitWrite_off {n : Fin 32} (k : Fin 4) (v : BitVec 32) (hg : (s.sx n).gate = none) :
    runs (.limitWrite n k v) s fun t =>
      bitsGet (t.rd (slcLim n k)) 15 0 = bitsGet (v.setWidth 64) 15 0
      ∧ (k.val < 3 → t.rd (slcLim n k) = s.rd (slcLim n k) &&& ~~~0xFFFFFFFF#64 ||| v.setWidth 64) := by
  have hrd := (slcStep_limActs (s.bit (F.SLC_LIM3_VALID n)) (limTaken s n k (v.setWidth 64)) n).regs (slcLim n k)
    (List.mem_singleton.not.2 (slcLim_ne_status n k n))
  refine ⟨_, exec_limitWrite_off k v hg, ?_, fun hk => hrd.trans (limTaken_word s n hk v)⟩
  rw [hrd]
  exact limTaken_low s n k _

theorem runs_limitWrite_on {n : Fin 32} (k : Fin 4) (v : BitVec 32) (hg : (s.sx n).gate.isSome = true) :
    runs (.limitWrite n k v) s fun t => srcs t = srcs s ++ [1] ∧ regsKept s t [R.BRK_LOSS.addr] ∧ onlyRegsEvents s t := by
  have he : exec (.limitWrite n k v) s = .next (s.refuse (slcLim n k).addr midGov 4) :=
    congrArg Host.Outcome.next (if_pos ⟨rfl, hg⟩)
  exact ⟨_, he, refuse_srcs .., regsKept_raise (regsKept_refl s _) List.mem_cons_self, onlyRegsEvents_raise ..⟩

/-- Settles O40: a slot is powered by its controller's state alone; the writes of SLC_CTRL come to one write of a field and
what the controller makes of it; a limit register takes the word of the Governor. -/
theorem slotsArePowered : Obligations.SlotsArePowered := by
  refine fun mid n s => ⟨fun hw => ⟨fun h => ⟨fun x => runs_slotPowerUp_feed hw h, runs_slotPowerUp_wait hw h⟩,
      runs_slotPowerUp_on hw⟩, fun c en force h => ?ctrl, fun v k on => ⟨_, rfl, ?power⟩,
    fun k v => ⟨runs_limitWrite_off k v, runs_limitWrite_on k v⟩, ⟨_, rfl, ?cool⟩⟩
  case ctrl =>
    obtain ⟨u, he, hu⟩ := exec_ctrl h
    obtain ⟨hctrl, hspec⟩ := ctrlActs_spec hu.regs hu.srcs hu.en
    exact ⟨_, he, (hctrl 31 31).trans hu.en, (hctrl 28 27).trans hu.force, (hctrl 30 30).trans hu.gate,
      (hctrl 29 29).trans hu.noReturn, hspec⟩
  case power =>
    obtain ⟨hoff, hslot⟩ := slotPower_spec s v k on
    exact ⟨hoff, hslot n⟩
  case cool =>
    exact ⟨State.get_put_same s _ 0 (by decide) (by decide), regsKept_put (regsKept_refl s _) List.mem_cons_self, rfl⟩

end Sys2Proof.Machine
end

section
/-! What the work of functions and of the Hopper's channels leaves as it is (R226 to R277): the links of the ports, the vPPBs,
shutdown and power state of every function, and the registers of reset, of the ports' links and of the functions'
configuration. For O31, O32 and O57. -/

namespace Sys2Proof.Machine

/-- The registers of CRP, PORT_CFG, PORT_LINK_CTRL and PORT_LINK_STATUS of the ports, and HEP_FN_CFG of the functions. -/
abbrev quietAddr (a : Nat) : Prop :=
  (0x40300000 ≤ a ∧ a < 0x40400000) ∨ (0x42000000 ≤ a ∧ a < 0x43000000 ∧ a % 0x10000 < 0x10)
  ∨ (0x49008000 ≤ a ∧ a < 0x49010000 ∧ a % 0x20 = 0)

/-- From s to t ports, vPPBs and quiet registers stay as they are, and no waiting event is lost. -/
structure Calm (s t : State) : Prop where
  ports : t.ports = s.ports
  vppb : t.rte.vppb = s.rte.vppb
  srcs : srcs s <+: srcs t
  rd : ∀ q : Reg, quietAddr q.addr → t.rd q = s.rd q

/-- Calm, and every function keeps its shutdown and its power state. -/
structure Quiet (s t : State) : Prop extends Calm s t where
  fns : ∀ n, (t.fx n).shut = (s.fx n).shut ∧ (t.fx n).d3 = (s.fx n).d3

/-- What `Quiet` speaks of. -/
def State.steady (s : State) := (s.regs, s.ports, s.rte.vppb, s.hep.fns, s.brk.queue)

/-- The state that a started access of an engine leaves is quiet. -/
def Started.Quiet {α : Type} (s : State) : Started α → Prop
  | .wait => True
  | .fail t _ => Machine.Quiet s t
  | .ok t _ => Machine.Quiet s t

variable {s t u : State}

/-! ### Rules for the shapes that the model's functions have -/

theorem Calm.refl (s : State) : Calm s s := ⟨rfl, rfl, List.prefix_rfl, fun _ _ => rfl⟩

theorem Calm.trans (h : Calm s t) (h' : Calm t u) : Calm s u :=
  ⟨h'.ports.trans h.ports, h'.vppb.trans h.vppb, h.srcs.trans h'.srcs, fun q hq => (h'.rd q hq).trans (h.rd q hq)⟩

theorem Calm.frame (h : Calm s t) (hr : u.regs = t.regs) (hp : u.ports = t.ports) (hv : u.rte.vppb = t.rte.vppb)
    (hb : u.brk.queue = t.brk.queue) : Calm s u :=
  h.trans ⟨hp, hv, by simp only [Machine.srcs, hb, List.prefix_rfl], fun _ _ => State.rd_congr hr.symm _ |>.symm⟩

theorem modFx_fx_ne (n : Nat) (f : FnX → FnX) {m : Nat} (h : m ≠ n) : (s.modFx n f).fx m = s.fx m := tget_tput_ne _ _ _ h

theorem Calm.get (h : Calm s t) (f : Fld) (hf : quietAddr f.reg.addr) : t.get f = s.get f := by
  simp only [State.get, h.rd _ hf]

namespace Quiet

theorem refl (s : State) : Quiet s s := ⟨.refl s, fun _ => ⟨rfl, rfl⟩⟩

theorem trans (h : Quiet s t) (h' : Quiet t u) : Quiet s u :=
  ⟨h.toCalm.trans h'.toCalm, fun n => ⟨(h'.fns n).1.trans (h.fns n).1, (h'.fns n).2.trans (h.fns n).2⟩⟩

theorem frame (h : Quiet s t) (e : u.steady = t.steady) : Quiet s u := by
  obtain ⟨hr, hp, hv, hf, hb⟩ : _ ∧ _ ∧ _ ∧ _ ∧ _ := by simpa [State.steady] using e
  exact ⟨h.toCalm.frame hr hp hv hb, fun n => by simpa only [State.fx, hf] using h.fns n⟩

theorem ite {c : Prop} [Decidable c] (ht : Quiet s t) (hu : Quiet s u) : Quiet s (if c then t else u) := by
  split
  · exact ht
  · exact hu

theorem foldl {β : Type} {f : State → β → State} {l : List β} (h : Quiet s t)
    (hf : ∀ t x, x ∈ l → Quiet s t → Quiet s (f t x)) : Quiet s (l.foldl f t) := by
  induction l generalizing t with
  | nil => exact h
  | cons x l ih => exact ih (hf t x List.mem_cons_self h) fun t y hy => hf t y (List.mem_cons_of_mem _ hy)

theorem ite_fst {α : Type} {c : Prop} [Decidable c] {x y : State × α} (hx : Quiet s x.1) (hy : Quiet s y.1) :
    Quiet s (if c then x else y).1 := by
  split
  · exact hx
  · exact hy

theorem foldl_fst {α β : Type} {f : State × α → β → State × α} {l : List β} {y : State × α}
    (h : Quiet s y.1) (hf : ∀ y x, Quiet s y.1 → Quiet s (f y x).1) : Quiet s (l.foldl f y).1 := by
  induction l generalizing y with
  | nil => exact h
  | cons x l ih => exact ih (hf y x h)

end Quiet

section
variable {α : Type} {x y : Started α} {a : α} {err : HopErr}

protected theorem Started.Quiet.ite {c : Prop} [Decidable c] (hx : x.Quiet s) (hy : y.Quiet s) :
    (if c then x else y).Quiet s := by
  split
  · exact hx
  · exact hy

protected theorem Started.Quiet.of_fail (h : x.Quiet s) (e : x = .fail t err) : Machine.Quiet s t := by
  subst e
  exact h

protected theorem Started.Quiet.of_ok (h : x.Quiet s) (e : x = .ok t a) : Machine.Quiet s t := by
  subst e
  exact h

end

namespace Quiet

/-! ### Registers, events and records -/

section
variable (h : Quiet s t)
include h

theorem wr {r : Reg} {w : Word} (hr : ¬ quietAddr r.addr) : Quiet s (t.wr r w) :=
  h.trans ⟨⟨rfl, rfl, List.prefix_rfl, fun _ hq => State.rd_wr_ne _ _ _ _ fun e => hr (e ▸ hq)⟩, fun _ => ⟨rfl, rfl⟩⟩

theorem put {f : Fld} {n : Nat} (hf : ¬ quietAddr f.reg.addr) : Quiet s (t.put f n) := h.wr hf

theorem inc {f : Fld} {n : Nat} (hf : ¬ quietAddr f.reg.addr) : Quiet s (t.inc f n) := h.wr hf

theorem putOf {r : Reg} (hr : ¬ quietAddr r.addr) {hi lo n : Nat} : Quiet s (t.put ⟨r, hi, lo⟩ n) := h.wr hr

theorem incOf {r : Reg} (hr : ¬ quietAddr r.addr) {hi lo n : Nat} : Quiet s (t.inc ⟨r, hi, lo⟩ n) := h.wr hr

theorem modFx {n : Nat} {f : FnX → FnX} (hf : ∀ x, (f x).shut = x.shut ∧ (f x).d3 = x.d3) : Quiet s (t.modFx n f) := by
  refine h.trans ⟨⟨rfl, rfl, List.prefix_rfl, fun _ _ => rfl⟩, fun m => ?_⟩
  by_cases hm : m = n
  · subst hm
    rw [modFx_fx]
    exact hf _
  · rw [modFx_fx_ne _ _ hm]
    exact ⟨rfl, rfl⟩

theorem raise {n : Nat} {d : Detail} : Quiet s (t.raise n d) := by
  refine h.trans ⟨⟨?_, ?_, ⟨[n], (raise_srcs ..).symm⟩, fun q hq => ?_⟩, fun m => ?_⟩
  · exact raise_ports ..
  · rw [raise_rte]
  · exact raise_rd _ _ _ _ fun e => absurd (e ▸ hq) (by decide)
  · simp only [State.fx, raise_hep, and_self]

theorem injWrite {target i a : Nat} : Quiet s (injWrite t target i a) := by
  unfold Machine.injWrite
  extract_lets hit m t1
  have h1 : Quiet s t1 := .ite (((h.put (by decide)).put (by decide)).put (by decide)) h
  exact h1.frame (by rfl)

theorem smpShow : Quiet s (smpShow t) := by
  unfold Machine.smpShow
  extract_lets n d t1
  have h1 : Quiet s t1 := (h.put (by decide)).put (by decide)
  exact h1.foldl fun u k hk hu => hu.wr (by revert k; decide)

theorem smpPut {r : Bytes} : Quiet s (smpPut t r) := by
  unfold Machine.smpPut
  have h1 : Quiet s (Machine.smpShow (t.modPmc fun p => { p with samples := p.samples ++ [r] })) :=
    smpShow (h.frame (by rfl))
  exact .ite h (.ite (h.inc (by decide)) (.ite h1.raise h1))

theorem tsEnd {k : Nat} {timeout err : Bool} : Quiet s (tsEnd t k timeout err) := by
  unfold Machine.tsEnd
  split
  · exact h
  · exact smpPut (h.frame (by rfl))

theorem sampleErr {q : Pkt} : Quiet s (sampleErr t q) := h.foldl fun _ _ _ h => .ite h.tsEnd h

/-! ### Requests and their answers (R114, R152) -/

theorem present {x : Present} : Quiet s (present t x) := h.frame (by rfl)

theorem answer {req a : Pkt} : Quiet s (answer t req a) := by
  unfold Machine.answer
  split
  · exact h.present
  · exact h.present
  · exact h

theorem decodeMiss {q : Pkt} : Quiet s (decodeMiss t q) := by
  have h1 : Quiet s (Machine.sampleErr (t.inc F.RTE_CNT0_DECODE_MISS) q) := sampleErr (h.inc (by decide))
  exact .ite h1.answer (.ite h1.answer.raise (.ite (.ite h1.raise h1.answer) h1))

/-! ### The MPU and the scratchpad (R279 to R301) -/

theorem mpuRefused {m mid : Nat} {priv : Bool} {op : AccOp} {addr : Nat} {x : MpuAns} :
    Quiet s (mpuRefused t m mid priv op addr x) := by
  have hm : ∀ a, 0x10 ≤ a → a < 0x20 → ¬ quietAddr (mpuBase m + a) := fun a ha ha' => by
    unfold quietAddr mpuBase
    split <;> omega
  have hf : ¬ quietAddr (R.MPU_FAULT m).addr := hm 0x10 (by decide) (by decide)
  have hc : ¬ quietAddr (R.MPU_FAULT_CNT m).addr := hm 0x18 (by decide) (by decide)
  have hcnt : ¬ quietAddr (if x = .noMatch then F.MPU_FAULT_CNT_NOMATCH m else F.MPU_FAULT_CNT_DENIED m).reg.addr := by
    split
    · exact hc
    · exact hc
  have h1 := h.inc (n := 1) hcnt
  exact raise (.ite h1 (((((h1.putOf hf).putOf hf).putOf hf).putOf hf).putOf hf))

theorem mpuPass {m mid : Nat} {priv : Bool} {op : AccOp} {addr len : Nat} : Quiet s (mpuPass t m mid priv op addr len).1 := by
  unfold Machine.mpuPass
  split
  · exact h
  · exact h.mpuRefused

theorem bankRefused : Quiet s (bankRefused t) := (h.inc (by decide)).raise

theorem spdCe {b : Nat} : Quiet s (spdCe t b) := by
  have h1 : Quiet s (t.inc F.SPD_ECC_CE) := h.inc (by decide)
  exact .ite (raise (h1.frame (by rfl))) (h1.frame (by rfl))

omit h in
theorem spdWord {a : Nat} {d : Bytes} {skip : List Nat} {x : State × Bool} {w : Nat} (h : Quiet s x.1) :
    Quiet s (spdWord a d skip x w).1 := by
  unfold Machine.spdWord
  extract_lets lo hi part y
  refine .ite_fst h (.ite_fst (h.inc (by decide)).raise ?_)
  have hz : Quiet s (if part ∧ spdMark y w = 1 then Machine.spdCe y (bankOf (8 * w)) else y) := .ite h.spdCe h
  exact injWrite (hz.frame (by rfl))

theorem spdPut {a : Nat} {d : Bytes} {skip : List Nat} : Quiet s (spdPut t a d skip).1 :=
  .foldl_fst h fun _ _ h => spdWord h

end

end Quiet

/-! ### Functions (R229, R234, R245) -/

theorem not_quietAddr_HEP_FN_STATUS (n : Nat) : ¬ quietAddr (R.HEP_FN_STATUS n).addr := by
  simp only [quietAddr, R.HEP_FN_STATUS]
  omega

section
variable {e c : Nat} (hc : c < 64)

include hc in
/-- The registers of a channel lie beside those of the functions in every block of 64 KiB. -/
theorem not_quietAddr_channel {a : Nat} (h : 0x48001000 + 0x10000 * e + 0x100 * c ≤ a)
    (h' : a < 0x48001000 + 0x10000 * e + 0x100 * c + 0x100) : ¬ quietAddr a := by
  unfold quietAddr
  omega

include hc in
theorem not_quietAddr_HOP_CH_STATUS : ¬ quietAddr (R.HOP_CH_STATUS e c).addr :=
  not_quietAddr_channel (e := e) hc (by simp only [R.HOP_CH_STATUS]; omega) (by simp only [R.HOP_CH_STATUS]; omega)

include hc in
theorem not_quietAddr_HOP_CH_PTR : ¬ quietAddr (R.HOP_CH_PTR e c).addr :=
  not_quietAddr_channel (e := e) hc (by simp only [R.HOP_CH_PTR]; omega) (by simp only [R.HOP_CH_PTR]; omega)

include hc in
theorem not_quietAddr_HOP_CH_ERR_ADDR : ¬ quietAddr (R.HOP_CH_ERR_ADDR e c).addr :=
  not_quietAddr_channel (e := e) hc (by simp only [R.HOP_CH_ERR_ADDR]; omega) (by simp only [R.HOP_CH_ERR_ADDR]; omega)

include hc in
theorem not_quietAddr_HOP_CH_LAST {k : Nat} (hk : k < 4) : ¬ quietAddr (R.HOP_CH_LAST e c k).addr :=
  not_quietAddr_channel (e := e) hc (by simp only [R.HOP_CH_LAST]; omega) (by simp only [R.HOP_CH_LAST]; omega)

/-- So do the registers of an engine. -/
theorem not_quietAddr_engine {a : Nat} (h : 0x48000000 + 0x10000 * e ≤ a) (h' : a < 0x48000000 + 0x10000 * e + 0x1000) :
    ¬ quietAddr a := by
  unfold quietAddr
  omega

theorem not_quietAddr_HOP_ENG_STATUS : ¬ quietAddr (R.HOP_ENG_STATUS e).addr :=
  not_quietAddr_engine (e := e) (by simp only [R.HOP_ENG_STATUS]; omega) (by simp only [R.HOP_ENG_STATUS]; omega)

theorem not_quietAddr_HOP_ENG_IRQ : ¬ quietAddr (R.HOP_ENG_IRQ e).addr :=
  not_quietAddr_engine (e := e) (by simp only [R.HOP_ENG_IRQ]; omega) (by simp only [R.HOP_ENG_IRQ]; omega)

theorem not_quietAddr_HOP_ENG_CNT : ¬ quietAddr (R.HOP_ENG_CNT e).addr :=
  not_quietAddr_engine (e := e) (by simp only [R.HOP_ENG_CNT]; omega) (by simp only [R.HOP_ENG_CNT]; omega)

theorem not_quietAddr_HOP_ENG_BYTES : ¬ quietAddr (R.HOP_ENG_BYTES e).addr :=
  not_quietAddr_engine (e := e) (by simp only [R.HOP_ENG_BYTES]; omega) (by simp only [R.HOP_ENG_BYTES]; omega)

end

theorem queueChan_lt {n q e c : Nat} (h : queueChan s n q = some (e, c)) : c < 64 := by
  unfold queueChan at h
  split at h
  · cases h
  · cases h
    exact Nat.mod_lt _ (by decide)

theorem fnChans_lt {n : Nat} {y : Nat × Nat × Nat} (h : y ∈ fnChans s n) : y.2.2 < 64 := by
  obtain ⟨p, _, rfl⟩ := List.mem_map.1 h
  exact Nat.mod_lt _ (by decide)

namespace Quiet

section
variable (h : Quiet s t) {n : Nat}
include h

theorem fnWrite {addr : Nat} {d : Bytes} : Quiet s (fnWrite t n addr d) := by
  unfold Machine.fnWrite
  split
  · exact h
  · exact h.present

theorem msixSend {k : Nat} : Quiet s (msixSend t n k) :=
  .ite h (.ite (h.modFx (by simp)) h.fnWrite)

theorem msixFlush : Quiet s (msixFlush t n) :=
  h.foldl fun _ _ _ h => .ite h (h.modFx (by simp)).msixSend

theorem syncFn : Quiet s (syncFn n t) := by
  have hst := not_quietAddr_HEP_FN_STATUS n
  have h1 : ∀ {a b c d e}, Quiet s (((((t.put (F.HEP_FN_STATUS_STATE n) a).putB (F.HEP_FN_STATUS_BME n) b).put
      (F.HEP_FN_STATUS_HELD n) c).put (F.HEP_FN_STATUS_OCC n) d).putB (F.HEP_FN_STATUS_FULL n) e) :=
    ((((h.putOf hst).putOf hst).putOf hst).putOf hst).putOf hst
  exact .ite h1.msixSend h1

theorem passOne {q : Nat} : Quiet s (passOne t n q) := by
  unfold Machine.passOne
  split
  · exact h
  · next hq => exact (h.modFx (by simp)).putOf (not_quietAddr_HOP_CH_PTR (queueChan_lt hq))

theorem passHeld {fuel : Nat} : Quiet s (passHeld n fuel t) := by
  induction fuel generalizing t with
  | zero => exact h
  | succ fuel ih =>
    unfold Machine.passHeld
    refine .ite h ?_
    split
    · exact h
    · exact ih (h.modFx (by simp)).passOne

theorem fnPass : Quiet s (fnPass t n) := h.passHeld.syncFn

theorem fnCompleted {q : Nat} : Quiet s (fnCompleted t n q) := (h.modFx (by simp)).fnPass

end

/-! ### Accesses of the Hopper's channels (R258 to R262) -/

section
variable (h : Quiet s t) {e c : Nat}
include h

theorem modHc {f : HopCh → HopCh} : Quiet s (t.modHc e c f) := h.frame (by rfl)

omit h in
theorem readSpd {sp addr base : Nat} {x : State × List Piece} {r : Nat × Nat} (h : Quiet s x.1) :
    Quiet s (readSpd e c sp addr base x r).1 := h.frame (by rfl)

omit h in
theorem readPool {sp addr base : Nat} {x : State × List Piece} {r : Nat × Nat} (h : Quiet s x.1) :
    Quiet s (readPool e c sp addr base x r).1 := h.frame (by rfl)

omit h in
theorem readHost {n v : Nat} {x : State × List Piece} {r : Nat × Nat} (h : Quiet s x.1) :
    Quiet s (readHost e c n v x r).1 := by
  unfold Machine.readHost
  split
  · exact h
  · exact (h.modFx (by simp)).present

theorem hopRead {sp addr n dir : Nat} : (hopRead t e c sp addr n dir).Quiet s := by
  unfold Machine.hopRead
  extract_lets
  split
  · exact h
  · exact .ite h.mpuPass (foldl_fst h.mpuPass fun _ _ h => readSpd h)
  · refine .ite h.mpuPass (.ite (h.mpuPass.inc (by decide)) ?_)
    exact foldl_fst h.mpuPass fun _ _ h => readPool h
  · split
    · exact h
    · split
      · exact h
      · exact .ite trivial (foldl_fst h fun _ _ h => readHost h)

omit h in
theorem writeSpd {base : Nat} {d : Bytes} {x : State × List Nat} {r : Nat × Nat} (h : Quiet s x.1) :
    Quiet s (writeSpd e c base d x r).1 := h.frame (by rfl)

omit h in
theorem writePool {base : Nat} {d : Bytes} {x : State × List Nat} {r : Nat × Nat} (h : Quiet s x.1) :
    Quiet s (writePool e c base d x r).1 := h.frame (by rfl)

theorem hopWrite {sp addr : Nat} {d : Bytes} : (hopWrite t e c sp addr d).Quiet s := by
  unfold Machine.hopWrite
  extract_lets
  split
  · exact h
  · exact .ite h.mpuPass (foldl_fst h.mpuPass fun _ _ h => writeSpd h)
  · refine .ite h.mpuPass (.ite h.mpuPass.decodeMiss ?_)
    exact foldl_fst h.mpuPass fun _ _ h => writePool h
  · split
    · exact h
    · exact h.foldl fun _ _ _ h => h.fnWrite

theorem writeAll {ws : List Nat} {l : List (Nat × Nat × Bytes)} : (writeAll e c t ws l).Quiet s := by
  induction l generalizing t ws with
  | nil => exact h
  | cons r rs ih =>
    unfold Machine.writeAll
    split
    · trivial
    · next heq => exact h.hopWrite.of_fail heq
    · next heq => exact ih (h.hopWrite.of_ok heq)

/-! ### Records, halts and descriptors (R262 to R276) -/

theorem writeRec {slot : Nat} {b : Bytes} {quiet : Bool} : Quiet s (writeRec t e c slot b quiet).1 := by
  unfold Machine.writeRec
  refine .ite_fst h (.ite_fst h ?_)
  split
  · exact .ite_fst h.mpuPass (.ite_fst h.mpuPass.bankRefused h.mpuPass.spdPut)
  · split
    · next heq => exact h.hopWrite.of_ok heq
    · next heq => exact h.hopWrite.of_fail heq
    · exact h

variable (hc : c < 64)
include hc

theorem setCh {st : Nat} : Quiet s (setCh t e c st) :=
  ((h.putOf not_quietAddr_HOP_ENG_STATUS).putOf not_quietAddr_HOP_ENG_STATUS).putOf (not_quietAddr_HOP_CH_STATUS hc)

theorem putLast {b : Bytes} : Quiet s (putLast t e c b) :=
  h.foldl fun _ k hk h => h.wr (not_quietAddr_HOP_CH_LAST hc (by revert k; decide))

theorem advanceHead : Quiet s (advanceHead t e c) := by
  have hp := not_quietAddr_HOP_CH_PTR (e := e) hc
  exact .ite (h.putOf hp) (.ite (h.putOf hp).modHc (h.putOf hp))

omit hc in
theorem slotDone : Quiet s (slotDone t e c) := by
  unfold Machine.slotDone
  split
  · exact h.fnCompleted
  · exact h

omit hc in
theorem chIrq : Quiet s (chIrq t e c) := by
  unfold Machine.chIrq
  split
  · exact h.msixSend
  · exact h.putOf not_quietAddr_HOP_ENG_IRQ

theorem endSlot {d : HopDesc} {code detail residue : Nat} {irq quiet : Bool} :
    Quiet s (endSlot t e c d code detail residue irq quiet).1 := by
  have h1 : ∀ {p : Prop} [Decidable p] {slot b}, Quiet s (if p then (t, none) else Machine.writeRec t e c slot b quiet).1 :=
    .ite_fst h h.writeRec
  exact .ite (h1.putLast hc) (((h1.putLast hc).advanceHead hc).slotDone)

theorem hopHalt {d : HopDesc} {err : HopErr} {rest : List HopDesc} {residue : Nat} :
    Quiet s (hopHalt t e c d err rest residue) := by
  have hs := not_quietAddr_HOP_CH_STATUS (e := e) hc
  have h1 : ∀ {x y}, Quiet s (((Machine.endSlot t e c d err.code err.detail residue true false).1.put
      (F.HOP_CH_STATUS_CODE e c) x).put (F.HOP_CH_STATUS_DETAIL e c) y) := ((h.endSlot hc).putOf hs).putOf hs
  refine chIrq (modHc (incOf (setCh (.ite ?_ h1) hc) not_quietAddr_HOP_ENG_CNT))
  exact ((h1.putOf hs).putOf hs).wr (not_quietAddr_HOP_CH_ERR_ADDR hc)

theorem hopGo {fuel : Nat} : Quiet s (hopGo e c fuel t) := by
  induction fuel generalizing t with
  | zero => exact h
  | succ fuel ih =>
    unfold Machine.hopGo
    split
    · exact h
    · extract_lets put
      split
      · refine .ite h (.ite h.modHc ?_)
        split
        · exact h
        · exact .ite h (ih h.modHc)
      · split
        · exact h.hopHalt hc
        · refine .ite h ?_
          split
          · exact ih h.modHc
          · split
            · exact h.modHc
            · exact h.hopHalt hc
          · refine .ite (.ite (ih (h.incOf not_quietAddr_HOP_ENG_BYTES).modHc) h) ?_
            split
            · exact h.modHc
            · split
              · exact h
              · next heq => exact (h.writeAll.of_fail heq).hopHalt hc
              · next heq => exact ih (h.writeAll.of_ok heq).modHc

theorem hopStep : Quiet s (hopStep t e c) := .ite h (h.hopGo hc)

theorem fetchFailed {d : HopDesc} {err : HopErr} : Quiet s (fetchFailed t e c d err) :=
  hopStep (.ite h.modHc (h.modHc.setCh hc)) hc

theorem fetchAt {d : HopDesc} {sp a : Nat} {again : Bool} : Quiet s (fetchAt t e c d sp a again) := by
  unfold Machine.fetchAt
  split
  · exact h
  · next heq => exact (h.hopRead.of_fail heq).fetchFailed hc
  · next heq => exact (h.hopRead.of_ok heq).modHc

theorem restCh : Quiet s (restCh t e c) := .ite (h.setCh hc) h

theorem pauseBit {i : Nat} {on : Bool} : Quiet s (pauseBit t e c i on) := by
  have hs := not_quietAddr_HOP_CH_STATUS (e := e) hc
  unfold Machine.pauseBit
  extract_lets f t1
  have h1 : Quiet s t1 := .ite (h.putOf hs) (h.putOf hs)
  refine .ite (.ite (h1.setCh hc) h1) (.ite ?_ h1)
  split
  · split
    · exact (h1.modHc.setCh hc).fetchAt hc
    · exact h1
  · exact (h1.setCh hc).restCh hc

theorem cutChan : Quiet s (cutChan t e c) := by
  have hs := not_quietAddr_HOP_CH_STATUS (e := e) hc
  have h1 : ∀ {f}, Quiet s ((t.clrBit (F.HOP_CH_STATUS_PAUSED_BY e c) 2).modHc e c f) := modHc (h.putOf hs)
  unfold Machine.cutChan
  extract_lets
  split
  · exact h1
  · exact (((((h1.endSlot hc).putOf hs).putOf hs).setCh hc).incOf not_quietAddr_HOP_ENG_CNT).modHc

end

end Quiet

/-! ### Shutdown (R243) -/

theorem Quiet.migEnd (h : Quiet s t) {r : Nat} : Quiet s (migEnd t r) := ((h.put (by decide)).put (by decide)).put (by decide)

/-- A shutdown that starts: the function is marked, and what follows is quiet. -/
theorem shutStart_of_none {cause : ShutCause} {n : Nat} (h : (s.fx n).shut = none) :
    ∃ u f, Quiet s u ∧ (∀ x, (f x).shut = some cause) ∧ Quiet (u.modFx n f) (shutStart cause s n) := by
  unfold shutStart
  rw [h]
  dsimp only
  have hu : Quiet s (if s.bit F.HEP_MIG_CMD_BUSY && s.get F.HEP_MIG_CMD_FN == n then migEnd s 5 else s) :=
    .ite (Quiet.refl s).migEnd (.refl s)
  refine ⟨_, _, hu, ?_, Quiet.syncFn (.foldl ((Quiet.refl _).frame (by rfl)) fun _ _ hy h => h.cutChan (fnChans_lt hy))⟩
  exact fun _ => rfl

theorem calm_shutStart (cause : ShutCause) (s : State) (n : Nat) : Calm s (shutStart cause s n) := by
  cases h : (s.fx n).shut with
  | none =>
    obtain ⟨u, f, hu, _, ht⟩ := shutStart_of_none (cause := cause) h
    have hmod : Calm u (u.modFx n f) := (Calm.refl u).frame rfl rfl rfl rfl
    exact (hu.toCalm.trans hmod).trans ht.toCalm
  | some old =>
    unfold shutStart
    rw [h]
    exact (Calm.refl s).frame rfl rfl rfl rfl

theorem shut_shutStart (cause : ShutCause) (s : State) (n m : Nat) :
    ((shutStart cause s n).fx m).shut.isSome = (m == n || (s.fx m).shut.isSome) := by
  cases h : (s.fx n).shut with
  | none =>
    obtain ⟨u, f, hu, hf, ht⟩ := shutStart_of_none (cause := cause) h
    rw [(ht.fns m).1]
    by_cases hm : m = n
    · subst hm
      simp [hf]
    · simp [modFx_fx_ne _ _ hm, hm, (hu.fns m).1]
  | some old =>
    unfold shutStart
    rw [h]
    by_cases hm : m = n
    · subst hm
      simp
    · simp [modFx_fx_ne _ _ hm, hm]

/-- Shutdowns of several functions: those of the list, and those that were there. -/
theorem calm_shutStarts (cause : ShutCause) (l : List Nat) (s : State) : Calm s (l.foldl (shutStart cause) s) := by
  induction l generalizing s with
  | nil => exact .refl s
  | cons n l ih => exact (calm_shutStart cause s n).trans (ih _)

theorem shut_shutStarts (cause : ShutCause) (l : List Nat) (s : State) (m : Nat) :
    ((l.foldl (shutStart cause) s).fx m).shut.isSome = (l.contains m || (s.fx m).shut.isSome) := by
  induction l generalizing s with
  | nil => rfl
  | cons n l ih => rw [List.foldl_cons, ih, shut_shutStart, List.contains_cons, Bool.or_left_comm, Bool.or_assoc]

end Sys2Proof.Machine
end

section
/-! A PCIe/CXL link goes down (R75, R130, R162): what it changes outside its own port, for O32 and O57. -/

namespace Sys2Proof.Machine

variable {s t u : State} {p : Nat}

/-- Registers that a link that goes down sets: its status, the end of a restore of its path, an event lost. -/
def fellRegs (p : Nat) : List Nat := [(R.PORT_LINK_STATUS p).addr, R.RTE_PATH_CMD.addr, R.MGT_DONE.addr, R.BRK_LOSS.addr]

/-- From s to t the link of port p alone goes down: the other ports, containment of the vPPBs, functions and memories stay. -/
structure LinkFell (p : Nat) (s t : State) : Prop where
  px : ∀ q, q ≠ p → t.px q = s.px q
  contained : ∀ v k, (t.vx v k).contained = (s.vx v k).contained
  dpcReason : ∀ v k, (t.vx v k).dpcReason = (s.vx v k).dpcReason
  hep : t.hep = s.hep
  spd : t.spd = s.spd
  fuse : t.fuse = s.fuse
  srcs : srcs s <+: srcs t
  regs : regsKept s t (fellRegs p)

/-- What `LinkFell` speaks of. -/
def State.beside (s : State) := (s.regs, s.ports, s.rte.vppb, s.hep, s.spd, s.fuse, s.brk.queue)

theorem State.vx_congr (h : t.rte.vppb = s.rte.vppb) (v k : Nat) : t.vx v k = s.vx v k := by
  simp only [State.vx, h]

/-- What a change of one vPPB leaves alone reads as before at every vPPB. -/
theorem modVx_vx_of {α : Type} (π : VppbX → α) {f : VppbX → VppbX} (hf : ∀ x, π (f x) = π x) (s : State) (a b v k : Nat) :
    π ((s.modVx a b f).vx v k) = π (s.vx v k) := by
  by_cases h : 256 * v + k = 256 * a + b
  · have hs : (s.modVx a b f).vx v k = f (s.vx v k) := by
      simp only [State.vx, State.modVx, h, tget_tmod_self]
    rw [hs, hf]
  · rw [show (s.modVx a b f).vx v k = s.vx v k from tget_tput_ne _ _ _ h]

namespace LinkFell

theorem refl (p : Nat) (s : State) : LinkFell p s s :=
  ⟨fun _ _ => rfl, fun _ _ => rfl, fun _ _ => rfl, rfl, rfl, rfl, List.prefix_rfl, fun _ _ => rfl⟩

theorem trans (h : LinkFell p s t) (h' : LinkFell p t u) : LinkFell p s u where
  px q hq := (h'.px q hq).trans (h.px q hq)
  contained v k := (h'.contained v k).trans (h.contained v k)
  dpcReason v k := (h'.dpcReason v k).trans (h.dpcReason v k)
  hep := h'.hep.trans h.hep
  spd := h'.spd.trans h.spd
  fuse := h'.fuse.trans h.fuse
  srcs := h.srcs.trans h'.srcs
  regs q hq := (h'.regs q hq).trans (h.regs q hq)

theorem ite {c : Prop} [Decidable c] (ht : LinkFell p s t) (hu : LinkFell p s u) : LinkFell p s (if c then t else u) := by
  split
  · exact ht
  · exact hu

/-- Nothing that the relation speaks of has changed. -/
theorem same (h : LinkFell p s t) (e : u.beside = t.beside) : LinkFell p s u := by
  obtain ⟨hr, hp, hv, hh, hs, hf, hb⟩ : _ ∧ _ ∧ _ ∧ _ ∧ _ ∧ _ ∧ _ := by simpa [State.beside] using e
  exact h.trans ⟨fun q _ => by simp only [State.px, hp], fun v k => by rw [State.vx_congr hv],
    fun v k => by rw [State.vx_congr hv], hh, hs, hf, by simp only [Machine.srcs, hb, List.prefix_rfl],
    fun _ _ => State.rd_congr hr _⟩

section
variable (h : LinkFell p s t)
include h

theorem put {f : Fld} {n : Nat} (hf : f.reg.addr ∈ fellRegs p) : LinkFell p s (t.put f n) :=
  h.trans ⟨fun _ _ => rfl, fun _ _ => rfl, fun _ _ => rfl, rfl, rfl, rfl, List.prefix_rfl,
    fun _ hq => State.rd_wr_ne _ _ _ _ fun e => hq (e ▸ hf)⟩

/-- The status of the link itself. -/
theorem putStatus {hi lo n : Nat} : LinkFell p s (t.put ⟨R.PORT_LINK_STATUS p, hi, lo⟩ n) := h.put List.mem_cons_self

theorem modPx {f : PortX → PortX} : LinkFell p s (t.modPx p f) :=
  h.trans ⟨fun _ hq => modPx_px_ne _ _ hq, fun _ _ => rfl, fun _ _ => rfl, rfl, rfl, rfl, List.prefix_rfl, fun _ _ => rfl⟩

theorem raise {n : Nat} {d : Detail} : LinkFell p s (t.raise n d) :=
  have hvx : ∀ v k, (t.raise n d).vx v k = t.vx v k := State.vx_congr (congrArg RteSt.vppb (raise_rte _ n d))
  h.trans ⟨fun _ _ => raise_px .., fun v k => congrArg _ (hvx v k), fun v k => congrArg _ (hvx v k), raise_hep ..,
    raise_spd .., raise_fuse .., ⟨[n], (raise_srcs ..).symm⟩, fun q hq => raise_rd _ _ _ q fun e => hq (by simp [fellRegs, e])⟩

theorem vppbLinks (up : Bool) (l : List (Nat × Nat)) : LinkFell p s (l.foldl (vppbLink up) t) := by
  induction l generalizing t with
  | nil => exact h
  | cons x l ih =>
    have hkeep : ∀ {α : Type} (π : VppbX → α), (∀ x b c, π { x with linkUp := b, linkChanged := c } = π x) →
        ∀ v k, π ((vppbLink up t x).vx v k) = π (t.vx v k) := fun π hπ =>
      modVx_vx_of π (fun y => by
        split
        · rfl
        · exact hπ ..) t x.1 x.2
    exact ih (h.trans ⟨fun _ _ => rfl, hkeep _ fun _ _ _ => rfl, hkeep _ fun _ _ _ => rfl, rfl, rfl, rfl,
      List.prefix_rfl, fun _ _ => rfl⟩)

theorem restoreLost (q : Nat) : LinkFell p s (restoreLost t q) := by
  unfold Machine.restoreLost
  split
  · refine .ite ?_ h
    extract_lets r
    have hr : LinkFell p s r := h.same (by rfl)
    have hpath : R.RTE_PATH_CMD.addr ∈ fellRegs p := by simp [fellRegs]
    have hdone : R.MGT_DONE.addr ∈ fellRegs p := by simp [fellRegs]
    exact .ite (((hr.put hpath).put hpath).put hdone) hr
  · exact h

theorem reportDown : LinkFell p s (reportDown t p) := by
  unfold Machine.reportDown
  extract_lets t1 t2 t3
  have h1 : LinkFell p s t1 := (modPx h (f := fun x => { x with up := false })).same (by rfl)
  have h3 : LinkFell p s t3 := (h1.vppbLinks ..).restoreLost p
  clear_value t3
  exact .ite (h3.same (by rfl)) h3

theorem pcieDown (st : Nat) (w : PortWait) : LinkFell p s (pcieDown t p st w) := by
  have h1 : LinkFell p s (linkShownDown t p st) :=
    h.putStatus.putStatus.putStatus.putStatus.putStatus.putStatus.putStatus.putStatus
  rw [pcieDown_eq]
  exact .ite (h1.modPx.reportDown.raise) h1.modPx

end

end LinkFell

end Sys2Proof.Machine
end

section
/-! vPPBs are contained, disabled and reset (R161, R238 to R242): O32. -/

namespace Sys2Proof.Machine

variable {s t : State} {v k p : Nat}

/-! ### Containment (R238, R240) -/

theorem wholePort_role (h : wholePort s v k = some p) : role s p = 2 := by
  unfold wholePort at h
  split at h
  · cases h
  · split at h
    · next hn =>
      obtain ⟨_, _, hr⟩ := hn
      cases h
      exact hr
    · cases h

/-- The vPPB shows that it is contained, and why. -/
def containMark (s : State) (v k reason : Nat) : State :=
  (s.modVx v k fun x =>
    { x with contained := true, dpcReason := reason, dpcSource := Config.freeNat s.fresh % 65536 }).bump

/-- Containment takes the link of a whole-device binding down with it. -/
theorem contain_of_wholePort (hc : (s.vx v k).contained = false) (hf : isFnVppb s v k = false) (reason : Nat)
    (hp : wholePort s v k = some p) :
    contain s v k reason = (pcieDown (containMark s v k reason) p 6 .none).modPx p fun x => { x with dpc := some (v, k) } := by
  have hrole : isPcie (containMark s v k reason) p = true := by
    have hr : role (containMark s v k reason) p = 2 :=
      (State.get_congr (s := containMark s v k reason) (t := s) rfl _).trans (wholePort_role hp)
    simp [isPcie, hr]
  unfold contain
  rw [hc, hf, if_neg (by simp)]
  extract_lets u
  have hu : u = containMark s v k reason := rfl
  rw [hu, (wholePort_regs (t := containMark s v k reason) (s := s) rfl v k).trans hp]
  dsimp only
  rw [linkDown_of_isPcie hrole]

theorem contain_of_no_wholePort (hc : (s.vx v k).contained = false) (hf : isFnVppb s v k = false) (reason : Nat)
    (hp : wholePort s v k = none) : contain s v k reason = containMark s v k reason := by
  unfold contain
  rw [hc, hf, if_neg (by simp)]
  extract_lets u
  have hu : u = containMark s v k reason := rfl
  rw [hu, (wholePort_regs (t := containMark s v k reason) (s := s) rfl v k).trans hp]

theorem containMark_vx (s : State) (v k reason : Nat) :
    ((containMark s v k reason).vx v k).contained = true ∧ ((containMark s v k reason).vx v k).dpcReason = reason := by
  have h : (containMark s v k reason).vx v k = _ := modVx_vx s v k _
  rw [h]
  exact ⟨rfl, rfl⟩

/-- A contained vPPB shows the reason, and the link of its whole-device binding is off. -/
theorem contain_spec (hc : (s.vx v k).contained = false) (hf : isFnVppb s v k = false) (reason : Nat) :
    ((contain s v k reason).vx v k).contained = true ∧ ((contain s v k reason).vx v k).dpcReason = reason
    ∧ (∀ p, wholePort s v k = some p →
      ((contain s v k reason).px p).dpc = some (v, k) ∧ linkOff (contain s v k reason) p = true)
    ∧ (contain s v k reason).spd = s.spd ∧ (contain s v k reason).fuse = s.fuse := by
  obtain ⟨hcont, hreason⟩ := containMark_vx s v k reason
  cases hp : wholePort s v k with
  | none =>
    rw [contain_of_no_wholePort hc hf reason hp]
    exact ⟨hcont, hreason, nofun, rfl, rfl⟩
  | some p =>
    rw [contain_of_wholePort hc hf reason hp]
    have hfell := (LinkFell.refl p (containMark s v k reason)).pcieDown 6 .none
    refine ⟨(hfell.contained v k).trans hcont, (hfell.dpcReason v k).trans hreason, ?_, hfell.spd, hfell.fuse⟩
    rintro q hq
    cases hq
    simp [linkOff]

/-- A port whose containment is lifted; the others keep theirs. -/
theorem dpcLift_dpc (v k : Nat) (s : State) (x : Nat × PortX) (q : Nat) :
    ((dpcLift v k s x).px q).dpc = if x.1 = q ∧ x.2.dpc = some (v, k) then none else (s.px q).dpc := by
  unfold dpcLift
  by_cases hx : x.2.dpc = some (v, k)
  · rw [if_neg (not_not.2 hx)]
    extract_lets u
    have hu : ((if ltssm u x.1 = 6 ∧ !linkOff u x.1 ∧ (u.px x.1).wait = .none then u.put (F.PORT_LINK_STATUS_LTSSM x.1) 0
        else u).px q).dpc = (u.px q).dpc := by
      split
      · rfl
      · rfl
    rw [hu]
    by_cases hq : x.1 = q
    · subst hq
      simp [u, hx]
    · simp [u, hq, modPx_px_ne _ _ (Ne.symm hq)]
  · simp [hx]

theorem dpcLift_kept (v k : Nat) (s : State) (x : Nat × PortX) :
    (dpcLift v k s x).rte = s.rte ∧ (dpcLift v k s x).mill = s.mill := by
  unfold dpcLift
  split
  · exact ⟨rfl, rfl⟩
  · extract_lets u
    split
    · exact ⟨rfl, rfl⟩
    · exact ⟨rfl, rfl⟩

/-- Containment that is lifted does not come back, and none other ends. -/
theorem dpcLifts_dpc (v k : Nat) (l : List (Nat × PortX)) (s : State) (q : Nat) :
    ((l.foldl (dpcLift v k) s).px q).dpc = none ∨
      (((l.foldl (dpcLift v k) s).px q).dpc = (s.px q).dpc ∧ ∀ x ∈ l, x.1 = q → x.2.dpc ≠ some (v, k)) := by
  induction l generalizing s with
  | nil => exact .inr ⟨rfl, nofun⟩
  | cons x l ih =>
    rw [List.foldl_cons]
    obtain h | ⟨h, hl⟩ := ih (dpcLift v k s x)
    · exact .inl h
    · rw [dpcLift_dpc] at h
      by_cases hx : x.1 = q ∧ x.2.dpc = some (v, k)
      · rw [if_pos hx] at h
        exact .inl h
      · rw [if_neg hx] at h
        exact .inr ⟨h, List.forall_mem_cons.2 ⟨fun h1 h2 => hx ⟨h1, h2⟩, hl⟩⟩

/-- What a table gives that is not its default stands in its list. -/
theorem mem_of_tget_ne {α : Type} {d a : α} {l : Tab α} {i : Nat} (h : tget d l i = a) (hd : a ≠ d) : (i, a) ∈ l := by
  induction l with
  | nil => exact absurd h.symm hd
  | cons e l ih =>
    obtain ⟨j, b⟩ := e
    unfold tget at h
    split at h
    · next hj => exact List.mem_cons.2 (.inl (by rw [← h, hj]))
    · exact List.mem_cons_of_mem _ (ih h)

/-- No port is contained for a vPPB that is released. -/
theorem dpcLifts_ports (v k : Nat) (s : State) (q : Nat) :
    ((s.ports.foldl (dpcLift v k) s).px q).dpc ≠ some (v, k) := by
  obtain h | ⟨h, hl⟩ := dpcLifts_dpc v k s.ports s q
  · rw [h]
    nofun
  · rw [h]
    intro hq
    have hd : s.px q ≠ {} := fun e => by
      rw [e] at hq
      cases hq
    exact hl _ (mem_of_tget_ne rfl hd) rfl hq

theorem dpcClear_spec (hc : (s.vx v k).contained = true) (hok : dpcClearOk s v k = true) :
    ((dpcClear s v k).vx v k).contained = false ∧ (∀ q, ((dpcClear s v k).px q).dpc ≠ some (v, k))
    ∧ (dpcClear s v k).mill = s.mill := by
  unfold dpcClear
  rw [hc, hok, if_neg (by decide)]
  have hrte := foldl_keep State.rte (dpcLift v k) (fun t x => (dpcLift_kept v k t x).1) s.ports
    (s.modVx v k fun x => { x with contained := false })
  have hmill := foldl_keep State.mill (dpcLift v k) (fun t x => (dpcLift_kept v k t x).2) s.ports
    (s.modVx v k fun x => { x with contained := false })
  refine ⟨?_, dpcLifts_ports v k (s.modVx v k fun x => { x with contained := false }), hmill⟩
  rw [State.vx_congr (congrArg RteSt.vppb hrte), modVx_vx]

/-! ### Link Disable and Secondary Bus Reset (R161, R242) -/

theorem linkDisable_unbindGo (s : State) (n v k : Nat) : ((unbindGo s n).vx v k).linkDisable = (s.vx v k).linkDisable := by
  unfold unbindGo
  split
  · unfold unbindCut
    extract_lets a b s1 s2
    have h2 : (s2.vx v k).linkDisable = (s.vx v k).linkDisable :=
      modVx_vx_of VppbX.linkDisable (by exact fun _ => rfl) s1 a b v k
    split
    · exact h2
    · exact h2
  · rfl

theorem linkDisable_vppbDisable (s : State) (v k : Nat) : ((vppbDisable s v k).vx v k).linkDisable = true := by
  unfold vppbDisable
  extract_lets u
  have hu : (u.vx v k).linkDisable = true := by simp [u]
  split
  · rw [busShut, State.vx_congr (calm_shutStarts ..).vppb, hu]
  · split
    · rw [linkDisable_unbindGo, hu]
    · exact hu

/-- Every function below the function vPPB is shut down. -/
theorem shut_busShut {n : Nat} (hn : n < 1024) (hin : fnIn s n v = true) : ((busShut s v).fx n).shut.isSome = true := by
  have hmem : (fnsWhere fun n => fnIn s n v).contains n = true := by simp [fnsWhere, hn, hin]
  rw [busShut, shut_shutStarts, hmem, Bool.true_or]

theorem shut_vppbDisable {n : Nat} (hf : isFnVppb s v k = true) (hn : n < 1024) (hin : fnIn s n v = true) :
    ((vppbDisable s v k).fx n).shut.isSome = true := by
  unfold vppbDisable
  extract_lets u
  have hu : isFnVppb u v k = true := hf
  rw [if_pos hu]
  exact shut_busShut (s := u) hn hin

/-- Settles O32: containment takes down the link of a whole-device binding and leaves memories alone, its release lifts it
from every port, and Link Disable or Secondary Bus Reset of the function vPPB shuts down each function below it. -/
theorem containment : Obligations.Containment := by
  unfold Obligations.Containment
  intro v k s
  refine ⟨fun sw hc hf hdue => ?_, fun hc hok => ?_, ?_, fun link hen => ?_⟩
  · have hexec : execDpcTrigger v k sw s = .next (contain s v k (if sw then 3 else 0)) := by
      cases sw with
      | true => simp [execDpcTrigger, show (s.vx v k).dpcEnable ≠ 0 from hdue]
      | false => simp [execDpcTrigger, show dpcDue (s.vx v k) = true from hdue]
    exact ⟨_, hexec, contain_spec hc hf _⟩
  · obtain ⟨hcont, hdpc, hmill⟩ := dpcClear_spec hc hok
    exact ⟨_, rfl, hcont, fun p => hdpc p, hmill⟩
  · exact ⟨_, rfl, linkDisable_vppbDisable s v k⟩
  · have hexec : execSecondaryBusReset v link s = .next (if link then vppbDisable s v (s.get (F.HEP_VCS_FVPPB v))
        else busShut (s.modVx v (s.get (F.HEP_VCS_FVPPB v)) fun x => { x with busReset := true }) v) := by
      simp [execSecondaryBusReset, hen]
    refine ⟨_, hexec, fun n hn hin => ?_⟩
    cases link with
    | true =>
      rw [if_pos rfl]
      exact shut_vppbDisable (by simp [isFnVppb, hen]) hn hin
    | false =>
      rw [if_neg Bool.false_ne_true]
      exact shut_busShut (s := s.modVx v (s.get (F.HEP_VCS_FVPPB v)) fun x => { x with busReset := true }) hn hin

end Sys2Proof.Machine
end

section
/-! What the directory's work on the lines of a host that is removed leaves as it is (R183 to R194): the links of the ports,
CRP, the registers of the ports' links, and the events that wait. For O57. -/

namespace Sys2Proof.Machine

/-- From s to t ports, CRP and the registers of the ports' links stay as they are, and no waiting event is lost. -/
structure PortsStay (s t : State) : Prop where
  ports : t.ports = s.ports
  srcs : srcs s <+: srcs t
  rd : ∀ q : Reg, quietAddr q.addr → q.addr < 0x43000000 → t.rd q = s.rd q

theorem Calm.portsStay {s t : State} (h : Calm s t) : PortsStay s t := ⟨h.ports, h.srcs, fun q hq _ => h.rd q hq⟩

theorem Quiet.portsStay {s t : State} (h : Quiet s t) : PortsStay s t := h.toCalm.portsStay

namespace PortsStay

variable {s t u : State}

theorem refl (s : State) : PortsStay s s := ⟨rfl, List.prefix_rfl, fun _ _ _ => rfl⟩

theorem trans (h : PortsStay s t) (h' : PortsStay t u) : PortsStay s u :=
  ⟨h'.ports.trans h.ports, h.srcs.trans h'.srcs, fun q hq hl => (h'.rd q hq hl).trans (h.rd q hq hl)⟩

theorem frame (h : PortsStay s t) (e : (u.regs, u.ports, u.brk) = (t.regs, t.ports, t.brk)) : PortsStay s u := by
  obtain ⟨hr, hp, hb⟩ : _ ∧ _ ∧ _ := by simpa using e
  exact h.trans ⟨hp, by simp only [Machine.srcs, hb, List.prefix_rfl], fun _ _ _ => State.rd_congr hr _⟩

theorem ite {c : Prop} [Decidable c] (ht : PortsStay s t) (hu : PortsStay s u) : PortsStay s (if c then t else u) := by
  split
  · exact ht
  · exact hu

theorem ite_fst {α : Type} {c : Prop} [Decidable c] {x y : State × α} (hx : PortsStay s x.1) (hy : PortsStay s y.1) :
    PortsStay s (if c then x else y).1 := by
  split
  · exact hx
  · exact hy

theorem foldl {β : Type} {f : State → β → State} {l : List β} (h : PortsStay s t)
    (hf : ∀ t x, PortsStay s t → PortsStay s (f t x)) : PortsStay s (l.foldl f t) := by
  induction l generalizing t with
  | nil => exact h
  | cons x l ih => exact ih (hf t x h)

theorem foldl_fst {α β : Type} {f : State × α → β → State × α} {l : List β} {y : State × α}
    (h : PortsStay s y.1) (hf : ∀ y x, PortsStay s y.1 → PortsStay s (f y x).1) : PortsStay s (l.foldl f y).1 := by
  induction l generalizing y with
  | nil => exact h
  | cons x l ih => exact ih (hf y x h)

section
variable (h : PortsStay s t)
include h

theorem quiet (h' : Quiet t u) : PortsStay s u := h.trans h'.portsStay

/-- The registers of the switch, of the Headrace and of the directory lie above those of the ports. -/
theorem put {f : Fld} {n : Nat} (hf : 0x43000000 ≤ f.reg.addr) : PortsStay s (t.put f n) :=
  h.trans ⟨rfl, List.prefix_rfl, fun _ _ hl => State.rd_wr_ne _ _ _ _ (by omega)⟩

theorem inc {f : Fld} {n : Nat} (hf : 0x43000000 ≤ f.reg.addr) : PortsStay s (t.inc f n) := h.put hf

theorem raise {n : Nat} {d : Detail} : PortsStay s (t.raise n d) := h.quiet (Quiet.refl t).raise

theorem injWrite {target i a : Nat} : PortsStay s (injWrite t target i a) := h.quiet (Quiet.refl t).injWrite

theorem present {x : Present} : PortsStay s (present t x) := h.frame (by rfl)

/-! ### Cells and answers (R112, R126, R161) -/

theorem putOcc {c n : Nat} : PortsStay s (putOcc t c n) := by
  have hc : 0x43000000 ≤ (R.SWC_CLASS_OCC c).addr := by simp only [R.SWC_CLASS_OCC]; omega
  exact (h.put hc).put hc

theorem freeCell {b : Nat} : PortsStay s (freeCell t b) := by
  have h1 : PortsStay s (t.modMill fun m => { m with used := tmod 0 m.used b (· - 1) }) := h.frame (by rfl)
  exact .ite h1 (h1.put (by decide))

theorem freeCells {q : Pkt} : PortsStay s (freeCells t q) := (h.foldl fun _ _ h => h.freeCell).putOcc

theorem pushQueue {k : Nat} {x : QEnt} : PortsStay s (pushQueue t k x) := by
  obtain ⟨l, o, he⟩ := updCong_eq (putQueue t k (queue t k ++ [x])) k
  rw [Machine.pushQueue, he]
  exact h.frame (by rfl)

theorem answerHeld {q a : Pkt} : PortsStay s (answerHeld t q a) := by
  unfold Machine.answerHeld
  extract_lets t1 keep
  have h1 : PortsStay s t1 := h.freeCells
  split
  · exact .ite h1.present (.ite (h1.freeCells.inc (by decide)) h1.putOcc.putOcc.pushQueue)
  · exact h1.freeCells.present
  · exact h1.freeCells

theorem sentClose {q : Pkt} : PortsStay s (sentClose t q) := by
  unfold Machine.sentClose
  split
  · unfold sentDone
    extract_lets t1
    have h1 : PortsStay s t1 := h.frame (by rfl)
    split
    · exact h1.put (by simp only [F.RTE_BIND_OUT_OUTSTANDING, R.RTE_BIND_OUT]; omega)
    · exact h1
  · exact h

/-! ### Entries and transactions of the directory (R183 to R192) -/

theorem modCoh {f : CohSt → CohSt} : PortsStay s (t.modCoh f) := h.frame (by rfl)

theorem putDir {k : Nat} {e : DirEnt} : PortsStay s (putDir t k e) := by
  have hs : 0x43000000 ≤ (R.COH_SL_STATUS (k / 131072)).addr := by simp only [R.COH_SL_STATUS]; omega
  have hd : 0x43000000 ≤ (R.COH_SL_DOUBT (k / 131072)).addr := by simp only [R.COH_SL_DOUBT]; omega
  exact ((h.put hs).put hd).modCoh.injWrite

theorem retrack {p : Nat} : PortsStay s (retrack p t) := by
  have hp : 0x43000000 ≤ (R.COH_SL_TRACK p).addr := by simp only [R.COH_SL_TRACK]; omega
  exact ((h.put hp).put hp).put hp

theorem incSlice {f : Fld} {n p : Nat} (hf : f.reg = R.COH_SL_CNT1 p) : PortsStay s (t.inc f n) :=
  h.inc (by simp only [hf, R.COH_SL_CNT1]; omega)

theorem sendSnoop {p id host a : Nat} {op : Op} : PortsStay s (sendSnoop t p id host a op) := by
  unfold Machine.sendSnoop
  extract_lets q t1
  have h1 : PortsStay s t1 := h.incSlice rfl
  refine .ite h1.present ?_
  split
  · exact h1.present
  · exact h1

theorem memWrite {x : Txn} {data : Bytes} {be : BitVec 64} {poison : Bool} : PortsStay s (memWrite t x data be poison).1 := by
  unfold Machine.memWrite
  split
  · exact h.present
  · exact h

theorem memAtomic {x : Txn} : PortsStay s (memAtomic t x).1 := .ite_fst h.present h

theorem poisonTxn {x : Txn} {cause : Nat} : PortsStay s (poisonTxn t x cause).1 :=
  ((((h.memWrite.inc (by decide)).put (by decide)).put (by decide)).put (by decide)).raise

theorem snoopAll {x : Txn} {op : Op} {hs : List Nat} : PortsStay s (snoopAll t x op hs).1 := by
  unfold Machine.snoopAll
  refine foldl_fst h fun _ _ h => ?_
  split
  · exact h
  · exact .ite h h.sendSnoop

theorem newId : PortsStay s (newId t).1 := h.frame (by rfl)

theorem startOwn {k hla : Nat} {kind : TxnKind} {op : Op} {hs : List Nat} : PortsStay s (startOwn t k hla kind op hs).1 :=
  h.newId.snoopAll

theorem flushCheck : PortsStay s (flushCheck t) := by
  unfold Machine.flushCheck
  split
  · exact .ite (((h.put (by decide)).put (by decide)).modCoh.put (by decide)) h
  · exact h

theorem flushLine {hla : Nat} : PortsStay s (flushLine t hla) := flushCheck h.modCoh

theorem removeLine {host hla : Nat} {bad : Bool} : PortsStay s (removeLine t host hla bad) := h.modCoh

theorem settle {x : Txn} : PortsStay s (settle t x).1 := by
  unfold Machine.settle
  extract_lets bad y e t1 x1 q w
  have hy : PortsStay s y.1 := .ite_fst h.poisonTxn h
  have h1 : PortsStay s t1 := by
    dsimp only [t1]
    split
    · exact .ite (hy.putDir.incSlice rfl) hy.putDir
    · exact hy
  have hw : PortsStay s w.1 := .ite_fst h1.memAtomic (.ite_fst h1.memWrite h1)
  clear_value t1 w
  split
  · exact .ite_fst hw hw.sentClose.answerHeld
  · exact .ite h1.modCoh h1
  · exact .ite h1.removeLine h1
  · exact h1

theorem advanceOnce {x : Txn} : PortsStay s (advanceOnce t x).1 := by
  have h1 : PortsStay s (if x.phase = 0 ∧ x.await.isEmpty ∧ dataReady x then Machine.settle t x else (t, x)).1 :=
    .ite_fst h.settle h
  exact .ite_fst h1.sentClose.answerHeld (.ite_fst h1 h1)

theorem startNext {k hla : Nat} {kind : TxnKind} : PortsStay s (startNext t k hla kind).1 := by
  unfold Machine.startNext
  split
  · exact startOwn h.modCoh
  · exact h.startOwn

theorem dropOwn {p hla : Nat} : PortsStay s (dropOwn t p hla) :=
  .foldl (.ite h.flushLine h) fun _ _ h => .ite h.removeLine h

theorem lineFreed {p hla fuel : Nat} : PortsStay s (lineFreed p hla fuel t) := by
  induction fuel generalizing t with
  | zero => exact h
  | succ fuel ih =>
    unfold Machine.lineFreed
    refine .ite h ?_
    extract_lets t1
    split
    · exact h.dropOwn
    · extract_lets x y t2
      have hy : PortsStay s y.1 := h.dropOwn.startNext.advanceOnce
      have h2 : PortsStay s t2 := by
        dsimp only [t2]
        split
        · exact hy.removeLine
        · exact hy
      clear_value t2
      split
      · exact hy.modCoh
      · exact ih h2

theorem startRemoval {host : Nat} {cmd : Bool} : PortsStay s (startRemoval t host cmd) := by
  have hh : 0x43000000 ≤ (R.COH_HOST host).addr := by simp only [R.COH_HOST]; omega
  exact .ite h ((h.put hh).modCoh.foldl fun _ _ h => h.lineFreed.retrack)

theorem autoRemove {p : Nat} : PortsStay s (autoRemove t p) := by
  unfold Machine.autoRemove
  split
  · exact h.startRemoval
  · exact h

end

end PortsStay

end Sys2Proof.Machine
end

section
/-! Rails and clocks (R419, R420, R423): what the monitors show, and the holds that follow. For O57. -/

namespace Sys2Proof.Machine

variable {s t : State} {m : Nat}

theorem State.hasBit_of_get {f : Fld} (h : t.get f = s.get f) (i : Nat) : t.hasBit f i = s.hasBit f i := by
  simp only [State.hasBit, h]

theorem State.bit_put_self {f : Fld} (n : Nat) (hh : f.hi < 64) (hl : f.lo ≤ f.hi) :
    (s.put f n).bit f = (n % 2 ^ (f.hi + 1 - f.lo) != 0) := by
  rw [State.bit, State.get_put_self _ _ _ hh hl]

theorem regsKept_setBit {f : Fld} {i : Nat} {l : List Nat} (h : regsKept s t l) (hf : f.reg.addr ∈ l) :
    regsKept s (t.setBit f i) l := regsKept_put h hf

theorem regsKept_clrBit {f : Fld} {i : Nat} {l : List Nat} (h : regsKept s t l) (hf : f.reg.addr ∈ l) :
    regsKept s (t.clrBit f i) l := regsKept_put h hf

/-! ### Monitors (R419) -/

theorem regsKept_railOk (s : State) (m : Nat) (ok : Bool) : regsKept s (railOk s m ok) [R.CRP_STATUS.addr] := by
  unfold railOk railShow
  cases ok
  · exact regsKept_putB (regsKept_clrBit (regsKept_refl s _) (by decide)) (by decide)
  · exact regsKept_putB (regsKept_setBit (regsKept_refl s _) (by decide)) (by decide)

theorem onlyRegs_railOk (s : State) (m : Nat) (ok : Bool) : onlyRegs s (railOk s m ok) := by
  cases ok
  · rfl
  · rfl

/-- MAIN_OK does not touch the rails that are shown. -/
theorem railShow_rails (s : State) : (railShow s).get F.CRP_STATUS_RAIL_OK = s.get F.CRP_STATUS_RAIL_OK :=
  State.get_put_bits _ F.CRP_STATUS_MAIN_OK F.CRP_STATUS_RAIL_OK _ rfl (by decide) (by decide) (by decide)

theorem railOk_self (s : State) (hm : m < 8) (ok : Bool) : (railOk s m ok).hasBit F.CRP_STATUS_RAIL_OK m = ok := by
  unfold railOk
  rw [State.hasBit_of_get (railShow_rails _)]
  cases ok
  · exact State.hasBit_clrBit_self _ _ _ (by decide) (by decide)
  · exact State.hasBit_setBit_self _ _ _ (by decide) (by simp only [F.CRP_STATUS_RAIL_OK]; omega)

theorem railOk_ne (s : State) (hm : m < 8) (ok : Bool) {j : Nat} (hj : j ≠ m) :
    (railOk s m ok).hasBit F.CRP_STATUS_RAIL_OK j = s.hasBit F.CRP_STATUS_RAIL_OK j := by
  unfold railOk
  rw [State.hasBit_of_get (railShow_rails _)]
  cases ok
  · exact State.hasBit_clrBit_ne _ _ (by decide) (by decide) hj
  · exact State.hasBit_setBit_ne _ _ (by decide) (by simp only [F.CRP_STATUS_RAIL_OK]; omega) hj

/-- A rail out of tolerance takes MAIN_OK away. -/
theorem railOk_main (s : State) (hm : m < 8) : (railOk s m false).bit F.CRP_STATUS_MAIN_OK = false := by
  have hrail : (s.clrBit F.CRP_STATUS_RAIL_OK m).get F.CRP_STATUS_RAIL_OK ≠ 0xFF := by
    intro h
    have hbit := State.hasBit_clrBit_self s F.CRP_STATUS_RAIL_OK m (by decide) (by decide)
    rw [State.hasBit, h] at hbit
    interval_cases m <;> exact absurd hbit (by decide)
  have he : railOk s m false = (s.clrBit F.CRP_STATUS_RAIL_OK m).put F.CRP_STATUS_MAIN_OK 0 := by
    simp only [railOk, railShow, State.putB, beq_eq_false_iff_ne.2 hrail, Bool.false_eq_true, if_false]
  rw [he]
  exact State.bit_put_self 0 (by decide) (by decide)

theorem railFault_spec (s : State) (m : Fin 8) : runs (.railFault m true) s fun t =>
    t.hasBit F.CRP_RAIL_FAULT m = true ∧ t.hasBit F.CRP_STATUS_RAIL_OK m = false ∧ t.bit F.CRP_STATUS_MAIN_OK = false
    ∧ srcs t = srcs s ++ (if s.pwr.held then [] else [48 + m.val])
    ∧ regsKept s t [R.CRP_RAIL.addr, R.CRP_STATUS.addr, R.BRK_LOSS.addr] := by
  obtain ⟨u, hu⟩ : ∃ u, u = (railOk s m false).setBit F.CRP_RAIL_FAULT m := ⟨_, rfl⟩
  have hexec : exec (.railFault m true) s = .next (raiseUp u (48 + m)) := by rw [hu]; rfl
  have hkeep : regsKept (railOk s m false) u [R.CRP_RAIL.addr] := by
    rw [hu]
    exact regsKept_setBit (regsKept_refl _ _) (by decide)
  have hup : regsKept u (raiseUp u (48 + m)) [R.BRK_LOSS.addr] := by
    unfold raiseUp
    split
    · exact regsKept_refl _ _
    · exact regsKept_raise (regsKept_refl _ _) (by decide)
  have hsrcs : srcs (raiseUp u (48 + m)) = srcs s ++ (if s.pwr.held then [] else [48 + m.val]) := by
    have hs : srcs u = srcs s := by rw [hu]; rfl
    have hh : u.pwr.held = s.pwr.held := by rw [hu]; rfl
    unfold raiseUp
    rw [hh, ← hs]
    split
    · simp
    · exact raise_srcs ..
  refine ⟨_, hexec, ?_, ?_, ?_, hsrcs, ?_⟩
  · rw [State.hasBit_of_get (hup.get (by decide)), hu]
    exact State.hasBit_setBit_self _ _ _ (by decide) (by simp only [F.CRP_RAIL_FAULT]; omega)
  · rw [State.hasBit_of_get ((hup.get (by decide)).trans (hkeep.get (by decide)))]
    exact railOk_self s m.isLt false
  · rw [State.bit_of_get ((hup.get (by decide)).trans (hkeep.get (by decide)))]
    exact railOk_main s m.isLt
  · exact ((((regsKept_refl s _).trans (regsKept_railOk s m false) (by decide)).trans hkeep (by decide)).trans hup (by decide))

theorem railBack_spec (s : State) (m : Fin 8) : runs (.railFault m false) s fun t =>
    t.hasBit F.CRP_STATUS_RAIL_OK m = true ∧ t.get F.CRP_RAIL_FAULT = s.get F.CRP_RAIL_FAULT ∧ onlyRegs s t
    ∧ regsKept s t [R.CRP_STATUS.addr] :=
  ⟨railOk s m true, rfl, railOk_self s m.isLt true, (regsKept_railOk s m true).get (by decide), onlyRegs_railOk s m true,
    regsKept_railOk s m true⟩

/-! ### Holds (R420, R423) -/

theorem regsKept_modPwr {g : PwrSt → PwrSt} {l : List Nat} (h : regsKept s t l) : regsKept s (t.modPwr g) l := h

theorem modPwr_hasBit (s : State) (g : PwrSt → PwrSt) (f : Fld) (i : Nat) : (s.modPwr g).hasBit f i = s.hasBit f i := rfl

/-- A hold counts its cause, once with a reset in progress. -/
theorem holdCause_spec (s : State) {cause : Fld} (hr : cause.reg = R.CRP_RESET_CAUSE) (hi : cause.hi < 16)
    (hl : cause.lo ≤ cause.hi) :
    (holdCause s cause).bit cause = true ∧ regsKept s (holdCause s cause) [R.CRP_RESET_CAUSE.addr]
    ∧ (s.pwr.req = false → (holdCause s cause).get F.CRP_RESET_CAUSE_COUNT
      = min F.CRP_RESET_CAUSE_COUNT.max (s.get F.CRP_RESET_CAUSE_COUNT + 1)) := by
  have hmem : cause.reg.addr ∈ [R.CRP_RESET_CAUSE.addr] := by simp [hr]
  have hone : 1 % 2 ^ (cause.hi + 1 - cause.lo) = 1 := Nat.mod_eq_of_lt (Nat.one_lt_two_pow (by omega))
  have hput : (s.put cause 1).get cause = 1 := by rw [State.get_put_self _ _ _ (by omega) hl, hone]
  have hreq : (s.put cause 1).pwr.req = s.pwr.req := rfl
  cases h : s.pwr.req with
  | true =>
    have he : holdCause s cause = s.put cause 1 := if_pos (hreq.trans h)
    rw [he]
    exact ⟨by rw [State.bit, hput]; rfl, regsKept_put (regsKept_refl s _) hmem, nofun⟩
  | false =>
    have he : holdCause s cause = ((s.put cause 1).inc F.CRP_RESET_CAUSE_COUNT).modPwr fun p =>
        { p with req := true, reqSrc := 0xFFF } := if_neg (by rw [hreq, h]; exact Bool.false_ne_true)
    have hget : ∀ f, (holdCause s cause).get f = ((s.put cause 1).inc F.CRP_RESET_CAUSE_COUNT).get f := fun f => by
      rw [he, modPwr_get]
    refine ⟨?_, ?_, fun _ => ?_⟩
    · rw [State.bit, hget, State.inc, State.get_put_bits _ F.CRP_RESET_CAUSE_COUNT cause _ hr (by decide) (by decide) (.inr hi), hput]
      rfl
    · rw [he]
      exact regsKept_modPwr (regsKept_put (regsKept_put (regsKept_refl s _) hmem) (by decide))
    · rw [hget, State.get_inc_self _ _ _ (by decide) (by decide),
        State.get_put_bits _ cause F.CRP_RESET_CAUSE_COUNT _ hr.symm (by omega) hl (.inl hi)]

/-- The count of causes outlives the hold of the units. -/
theorem unitsHold_cause (s : State) : (unitsHold s).get F.CRP_RESET_CAUSE_COUNT = s.get F.CRP_RESET_CAUSE_COUNT := by
  rw [State.get, unitsHold, unitsReset_rd _ _ (by decide)]
  rfl

/-- From s to t registers and the latches of reset and power alone change. -/
def onlyRegsPwr (s t : State) : Prop := { t with regs := s.regs, pwr := s.pwr } = s

theorem holdCause_kept (s : State) (cause : Fld) :
    onlyRegsPwr s (holdCause s cause) ∧ (holdCause s cause).pwr.held = s.pwr.held := by
  unfold holdCause
  extract_lets u
  split
  · exact ⟨rfl, rfl⟩
  · exact ⟨rfl, rfl⟩

/-- A hold once its cause is shown: the units stay as the hold left them. -/
theorem holdCause_units {u : State} (hu : onlyRegs (unitsHold s) u) (cause : Fld) :
    (holdCause u cause).pwr.held = true ∧ (holdCause u cause).spd = [] ∧ (holdCause u cause).mill = {}
    ∧ (holdCause u cause).coh = {} ∧ (holdCause u cause).fuse = s.fuse ∧ (holdCause u cause).brk.hist = s.brk.hist := by
  obtain ⟨hkept, hheld⟩ := holdCause_kept u cause
  have hpwr : u.pwr = (unitsHold s).pwr := (congrArg State.pwr hu :)
  have hspd : (holdCause u cause).spd = u.spd := (congrArg State.spd hkept :)
  have hmill : (holdCause u cause).mill = u.mill := (congrArg State.mill hkept :)
  have hcoh : (holdCause u cause).coh = u.coh := (congrArg State.coh hkept :)
  have hfuse : (holdCause u cause).fuse = u.fuse := (congrArg State.fuse hkept :)
  have hbrk : (holdCause u cause).brk = u.brk := (congrArg State.brk hkept :)
  rw [hheld, hpwr, hspd, hmill, hcoh, hfuse, hbrk]
  exact ⟨rfl, (congrArg State.spd hu :), (congrArg State.mill hu :), (congrArg State.coh hu :), (congrArg State.fuse hu :),
    (congrArg (fun x => x.brk.hist) hu :)⟩

theorem brownOut_spec (s : State) (m : Fin 7) : runs (.brownOut m) s fun t =>
    t.pwr.held = true ∧ t.pwr.brown = true ∧ t.hasBit F.CRP_RAIL_BROWN m = true ∧ t.hasBit F.CRP_STATUS_RAIL_OK m = false
    ∧ t.bit F.CRP_RESET_CAUSE_BROWNOUT = true ∧ t.spd = [] ∧ t.mill = {} ∧ t.coh = {} ∧ t.fuse = s.fuse ∧ t.brk.hist = s.brk.hist
    ∧ (s.pwr.req = false → t.get F.CRP_RESET_CAUSE_COUNT = min F.CRP_RESET_CAUSE_COUNT.max (s.get F.CRP_RESET_CAUSE_COUNT + 1)) := by
  obtain ⟨u, hu⟩ : ∃ u, u = (railOk (unitsHold s) m false).setBit F.CRP_RAIL_BROWN m := ⟨_, rfl⟩
  have hexec : exec (.brownOut m) s = .next ((holdCause u F.CRP_RESET_CAUSE_BROWNOUT).modPwr fun p => { p with brown := true }) := by
    rw [hu]
    rfl
  have hrail : regsKept (railOk (unitsHold s) m false) u [R.CRP_RAIL.addr] := by
    rw [hu]
    exact regsKept_setBit (regsKept_refl _ _) (by decide)
  have honly : onlyRegs (unitsHold s) u := by
    rw [hu]
    exact onlyRegs_put (onlyRegs_railOk (unitsHold s) m false)
  have hreq : u.pwr.req = s.pwr.req := (congrArg (fun x => x.pwr.req) honly :)
  have hcnt : u.get F.CRP_RESET_CAUSE_COUNT = s.get F.CRP_RESET_CAUSE_COUNT :=
    (hrail.get (by decide)).trans (((regsKept_railOk _ _ _).get (by decide)).trans (unitsHold_cause s))
  obtain ⟨hcause, hregs, hcount⟩ := holdCause_spec u (cause := F.CRP_RESET_CAUSE_BROWNOUT) rfl (by decide) (by decide)
  obtain ⟨hheld, hspd, hmill, hcoh, hfuse, hhist⟩ := holdCause_units honly F.CRP_RESET_CAUSE_BROWNOUT
  refine ⟨_, hexec, hheld, rfl, ?_, ?_, hcause, hspd, hmill, hcoh, hfuse, hhist, fun h => ?_⟩
  · rw [modPwr_hasBit, State.hasBit_of_get (hregs.get (by decide)), hu]
    exact State.hasBit_setBit_self _ _ _ (by decide) (by simp only [F.CRP_RAIL_BROWN]; omega)
  · rw [modPwr_hasBit, State.hasBit_of_get ((hregs.get (by decide)).trans (hrail.get (by decide)))]
    exact railOk_self _ (by omega) false
  · exact (hcount (hreq.trans h)).trans (by rw [hcnt])

/-! ### Releases (R420, R423) -/

/-- Once nothing holds the device it is released, and SRC 0016 is raised. -/
theorem releaseAgain_free (hb : s.pwr.booted = true) (hs : resetStays s = false) :
    releaseAgain s ⟨[], [], []⟩ = (released s).raise 16 (.reset s.pwr.reqSrc) := by
  rw [releaseAgain, if_pos hb, tryRelease, if_neg (by rw [hs]; exact Bool.false_ne_true)]
  rfl

theorem resetStays_free (hp : s.pwr.pinLow = false) (hb : s.pwr.brown = false) (hl : s.pwr.sysLost = false)
    (ht : s.get F.GOV_STATUS_THERM ≠ 2) (ha : s.get F.GOV_ALARM_LEVEL ≠ 3) : resetStays s = false := by
  simp only [resetStays, hp, hb, hl, beq_eq_false_iff_ne.2 ht, beq_eq_false_iff_ne.2 ha, Bool.or_false]

theorem releasedAgain_get (hb : s.pwr.booted = true) (hs : resetStays s = false) {f : Fld}
    (hf : f.reg.addr ≠ R.BRK_LOSS.addr) : (releaseAgain s ⟨[], [], []⟩).get f = (released s).get f := by
  rw [releaseAgain_free hb hs, raise_get _ _ _ _ hf]

theorem releasedAgain_pwr (hb : s.pwr.booted = true) (hs : resetStays s = false) :
    (releaseAgain s ⟨[], [], []⟩).pwr = { s.pwr with loaderUp := true, poolUp := true, held := false, req := false, reqSrc := 0xFFF } := by
  rw [releaseAgain_free hb hs, raise_pwr]
  rfl

theorem mem_srcs_releaseAgain (hb : s.pwr.booted = true) (hs : resetStays s = false) :
    16 ∈ srcs (releaseAgain s ⟨[], [], []⟩) := by
  rw [releaseAgain_free hb hs]
  simp [srcs]

/-- The rails as the monitors show them after a brown-out, VDD_SLC last. -/
def railsBack (s : State) (k : Nat) : State :=
  (List.range k).foldl (fun s m => railOk s m (m < 7 || !s.pwr.slcOut)) s

theorem railsBack_succ (s : State) (k : Nat) :
    railsBack s (k + 1) = railOk (railsBack s k) k (k < 7 || !(railsBack s k).pwr.slcOut) := by
  simp only [railsBack, List.range_succ, List.foldl_append, List.foldl_cons, List.foldl_nil]

theorem onlyRegs.trans {u : State} (h : onlyRegs s t) (h' : onlyRegs t u) : onlyRegs s u := by
  have he : { u with regs := s.regs } = { t with regs := s.regs } := congrArg (fun x : State => { x with regs := s.regs }) h'
  exact he.trans h

theorem railsBack_spec (s : State) {k : Nat} (hk : k ≤ 8) :
    (∀ m, m < k → m < 7 → (railsBack s k).hasBit F.CRP_STATUS_RAIL_OK m = true)
    ∧ regsKept s (railsBack s k) [R.CRP_STATUS.addr] ∧ onlyRegs s (railsBack s k) := by
  induction k with
  | zero => exact ⟨nofun, regsKept_refl s _, onlyRegs_refl s⟩
  | succ k ih =>
    obtain ⟨hbits, hregs, honly⟩ := ih (by omega)
    rw [railsBack_succ]
    refine ⟨fun m hm h7 => ?_, hregs.trans (regsKept_railOk _ _ _) (List.Subset.refl _), honly.trans (onlyRegs_railOk ..)⟩
    by_cases he : m = k
    · subst he
      rw [railOk_self _ (by omega)]
      simp [h7]
    · rw [railOk_ne _ (by omega) _ he]
      exact hbits m (by omega) h7

theorem brownOutEnd_spec (hb : s.pwr.booted = true) (hp : s.pwr.pinLow = false) (ht : s.get F.GOV_STATUS_THERM ≠ 2)
    (ha : s.get F.GOV_ALARM_LEVEL ≠ 3) (hbrown : s.pwr.brown = true) (hl : s.pwr.sysLost = false) :
    runs (.brownOutEnd ⟨[], [], []⟩) s fun t => t.pwr.brown = false ∧ t.pwr.held = false ∧ 16 ∈ srcs t
      ∧ ∀ m, m < 7 → t.hasBit F.CRP_STATUS_RAIL_OK m = true := by
  obtain ⟨hbits, hregs, honly⟩ := railsBack_spec s (k := 8) le_rfl
  have hpwr : (railsBack s 8).pwr = s.pwr := (congrArg State.pwr honly :)
  obtain ⟨u, hu⟩ : ∃ u, u = (railsBack s 8).modPwr fun p => { p with brown := false } := ⟨_, rfl⟩
  have hupwr : u.pwr = { s.pwr with brown := false } := by rw [hu, ← hpwr]; rfl
  have hget : ∀ f, u.get f = (railsBack s 8).get f := fun f => by rw [hu, modPwr_get]
  have hbooted : u.pwr.booted = true := by rw [hupwr]; exact hb
  have hfree : resetStays u = false := resetStays_free (by rw [hupwr]; exact hp) (by rw [hupwr]) (by rw [hupwr]; exact hl)
    (by rw [hget, hregs.get (by decide)]; exact ht) (by rw [hget, hregs.get (by decide)]; exact ha)
  have hexec : exec (.brownOutEnd ⟨[], [], []⟩) s = .next (releaseAgain u ⟨[], [], []⟩) := by
    change execBrownOutEnd _ s = _
    rw [execBrownOutEnd, hbrown, if_neg (by decide), hu]
    rfl
  have ht' := releasedAgain_pwr hbooted hfree
  refine ⟨_, hexec, by rw [ht', hupwr], by rw [ht'], mem_srcs_releaseAgain hbooted hfree, fun m hm => ?_⟩
  have hst : (releaseAgain u ⟨[], [], []⟩).get F.CRP_STATUS_RAIL_OK = (railsBack s 8).get F.CRP_STATUS_RAIL_OK := by
    rw [releasedAgain_get hbooted hfree (by decide), released_status _ rfl (by decide), hget]
  rw [State.hasBit_of_get hst]
  exact hbits m (by omega) hm

theorem sysclkRestore_spec (hb : s.pwr.booted = true) (hp : s.pwr.pinLow = false) (ht : s.get F.GOV_STATUS_THERM ≠ 2)
    (ha : s.get F.GOV_ALARM_LEVEL ≠ 3) (hl : s.pwr.sysLost = true) (hbrown : s.pwr.brown = false) :
    runs (.sysclkRestore ⟨[], [], []⟩) s fun t => t.pwr.sysLost = false ∧ t.pwr.held = false ∧ 16 ∈ srcs t
      ∧ t.bit F.CRP_STATUS_SYSCLK_OK = true ∧ t.bit F.CRP_CLK_HOLDOVER = false := by
  obtain ⟨w, hw⟩ : ∃ w, w = (s.put F.CRP_STATUS_SYSCLK_OK 1).put F.CRP_CLK_HOLDOVER 0 := ⟨_, rfl⟩
  obtain ⟨u, hu⟩ : ∃ u, u = w.modPwr fun p => { p with sysLost := false } := ⟨_, rfl⟩
  have hregs : regsKept s w [R.CRP_STATUS.addr, R.CRP_CLK.addr] := by
    rw [hw]
    exact regsKept_put (regsKept_put (regsKept_refl s _) (by decide)) (by decide)
  have hupwr : u.pwr = { s.pwr with sysLost := false } := by rw [hu, hw]; rfl
  have hget : ∀ f, u.get f = w.get f := fun f => by rw [hu, modPwr_get]
  have hbooted : u.pwr.booted = true := by rw [hupwr]; exact hb
  have hfree : resetStays u = false := resetStays_free (by rw [hupwr]; exact hp) (by rw [hupwr]; exact hbrown) (by rw [hupwr])
    (by rw [hget, hregs.get (by decide)]; exact ht) (by rw [hget, hregs.get (by decide)]; exact ha)
  have hexec : exec (.sysclkRestore ⟨[], [], []⟩) s = .next (releaseAgain u ⟨[], [], []⟩) := by
    change execSysclkRestore _ s = _
    rw [execSysclkRestore, hl, if_neg (by decide), hu, hw]
  have ht' := releasedAgain_pwr hbooted hfree
  refine ⟨_, hexec, by rw [ht', hupwr], by rw [ht'], mem_srcs_releaseAgain hbooted hfree, ?_, ?_⟩
  · rw [State.bit, releasedAgain_get hbooted hfree (by decide), released_status _ rfl (by decide), hget, hw,
      State.get_put_reg _ _ _ _ (by decide)]
    exact State.bit_put_self (f := F.CRP_STATUS_SYSCLK_OK) 1 (by decide) (by decide)
  · rw [State.bit, releasedAgain_get hbooted hfree (by decide), (regsKept_released _).get (by decide), hget, hw]
    exact State.bit_put_self (f := F.CRP_CLK_HOLDOVER) 0 (by decide) (by decide)

end Sys2Proof.Machine
end

section
/-! The supply of the slots, the 1 GHz clock, the request for VDD_CORE and pool standby (R419, R420, R423, R431). For O57. -/

namespace Sys2Proof.Machine

variable {s t : State} {m n k : Nat}

/-! ### VDD_SLC (R420) -/

/-- A controller as it stands after the loss of its supply, from how it stood before. -/
def supplyLost (s t : State) (n : Nat) : Prop :=
  (slcState s n ≠ 4 → slcState s n ≠ 0 → slcState t n = 1 ∧ t.bit (F.SLC_STATUS_PGOOD n) = false)
  ∧ (slcState s n = 4 → slcState t n = 4)

/-- One controller at the loss of the supply. -/
def supplyOff (s : State) (n : Nat) : State := if slcState s n = 4 ∨ slcState s n = 0 then s else feedsOff s n 1

theorem regsKept_supplyOff (s : State) (n : Nat) : regsKept s (supplyOff s n) [(R.SLC_STATUS n).addr] := by
  unfold supplyOff
  split
  · exact regsKept_refl s _
  · exact regsKept_feedsOff s n 1

theorem supplyOff_kept (s : State) (n : Nat) : (supplyOff s n).brk = s.brk ∧ (supplyOff s n).pwr = s.pwr := by
  unfold supplyOff
  split
  · exact ⟨rfl, rfl⟩
  · exact ⟨rfl, rfl⟩

theorem supplyLost_supplyOff (s : State) (n : Nat) : supplyLost s (supplyOff s n) n := by
  unfold supplyOff
  by_cases h : slcState s n = 4 ∨ slcState s n = 0
  · rw [if_pos h]
    exact ⟨fun h4 h0 => absurd h (by simp [h4, h0]), id⟩
  · rw [if_neg h]
    have hpg : (feedsOff s n 1).get (F.SLC_STATUS_PGOOD n) = 0 := by
      rw [feedsOff, modSx_get]
      exact State.get_put_same _ _ 0 (by decide) (by decide)
    have hbit : (feedsOff s n 1).bit (F.SLC_STATUS_PGOOD n) = false := by
      rw [State.bit, hpg]
      rfl
    exact ⟨fun _ _ => ⟨feedsOff_state s n (by decide), hbit⟩, fun h4 => absurd (.inl h4) h⟩

/-- The state of a controller is in its own register. -/
theorem supplyLost_congr {s' t' : State} (hs : s'.rd (R.SLC_STATUS n) = s.rd (R.SLC_STATUS n))
    (ht : t'.rd (R.SLC_STATUS n) = t.rd (R.SLC_STATUS n)) (h : supplyLost s t n) : supplyLost s' t' n := by
  have hs1 : slcState s' n = slcState s n := congrArg (bitsGet · 31 29) hs
  have ht1 : slcState t' n = slcState t n := congrArg (bitsGet · 31 29) ht
  have ht2 : t'.bit (F.SLC_STATUS_PGOOD n) = t.bit (F.SLC_STATUS_PGOOD n) := congrArg (fun x => bitsGet x 27 27 != 0) ht
  simpa only [supplyLost, hs1, ht1, ht2] using h

/-- The first k controllers have lost their supply, the others stand as they did. -/
theorem supplyOffs_spec (s : State) (k : Nat) :
    (∀ n, n < k → supplyLost s ((List.range k).foldl supplyOff s) n)
    ∧ (∀ q : Reg, (∀ n, n < k → q.addr ≠ (R.SLC_STATUS n).addr) → ((List.range k).foldl supplyOff s).rd q = s.rd q)
    ∧ ((List.range k).foldl supplyOff s).brk = s.brk ∧ ((List.range k).foldl supplyOff s).pwr = s.pwr := by
  induction k with
  | zero => exact ⟨nofun, fun _ _ => rfl, rfl, rfl⟩
  | succ k ih =>
    rw [List.range_succ, List.foldl_append, List.foldl_cons, List.foldl_nil]
    obtain ⟨u, hu⟩ : ∃ u, u = (List.range k).foldl supplyOff s := ⟨_, rfl⟩
    rw [← hu] at ih ⊢
    obtain ⟨hlost, hrest, hbrk, hpwr⟩ := ih
    have hne : ∀ i j, i ≠ j → (R.SLC_STATUS i).addr ≠ (R.SLC_STATUS j).addr := fun i j h => by
      simp only [R.SLC_STATUS]
      omega
    refine ⟨fun n hn => ?_, fun q hq => ?_, (supplyOff_kept u k).1.trans hbrk, (supplyOff_kept u k).2.trans hpwr⟩
    · by_cases hnk : n = k
      · subst hnk
        exact supplyLost_congr (hrest _ fun i hi => hne _ _ (by omega)).symm rfl (supplyLost_supplyOff u n)
      · exact supplyLost_congr rfl (regsKept_supplyOff u k _ (by simpa using hne _ _ hnk)) (hlost n (by omega))
    · rw [regsKept_supplyOff u k q (by simpa using hq k (by omega))]
      exact hrest q fun n hn => hq n (by omega)

theorem slcSupplyLoss_spec (s : State) : runs .slcSupplyLoss s fun t =>
    t.pwr.slcOut = true ∧ t.hasBit F.CRP_STATUS_RAIL_OK 7 = false
    ∧ (∀ n, n < 32 → slcState s n ≠ 4 → slcState s n ≠ 0 → slcState t n = 1 ∧ t.bit (F.SLC_STATUS_PGOOD n) = false)
    ∧ (∀ n, n < 32 → slcState s n = 4 → slcState t n = 4) ∧ t.brk = s.brk := by
  obtain ⟨u, hu⟩ : ∃ u, u = (railOk s 7 false).modPwr fun p => { p with slcOut := true } := ⟨_, rfl⟩
  have hexec : exec .slcSupplyLoss s = .next ((List.range 32).foldl supplyOff u) := by
    rw [hu]
    rfl
  obtain ⟨hlost, hrest, hbrk, hpwr⟩ := supplyOffs_spec u 32
  have hslc : ∀ n, u.rd (R.SLC_STATUS n) = s.rd (R.SLC_STATUS n) := fun n => by
    rw [hu, modPwr_rd]
    exact regsKept_railOk s 7 false _ (by simp only [R.SLC_STATUS, R.CRP_STATUS, List.mem_singleton]; omega)
  have hl : ∀ n, n < 32 → supplyLost s ((List.range 32).foldl supplyOff u) n := fun n hn =>
    supplyLost_congr (hslc n).symm rfl (hlost n hn)
  refine ⟨_, hexec, ?_, ?_, fun n hn => (hl n hn).1, fun n hn => (hl n hn).2, ?_⟩
  · rw [hpwr, hu]
    rfl
  · have hst : ((List.range 32).foldl supplyOff u).get F.CRP_STATUS_RAIL_OK = u.get F.CRP_STATUS_RAIL_OK :=
      congrArg (bitsGet · 7 0) (hrest R.CRP_STATUS fun n _ => by simp only [R.SLC_STATUS, R.CRP_STATUS]; omega)
    rw [State.hasBit_of_get hst, hu, modPwr_hasBit]
    exact railOk_self s (by decide) false
  · rw [hbrk, hu]
    exact (congrArg State.brk (onlyRegs_railOk s 7 false) :)

theorem slcSupplyRestore_spec (h : s.pwr.slcOut = true) : runs .slcSupplyRestore s fun t =>
    t.pwr.slcOut = false ∧ t.hasBit F.CRP_STATUS_RAIL_OK 7 = true ∧ regsKept s t [R.CRP_STATUS.addr] := by
  have hexec : exec .slcSupplyRestore s = .next ((railOk s 7 true).modPwr fun p => { p with slcOut := false }) := by
    change execSlcSupplyRestore s = _
    rw [execSlcSupplyRestore, if_pos h]
  refine ⟨_, hexec, rfl, ?_, regsKept_modPwr (regsKept_railOk s 7 true)⟩
  rw [modPwr_hasBit]
  exact railOk_self s (by decide) true

/-! ### The clock of the OFL ports (R423) -/

theorem aoclkLoss_spec (s : State) : runs .aoclkLoss s fun t => t.bit F.CRP_CLK_AOCLK_LOST = true
    ∧ t.bit F.CRP_STATUS_AOCLK_OK = false ∧ onlyRegs s t ∧ regsKept s t [R.CRP_CLK.addr, R.CRP_STATUS.addr] := by
  refine ⟨_, rfl, State.bit_put_self 1 (by decide) (by decide), ?_, rfl,
    regsKept_put (regsKept_put (regsKept_refl s _) (by decide)) (by decide)⟩
  rw [State.bit, State.get_put_reg _ _ _ _ (by decide)]
  exact State.bit_put_self (f := F.CRP_STATUS_AOCLK_OK) 0 (by decide) (by decide)

theorem aoclkRestore_spec (s : State) : runs .aoclkRestore s fun t => t.bit F.CRP_STATUS_AOCLK_OK = true
    ∧ t.bit F.CRP_CLK_AOCLK_LOST = s.bit F.CRP_CLK_AOCLK_LOST ∧ onlyRegs s t :=
  ⟨_, rfl, State.bit_put_self 1 (by decide) (by decide), State.bit_of_get (State.get_put_reg _ _ _ _ (by decide)), rfl⟩

/-! ### VDD_CORE (R419) -/

theorem regsKept_raiseUp (s : State) (n : Nat) : regsKept s (raiseUp s n) [R.BRK_LOSS.addr] := by
  unfold raiseUp
  split
  · exact regsKept_refl s _
  · exact regsKept_raise (regsKept_refl s _) (by decide)

theorem srcs_raiseUp (h : s.pwr.held = false) (n : Nat) : srcs (raiseUp s n) = srcs s ++ [n] := by
  rw [raiseUp, h, if_neg Bool.false_ne_true]
  exact raise_srcs ..

theorem avs_put (s : State) (v : Nat) (hv : v < 1024) : (s.put F.CRP_AVS_REQUEST v).get F.CRP_AVS_REQUEST = v
    ∧ (s.put F.CRP_AVS_REQUEST v).get F.CRP_AVS_TARGET = s.get F.CRP_AVS_TARGET :=
  ⟨(State.get_put_self _ _ _ (by decide) (by decide)).trans (Nat.mod_eq_of_lt hv),
    State.get_put_bits _ F.CRP_AVS_REQUEST F.CRP_AVS_TARGET _ rfl (by decide) (by decide) (by decide)⟩

/-- A request out of range is brought to its end, and says so. -/
theorem avs_clamped (s : State) (v : Nat) (hv : v < 1024) :
    (raiseUp (s.put F.CRP_AVS_REQUEST v) 57).get F.CRP_AVS_REQUEST = v
    ∧ (s.pwr.held = false → srcs (raiseUp (s.put F.CRP_AVS_REQUEST v) 57) = srcs s ++ [57])
    ∧ (raiseUp (s.put F.CRP_AVS_REQUEST v) 57).get F.CRP_AVS_TARGET = s.get F.CRP_AVS_TARGET := by
  obtain ⟨hreq, htgt⟩ := avs_put s v hv
  have hk := regsKept_raiseUp (s.put F.CRP_AVS_REQUEST v) 57
  exact ⟨(hk.get (by decide)).trans hreq, srcs_raiseUp (s := s.put F.CRP_AVS_REQUEST v) (n := 57),
    (hk.get (by decide)).trans htgt⟩

theorem avsRequest_spec (s : State) (mv : Int) :
    (650 ≤ mv ∧ mv ≤ 850 → ((avsRequest s mv).get F.CRP_AVS_REQUEST : Int) = mv ∧ (avsRequest s mv).brk = s.brk)
    ∧ (mv < 650 → (avsRequest s mv).get F.CRP_AVS_REQUEST = 650) ∧ (850 < mv → (avsRequest s mv).get F.CRP_AVS_REQUEST = 850)
    ∧ (mv < 650 ∨ 850 < mv → s.pwr.held = false → srcs (avsRequest s mv) = srcs s ++ [57])
    ∧ (avsRequest s mv).get F.CRP_AVS_TARGET = s.get F.CRP_AVS_TARGET := by
  unfold avsRequest
  by_cases hlo : mv < 650
  · obtain ⟨hreq, hsrc, htgt⟩ := avs_clamped s 650 (by decide)
    rw [if_pos hlo]
    exact ⟨fun h => by omega, fun _ => hreq, fun h => by omega, fun _ => hsrc, htgt⟩
  · rw [if_neg hlo]
    by_cases hhi : 850 < mv
    · obtain ⟨hreq, hsrc, htgt⟩ := avs_clamped s 850 (by decide)
      rw [if_pos hhi]
      exact ⟨fun h => by omega, fun h => by omega, fun _ => hreq, fun _ => hsrc, htgt⟩
    · obtain ⟨hreq, htgt⟩ := avs_put s mv.toNat (by omega)
      rw [if_neg hhi]
      exact ⟨fun _ => ⟨by rw [hreq]; omega, rfl⟩, fun h => by omega, fun h => by omega, fun h => by omega, htgt⟩

theorem exec_avsAdjust (up : Bool) (n : Fin 64) (hb : s.pwr.booted = true) (hh : s.bit F.GOV_STATUS_HALTED = false) :
    exec (.avsAdjust up n) s = .next (avsRequest s (s.get F.CRP_AVS_REQUEST
      + (if up then 5 * (n.val : Int) else -(5 * (n.val : Int))))) := by
  change execAvsAdjust up n s = _
  rw [execAvsAdjust, hb, hh]
  rfl

/-! ### Pool standby (R431) -/

theorem bitsGet_eq_of_bit {v w : Word} {i : Nat} (h : v.getLsbD i = w.getLsbD i) : bitsGet v i i = bitsGet w i i := by
  have hv := bitsGet_lt v i i
  have hw := bitsGet_lt w i i
  rw [Nat.add_sub_cancel_left, pow_one] at hv hw
  have hvb := bitsGet_bit v i
  have hwb := bitsGet_bit w i
  rw [h, ← hwb] at hvb
  have hiff : bitsGet v i i ≠ 0 ↔ bitsGet w i i ≠ 0 := by rw [← bne_iff_ne, ← bne_iff_ne, hvb]
  omega

/-- The word that a write of POOL_STBY presents asks for what it sets. -/
theorem standby_val (s : State) (mid : Nat) {b : Nat} (hb : b < 2) :
    (wrField s mid false F.CRP_PWR_POOL_STBY b).val s F.CRP_PWR_POOL_STBY = b := by
  have hbit : ((s.rd R.CRP_PWR &&& ~~~0xFFFFFFFF#64) ||| ((wrField s mid false F.CRP_PWR_POOL_STBY b).v &&& 0xFFFFFFFF#64)).getLsbD 31
      = (wrField s mid false F.CRP_PWR_POOL_STBY b).v.getLsbD 31 := by
    have h31 : (0xFFFFFFFF#64).getLsbD 31 = true := rfl
    rw [BitVec.getLsbD_or, BitVec.getLsbD_and, BitVec.getLsbD_and, BitVec.getLsbD_not, h31]
    simp
  refine (bitsGet_eq_of_bit hbit).trans ((bitsGet_bitsPut _ 31 31 b (by decide) (by decide)).trans ?_)
  exact Nat.mod_eq_of_lt hb

theorem standbyExit_spec (s : State) : (standbyExit s).bit F.CRP_PWR_STBY_NOW = false
    ∧ (standbyExit s).bit F.CRP_PWR_POOL_STBY = false ∧ onlyRegs s (standbyExit s)
    ∧ regsKept s (standbyExit s) [R.CRP_PWR.addr] := by
  refine ⟨?_, State.bit_put_self 0 (by decide) (by decide), rfl, regsKept_put (regsKept_put (regsKept_refl s _) (by decide)) (by decide)⟩
  rw [standbyExit, State.bit, State.get_put_bits _ F.CRP_PWR_POOL_STBY F.CRP_PWR_STBY_NOW _ rfl (by decide) (by decide) (by decide)]
  exact State.bit_put_self (f := F.CRP_PWR_STBY_NOW) 0 (by decide) (by decide)

theorem standbyEnter_spec (mid : Mid) (hnow : s.bit F.CRP_PWR_STBY_NOW = false) (hok : standbyOk s = true) :
    runs (.poolStandbyEnter mid) s fun t => t.bit F.CRP_PWR_STBY_NOW = true ∧ t.bit F.CRP_PWR_POOL_STBY = true
      ∧ onlyRegs s t ∧ regsKept s t [R.CRP_PWR.addr] := by
  have hexec : exec (.poolStandbyEnter mid) s = .next ((s.put F.CRP_PWR_POOL_STBY 1).put F.CRP_PWR_STBY_NOW 1) := by
    change execPoolStandbyEnter mid s = _
    rw [execPoolStandbyEnter, wrCrpPwr, standby_val s mid (by decide)]
    simp only [hnow, hok, if_true, Bool.false_eq_true, if_false]
  refine ⟨_, hexec, State.bit_put_self 1 (by decide) (by decide), ?_, rfl,
    regsKept_put (regsKept_put (regsKept_refl s _) (by decide)) (by decide)⟩
  rw [State.bit, State.get_put_bits _ F.CRP_PWR_STBY_NOW F.CRP_PWR_POOL_STBY _ rfl (by decide) (by decide) (by decide)]
  exact State.bit_put_self (f := F.CRP_PWR_POOL_STBY) 1 (by decide) (by decide)

theorem standbyRefused_spec (mid : Mid) (hnow : s.bit F.CRP_PWR_STBY_NOW = false) (hok : standbyOk s = false) :
    runs (.poolStandbyEnter mid) s fun t =>
      srcs t = srcs s ++ [1] ∧ regsKept s t [R.BRK_LOSS.addr] ∧ onlyRegsEvents s t := by
  have hexec : exec (.poolStandbyEnter mid) s = .next (s.refuse R.CRP_PWR.addr mid 4) := by
    change execPoolStandbyEnter mid s = _
    rw [execPoolStandbyEnter, wrCrpPwr, standby_val s mid (by decide)]
    simp only [hnow, hok, if_true, Bool.false_eq_true, if_false]
    rfl
  exact ⟨_, hexec, refuse_srcs .., regsKept_raise (regsKept_refl s _) (by decide), onlyRegsEvents_raise ..⟩

theorem exec_poolStandbyExit {mid : Mid} {m : Option Mid} (h : m = some mid ∨
    (m = none ∧ s.bit F.CRP_PWR_STBY_NOW = true ∧ ∃ x ∈ s.pool.chq, x.2 ≠ [])) :
    exec (.poolStandbyExit m) s = .next (standbyExit s) := by
  obtain rfl | ⟨rfl, hnow, x, hx, hne⟩ := h
  · change execPoolStandbyExit (some mid) s = _
    rw [execPoolStandbyExit, wrCrpPwr, standby_val s mid (by decide)]
    rfl
  · have hany : (s.pool.chq.any fun q => !q.2.isEmpty) = true := List.any_eq_true.2 ⟨x, hx, by simpa using hne⟩
    change execPoolStandbyExit none s = _
    simp only [execPoolStandbyExit, hnow, hany, Bool.and_self, if_true]

end Sys2Proof.Machine
end

section
/-! An upstream link that goes down and the reset of its VCS (R428, R430): what becomes of the port itself. For O57. -/

namespace Sys2Proof.Machine

variable {s t u : State} {p v j : Nat}

/-- From s to t port p keeps what it is and shows, while other links may go down; CRP stays, and no event is lost. -/
structure Spared (p : Nat) (s t : State) : Prop where
  px : t.px p = s.px p
  srcs : srcs s <+: srcs t
  rd : ∀ q : Reg, quietAddr q.addr → q.addr < 0x43000000 → (∀ j, j ≠ p → q.addr ≠ (R.PORT_LINK_STATUS j).addr) →
    t.rd q = s.rd q

namespace Spared

theorem refl (p : Nat) (s : State) : Spared p s s := ⟨rfl, List.prefix_rfl, fun _ _ _ _ => rfl⟩

theorem trans (h : Spared p s t) (h' : Spared p t u) : Spared p s u :=
  ⟨h'.px.trans h.px, h.srcs.trans h'.srcs, fun q hq hl hj => (h'.rd q hq hl hj).trans (h.rd q hq hl hj)⟩

theorem of_portsStay (p : Nat) (h : PortsStay s t) : Spared p s t :=
  ⟨by simp only [State.px, h.ports], h.srcs, fun q hq hl _ => h.rd q hq hl⟩

/-- The link of another port goes down. -/
theorem of_linkFell (h : LinkFell j s t) (hj : j ≠ p) : Spared p s t where
  px := h.px p hj.symm
  srcs := h.srcs
  rd q hq hl hne := h.regs q (by
    have hpath : q.addr ≠ R.RTE_PATH_CMD.addr := by simp only [R.RTE_PATH_CMD]; omega
    have hdone : q.addr ≠ R.MGT_DONE.addr := by simp only [R.MGT_DONE]; omega
    have hloss : q.addr ≠ R.BRK_LOSS.addr := fun e => absurd (e ▸ hq) (by decide)
    simp [fellRegs, hne j hj, hpath, hdone, hloss])

section
variable (h : Spared p s t)
include h

/-- The registers of CRP stay. -/
theorem getCrp {f : Fld} (hf : 0x40300000 ≤ f.reg.addr ∧ f.reg.addr < 0x40400000) : t.get f = s.get f := by
  refine congrArg (bitsGet · f.hi f.lo) (h.rd f.reg (.inl hf) (by omega) fun j _ => ?_)
  simp only [R.PORT_LINK_STATUS]
  omega

/-- No port changes its role. -/
theorem role (hj : j < 128) : role t j = role s j := by
  refine congrArg (bitsGet · _ _) (h.rd (R.PORT_CFG j) (.inr (.inl ?_)) ?_ fun i _ => ?_)
  · simp only [R.PORT_CFG]
    omega
  · simp only [R.PORT_CFG]
    omega
  · simp only [R.PORT_CFG, R.PORT_LINK_STATUS]
    omega

theorem ltssm (hp : p < 128) : ltssm t p = ltssm s p := by
  refine congrArg (bitsGet · _ _) (h.rd (R.PORT_LINK_STATUS p) (.inr (.inl ?_)) ?_ fun i hi => ?_)
  · simp only [R.PORT_LINK_STATUS]
    omega
  · simp only [R.PORT_LINK_STATUS]
    omega
  · simp only [R.PORT_LINK_STATUS]
    omega

end

end Spared

/-! ### Reset of a VCS (R430) -/

theorem PortsStay.uncommit (h : PortsStay s t) (v : Nat) : PortsStay s (uncommit t v) := by
  unfold Machine.uncommit
  refine h.foldl fun w i hw => ?_
  have hput : ∀ a e b, PortsStay s (tblPut w a e b) := fun a e b =>
    PortsStay.foldl (hw.frame (by rfl)) fun _ _ h => h.injWrite
  exact .ite hw (hput ..)

theorem PortsStay.ldResets (h : PortsStay s t) (l : List Nat) : PortsStay s (l.foldl ldReset t) :=
  h.foldl fun _ _ h => h.frame (by rfl)

/-- Another downstream port passes through Hot Reset. -/
theorem spared_hotReset (hj : role s j = 2) (hne : j ≠ p) : Spared p s (hotReset s j) := by
  have hpcie : isPcie s j = true := by simp [isPcie, hj]
  have hfell : LinkFell j s ((linkDown s j 0 .none).modPx j fun x => { x with hotReset := true }) := by
    rw [linkDown_of_isPcie hpcie]
    exact ((LinkFell.refl j s).pcieDown 0 .none).modPx
  unfold hotReset
  split
  · exact .of_linkFell hfell hne
  · exact .refl p s

theorem spared_hotResets {l : List Nat} (hl : ∀ j ∈ l, role s j = 2 ∧ j < 128 ∧ j ≠ p) : Spared p s (l.foldl hotReset s) := by
  induction l generalizing s with
  | nil => exact .refl p s
  | cons j l ih =>
    obtain ⟨hrole, hj, hne⟩ := hl j List.mem_cons_self
    have h1 : Spared p s (hotReset s j) := spared_hotReset hrole hne
    refine h1.trans (ih fun i hi => ?_)
    obtain ⟨hr, hi, hn⟩ := hl i (List.mem_cons_of_mem _ hi)
    exact ⟨(h1.role hi).trans hr, hi, hn⟩

theorem wholePort_lt {k : Nat} (h : wholePort s v k = some j) : j < 128 := by
  unfold wholePort at h
  split at h
  · cases h
  · split at h
    · cases h
      exact State.get_lt ..
    · cases h

/-- The reset of a VCS marks it and spares a port that is no downstream port. -/
theorem spared_vcsResetDo (hr : role s p ≠ 2) (hp : p < 128) (v : Nat) :
    Spared p (s.setBit F.CRP_VCS_RESET_ACTIVE v) (vcsResetDo s v) := by
  unfold vcsResetDo
  extract_lets s1 s2 s3 s4 s5
  have h2 : PortsStay s1 s2 := (PortsStay.refl s1).frame (by rfl)
  have h5 : PortsStay s1 s5 := ((h2.uncommit v).trans (calm_shutStarts ..).portsStay).ldResets _
  clear_value s5
  have hrole1 : role s1 p = role s p := State.get_put_reg _ _ _ _ (by
    simp only [F.PORT_CFG_ROLE, R.PORT_CFG, F.CRP_VCS_RESET_ACTIVE, R.CRP_VCS_RESET]
    omega)
  have hrole5 : role s5 p = role s p := ((Spared.of_portsStay p h5).role hp).trans hrole1
  refine (Spared.of_portsStay p h5).trans (spared_hotResets fun j hj => ?_)
  obtain ⟨k, _, hk⟩ := List.mem_filterMap.1 hj
  refine ⟨wholePort_role hk, wholePort_lt hk, ?_⟩
  rintro rfl
  exact hr (hrole5.symm.trans (wholePort_role hk))

theorem vcsReset_spec (hr : role s p ≠ 2) (hp : p < 128) (hv : v < 64) :
    (vcsReset s v).hasBit F.CRP_VCS_RESET_ACTIVE v = true ∧ (vcsReset s v).px p = s.px p
    ∧ ltssm (vcsReset s v) p = ltssm s p ∧ srcs s <+: srcs (vcsReset s v)
    ∧ ∀ f : Fld, 0x40300000 ≤ f.reg.addr ∧ f.reg.addr < 0x40400000 → f.reg.addr ≠ R.CRP_VCS_RESET.addr →
      (vcsReset s v).get f = s.get f := by
  unfold vcsReset
  by_cases ha : s.hasBit F.CRP_VCS_RESET_ACTIVE v = true
  · rw [if_pos ha]
    exact ⟨ha, rfl, rfl, List.prefix_rfl, fun _ _ _ => rfl⟩
  · rw [if_neg ha]
    have h := spared_vcsResetDo hr hp v
    have hl : ltssm (s.setBit F.CRP_VCS_RESET_ACTIVE v) p = ltssm s p := State.get_put_reg _ _ _ _ (by
      simp only [F.PORT_LINK_STATUS_LTSSM, R.PORT_LINK_STATUS, F.CRP_VCS_RESET_ACTIVE, R.CRP_VCS_RESET]
      omega)
    refine ⟨?_, h.px, (h.ltssm hp).trans hl, h.srcs, fun f hf hne => (h.getCrp hf).trans (State.get_put_reg _ _ _ _ hne)⟩
    rw [State.hasBit_of_get (h.getCrp (by decide))]
    exact State.hasBit_setBit_self _ _ _ (by decide) (by simp only [F.CRP_VCS_RESET_ACTIVE]; omega)

/-! ### An upstream port goes down (R428, R430) -/

/-- The registers that say which port leads to which VCS lie beside those that a link sets as it goes down. -/
theorem vcsOfPort_of_fell (h : regsKept s t (fellRegs p)) (j : Nat) : vcsOfPort t j = vcsOfPort s j := by
  have hf : ∀ n, n < 64 → (R.RTE_VCS_CFG n).addr ∉ fellRegs p := fun n hn => by
    simp only [fellRegs, R.RTE_VCS_CFG, R.PORT_LINK_STATUS, R.RTE_PATH_CMD, R.MGT_DONE, R.BRK_LOSS, List.mem_cons,
      List.not_mem_nil, or_false]
    omega
  unfold vcsOfPort
  refine List.find?_congr fun n hn => ?_
  have hn' := hf n (List.mem_range.1 hn)
  simp only [State.bit, h.get (f := F.RTE_VCS_CFG_PRESENT n) hn', h.get (f := F.RTE_VCS_CFG_UPORT n) hn']

theorem vcsOfPort_lt (h : vcsOfPort s p = some v) : v < 64 := List.mem_range.1 (List.mem_of_find?_eq_some h)

/-- The link of an upstream port down in Detect, before what follows from it. -/
def fallen (s : State) (p : Nat) : State := pcieDown s p 0 .none

theorem fallen_eq (s : State) (p : Nat) : fallen s p = downReported (setWait (linkShownDown s p 0) p .none) p := rfl

theorem fallen_spec (hp : p < 96) (s : State) : ltssm (fallen s p) p = 0 ∧ ((fallen s p).px p).up = false
    ∧ ((s.px p).up = true → 320 + 8 * p ∈ srcs (fallen s p)) := by
  obtain ⟨hup, _, hget⟩ := downReported_spec hp (setWait (linkShownDown s p 0) p .none)
  rw [fallen_eq]
  refine ⟨?_, hup, fun h => ?_⟩
  · rw [ltssm, hget (ψ := F.PORT_LINK_STATUS_LTSSM) ⟨fun _ => rfl, rfl⟩, setWait_get]
    exact (linkShownDown_get s p 0).1
  · have h' : ((setWait (linkShownDown s p 0) p .none).px p).up = true := (setWait_up ..).trans h
    rw [downReported, if_pos h', srcs, raise_srcs]
    simp

theorem upstreamDown_fallen (hr : role s p = 1) (hp : p < 128) (hv : vcsOfPort s p = some v) :
    upstreamDown (linkDown s p 0 .none) p = vcsReset (autoRemove (fallen s p) p) v := by
  have hpcie : isPcie s p = true := by simp [isPcie, hr]
  have hfell : LinkFell p s (fallen s p) := (LinkFell.refl p s).pcieDown 0 .none
  have hrole : (fallen s p).get (F.PORT_CFG_ROLE p) = 1 := (hfell.regs.get (by
    simp only [fellRegs, F.PORT_CFG_ROLE, R.PORT_CFG, R.PORT_LINK_STATUS, R.RTE_PATH_CMD, R.MGT_DONE, R.BRK_LOSS, List.mem_cons,
      List.not_mem_nil, or_false]
    omega)).trans hr
  rw [linkDown_of_isPcie hpcie]
  change upstreamDown (fallen s p) p = _
  rw [upstreamDown, if_pos hrole, vcsOfPort_of_fell hfell.regs, hv]

/-- An upstream port whose link goes down stands in Detect, and its VCS is in reset. -/
theorem upstreamDown_spec (hr : role s p = 1) (hp : p < 96) (hv : vcsOfPort s p = some v) {t : State}
    (ht : t = upstreamDown (linkDown s p 0 .none) p) :
    ltssm t p = 0 ∧ (t.px p).up = false ∧ t.hasBit F.CRP_VCS_RESET_ACTIVE v = true
    ∧ ((s.px p).up = true → 320 + 8 * p ∈ srcs t) ∧ t.get F.CRP_PERST_ASSERTED = s.get F.CRP_PERST_ASSERTED := by
  rw [upstreamDown_fallen hr (by omega) hv] at ht
  obtain ⟨hltssm, hup, hsrc⟩ := fallen_spec hp s
  have hfell : LinkFell p s (fallen s p) := (LinkFell.refl p s).pcieDown 0 .none
  have hauto := Spared.of_portsStay p ((PortsStay.refl (fallen s p)).autoRemove (p := p))
  have hcfg : ∀ f : Fld, f.reg = R.PORT_CFG p → f.reg.addr ∉ fellRegs p := fun f hf => by
    simp only [hf, fellRegs, R.PORT_CFG, R.PORT_LINK_STATUS, R.RTE_PATH_CMD, R.MGT_DONE, R.BRK_LOSS, List.mem_cons,
      List.not_mem_nil, or_false]
    omega
  have hrole : role (autoRemove (fallen s p) p) p = 1 := (hauto.role (by omega)).trans ((hfell.regs.get (hcfg _ rfl)).trans hr)
  have hperst : F.CRP_PERST_ASSERTED.reg.addr ∉ fellRegs p := by
    simp only [fellRegs, F.CRP_PERST_ASSERTED, R.CRP_PERST, R.PORT_LINK_STATUS, R.RTE_PATH_CMD, R.MGT_DONE, R.BRK_LOSS,
      List.mem_cons, List.not_mem_nil, or_false]
    omega
  obtain ⟨hact, hpx, hl, hs, hcrp⟩ := vcsReset_spec (s := autoRemove (fallen s p) p) (p := p) (v := v)
    (by rw [hrole]; decide) (by omega) (vcsOfPort_lt hv)
  rw [ht]
  refine ⟨hl.trans ((hauto.ltssm (by omega)).trans hltssm), by rw [hpx, hauto.px, hup], hact, fun h => ?_, ?_⟩
  · exact hs.subset (hauto.srcs.subset (hsrc h))
  · exact (hcrp _ (by decide) (by decide)).trans ((hauto.getCrp (by decide)).trans (hfell.regs.get hperst))

/-! ### PERST_N, Hot Reset and their end (R428, R430) -/

theorem perstRelease_spec (s : State) (i : Fin 32) : runs (.perstRelease i) s fun t =>
    t.hasBit F.CRP_PERST_ASSERTED i = false ∧ onlyRegs s t ∧ regsKept s t [R.CRP_PERST.addr] :=
  ⟨_, rfl, State.hasBit_clrBit_self _ _ _ (by decide) (by decide), rfl, regsKept_clrBit (regsKept_refl s _) (by decide)⟩

/-- The ports that an input resets do not depend on the input. -/
theorem perstPorts_setBit (s : State) (i j : Nat) : perstPorts (s.setBit F.CRP_PERST_ASSERTED i) j = perstPorts s j := by
  have h : ∀ f : Fld, 0x42000000 ≤ f.reg.addr → (s.setBit F.CRP_PERST_ASSERTED i).get f = s.get f := fun f hf =>
    State.get_put_reg _ _ _ _ (by
      simp only [F.CRP_PERST_ASSERTED, R.CRP_PERST]
      omega)
  unfold perstPorts
  refine List.filter_congr fun p _ => ?_
  rw [h (F.PORT_CFG_ROLE p) (by simp only [F.PORT_CFG_ROLE, R.PORT_CFG]; omega),
    h (F.PORT_CFG_PERST p) (by simp only [F.PORT_CFG_PERST, R.PORT_CFG]; omega)]

theorem perstSet (s : State) (i : Fin 32) : (s.setBit F.CRP_PERST_ASSERTED i).hasBit F.CRP_PERST_ASSERTED i = true :=
  State.hasBit_setBit_self _ _ _ (by decide) (by simp only [F.CRP_PERST_ASSERTED]; omega)

theorem exec_perstAssert (s : State) (i : Fin 32) : exec (.perstAssert i) s = .next ((perstPorts s i).foldl
    (fun s p => upstreamDown (linkDown s p 0 .none) p) (s.setBit F.CRP_PERST_ASSERTED i)) := by
  rw [← perstPorts_setBit s i i]
  rfl

theorem perstAssert_none {i : Fin 32} (h : perstPorts s i = []) : runs (.perstAssert i) s fun t =>
    t.hasBit F.CRP_PERST_ASSERTED i = true ∧ onlyRegs s t ∧ regsKept s t [R.CRP_PERST.addr] := by
  have hexec := exec_perstAssert s i
  rw [h] at hexec
  exact ⟨_, hexec, perstSet s i, rfl, regsKept_setBit (regsKept_refl s _) (by decide)⟩

theorem role_of_perstPorts {i : Nat} (h : p ∈ perstPorts s i) : role s p = 1 := by
  have := (List.mem_filter.1 h).2
  simp only [Bool.and_eq_true, beq_iff_eq] at this
  exact this.1

theorem perstAssert_one {i : Fin 32} (hp : p < 96) (h : perstPorts s i = [p]) (hv : vcsOfPort s p = some v) :
    runs (.perstAssert i) s fun t => t.hasBit F.CRP_PERST_ASSERTED i = true ∧ t.hasBit F.CRP_VCS_RESET_ACTIVE v = true
      ∧ ltssm t p = 0 ∧ (t.px p).up = false := by
  have hexec := exec_perstAssert s i
  rw [h] at hexec
  have hrole : role (s.setBit F.CRP_PERST_ASSERTED i) p = 1 := role_of_perstPorts (i := i) (by
    rw [perstPorts_setBit, h]
    exact List.mem_singleton_self p)
  have hvcs : vcsOfPort (s.setBit F.CRP_PERST_ASSERTED i) p = some v := by
    rw [← hv]
    refine List.find?_congr fun n _ => ?_
    have hne : (R.RTE_VCS_CFG n).addr ≠ R.CRP_PERST.addr := by
      simp only [R.RTE_VCS_CFG, R.CRP_PERST]
      omega
    have hget : ∀ f : Fld, f.reg = R.RTE_VCS_CFG n → (s.setBit F.CRP_PERST_ASSERTED i).get f = s.get f := fun f hf =>
      State.get_put_reg _ _ _ _ (by rw [hf]; exact hne)
    simp only [State.bit, hget (F.RTE_VCS_CFG_PRESENT n) rfl, hget (F.RTE_VCS_CFG_UPORT n) rfl]
  obtain ⟨hltssm, hup, hact, _, hperst⟩ := upstreamDown_spec hrole hp hvcs rfl
  exact ⟨_, hexec, (State.hasBit_of_get hperst i).trans (perstSet s i), hact, hltssm, hup⟩

theorem hotReset_spec {p : Fin 96} (hr : role s p = 1) (hup : (s.px p).up = true) (hv : vcsOfPort s p = some v) :
    runs (.hotReset p) s fun t => ltssm t p = 0 ∧ (t.px p).up = false ∧ t.hasBit F.CRP_VCS_RESET_ACTIVE v = true
      ∧ 320 + 8 * p.val ∈ srcs t := by
  have hexec : exec (.hotReset p) s = .next (upstreamDown (linkDown s p 0 .none) p) :=
    congrArg Host.Outcome.next (if_pos ⟨hr, hup⟩)
  obtain ⟨hltssm, hdown, hact, hsrc, _⟩ := upstreamDown_spec hr p.isLt hv rfl
  exact ⟨_, hexec, hltssm, hdown, hact, hsrc hup⟩

theorem vcsResetComplete_spec {v : Fin 64} (hc : vcsCauseEnded s v = true)
    (hs : ∀ n, n < 1024 → fnIn s n v = true → (s.fx n).shut = none) : runs (.vcsResetComplete v) s fun t =>
      t.hasBit F.CRP_VCS_RESET_ACTIVE v = false ∧ onlyRegs s t ∧ regsKept s t [R.CRP_VCS_RESET.addr] := by
  have hnone : (fnsWhere fun n => fnIn s n v && (s.fx n).shut.isSome) = [] := by
    refine List.filter_eq_nil_iff.2 fun n hn => ?_
    cases hin : fnIn s n v with
    | false => simp
    | true => simp [hs n (List.mem_range.1 hn) hin]
  have hexec : exec (.vcsResetComplete v) s = .next (s.clrBit F.CRP_VCS_RESET_ACTIVE v) := by
    change execVcsResetComplete v s = _
    rw [execVcsResetComplete, hc, hnone]
    rfl
  exact ⟨_, hexec, State.hasBit_clrBit_self _ _ _ (by decide) (by decide), rfl, regsKept_clrBit (regsKept_refl s _) (by decide)⟩

theorem vcsResetComplete_idles {v : Fin 64} (hc : vcsCauseEnded s v = false) : idles (.vcsResetComplete v) s := by
  change execVcsResetComplete v s = _
  rw [execVcsResetComplete, hc, Bool.false_and, if_neg Bool.false_ne_true]

end Sys2Proof.Machine
end

section
/-! The record that Brake makes of the loss of SYSCLK (R349 to R356, R423), and O57. -/

namespace Sys2Proof.Machine

variable {s t : State}

/-! ### Which set of reactions is taken (R352) -/

/-- Brake once an event of SRC 56 is counted, before its window. -/
def counted (s : State) : State :=
  srcSet ((s.inc (F.BRK_CNT_TOTAL 56)).put F.BRK_STATUS_LAST_SRC 56) F.BRK_PEND_SRC 56

theorem regsKept_counted (s : State) :
    regsKept s (counted s) [(R.BRK_CNT 56).addr, R.BRK_STATUS.addr, (R.BRK_PEND 0).addr] :=
  regsKept_put (regsKept_put (regsKept_put (regsKept_refl s _) (by decide)) (by decide)) (by decide)

theorem counted_winCount (s : State) : (counted s).get (F.BRK_CNT_WIN_COUNT 56) = s.get (F.BRK_CNT_WIN_COUNT 56) := by
  unfold counted srcSet State.setBit State.inc
  rw [State.get_put_reg _ _ _ _ (by decide), State.get_put_reg _ _ _ _ (by decide),
    State.get_put_bits _ (F.BRK_CNT_TOTAL 56) (F.BRK_CNT_WIN_COUNT 56) _ rfl (by decide) (by decide) (by decide)]

/-- An event of SRC 56 counted in its window. -/
def winCounted (s : State) : State :=
  if s.brk.opened.contains 56 then s.inc (F.BRK_CNT_WIN_COUNT 56)
  else (s.put (F.BRK_CNT_WIN_COUNT 56) 1).modBrk fun b => { b with opened := b.opened ++ [56] }

theorem windowCount_eq (h : s.get (F.BRK_REACT_WINDOW 56) ≠ 0) : windowCount s 56 =
    if (winCounted s).get (F.BRK_REACT_THRESH 56) ≤ (winCounted s).get (F.BRK_CNT_WIN_COUNT 56) then
      srcSet (winCounted s) F.BRK_SEV_SRC 56 else winCounted s := if_neg h

theorem regsKept_winCounted (s : State) : regsKept s (winCounted s) [(R.BRK_CNT 56).addr] := by
  unfold winCounted
  split
  · exact regsKept_put (regsKept_refl s _) (by decide)
  · exact regsKept_put (regsKept_refl s _) (by decide)

theorem winCounted_get (s : State) : (winCounted s).get (F.BRK_CNT_WIN_COUNT 56) = nextCount s 56 := by
  unfold winCounted nextCount
  split
  · exact State.get_inc_self _ _ _ (by decide) (by decide)
  · rw [modBrk_get]
    exact (State.get_put_self _ _ _ (by decide) (by decide)).trans (by decide)

theorem regsKept_windowCount (s : State) : regsKept s (windowCount s 56) [(R.BRK_CNT 56).addr, (R.BRK_SEV 0).addr] := by
  by_cases h : s.get (F.BRK_REACT_WINDOW 56) = 0
  · rw [windowCount, if_pos h]
    exact regsKept_refl s _
  · have hw := regsKept.trans (regsKept_refl s [(R.BRK_CNT 56).addr, (R.BRK_SEV 0).addr]) (regsKept_winCounted s) (by decide)
    rw [windowCount_eq h]
    split
    · exact regsKept_put hw (by decide)
    · exact hw

theorem nextCount_counted (s : State) : nextCount (counted s) 56 = nextCount s 56 := by
  have ho : (counted s).brk.opened = s.brk.opened := rfl
  rw [nextCount, ho, counted_winCount]
  rfl

/-- The severe bit of SRC 56 is set once the count has come to the threshold. -/
theorem srcBit_windowCount (h : s.get (F.BRK_REACT_WINDOW 56) ≠ 0) : srcBit (windowCount (counted s) 56) F.BRK_SEV_SRC 56
    = (srcBit s F.BRK_SEV_SRC 56 || decide (s.get (F.BRK_REACT_THRESH 56) ≤ nextCount s 56)) := by
  have hk := regsKept_counted s
  have hkw := regsKept_winCounted (counted s)
  have hsev : srcBit (winCounted (counted s)) F.BRK_SEV_SRC 56 = srcBit s F.BRK_SEV_SRC 56 :=
    State.hasBit_of_get ((hkw.get (by decide)).trans (hk.get (by decide))) 56
  rw [windowCount_eq (by rw [hk.get (by decide)]; exact h), winCounted_get, nextCount_counted, hkw.get (by decide),
    hk.get (by decide)]
  split
  · next hle =>
    simp only [hle, decide_true, Bool.or_true]
    exact State.hasBit_setBit_self _ (F.BRK_SEV_SRC 0) 56 (by decide) (by decide)
  · next hle => simp only [hle, decide_false, Bool.or_false, hsev]

/-- The set that an event of SRC 56 takes: the severe one once its window has come to the threshold. -/
theorem set_windowCount (s : State) :
    (windowCount (counted s) 56).get (if srcBit (windowCount (counted s) 56) F.BRK_SEV_SRC 56
      && (windowCount (counted s) 56).get (F.BRK_REACT_WINDOW 56) != 0 then F.BRK_REACT_SEVERE 56 else F.BRK_REACT_NORMAL 56)
      = nextSet s 56 := by
  have hget : ∀ f : Fld, f.reg = R.BRK_REACT 56 → (windowCount (counted s) 56).get f = s.get f := fun f hf =>
    ((regsKept_windowCount _).get (by rw [hf]; decide)).trans ((regsKept_counted s).get (by rw [hf]; decide))
  rw [hget (F.BRK_REACT_WINDOW 56) rfl, nextSet]
  by_cases h : s.get (F.BRK_REACT_WINDOW 56) = 0
  · rw [if_neg (by simp [h]), if_neg (by simp [h]), hget _ rfl]
  · have hreach : reaches s 56 = decide (s.get (F.BRK_REACT_THRESH 56) ≤ nextCount s 56) := by simp [reaches, h]
    rw [srcBit_windowCount h, hreach]
    by_cases hs : srcBit s F.BRK_SEV_SRC 56 = true ∨ decide (s.get (F.BRK_REACT_THRESH 56) ≤ nextCount s 56) = true
    · rw [if_pos (by simpa [h] using hs), if_pos ⟨h, hs⟩, hget _ rfl]
    · rw [if_neg (by simpa [h] using hs), if_neg fun hc => hs hc.2, hget _ rfl]

/-! ### The record (R350, R351) -/

theorem hist_foldl {β : Type} {f : State → β → State} (hf : ∀ s x, (f s x).brk.hist = s.brk.hist) (l : List β) (s : State) :
    (l.foldl f s).brk.hist = s.brk.hist := foldl_keep (fun s => s.brk.hist) f hf l s

theorem hist_raise (s : State) (n : Nat) (d : Detail) : (s.raise n d).brk.hist = s.brk.hist := by
  unfold State.raise
  split
  · rfl
  · rfl

theorem hist_ite {c : Prop} [Decidable c] {u : State} {l : List Bytes} (ht : t.brk.hist = l) (hu : u.brk.hist = l) :
    (if c then t else u).brk.hist = l := by
  split
  · exact ht
  · exact hu

theorem hist_nmiAll (s : State) : (nmiAll s).brk.hist = s.brk.hist := hist_foldl (by exact fun _ _ => rfl) _ s

theorem hist_pinAssert (s : State) (k src : Nat) : (pinAssert s k src).brk.hist = s.brk.hist := hist_ite rfl rfl

theorem hist_hostSignal (s : State) (unc : Bool) : (hostSignal s unc).brk.hist = s.brk.hist := by
  refine hist_foldl (fun s v => ?_) _ s
  exact hist_ite rfl (hist_ite (hist_raise ..) (hist_raise ..))

theorem hist_chipRequest (s : State) (cause : Fld) (src : Nat) : (chipRequest s cause src).brk.hist = s.brk.hist := by
  unfold chipRequest
  extract_lets u
  exact hist_ite rfl rfl

theorem hist_histPut (r : Bytes) (h : s.brk.hist.length < 1024) : (histPut s r).brk.hist = s.brk.hist ++ [r] := by
  rw [histPut, if_pos h]
  rfl

theorem actsTaken_log (s : State) {n set : Nat} (hn : n ≠ 2) : (actsTaken s n set).testBit 0 = set.testBit 0 := by
  unfold actsTaken
  extract_lets on chip pin log
  have hlog : log = set.testBit 0 := by simp [log, on, hn]
  have heven : ∀ (c : Bool) (k : Nat), k % 2 = 0 → (if c then k else 0) % 2 = 0 := fun c k hk => by
    cases c
    · rfl
    · exact hk
  have h1 := heven (on 1) 2 rfl
  have h2 := heven (on 2) 4 rfl
  have h3 := heven (on 3) 8 rfl
  have h4 := heven (on 4) 16 rfl
  have h5 := heven (on 5 && blockTaken s n) 32 rfl
  have h6 := heven chip 64 rfl
  have h7 := heven pin 128 rfl
  rw [hlog, Nat.testBit_zero]
  cases set.testBit 0
  · simp only [Bool.false_eq_true, if_false, decide_eq_false_iff_not]
    omega
  · simp only [if_true, decide_eq_true_eq]
    omega

/-- A reaction with LOG makes its record, whatever else it does. -/
theorem hist_react {e : Ev} {sev : Bool} {set pin cnt : Nat} (hn : e.src ≠ 2) (hblock : blockOf e.src = none)
    (hlog : set.testBit 0 = true) (hlen : s.brk.hist.length < 1024) :
    (react s e sev set pin cnt).brk.hist = s.brk.hist ++ [record s e sev (actsTaken s e.src set) cnt] := by
  unfold react
  extract_lets n acts r s1 s2 s3 s4 s5 fan s6 s7 s8 s9 s10 s11
  have hacts : acts.testBit 0 = true := (actsTaken_log s hn).trans hlog
  have h1 : s1.brk.hist = s.brk.hist := hist_ite rfl rfl
  have h2 : s2.brk.hist = s.brk.hist := hist_ite h1 h1
  have h3 : s3.brk.hist = s.brk.hist := hist_ite ((hist_nmiAll _).trans h2) h2
  have h4 : s4.brk.hist = s.brk.hist := hist_ite ((hist_pinAssert ..).trans h3) h3
  have h5 : s5.brk.hist = s.brk.hist := hist_ite ((hist_pinAssert ..).trans h4) h4
  have h6 : s6.brk.hist = s.brk.hist := hist_ite h5 h5
  have h7 : s7.brk.hist = s.brk.hist := hist_ite ((hist_foldl (by exact fun _ _ => rfl) _ _).trans h6) h6
  have h8 : s8.brk.hist = s.brk.hist ++ [r] := by
    have he : s8 = histPut s7 r := if_pos hacts
    rw [he, hist_histPut r (by rw [h7]; exact hlen), h7]
  have h9 : s9.brk.hist = s.brk.hist ++ [r] := hist_ite ((hist_hostSignal ..).trans h8) h8
  have h10 : s10.brk.hist = s.brk.hist ++ [r] := hist_ite ((hist_hostSignal ..).trans h9) h9
  have h11 : s11.brk.hist = s.brk.hist ++ [r] := by
    have hb : blockReset s10 n = s10 := by
      simp only [blockReset, n, hblock]
    exact hist_ite (by rw [hb]; exact h10) h10
  exact hist_ite ((hist_chipRequest ..).trans h11) h11

/-- A record names its source in bits 0 to 11 of its third half-word. -/
theorem leN_record (s : State) (e : Ev) (sev : Bool) (acts cnt : Nat) (hsrc : e.src < 4096) :
    leN (record s e sev acts cnt) 8 2 % 4096 = e.src := by
  have hw : leN (record s e sev acts cnt) 8 2
      = (e.src % 4096 + (if sev then 4096 else 0) + (if s.brk.ovf then 8192 else 0)) % 65536 := by
    simp only [record, leBytes, List.cons_append, List.nil_append, leN, u8, List.getD_cons_succ, List.getD_cons_zero,
      BitVec.toNat_ofNat]
    omega
  have hsev : (if sev then 4096 else 0) % 4096 = 0 := by
    cases sev
    · rfl
    · rfl
  have hovf : (if s.brk.ovf then 8192 else 0) % 4096 = 0 := by
    cases s.brk.ovf
    · rfl
    · rfl
  omega

/-- An event of SRC 56 that Brake accepts, with LOG in its set of reactions, is recorded. -/
theorem hist_brkAccept (hb : s.brk.broken.contains 56 = false) (hlen : s.brk.hist.length < 1024)
    (hlog : (nextSet s 56).testBit 0 = true) :
    ∃ r, (brkAccept s ⟨56, .unit⟩ .none).brk.hist = s.brk.hist ++ [r] ∧ leN r 8 2 % 4096 = 56 := by
  obtain ⟨w, hw⟩ : ∃ w, w = windowCount (counted s) 56 := ⟨_, rfl⟩
  have hhist : w.brk.hist = s.brk.hist := by
    rw [hw]
    exact hist_ite rfl (hist_ite (hist_ite rfl rfl) (hist_ite rfl rfl))
  have hset := set_windowCount s
  rw [← hw] at hset
  have he : brkAccept s ⟨56, .unit⟩ .none = react w ⟨56, .unit⟩ (srcBit w F.BRK_SEV_SRC 56 && w.get (F.BRK_REACT_WINDOW 56) != 0)
      (nextSet s 56) (w.get (F.BRK_REACT_PIN_SEL 56)) (w.get (F.BRK_CNT_WIN_COUNT 56)) := by
    rw [← hset, hw]
    have hbroken : (counted s).brk.broken.contains 56 = false := hb
    exact if_neg fun h => Bool.false_ne_true (hbroken.symm.trans h)
  rw [he, hist_react (by decide) rfl hlog (by rw [hhist]; exact hlen), hhist]
  exact ⟨_, rfl, leN_record _ _ _ _ _ (by decide)⟩

/-! ### SYSCLK_LOSS (R423) -/

theorem sysclkLoss_spec (s : State) (pll : Bool) : runs (.sysclkLoss pll) s fun t =>
    t.pwr.held = true ∧ t.pwr.sysLost = true ∧ t.bit F.CRP_CLK_SYSCLK_LOST = true ∧ t.bit F.CRP_CLK_HOLDOVER = true
    ∧ t.bit F.CRP_RESET_CAUSE_SYSCLK_LOSS = true ∧ t.spd = [] ∧ t.mill = {} ∧ t.coh = {}
    ∧ t.bit (if pll then F.CRP_STATUS_PLL_LOCK else F.CRP_STATUS_SYSCLK_OK) = false
    ∧ (s.pwr.held = false → s.brk.broken.contains 56 = false → s.brk.hist.length < 1023 → (nextSet s 56).testBit 0 = true →
      ∃ r : Bytes, s.brk.hist ++ [r] <+: t.brk.hist ∧ leN r 8 2 % 4096 = 56) := by
  obtain ⟨b, hb⟩ : ∃ b, b = if s.pwr.held then s else brkAccept s ⟨56, .unit⟩ .none := ⟨_, rfl⟩
  obtain ⟨c, hc⟩ : ∃ c, c = (unitsHold b).put (if pll then F.CRP_STATUS_PLL_LOCK else F.CRP_STATUS_SYSCLK_OK) 0 := ⟨_, rfl⟩
  obtain ⟨u, hu⟩ : ∃ u, u = (c.put F.CRP_CLK_SYSCLK_LOST 1).put F.CRP_CLK_HOLDOVER 1 := ⟨_, rfl⟩
  have hexec : exec (.sysclkLoss pll) s =
      .next ((holdCause u F.CRP_RESET_CAUSE_SYSCLK_LOSS).modPwr fun p => { p with sysLost := true }) := by
    rw [hu, hc, hb]
    cases pll
    · rfl
    · rfl
  have honly : onlyRegs (unitsHold b) u := by
    rw [hu, hc]
    exact onlyRegs_put (onlyRegs_put (onlyRegs_put (onlyRegs_refl _)))
  have hclk : regsKept c u [R.CRP_CLK.addr] := by
    rw [hu]
    exact regsKept_put (regsKept_put (regsKept_refl c _) (by decide)) (by decide)
  obtain ⟨hcause, hregs, _⟩ := holdCause_spec u (cause := F.CRP_RESET_CAUSE_SYSCLK_LOSS) rfl (by decide) (by decide)
  obtain ⟨hheld, hspd, hmill, hcoh, _, hhist⟩ := holdCause_units honly F.CRP_RESET_CAUSE_SYSCLK_LOSS
  have hbit : ∀ f : Fld, f.reg.addr ≠ R.CRP_RESET_CAUSE.addr →
      ((holdCause u F.CRP_RESET_CAUSE_SYSCLK_LOSS).modPwr fun p => { p with sysLost := true }).bit f = u.bit f := fun f hf =>
    (modPwr_bit ..).trans (congrArg (· != 0) (hregs.get (by simpa using hf)))
  refine ⟨_, hexec, hheld, rfl, ?_, ?_, hcause, hspd, hmill, hcoh, ?_, fun hup hbroken hlen hlog => ?_⟩
  · rw [hbit _ (by decide), hu, State.bit, State.get_put_bits _ F.CRP_CLK_HOLDOVER F.CRP_CLK_SYSCLK_LOST _ rfl (by decide)
      (by decide) (by decide)]
    exact State.bit_put_self (f := F.CRP_CLK_SYSCLK_LOST) 1 (by decide) (by decide)
  · rw [hbit _ (by decide), hu]
    exact State.bit_put_self (f := F.CRP_CLK_HOLDOVER) 1 (by decide) (by decide)
  · cases pll
    · rw [hbit _ (by decide), State.bit_of_get (hclk.get (by decide)), hc]
      exact State.bit_put_self (f := F.CRP_STATUS_SYSCLK_OK) 0 (by decide) (by decide)
    · rw [hbit _ (by decide), State.bit_of_get (hclk.get (by decide)), hc]
      exact State.bit_put_self (f := F.CRP_STATUS_PLL_LOCK) 0 (by decide) (by decide)
  · obtain ⟨r, hr, hsrc⟩ := hist_brkAccept hbroken (by omega) hlog
    have hbr : b = brkAccept s ⟨56, .unit⟩ .none := by
      rw [hb, hup]
      exact if_neg Bool.false_ne_true
    refine ⟨r, ?_, hsrc⟩
    change s.brk.hist ++ [r] <+: (holdCause u F.CRP_RESET_CAUSE_SYSCLK_LOSS).brk.hist
    rw [hhist, hbr, hr]

/-- Settles O57: the rails and clocks by their registers, the holds as resets of the units, the loss of SYSCLK by the record
that Brake makes before them, PERST_N and Hot Reset by what the fall of an upstream link and the reset of its VCS spare. -/
theorem railsClocksAndStandby : Obligations.RailsClocksAndStandby := by
  unfold Obligations.RailsClocksAndStandby
  intro s
  refine ⟨fun m => ⟨railFault_spec s m, railBack_spec s m⟩, brownOut_spec s,
    fun hb hp ht ha => ⟨brownOutEnd_spec hb hp ht ha, sysclkRestore_spec hb hp ht ha⟩, sysclkLoss_spec s, slcSupplyLoss_spec s,
    slcSupplyRestore_spec, aoclkLoss_spec s, aoclkRestore_spec s, fun up n hb hh => ⟨_, exec_avsAdjust up n hb hh, avsRequest_spec s _⟩,
    fun i => ⟨perstRelease_spec s i, perstAssert_none, fun p v hp h hv => perstAssert_one hp h hv⟩,
    fun p v hr hup hv => hotReset_spec hr hup hv, fun v => vcsResetComplete_spec, fun v => vcsResetComplete_idles,
    fun mid => ⟨standbyEnter_spec mid, standbyRefused_spec mid, fun m hm => ?_⟩⟩
  obtain ⟨hnow, hstby, honly, hregs⟩ := standbyExit_spec s
  exact ⟨_, exec_poolStandbyExit hm, hnow, hstby, honly, hregs⟩

end Sys2Proof.Machine
end

section
/-! Configuration requests, power states, the register page, the window, doorbells, HEP_FN_CFG and the queue map (R154, R227 to
R234), for O31. -/

namespace Sys2Proof.Machine

variable {s t u : State} {n q e c : Nat}

/-! ### Configuration requests of switch ports (R154, R227) -/

theorem configRequest_usp {v : Fin 64} (r : CfgReg) (h : s.bit (F.RTE_VCS_CFG_PRESENT v) = true) :
    exec (.configRequest v .usp r none) s = .next (s.out (.cfg v 0 (uspRd s v r))) := by
  change Host.Outcome.next (cfgDo s v (s.bit (F.RTE_VCS_CFG_PRESENT v)) _ _ none) = _
  rw [h]
  rfl

theorem exec_configRequest_vppb (s : State) (v : Fin 64) (k : Fin 256) (r : CfgReg) (w : Option Nat) :
    exec (.configRequest v (.vppb k) r w) s = .next (cfgDo s v
      (s.bit (F.RTE_VCS_CFG_PRESENT v) && decide (k.val < s.get (F.RTE_VCS_CFG_VPPBS v))) (vppbRd s v k r) (vppbWr s v k r) w) :=
  rfl

theorem cfgDo_absent (s : State) (v rd : Nat) (wr : Nat → State) (w : Option Nat) :
    cfgDo s v false rd wr w = s.out (.cfg v 1 0) := rfl

theorem cfgDo_read (s : State) (v rd : Nat) (wr : Nat → State) : cfgDo s v true rd wr none = s.out (.cfg v 0 rd) := rfl

theorem cfgDo_write (s : State) (v rd d : Nat) (wr : Nat → State) :
    cfgDo s v true rd wr (some d) = (wr d).out (.cfg v 0 0) := rfl

/-- A vPPB that is there answers, and takes its memory range. -/
theorem configRequest_vppb {v : Fin 64} {k : Fin 256} (r : CfgReg) (h : s.bit (F.RTE_VCS_CFG_PRESENT v) = true)
    (hk : k.val < s.get (F.RTE_VCS_CFG_VPPBS v)) :
    runs (.configRequest v (.vppb k) r none) s (fun t => t = s.out (.cfg v 0 (vppbRd s v k r)))
    ∧ ∀ d : Nat, runs (.configRequest v (.vppb k) .mem (some d)) s fun t =>
      (t.vx v k).mem = rangeOf d ∧ t.outs = s.outs ++ [.cfg v 0 0] ∧ t.regs = s.regs := by
  have hok : (s.bit (F.RTE_VCS_CFG_PRESENT v) && decide (k.val < s.get (F.RTE_VCS_CFG_VPPBS v))) = true := by simp [h, hk]
  refine ⟨⟨_, by rw [exec_configRequest_vppb, hok, cfgDo_read], rfl⟩, fun d =>
    ⟨(vppbWr s v k .mem d).out (.cfg v 0 0), by rw [exec_configRequest_vppb, hok, cfgDo_write], ?_, rfl, rfl⟩⟩
  change ((s.modVx v k fun x => { x with mem := rangeOf d }).vx v k).mem = _
  rw [modVx_vx]

theorem configRequest_noVppb {v : Fin 64} {k : Fin 256} (r : CfgReg) (h : s.get (F.RTE_VCS_CFG_VPPBS v) ≤ k.val)
    (w : Option Nat) : exec (.configRequest v (.vppb k) r w) s = .next (s.out (.cfg v 1 0)) := by
  rw [exec_configRequest_vppb, decide_eq_false (Nat.not_lt.2 h), Bool.and_false, cfgDo_absent]

/-! ### Power states of functions (R228) -/

theorem fnIn_fnHome (h : (fnVcs s n).isSome = true) : fnIn s n (fnHome s n) = true := by
  by_contra hn
  rw [fnVcs, if_neg hn] at h
  cases h

theorem fnPower_d3 (s : State) (n : Nat) (d3 : Bool) : ((fnPower s n d3).fx n).d3 = d3 := by
  unfold fnPower
  split
  · assumption
  · extract_lets s1 s2
    have h1 : (s1.fx n).d3 = d3 := by
      unfold s1
      rw [modFx_fx]
    have h2 : Quiet s1 s2 := .foldl (.refl _) fun t y hy ht => ht.pauseBit (fnChans_lt hy)
    exact ((Quiet.ite (c := d3 = true) h2 h2.msixFlush).syncFn.fns n).2.trans h1

/-- A write of the power state by the function's own VCS. -/
theorem fnCfg_pm (hv : (fnVcs s n).isSome = true) (hs : (s.fx n).shut = none)
    (hr : s.hasBit F.CRP_VCS_RESET_ACTIVE (fnHome s n) = false) (d : Nat) :
    fnCfg s (fnHome s n) n .pm (some d) = (fnCfgWr s n .pm d).out (.cfg (fnHome s n) 0 0) := by
  have hsets : (n == 0 && (CfgReg.pm == .sriovCtl) && d.testBit 0 && !(s.fx 0).vfEnable) = false := by
    rw [show (CfgReg.pm == .sriovCtl) = false from rfl]
    simp
  simp only [fnCfg, hsets, fnIn_fnHome hv, cfgHeld, hs, hr, Bool.false_and, Bool.not_true, Bool.false_eq_true, if_false,
    Option.isSome_none, Bool.or_false]

theorem fnCfgWr_pm (hvf : isVf s n = false) (d3 : Bool) : fnCfgWr s n .pm (if d3 then 3 else 0) = fnPower s n d3 := by
  cases d3 <;> simp [fnCfgWr, hvf]

/-- The power state is written, and the request completes. -/
theorem power_spec {n : Fin 1024} (hv : (fnVcs s n).isSome = true) (hs : (s.fx n).shut = none)
    (hr : s.hasBit F.CRP_VCS_RESET_ACTIVE (fnHome s n) = false) (hvf : isVf s n = false) (d3 : Bool) :
    runs (if d3 then .d3hotEnter n else .d0Return n) s fun t =>
      (t.fx n).d3 = d3 ∧ t.outs.getLast? = some (.cfg (fnHome s n) 0 0) := by
  have he : exec (if d3 then .d3hotEnter n else .d0Return n) s =
      .next ((fnPower s n d3).out (.cfg (fnHome s n) 0 0)) := by
    rw [← fnCfgWr_pm hvf, ← fnCfg_pm hv hs hr]
    cases d3
    · rfl
    · rfl
  exact ⟨_, he, fnPower_d3 s n d3, List.getLast?_concat ..⟩

/-! ### HEP_FN_CFG (R227, R234) -/

/-- Does a row hold no address in [lo, hi)? -/
def RegRow.apart (lo hi : Nat) (r : RegRow) : Bool :=
  decide (hi ≤ r.base) || match r.dims with
    | [] => decide (r.base + 8 ≤ lo)
    | (k, st) :: _ => decide (0 < st) && decide (r.base + k * st ≤ lo)

theorem rowFind_none {lo hi a : Nat} {r : RegRow} (h : r.apart lo hi = true) (hlo : lo ≤ a) (hhi : a < hi) :
    rowFind a r = none := by
  unfold rowFind
  split
  · rfl
  · next hb =>
    have hw : (if r.wide then 8 else 4) ≤ 8 := by split <;> omega
    unfold RegRow.apart at h
    cases hd : r.dims with
    | nil =>
      simp only [hd, Bool.or_eq_true, decide_eq_true_eq] at h
      rw [dimFind, if_neg (by omega)]
      rfl
    | cons x l =>
      obtain ⟨k, st⟩ := x
      simp only [hd, Bool.or_eq_true, Bool.and_eq_true, decide_eq_true_eq] at h
      obtain ⟨hst, hend⟩ := h.resolve_left (by omega)
      rw [dimFind, if_neg fun hk => absurd (Nat.lt_mul_of_div_lt hk hst) (by rw [Nat.mul_comm] at hend; omega)]
      rfl

/-- The fields of HEP_FN_CFG. -/
def fnCfgFlds : List FRow :=
  [⟨63, 63, .rw⟩, ⟨62, 57, .rw⟩, ⟨56, 49, .rw⟩, ⟨47, 32, .rw⟩, ⟨31, 25, .rw⟩, ⟨24, 18, .rw⟩, ⟨13, 0, .rw⟩]

/-- The row of HEP_FN_CFG. -/
def fnCfgRow : RegRow := ⟨0x49008000, [(1024, 0x20)], true, fun _ => 0x0#64, fnCfgFlds⟩

/-- HEP_FN_CFG is the first row that reaches its addresses. -/
theorem hasFlds_fnCfg (n : Fin 1024) : hasFlds (R.HEP_FN_CFG n) fnCfgFlds := by
  have hrows : regRows = regRows.take 124 ++ fnCfgRow :: regRows.drop 125 := rfl
  have hbefore : ((regRows.take 124).all (RegRow.apart 0x49008000 0x49010000)) = true := by decide
  refine ⟨fnCfgRow, List.findSome?_eq_some_iff.2 ⟨_, _, _, hrows, ?_, fun r hr => ?_⟩, rfl⟩
  · have hn := n.isLt
    simp only [rowFind, fnCfgRow, dimFind, R.HEP_FN_CFG]
    rw [if_neg (by omega), if_pos (by omega), if_pos (by simp)]
    simp [Nat.mul_comm]
  · exact rowFind_none (List.all_eq_true.1 hbefore r hr) (by simp only [R.HEP_FN_CFG]; omega)
      (by simp only [R.HEP_FN_CFG]; omega)

theorem quietAddr_HEP_FN_CFG (n : Fin 1024) : quietAddr (R.HEP_FN_CFG n).addr := by
  simp only [quietAddr, R.HEP_FN_CFG]
  omega

/-- What follows a write of HEP_FN_CFG keeps the registers of the functions' configuration. -/
theorem wrFnCfg_calm {w : Wr} (hst : fnState s n ≤ 1) (hok : fnCfgOk s n w = true) :
    Calm (s.writeReg (R.HEP_FN_CFG n) w) (wrFnCfg n w s) := by
  unfold wrFnCfg
  rw [if_neg (by omega), hok, if_neg (by simp)]
  extract_lets was u
  split
  · exact calm_shutStart ..
  · exact ((Quiet.refl u).fnPass).toCalm

theorem fnCfgWrite_taken {mid : Mid} {n : Fin 1024} {v : BitVec 64} (hst : fnState s n ≤ 1)
    (hok : fnCfgOk s n (wrFull mid true v) = true) : runs (.fnCfgWrite mid n v) s fun t =>
      t.get (F.HEP_FN_CFG_EXPORT n) = bitsGet v 63 63 ∧ t.get (F.HEP_FN_CFG_VCS n) = bitsGet v 62 57
      ∧ t.get (F.HEP_FN_CFG_SLOT n) = bitsGet v 56 49 ∧ fnShare t n = bitsGet v 47 32
      ∧ t.get (F.HEP_FN_CFG_QCOUNT n) = bitsGet v 31 25 ∧ t.get (F.HEP_FN_CFG_VEC_COUNT n) = bitsGet v 24 18
      ∧ t.get (F.HEP_FN_CFG_VEC_BASE n) = bitsGet v 13 0 := by
  have hcalm := wrFnCfg_calm hst hok
  have hne : (R.HEP_FN_CFG n).addr ≠ R.BRK_LOSS.addr := by
    simp only [R.HEP_FN_CFG, R.BRK_LOSS]
    omega
  have hget : ∀ hi lo : Nat, (⟨hi, lo, .rw⟩ : FRow) ∈ fnCfgFlds → hi < 64 →
      (wrFnCfg n (wrFull mid true v) s).get ⟨R.HEP_FN_CFG n, hi, lo⟩ = bitsGet v hi lo := fun hi lo hm hhi =>
    (hcalm.get _ (quietAddr_HEP_FN_CFG n)).trans
      (get_writeReg_full (wide := true) (hasFlds_fnCfg n) hne (by decide) hm hhi mid v)
  exact ⟨_, rfl, hget _ _ (by decide) (by decide), hget _ _ (by decide) (by decide), hget _ _ (by decide) (by decide),
    hget _ _ (by decide) (by decide), hget _ _ (by decide) (by decide), hget _ _ (by decide) (by decide),
    hget _ _ (by decide) (by decide)⟩

theorem fnCfgWrite_refused {mid : Mid} {n : Fin 1024} {v : BitVec 64} (hst : fnState s n ≤ 1)
    (hok : fnCfgOk s n (wrFull mid true v) = false) : runs (.fnCfgWrite mid n v) s fun t =>
      srcs t = srcs s ++ [1] ∧ regsKept s t [R.BRK_LOSS.addr] ∧ onlyRegsEvents s t := by
  have he : exec (.fnCfgWrite mid n v) s = .next (s.refuse (R.HEP_FN_CFG n).addr mid 8) := by
    change Host.Outcome.next (wrFnCfg n (wrFull mid true v) s) = _
    rw [wrFnCfg, if_neg (by omega), hok, Bool.not_false, if_pos rfl]
    rfl
  exact ⟨_, he, refuse_srcs .., regsKept_raise (regsKept_refl s _) List.mem_cons_self, onlyRegsEvents_raise ..⟩

/-! ### The queue map (R232) -/

theorem onlyRegs.hep (h : onlyRegs s t) : t.hep = s.hep := by
  unfold onlyRegs at h
  simpa only using congrArg State.hep h

/-- The fields of HEP_QMAP_CMD that are not read-only. -/
def qmapCmdFlds : List FRow := [⟨31, 31, .wo⟩, ⟨30, 30, .rw⟩, ⟨15, 6, .rw⟩, ⟨5, 0, .rw⟩]

theorem hasFlds_qmapCmd : hasFlds R.HEP_QMAP_CMD qmapCmdFlds := regAt_of_flds (by decide)

/-- The device when it has taken the write of QMAP_READ or QMAP_WRITE. -/
def qmapAsked (s : State) (mid : Nat) (write : Bool) (n q : Nat) : State :=
  s.writeReg R.HEP_QMAP_CMD (qmapWr mid write n q)

section
variable {mid : Nat} {write : Bool}

theorem regsKept_qmapAsked : regsKept s (qmapAsked s mid write n q) [R.HEP_QMAP_CMD.addr] :=
  regsKept_writeReg_open hasFlds_qmapCmd (by decide)

theorem onlyRegs_qmapAsked : onlyRegs s (qmapAsked s mid write n q) := onlyRegs_writeReg_open hasFlds_qmapCmd (by decide)

theorem qmapAsked_hep : (qmapAsked s mid write n q).hep = s.hep := onlyRegs_qmapAsked.hep

/-- The word of a queue-map access. -/
theorem qmapWr_field (hn : n < 1024) (hq : q < 64) (write : Bool) :
    ∃ x, x = 2 ^ 31 + (if write then 2 ^ 30 else 0) + n * 64 + q ∧ x % 2 ^ 64 / 2 ^ 31 % 2 = 1
      ∧ x % 2 ^ 64 / 2 ^ 30 % 2 = write.toNat ∧ x % 2 ^ 64 / 2 ^ 6 % 2 ^ 10 = n ∧ x % 2 ^ 64 / 2 ^ 0 % 2 ^ 6 = q := by
  refine ⟨_, rfl, ?_, ?_, ?_, ?_⟩ <;> cases write <;> simp <;> omega

theorem wrQmapCmd_asked (hn : n < 1024) (hq : q < 64) :
    wrQmapCmd (qmapWr mid write n q) s = qmapCmd (qmapAsked s mid write n q)
    ∧ (qmapAsked s mid write n q).get F.HEP_QMAP_CMD_FN = n ∧ (qmapAsked s mid write n q).get F.HEP_QMAP_CMD_QUEUE = q
    ∧ (qmapAsked s mid write n q).bit F.HEP_QMAP_CMD_WRITE = write := by
  obtain ⟨x, hx, h31, h30, h6, h0⟩ := qmapWr_field hn hq write
  have hget : ∀ hi lo : Nat, (⟨hi, lo, .rw⟩ : FRow) ∈ qmapCmdFlds → hi < 32 →
      (qmapAsked s mid write n q).get ⟨R.HEP_QMAP_CMD, hi, lo⟩ = x % 2 ^ 64 / 2 ^ lo % 2 ^ (hi + 1 - lo) := fun hi lo hm h => by
    rw [hx]
    exact (get_writeReg_full (wide := false) hasFlds_qmapCmd (by decide) (by decide) hm h _ _).trans (bitsGet_ofNat ..)
  have hstart : (qmapWr mid write n q).sets F.HEP_QMAP_CMD_START = true := by
    refine (wrFull_sets_ofNat rfl (by decide) mid _).trans ?_
    rw [← hx, show F.HEP_QMAP_CMD_START.lo = 31 from rfl, h31]
    rfl
  refine ⟨?_, (hget 15 6 (by decide) (by decide)).trans h6, (hget 5 0 (by decide) (by decide)).trans h0, ?_⟩
  · rw [wrQmapCmd, hstart, if_pos rfl]
    rfl
  · rw [State.bit, show (qmapAsked s mid write n q).get F.HEP_QMAP_CMD_WRITE = write.toNat from
      (hget 30 30 (by decide) (by decide)).trans h30]
    cases write <;> rfl

end

/-- What the test of a function's state reads is not in HEP_QMAP_CMD. -/
theorem fnState_of_qmapCmd (h : regsKept s t [R.HEP_QMAP_CMD.addr]) (hh : t.hep = s.hep) (n : Nat) :
    fnState t n = fnState s n := by
  have hvcs : ∀ v, t.get (F.HEP_VCS_EN v) = s.get (F.HEP_VCS_EN v) := fun v =>
    h.get (by simp only [F.HEP_VCS_EN, R.HEP_VCS, R.HEP_QMAP_CMD, List.mem_singleton]; omega)
  have hcfg : ∀ hi lo, t.get ⟨R.HEP_FN_CFG n, hi, lo⟩ = s.get ⟨R.HEP_FN_CFG n, hi, lo⟩ := fun hi lo =>
    h.get (by simp only [R.HEP_FN_CFG, R.HEP_QMAP_CMD, List.mem_singleton]; omega)
  have hfx : ∀ m, t.fx m = s.fx m := fun m => by rw [State.fx, hh]; rfl
  have hpf : ∀ f : Fld, f.reg = R.HEP_PF → t.get f = s.get f := fun f hf => h.get (by rw [hf]; decide)
  have hhome : fnHome t n = fnHome s n := by
    rw [fnHome, hpf F.HEP_PF_VCS rfl, hpf F.HEP_PF_TOTAL_VFS rfl, F.HEP_FN_CFG_VCS, hcfg]
    rfl
  have hin : ∀ v, fnIn t n v = fnIn s n v := fun v => by
    simp only [fnIn, State.bit, hvcs, hfx, hpf F.HEP_PF_VCS rfl, hpf F.HEP_PF_TOTAL_VFS rfl, F.HEP_FN_CFG_EXPORT,
      F.HEP_FN_CFG_VCS, hcfg]
  have hv : fnVcs t n = fnVcs s n := by
    rw [fnVcs, hhome, hin]
    rfl
  rw [fnState, hv, fnOcc, hfx]
  rfl

theorem queueChan_hep (h : t.hep = s.hep) (n q : Nat) : queueChan t n q = queueChan s n q := by
  rw [queueChan, State.fx, h]
  rfl

section
variable {mid : Nat} (hn : n < 1024) (hcount : q < s.get (F.HEP_FN_CFG_QCOUNT n))
include hn hcount

theorem qmapAsked_count {write : Bool} : ¬ (qmapAsked s mid write n q).get (F.HEP_FN_CFG_QCOUNT n) ≤ q := by
  rw [regsKept_qmapAsked.get (by simp only [F.HEP_FN_CFG_QCOUNT, R.HEP_FN_CFG, R.HEP_QMAP_CMD, List.mem_singleton]; omega)]
  omega

end

/-- The registers of the queue map when they show an entry. -/
def qmapShown (u : State) (v e c : Nat) : State :=
  (((u.put F.HEP_QMAP_CMD_RESULT 0).put F.HEP_QMAP_DATA_VALID v).put F.HEP_QMAP_DATA_ENGINE e).put F.HEP_QMAP_DATA_CHANNEL c

theorem qmapCmd_read (hfn : u.get F.HEP_QMAP_CMD_FN = n) (hqu : u.get F.HEP_QMAP_CMD_QUEUE = q)
    (hwr : u.bit F.HEP_QMAP_CMD_WRITE = false) (hc : ¬ u.get (F.HEP_FN_CFG_QCOUNT n) ≤ q) :
    qmapCmd u = match queueChan u n q with
      | some (e, c) => qmapShown u 1 e c
      | none => qmapShown u 0 0 0 := by
  have hchan : queueChan (u.put F.HEP_QMAP_CMD_RESULT 0) n q = queueChan u n q := queueChan_hep (by rfl) n q
  unfold qmapCmd
  extract_lets n' q' e c
  rw [show n' = n from hfn, show q' = q from hqu, if_neg hc, hwr, if_pos (by rfl), hchan]
  cases queueChan u n q with
  | none => rfl
  | some x => rfl

theorem qmapShown_spec (u : State) (v e c : Nat) :
    (qmapShown u v e c).get F.HEP_QMAP_CMD_RESULT = 0 ∧ (qmapShown u v e c).get F.HEP_QMAP_DATA_VALID = v % 2
    ∧ (qmapShown u v e c).get F.HEP_QMAP_DATA_ENGINE = e % 16 ∧ (qmapShown u v e c).get F.HEP_QMAP_DATA_CHANNEL = c % 64 := by
  unfold qmapShown
  refine ⟨?_, ?_, ?_, State.get_put_same _ _ _ (by decide) (by decide)⟩
  · rw [State.get_put_reg _ _ _ _ (by decide), State.get_put_reg _ _ _ _ (by decide), State.get_put_reg _ _ _ _ (by decide)]
    exact State.get_put_same _ _ _ (by decide) (by decide)
  · exact (State.get_put_beside _ _ _ (by decide) (by decide) (by decide)).trans
      (State.get_put_put _ _ _ _ (by decide) (by decide) (by decide) (by decide) (by decide))
  · exact State.get_put_put _ _ _ _ (by decide) (by decide) (by decide) (by decide) (by decide)

theorem qmapShown_frame {u : State} (h : regsKept s u [R.HEP_QMAP_CMD.addr]) (ho : onlyRegs s u) (v e c : Nat) :
    regsKept s (qmapShown u v e c) [R.HEP_QMAP_CMD.addr, R.HEP_QMAP_DATA.addr] ∧ onlyRegs s (qmapShown u v e c) := by
  have h2 : regsKept s u [R.HEP_QMAP_CMD.addr, R.HEP_QMAP_DATA.addr] := fun r hr => h r fun hm => hr (List.mem_append_left [_] hm)
  exact ⟨regsKept_put (regsKept_put (regsKept_put (regsKept_put h2 (by decide)) (by decide)) (by decide)) (by decide),
    onlyRegs_put (onlyRegs_put (onlyRegs_put (onlyRegs_put ho)))⟩

theorem qmapRead_spec (mid : Mid) (n : Fin 1024) (q : Fin 64) (hcount : q.val < s.get (F.HEP_FN_CFG_QCOUNT n)) :
    runs (.qmapRead mid n q) s fun t =>
      t.get F.HEP_QMAP_CMD_RESULT = 0 ∧ t.bit F.HEP_QMAP_DATA_VALID = (queueChan s n q).isSome
      ∧ (∀ e c, queueChan s n q = some (e, c) →
        t.get F.HEP_QMAP_DATA_ENGINE = e % 16 ∧ t.get F.HEP_QMAP_DATA_CHANNEL = c % 64)
      ∧ regsKept s t [R.HEP_QMAP_CMD.addr, R.HEP_QMAP_DATA.addr] ∧ onlyRegs s t := by
  obtain ⟨hcmd, hfn, hqu, hwr⟩ := wrQmapCmd_asked (s := s) (mid := mid) (write := false) n.isLt q.isLt
  have hread := qmapCmd_read hfn hqu hwr (qmapAsked_count n.isLt hcount)
  rw [queueChan_hep qmapAsked_hep] at hread
  have hframe := qmapShown_frame (regsKept_qmapAsked (s := s) (mid := mid) (write := false) (n := n) (q := q)) onlyRegs_qmapAsked
  refine ⟨_, congrArg Host.Outcome.next (hcmd.trans hread), ?_⟩
  cases hch : queueChan s n q with
  | none =>
    obtain ⟨hres, hval, -, -⟩ := qmapShown_spec (qmapAsked s mid false n q) 0 0 0
    exact ⟨hres, State.bit_of_get hval, (fun e c h => nomatch h), hframe 0 0 0⟩
  | some x =>
    obtain ⟨e, c⟩ := x
    obtain ⟨hres, hval, he, hc⟩ := qmapShown_spec (qmapAsked s mid false n q) 1 e c
    refine ⟨hres, State.bit_of_get hval, fun e' c' h => ?_, hframe 1 e c⟩
    cases h
    exact ⟨he, hc⟩

theorem qmapCmd_write {e c : Nat} (hfn : u.get F.HEP_QMAP_CMD_FN = n) (hqu : u.get F.HEP_QMAP_CMD_QUEUE = q)
    (hwr : u.bit F.HEP_QMAP_CMD_WRITE = true) (hcount : ¬ u.get (F.HEP_FN_CFG_QCOUNT n) ≤ q) (hst : fnState u n ≤ 1)
    (hval : u.bit F.HEP_QMAP_DATA_VALID = true) (he : u.get F.HEP_QMAP_DATA_ENGINE = e) (hc : u.get F.HEP_QMAP_DATA_CHANNEL = c)
    (hfree : chFn u e c = none) : qmapCmd u = (mapQueue u n q (some (e, c))).put F.HEP_QMAP_CMD_RESULT 0 := by
  unfold qmapCmd
  extract_lets n' q' e' c'
  rw [show n' = n from hfn, show q' = q from hqu, show e' = e from he, show c' = c from hc, if_neg hcount, hwr,
    if_neg (by simp), if_neg (by omega), hval, if_neg (by simp), hfree, if_neg (by simp)]

/-- Queue (n, q) is written in the registers of channel (e, c). -/
def chanMapped (u : State) (n q e c : Nat) : State :=
  ((u.put (F.HOP_CH_CFG_FN_VALID e c) 1).put (F.HOP_CH_CFG_FN e c) n).put (F.HOP_CH_CFG_QUEUE e c) q

theorem chanMapped_spec (u : State) {n q e c : Nat} (hn : n < 1024) (hq : q < 64) :
    (chanMapped u n q e c).get (F.HOP_CH_CFG_FN_VALID e c) = 1 ∧ (chanMapped u n q e c).get (F.HOP_CH_CFG_FN e c) = n
    ∧ (chanMapped u n q e c).get (F.HOP_CH_CFG_QUEUE e c) = q := by
  unfold chanMapped
  refine ⟨?_, ?_, ?_⟩
  · exact (State.get_put_beside _ _ _ (by decide) (by decide) (by decide)).trans
      (State.get_put_put _ _ _ _ (by decide) (by decide) (by decide) (by decide) (by decide))
  · exact (State.get_put_put _ _ _ _ (by decide) (by decide) (by decide) (by decide) (by decide)).trans (Nat.mod_eq_of_lt hn)
  · exact (State.get_put_same _ _ _ (by decide) (by decide)).trans (Nat.mod_eq_of_lt hq)

theorem mapQueue_some (s : State) (n q e c : Nat) : ∃ u, mapQueue s n q (some (e, c)) =
    (chanMapped u n q e c).modFx n fun x => { x with qmap := tput 0 x.qmap q (64 * e + c + 1) } :=
  ⟨_, rfl⟩

/-- The channel is bound to the queue, and the queue to the channel. -/
theorem mapQueue_spec (s : State) {n q e c : Nat} (hn : n < 1024) (hq : q < 64) (hc : c < 64) :
    (mapQueue s n q (some (e, c))).get (F.HOP_CH_CFG_FN_VALID e c) = 1
    ∧ (mapQueue s n q (some (e, c))).get (F.HOP_CH_CFG_FN e c) = n
    ∧ (mapQueue s n q (some (e, c))).get (F.HOP_CH_CFG_QUEUE e c) = q
    ∧ queueChan (mapQueue s n q (some (e, c))) n q = some (e, c) := by
  obtain ⟨u, hu⟩ := mapQueue_some s n q e c
  obtain ⟨hv, hf, hqu⟩ := chanMapped_spec u hn hq (e := e) (c := c)
  rw [hu, modFx_get, modFx_get, modFx_get]
  refine ⟨hv, hf, hqu, ?_⟩
  rw [queueChan, modFx_fx, tget_tput_self]
  dsimp only
  rw [show (64 * e + c) / 64 = e by omega, show (64 * e + c) % 64 = c by omega]

theorem qmapWrite_spec (mid : Mid) (n : Fin 1024) (q : Fin 64) (hcount : q.val < s.get (F.HEP_FN_CFG_QCOUNT n)) {e c : Nat}
    (hst : fnState s n ≤ 1) (hval : s.bit F.HEP_QMAP_DATA_VALID = true) (he : e = s.get F.HEP_QMAP_DATA_ENGINE)
    (hc : c = s.get F.HEP_QMAP_DATA_CHANNEL) (hfree : chFn s e c = none) : runs (.qmapWrite mid n q) s fun t =>
      t.get F.HEP_QMAP_CMD_RESULT = 0 ∧ queueChan t n q = some (e, c) ∧ t.bit (F.HOP_CH_CFG_FN_VALID e c) = true
      ∧ t.get (F.HOP_CH_CFG_FN e c) = n.val ∧ t.get (F.HOP_CH_CFG_QUEUE e c) = q.val := by
  obtain ⟨hcmd, hfn, hqu, hwr⟩ := wrQmapCmd_asked (s := s) (mid := mid) (write := true) n.isLt q.isLt
  have hk := regsKept_qmapAsked (s := s) (mid := mid) (write := true) (n := n) (q := q)
  have hdata : ∀ hi lo, (qmapAsked s mid true n q).get ⟨R.HEP_QMAP_DATA, hi, lo⟩ = s.get ⟨R.HEP_QMAP_DATA, hi, lo⟩ :=
    fun hi lo => hk.get (by simp only [R.HEP_QMAP_DATA]; decide)
  have hne : (R.HOP_CH_CFG e c).addr ≠ R.HEP_QMAP_CMD.addr := by
    have hlt : c < 64 := hc ▸ State.get_lt s F.HEP_QMAP_DATA_CHANNEL
    simp only [R.HOP_CH_CFG, R.HEP_QMAP_CMD]
    omega
  have hch : ∀ hi lo, (qmapAsked s mid true n q).get ⟨R.HOP_CH_CFG e c, hi, lo⟩ = s.get ⟨R.HOP_CH_CFG e c, hi, lo⟩ :=
    fun hi lo => hk.get (by simpa using hne)
  have hfree' : chFn (qmapAsked s mid true n q) e c = none := by
    rw [chFn, State.bit, F.HOP_CH_CFG_FN_VALID, F.HOP_CH_CFG_FN, hch, hch]
    exact hfree
  have hval' : (qmapAsked s mid true n q).bit F.HEP_QMAP_DATA_VALID = true := by
    rw [State.bit, F.HEP_QMAP_DATA_VALID, hdata]
    exact hval
  have hrun := qmapCmd_write hfn hqu hwr (qmapAsked_count n.isLt hcount)
    ((fnState_of_qmapCmd hk qmapAsked_hep n).trans_le hst) hval'
    ((hdata 9 6).trans he.symm) ((hdata 5 0).trans hc.symm) hfree'
  obtain ⟨hv, hf, hq, hmap⟩ := mapQueue_spec (qmapAsked s mid true n q) n.isLt q.isLt
    (hc ▸ State.get_lt s F.HEP_QMAP_DATA_CHANNEL) (e := e) (c := c)
  refine ⟨_, congrArg Host.Outcome.next (hcmd.trans hrun), State.get_put_same _ _ _ (by decide) (by decide), ?_, ?_, ?_, ?_⟩
  · exact (queueChan_hep (put_hep ..) ..).trans hmap
  · exact State.bit_of_get ((State.get_put_reg _ _ _ _ hne).trans hv)
  · exact (State.get_put_reg _ _ _ _ hne).trans hf
  · exact (State.get_put_reg _ _ _ _ hne).trans hq

/-! ### The register page and the window (R230, R231) -/

/-- A function that answers the accesses of its BARs. -/
structure BarsOpen (s : State) (n : Nat) : Prop where
  here : (fnVcs s n).isSome = true
  up : (s.fx n).shut = none
  awake : (s.fx n).d3 = false
  mem : fnMemOn s n = true

/-- The bytes of an access. -/
def BarAcc.size (a : BarAcc) : Nat :=
  match a.data with
  | some d => d.length
  | none => a.len

/-- An access inside its BAR reaches the page or the window. -/
theorem exec_windowAccess {n : Fin 1024} {a : BarAcc} (h : BarsOpen s n) (h1 : 1 ≤ a.size) (hw : a.size ≤ 512)
    (hfit : a.off + a.size ≤ if a.page then 65536 else if winSize s n = 0 then 0 else 2 ^ winSize s n) (e : LineErr) :
    exec (.windowAccess n a e) s = .next (if a.page then pageAcc s n a else winAcc s n a e) := by
  have hhere : (fnVcs s n).isNone = false := by rw [Option.isNone_eq_false_iff]; exact h.here
  have hsize : ¬ (a.size = 0 ∨ (a.data.isSome = true ∧ 512 < a.size) ∨ 4096 < a.size) := by omega
  change Host.Outcome.next (if _ then s else if a.size = 0 ∨ (a.data.isSome = true ∧ 512 < a.size) ∨ 4096 < a.size then _ else
    if (s.fx n).shut.isSome || (s.fx n).d3 || !fnMemOn s n || decide (_ < a.off + a.size) then _ else _) = _
  rw [hhere, Bool.false_and, if_neg Bool.false_ne_true, if_neg hsize, h.up, h.awake, h.mem, decide_eq_false (Nat.not_lt.2 hfit)]
  rfl

/-- The interrupt enable of the doorbell page reads in one completion. -/
theorem pageAcc_irq {a : BarAcc} (hd : a.data = none) (ho : a.off = 0x408) (hl : a.len = 4) : pageAcc s n a =
    fnCpl s n a.tag a.rid a.tc (barPkt s n a).addr 0 (leBytes 4 ((s.fx n).irq % 2)) false := by
  have hpage : pageRd s n 0x408 = (s.fx n).irq % 2 := by
    unfold pageRd
    extract_lets x
    rw [if_neg (by omega), if_neg (by omega), if_pos (by rfl)]
  unfold pageAcc
  extract_lets len v
  have hlen : len = 4 := by
    unfold len
    rw [hd]
    exact hl
  have hv : v = (s.fx n).irq % 2 := by
    unfold v
    rw [ho]
    exact hpage
  rw [hlen, ho, if_neg (by decide), hd]
  dsimp only
  rw [hv, Nat.pow_zero, Nat.div_one]

theorem windowAccess_page {n : Fin 1024} {a : BarAcc} (h : BarsOpen s n) (hp : a.page = true) (hd : a.data = none)
    (ho : a.off = 0x408) (hl : a.len = 4) (e : LineErr) : runs (.windowAccess n a e) s fun t =>
      (∃ y, t.mill.presented = s.mill.presented ++ [y] ∧ y.pkt.tag = a.tag ∧ y.pkt.status = 0
        ∧ y.pkt.data = leBytes 4 ((s.fx n).irq % 2))
      ∧ { t with mill := s.mill } = s := by
  have hsize : a.size = 4 := by rw [BarAcc.size, hd, hl]
  have he := exec_windowAccess (a := a) (e := e) h (by omega) (by omega) (by rw [hp, ho, hsize, if_pos rfl]; decide)
  rw [hp, if_pos rfl, pageAcc_irq hd ho hl] at he
  exact ⟨_, he, ⟨_, rfl, rfl, rfl, rfl⟩, rfl⟩

/-! ### Bytes in the scratchpad (R284, R285) -/

theorem injKey_inj {target i i' a a' : Nat} (h : a < 2 ^ 48) (h' : a' < 2 ^ 48) (e : injKey target i a = injKey target i' a') :
    a = a' := by
  unfold injKey at e
  omega

theorem injWrite_spd (s : State) (target i a : Nat) : (injWrite s target i a).spd = s.spd := by
  unfold injWrite
  dsimp only
  split
  · rfl
  · rfl

theorem injWrite_mark (s : State) {target i i' a a' : Nat} (h : a < 2 ^ 48) (h' : a' < 2 ^ 48) (hne : a' ≠ a) :
    injMark (injWrite s target i a) target i' a' = injMark s target i' a' := by
  have hkey : injKey target i' a' ≠ injKey target i a := fun e => hne (injKey_inj h' h e)
  unfold injMark injWrite
  dsimp only
  rw [tget_tput_ne _ _ _ hkey]
  split
  · rfl
  · rfl

/-- One word of good check bits takes its bytes of d. -/
theorem spdWord_clean {a w : Nat} {d : Bytes} {x : State × Bool} (hend : a + d.length ≤ 0x1000000) (hin : a / 8 ≤ w)
    (hin' : 8 * w < a + d.length) (hmark : spdMark x.1 w = 0) :
    (∀ w', w' < 0x200000 → w' ≠ w → spdMark (spdWord a d [] x w).1 w' = spdMark x.1 w')
    ∧ ∀ p, tget 0#8 (spdWord a d [] x w).1.spd p
      = if h : p / 8 = w ∧ a ≤ p ∧ p < a + d.length then d[p - a]'(by omega) else tget 0#8 x.1.spd p := by
  have hrun : spdWord a d [] x w = (injWrite (x.1.spdWr (max a (8 * w))
      (slice d (max a (8 * w) - a) (min (a + d.length) (8 * w + 8) - max a (8 * w)))) 5 (bankOf (8 * w)) w, x.2) := by
    simp [spdWord, hmark]
  rw [hrun]
  refine ⟨fun w' hw' hne => injWrite_mark _ (by omega) (by omega) hne, fun p => ?_⟩
  dsimp only
  rw [injWrite_spd, State.spdWr]
  dsimp only
  rw [tget_tputs]
  have hlen : ((slice d (max a (8 * w) - a) (min (a + d.length) (8 * w + 8) - max a (8 * w))).take
      (0x1000000 - max a (8 * w))).length = min (a + d.length) (8 * w + 8) - max a (8 * w) := by
    rw [slice, List.length_take, List.length_take, List.length_drop]
    omega
  by_cases hp : p / 8 = w ∧ a ≤ p ∧ p < a + d.length
  · rw [dif_pos hp, dif_pos (by rw [hlen]; omega)]
    simp only [slice, List.getElem_take, List.getElem_drop]
    congr 1
    omega
  · rw [dif_neg hp, dif_neg (by rw [hlen]; omega)]

/-- Words of good check bits take their bytes of d. -/
theorem spdWords_clean {a : Nat} {d : Bytes} (hend : a + d.length ≤ 0x1000000) {l : List Nat} (hl : l.Nodup)
    (hin : ∀ w ∈ l, a / 8 ≤ w ∧ 8 * w < a + d.length) {x : State × Bool} (hmark : ∀ w ∈ l, spdMark x.1 w = 0) (p : Nat) :
    tget 0#8 (l.foldl (spdWord a d []) x).1.spd p
      = if h : p / 8 ∈ l ∧ a ≤ p ∧ p < a + d.length then d[p - a]'(by omega) else tget 0#8 x.1.spd p := by
  induction l generalizing x with
  | nil => simp
  | cons w l ih =>
    obtain ⟨hw, hnodup⟩ := List.nodup_cons.1 hl
    obtain ⟨hlo, hhi⟩ := hin w List.mem_cons_self
    obtain ⟨hkeep, hspd⟩ := spdWord_clean hend hlo hhi (hmark w List.mem_cons_self)
    have hrest : ∀ w' ∈ l, spdMark (spdWord a d [] x w).1 w' = 0 := fun w' hw' => by
      have hlt := (hin w' (List.mem_cons_of_mem _ hw')).2
      rw [hkeep w' (by omega) fun e => hw (e ▸ hw')]
      exact hmark w' (List.mem_cons_of_mem _ hw')
    rw [List.foldl_cons, ih hnodup (fun w' hw' => hin w' (List.mem_cons_of_mem _ hw')) hrest, hspd]
    simp only [List.mem_cons]
    by_cases hpw : p / 8 = w
    · simp [hpw, hw]
    · simp [hpw]

theorem mem_wordsOf {a n w : Nat} (hn : 1 ≤ n) : w ∈ wordsOf a n ↔ a / 8 ≤ w ∧ w ≤ (a + n - 1) / 8 := by
  simp only [wordsOf, List.mem_map, List.mem_range, Nat.max_eq_right hn]
  exact ⟨fun ⟨i, hi, h⟩ => by omega, fun h => ⟨w - a / 8, by omega, by omega⟩⟩

theorem nodup_wordsOf (a n : Nat) : (wordsOf a n).Nodup :=
  List.nodup_range.map fun _ _ h => Nat.add_left_cancel h

/-- Bytes put in words of good check bits are stored, and no other byte changes. -/
theorem spdPut_clean {a : Nat} {d : Bytes} (h1 : 1 ≤ d.length) (hend : a + d.length ≤ 0x1000000)
    (hmark : ∀ w ∈ wordsOf a d.length, spdMark s w = 0) :
    tgets 0#8 (spdPut s a d []).1.spd a d.length = d
    ∧ ∀ p, p < a ∨ a + d.length ≤ p → tget 0#8 (spdPut s a d []).1.spd p = tget 0#8 s.spd p := by
  have hin : ∀ w ∈ wordsOf a d.length, a / 8 ≤ w ∧ 8 * w < a + d.length := fun w hw => by
    have h := (mem_wordsOf h1).1 hw
    omega
  have hget : ∀ p, tget 0#8 (spdPut s a d []).1.spd p = _ := spdWords_clean hend (nodup_wordsOf ..) hin (x := (s, true)) hmark
  refine ⟨List.ext_getElem (length_tgets ..) fun k hk hk' => ?_, fun p hp => ?_⟩
  · have hmem : (a + k) / 8 ∈ wordsOf a d.length := (mem_wordsOf h1).2 (by omega)
    simp [tgets, hget, hmem, hk']
  · rw [hget, dif_neg (by omega)]

/-- A write of the window that the MPU and the banks let through. -/
theorem winAcc_write {a : BarAcc} {d : Bytes} {b : Nat} (hd : a.data = some d)
    (hb : b = s.get (F.HEP_FN_WIN_BASE n) * 4096 + a.off) (hlt : b < 0x1000000)
    (hmpu : mpuCheck s (mpuBridge n) (bridgeMid n) false .write b d.length = .allow)
    (hgo : banksAns s (bridgeMid n) b d.length = .go) (e : LineErr) : winAcc s n a e = (spdPut s b d []).1 := by
  unfold winAcc
  rw [hd, ← hb]
  extract_lets b' len p
  have hp : p = (s, true) := by
    unfold p
    rw [Option.isSome_some, if_pos rfl, mpuPass, show len = d.length from rfl, hmpu]
  rw [hp, Bool.not_true, if_neg Bool.false_ne_true, if_pos hlt, show banksAns s (bridgeMid n) b' len = .go from hgo]

theorem windowAccess_write {n : Fin 1024} {a : BarAcc} (h : BarsOpen s n) (e : LineErr) {d : Bytes} {b : Nat} (hp : a.page = false)
    (hd : a.data = some d) (h1 : 1 ≤ d.length) (h512 : d.length ≤ 512) (hwin : winSize s n ≠ 0)
    (hfit : a.off + d.length ≤ 2 ^ winSize s n) (hb : b = s.get (F.HEP_FN_WIN_BASE n) * 4096 + a.off)
    (hend : b + d.length ≤ 0x1000000) (hmpu : mpuCheck s (mpuBridge n) (bridgeMid n) false .write b d.length = .allow)
    (hgo : banksAns s (bridgeMid n) b d.length = .go) (hmark : ∀ w ∈ wordsOf b d.length, spdMark s w = 0) :
    runs (.windowAccess n a e) s fun t =>
      tgets 0#8 t.spd b d.length = d ∧ ∀ x, x < b ∨ b + d.length ≤ x → tget 0#8 t.spd x = tget 0#8 s.spd x := by
  have hsize : a.size = d.length := by rw [BarAcc.size, hd]
  have he := exec_windowAccess (a := a) (e := e) h (by omega) (by omega)
    (by rw [hp, hsize, if_neg Bool.false_ne_true, if_neg hwin]; exact hfit)
  rw [hp, if_neg Bool.false_ne_true, winAcc_write hd hb (by omega) hmpu hgo] at he
  exact ⟨_, he, spdPut_clean h1 hend hmark⟩

/-! ### Doorbells (R232, R233) -/

/-- What `msixSend` does not touch of a function's record. -/
theorem msixSend_fx {α : Type} (g : FnX → α) (hg : ∀ (x : FnX) (p : Nat), g { x with pba := p } = g x) (s : State) (n k m : Nat) :
    g ((msixSend s n k).fx m) = g (s.fx m) := by
  unfold msixSend
  split
  · rfl
  · split
    · by_cases hm : m = n
      · subst hm
        rw [modFx_fx, hg]
      · rw [modFx_fx_ne _ _ hm]
    · unfold fnWrite
      split
      · rfl
      · rfl

theorem regs_msixSend (s : State) (n k : Nat) : (msixSend s n k).regs = s.regs := by
  unfold msixSend
  split
  · rfl
  · split
    · rfl
    · unfold fnWrite
      split
      · rfl
      · rfl

/-- The status of a function is written, and an interrupt may be sent. -/
theorem syncFn_cases (n : Nat) (s : State) : ∃ u, regsKept s u [(R.HEP_FN_STATUS n).addr] ∧ u.hep = s.hep
    ∧ (syncFn n s = u ∨ syncFn n s = msixSend u n 0) := by
  unfold syncFn
  extract_lets full was st s1 s2
  have h1 : regsKept s s1 [(R.HEP_FN_STATUS n).addr] := regsKept_put (regsKept_put (regsKept_put (regsKept_refl s _)
    List.mem_cons_self) List.mem_cons_self) List.mem_cons_self
  have h2 : regsKept s s2 [(R.HEP_FN_STATUS n).addr] := regsKept_put (regsKept_put h1 List.mem_cons_self) List.mem_cons_self
  refine ⟨s2, h2, by rfl, ?_⟩
  split
  · exact .inr rfl
  · exact .inl rfl

theorem regsKept_syncFn (n : Nat) (s : State) : regsKept s (syncFn n s) [(R.HEP_FN_STATUS n).addr] := by
  obtain ⟨u, hu, -, h | h⟩ := syncFn_cases n s
  · rw [h]
    exact hu
  · rw [h]
    exact fun q hq => (State.rd_congr (regs_msixSend u n 0) q).trans (hu q hq)

theorem syncFn_fx {α : Type} (g : FnX → α) (hg : ∀ (x : FnX) (p : Nat), g { x with pba := p } = g x) (n : Nat) (s : State)
    (m : Nat) : g ((syncFn n s).fx m) = g (s.fx m) := by
  obtain ⟨u, -, hu, h | h⟩ := syncFn_cases n s
  · rw [h, State.fx, hu]
    rfl
  · rw [h, msixSend_fx g hg, State.fx, hu]
    rfl

/-- Passing descriptors on keeps the tails of a function and of a channel. -/
structure TailsKept (s t : State) (n e c : Nat) : Prop where
  fn : (t.fx n).tails = (s.fx n).tails
  chan : t.get (F.HOP_CH_PTR_TAIL e c) = s.get (F.HOP_CH_PTR_TAIL e c)

theorem TailsKept.refl (s : State) (n e c : Nat) : TailsKept s s n e c := ⟨rfl, rfl⟩

theorem TailsKept.trans (h : TailsKept s t n e c) (h' : TailsKept t u n e c) : TailsKept s u n e c :=
  ⟨h'.fn.trans h.fn, h'.chan.trans h.chan⟩

theorem tailsKept_modFx {f : FnX → FnX} (hf : ∀ x, (f x).tails = x.tails) : TailsKept s (s.modFx n f) n e c :=
  ⟨by rw [modFx_fx, hf], modFx_get ..⟩

/-- PASSED of one channel lies beside TAIL of the same, and apart from that of another. -/
theorem get_put_passed {e' c' : Nat} (s : State) (v : Nat) :
    (s.put (F.HOP_CH_PTR_PASSED e' c') v).get (F.HOP_CH_PTR_TAIL e c) = s.get (F.HOP_CH_PTR_TAIL e c) := by
  by_cases h : (R.HOP_CH_PTR e c).addr = (R.HOP_CH_PTR e' c').addr
  · have hr : R.HOP_CH_PTR e c = R.HOP_CH_PTR e' c' := by
      simp only [R.HOP_CH_PTR] at h
      rw [R.HOP_CH_PTR, h]
      rfl
    rw [F.HOP_CH_PTR_TAIL, F.HOP_CH_PTR_PASSED, hr]
    exact State.get_put_beside _ _ _ (by decide) (by decide) (by decide)
  · exact State.get_put_reg _ _ _ _ h

theorem tailsKept_passOne (s : State) (n q : Nat) : TailsKept s (passOne s n q) n e c := by
  unfold passOne
  split
  · exact .refl ..
  · exact (tailsKept_modFx (by exact fun _ => rfl)).trans ⟨by rfl, get_put_passed ..⟩

theorem tailsKept_passHeld (n fuel : Nat) (s : State) : TailsKept s (passHeld n fuel s) n e c := by
  induction fuel generalizing s with
  | zero => exact .refl ..
  | succ fuel ih =>
    unfold passHeld
    extract_lets x
    split
    · exact .refl ..
    · split
      · exact .refl ..
      · next qs _ =>
        have h1 : TailsKept s (s.modFx n fun x => { x with held := qs }) n e c := tailsKept_modFx (by exact fun _ => rfl)
        exact (h1.trans (tailsKept_passOne ..)).trans (ih _)

theorem tailsKept_fnPass (n : Nat) (s : State) : TailsKept s (fnPass s n) n e c := by
  have hne : (R.HOP_CH_PTR e c).addr ∉ [(R.HEP_FN_STATUS n).addr] := by
    simp only [R.HOP_CH_PTR, R.HEP_FN_STATUS, List.mem_singleton]
    omega
  have hsync : ∀ u, TailsKept u (syncFn n u) n e c := fun u =>
    ⟨syncFn_fx FnX.tails (by exact fun _ _ => rfl) .., regsKept.get (regsKept_syncFn n u) hne⟩
  exact (tailsKept_passHeld n _ s).trans (hsync _)

/-- With the share full nothing passes. -/
theorem held_fnPass_full (h : fnShare s n ≤ fnOcc s n) : ((fnPass s n).fx n).held = (s.fx n).held := by
  have hstay : ∀ fuel, passHeld n fuel s = s := fun fuel => by
    cases fuel with
    | zero => rfl
    | succ fuel =>
      unfold passHeld
      extract_lets x
      exact if_pos (by simp [h])
  rw [fnPass, hstay, syncFn_fx FnX.held (by exact fun _ _ => rfl)]

/-- The tail of a queue is recorded at its function. -/
def tailRung (s : State) (n q t : Nat) : State := s.modFx n fun x => { x with tails := tput 0 x.tails q t }

/-- Descriptors of queue q are held for the share. -/
def heldAfter (s : State) (n q e c t d : Nat) : State :=
  (s.put (F.HOP_CH_PTR_TAIL e c) t).modFx n fun x => { x with held := x.held ++ List.replicate d q }

theorem heldAfter_fx (s : State) (n q e c t d : Nat) :
    (heldAfter s n q e c t d).fx n = { s.fx n with held := (s.fx n).held ++ List.replicate d q } := by
  rw [heldAfter, modFx_fx]
  rfl

theorem heldAfter_tail (s : State) (n q e c d : Nat) {t : Nat} (ht : t < 65536) :
    (heldAfter s n q e c t d).get (F.HOP_CH_PTR_TAIL e c) = t := by
  rw [heldAfter, modFx_get]
  exact (State.get_put_same _ _ _ (by decide) (by decide)).trans (Nat.mod_eq_of_lt ht)

theorem heldAfter_share {n c : Nat} (hn : n < 1024) (hc : c < 64) (s : State) (q e t d : Nat) :
    fnShare (heldAfter s n q e c t d) n = fnShare s n := by
  have hne : (R.HEP_FN_CFG n).addr ≠ (R.HOP_CH_PTR e c).addr := by
    simp only [R.HEP_FN_CFG, R.HOP_CH_PTR]
    omega
  rw [fnShare, heldAfter, modFx_get]
  exact State.get_put_reg _ _ _ _ hne

/-- A doorbell of a queue that is served. -/
theorem doorbell_eq {v : Nat} (hv : (fnVcs s n).isSome = true) (hs : (s.fx n).shut = none) (hd : (s.fx n).d3 = false)
    (hq : q < s.get (F.HEP_FN_CFG_QCOUNT n)) : doorbell s n q v = match queueChan s n q with
      | none => tailRung s n q v
      | some (e, c) =>
        if ringSize s e c = 0 then tailRung s n q v
        else fnPass (heldAfter (tailRung s n q v) n q e c (v % ringSize s e c)
          ((v % ringSize s e c + ringSize s e c - tget 0 (s.fx n).tails q % ringSize s e c) % ringSize s e c)) n := by
  have hgate : ¬ ((fnVcs s n).isNone = true ∨ (s.fx n).shut.isSome = true ∨ s.get (F.HEP_FN_CFG_QCOUNT n) ≤ q) := by
    rw [Option.isNone_eq_false_iff.2 hv, hs]
    simpa using hq
  have hchan : queueChan (tailRung s n q v) n q = queueChan s n q := by
    unfold queueChan tailRung
    rw [modFx_fx]
  unfold doorbell
  extract_lets x old s1
  rw [if_neg hgate, show x.d3 = false from hd, if_neg Bool.false_ne_true, show queueChan s1 n q = _ from hchan]
  cases queueChan s n q with
  | none => rfl
  | some y => rfl

theorem doorbell_spec {n : Fin 1024} (hv : (fnVcs s n).isSome = true) (hs : (s.fx n).shut = none) (hd : (s.fx n).d3 = false)
    {q : Fin 64} (v : BitVec 32) (hq : q.val < s.get (F.HEP_FN_CFG_QCOUNT n)) : runs (.doorbell n q v) s fun t =>
      tget 0 (t.fx n).tails q = v.toNat
      ∧ (∀ e c k, queueChan s n q = some (e, c) → k = ringSize s e c → 0 < k → k ≤ 65536 →
        t.get (F.HOP_CH_PTR_TAIL e c) = v.toNat % k
        ∧ (fnShare s n ≤ fnOcc s n → (t.fx n).held
          = (s.fx n).held ++ List.replicate ((v.toNat % k + k - tget 0 (s.fx n).tails q % k) % k) q.val)) := by
  have he : exec (.doorbell n q v) s = .next (doorbell s n q v.toNat) := rfl
  obtain ⟨r, hr⟩ : ∃ r, r = tailRung s n q v.toNat := ⟨_, rfl⟩
  have hrfx : r.fx n = { s.fx n with tails := tput 0 (s.fx n).tails q v.toNat } := by rw [hr, tailRung, modFx_fx]
  have hrung : tget 0 (r.fx n).tails q = v.toNat := by rw [hrfx, tget_tput_self]
  rw [doorbell_eq hv hs hd hq, ← hr] at he
  refine ⟨_, he, ?_⟩
  cases hch : queueChan s n q with
  | none => exact ⟨hrung, fun e c k h => nomatch h⟩
  | some y =>
    obtain ⟨e, c⟩ := y
    dsimp only
    obtain ⟨m, hm⟩ : ∃ m, m = ringSize s e c := ⟨_, rfl⟩
    rw [← hm]
    split
    · next h0 =>
      refine ⟨hrung, fun e' c' k h hk hpos => ?_⟩
      cases h
      omega
    · obtain ⟨d, hd'⟩ : ∃ d, d = (v.toNat % m + m - tget 0 (s.fx n).tails q % m) % m := ⟨_, rfl⟩
      rw [← hd']
      obtain ⟨u, hu⟩ : ∃ u, u = heldAfter r n q e c (v.toNat % m) d := ⟨_, rfl⟩
      rw [← hu]
      have hfx : u.fx n = { r.fx n with held := (r.fx n).held ++ List.replicate d q.val } := by rw [hu, heldAfter_fx]
      have hkept : TailsKept u (fnPass u n) n e c := tailsKept_fnPass n u
      refine ⟨by rw [hkept.fn, hfx]; exact hrung, fun e' c' k h hk hpos hmax => ?_⟩
      cases h
      rw [← hm] at hk
      subst hk
      refine ⟨?_, fun hfull => ?_⟩
      · rw [hkept.chan, hu]
        exact heldAfter_tail _ _ _ _ _ _ ((Nat.mod_lt _ hpos).trans_le hmax)
      · have hshare : fnShare u n = fnShare s n := by
          rw [hu, heldAfter_share n.isLt (queueChan_lt hch), hr, fnShare, tailRung, modFx_get]
          rfl
        have hocc : fnOcc u n = fnOcc s n := by
          rw [fnOcc, hfx, hrfx]
          rfl
        rw [held_fnPass_full (by rw [hocc, hshare]; exact hfull), hfx, hrfx, hd']

/-- Settles O31: config requests and power states by their tests, the page and the window byte by byte, doorbells by what passing
descriptors on keeps, HEP_FN_CFG and the queue map by the write of their registers. -/
theorem hostAccesses : Obligations.HostAccesses := by
  unfold Obligations.HostAccesses
  intro s
  refine ⟨fun v k r hhere => ⟨⟨_, configRequest_usp r hhere, rfl⟩, configRequest_vppb r hhere,
      fun hk w => ⟨_, configRequest_noVppb r hk w, rfl⟩⟩,
    fun n hv hs => ⟨fun hr hvf => ⟨power_spec hv hs hr hvf true, power_spec hv hs hr hvf false⟩,
      fun hd => ⟨fun q v hq => doorbell_spec hv hs hd v hq, fun hm a e => ?_⟩⟩,
    fun mid n v hst => ⟨fnCfgWrite_taken hst, fnCfgWrite_refused hst⟩,
    fun mid n q hcount => ⟨qmapRead_spec mid n q hcount, fun e c hst hval he hc hfree =>
      qmapWrite_spec mid n q hcount hst hval he hc hfree⟩⟩
  have hopen : BarsOpen s n := ⟨hv, hs, hd, hm⟩
  exact ⟨fun hp hnone ho hl => windowAccess_page hopen hp hnone ho hl e,
    fun d b hp hsome h1 h512 hwin hfit hb hend hmpu hgo hmark =>
      windowAccess_write hopen e hp hsome h1 h512 hwin hfit hb hend hmpu hgo hmark⟩

end Sys2Proof.Machine
end
